-- ==== Sys2Proof/Word.lean ====
section
/-! DEFINITION. Bytes, texts and the operand types of the commands: the route a line came by, a parsed command
line, the value forms of replies and events. -/

namespace Sys2Proof

/-- A binary32 number, as the number its 32 bits spell: the form in which a register holds it (R134, R198). -/
abbrev F32 := Nat

/-- A string of bytes, each a number below 256. -/
abbrev Text := List Nat

/-- The bytes of a printable text. -/
def txt (s : String) : Text := s.toList.map Char.toNat

/-- The low byte of a number and the bytes above it, little-endian, `n` of them. -/
def leBytes : Nat → Nat → Text
  | 0, _ => []
  | n + 1, v => v % 256 :: leBytes n (v / 256)

/-- The number that bytes spell, the first byte least significant. -/
def leNat : Text → Nat
  | [] => 0
  | b :: bs => b % 256 + 256 * leNat bs

/-- The number that bytes spell, the first byte most significant. -/
def beNat (bs : Text) : Nat := bs.foldl (fun a b => 256 * a + b % 256) 0

/-- `n` bytes of a number, the first most significant. -/
def beBytes (n v : Nat) : Text := (leBytes n v).reverse

/-- The bits `hi` down to `lo` of a number. -/
def bitsOf (v hi lo : Nat) : Nat := v / 2 ^ lo % 2 ^ (hi - lo + 1)

/-- Bit `b` of a number. -/
def bitAt (v b : Nat) : Bool := v / 2 ^ b % 2 == 1

/-- A number with bit `b` set. -/
def setBit (v b : Nat) : Nat := if v / 2 ^ b % 2 == 1 then v else v + 2 ^ b

/-- A number with bit `b` clear. -/
def clearBit (v b : Nat) : Nat := if v / 2 ^ b % 2 == 1 then v - 2 ^ b else v

/-- A number with bit `b` at `on`. -/
def putBit (v b : Nat) (on : Bool) : Nat := if on then setBit v b else clearBit v b

/-- Bits `hi` down to `lo` of `v` replaced by `x`. -/
def putBits (v hi lo x : Nat) : Nat :=
  v - bitsOf v hi lo * 2 ^ lo + x % 2 ^ (hi - lo + 1) * 2 ^ lo

/-- The two's complement reading of the low `n` bits. -/
def toSigned (n v : Nat) : Int :=
  let m := v % 2 ^ n
  if m < 2 ^ (n - 1) then m else (m : Int) - 2 ^ n

/-- The low `n` bits of an integer in two's complement. -/
def ofSigned (n : Nat) (v : Int) : Nat := (v % (2 ^ n : Int)).toNat

/-- The sum of a list of numbers. -/
def sumNat (l : List Nat) : Nat := l.foldl (· + ·) 0

/-- A number no larger than a counter of `w` bits can hold (a saturating counter). -/
def sat (w v : Nat) : Nat := if v < 2 ^ w then v else 2 ^ w - 1

/-- A route instance by which a command line arrives (R99): the ring, a TLS command connection, or the ADMIN
stream of a DKP session. -/
inductive Route where
  | ring
  | tls (conn : Nat)
  | dkp (sess : Nat)
  deriving DecidableEq, Repr

/-- The route byte of R243: 0 ring, 1 TLS, 2 DKP ADMIN. -/
def Route.byte : Route → Nat
  | .ring => 0
  | .tls _ => 1
  | .dkp _ => 2

/-- How a line is addressed (R96, R106): not at all, by number, or to every unit. -/
inductive Addressing where
  | bare
  | unit (n : Nat)
  | all
  deriving DecidableEq, Repr

/-- One `name=value` of a command line (R96): the name in lower case, the bytes of the value, and whether the
value was quoted. -/
structure Arg where
  key : Text
  val : Text
  quoted : Bool
  deriving DecidableEq, Repr

/-- A command line whose form has passed (R96–R98): its route, its addressing, whether it carried a correct
checksum, and its arguments in line order. -/
structure Line where
  route : Route
  addr : Addressing
  csum : Bool
  args : List Arg
  deriving DecidableEq, Repr

/-- Where a command line comes from: the oldest line that the ring's receiver holds, or the bytes of a line of a TLS
connection (R98, R123). A connection's record can also be a KeyUpdate of the client, with update_requested or without
(R322). -/
inductive LineIn where
  | ring
  | tls (conn : Nat) (text : Text)
  | key (conn : Nat) (asked : Bool)
  deriving DecidableEq, Repr

/-- A line with no arguments and a checksum, sent to this unit by the ring. -/
def Line.plain (addr : Addressing) : Line := ⟨.ring, addr, true, []⟩

/-- A value in a reply or an event (R490, R502). -/
inductive Val where
  | n (v : Nat)
  | i (v : Int)
  | w (s : String)
  | c (code : Nat) (s : String)
  | x (digits v : Nat)
  | f (bits : Nat)
  | b (bytes : Text)
  | q (bytes : Text)
  | ip (v6 : Bool) (addr : Nat)
  deriving DecidableEq, Repr

/-- A reply line (R100): the status code of Table 5.2 and its fields. -/
structure Reply where
  code : Nat
  kv : List (String × Val)
  deriving DecidableEq, Repr

/-- How a HART frame is addressed (R201): a short frame by polling address, a long frame by the 38 bits, or the
broadcast address. -/
inductive HartAddr where
  | short (poll : Nat)
  | long (addr : Nat)
  | broadcast
  deriving DecidableEq, Repr

/-- A HART request as the loop die takes it (chapter 9): its address, which master sent it and the data bytes. -/
structure HartReq where
  addr : HartAddr
  secondary : Bool
  data : Text
  deriving DecidableEq, Repr

/-- A request of a DKP session whose body is complete (R335): the session, the request ID, the body. -/
structure DkpReq where
  sess : Nat
  id : Nat
  body : Text
  deriving DecidableEq, Repr

/-- A pin pair as the DC monitor converts it over an output period (R174): the input (4 the sense pair), the conversions
of its P and N pins in mV. -/
structure DcIn where
  ch : Nat
  p : List Int
  n : List Int
  deriving DecidableEq, Repr

/-- What reaches the front end in one output period (chapter 7): the tenths of a millisecond since the output before it, the
samples of the paths E, A, M and B in mV in the order taken (R164), whether the driver stood at its limit, the DC monitor's
conversions, the loop current as measured in µA, and whether the loop terminals stand at 8 V or more (R133). -/
structure FeInput where
  elapsed : Nat
  e : List F32
  a : List F32
  m : List F32
  b : List F32
  driverMax : Bool
  dc : List DcIn
  loopUa : Nat
  loopOk : Bool
  deriving DecidableEq, Repr

/-- What a loss of power cut short before this Dawn (R236): nothing, the programming of a slot, a flag record, or the burn of
anti-rollback fuses with `n` of them burned. -/
inductive Cut where
  | none
  | slot (b : Bool)
  | record
  | fuses (n : Nat)
  deriving DecidableEq, Repr

/-- What the xSPI port finds at Dawn (R226). -/
inductive NorFound where
  | none | single | octal
  deriving DecidableEq, Repr

/-- What the ROM finds as it starts: the xSPI port, what the last loss of power cut short, the levels of CASC_POS[2:0] (R226,
R236, R571). -/
structure DawnFound where
  nor : NorFound
  cut : Cut
  straps : Nat
  deriving DecidableEq, Repr

/-- What the loop die finds as it starts: whether its OTP passes its check (R153), and whether the loss of its supply cut a
commit to MTP short (R154). -/
structure LoopFound where
  otpOk : Bool
  cut : Bool
  deriving DecidableEq, Repr

/-- Who sent a Sync, and at what interval, as a power of two of seconds (R32, R324). -/
structure SyncFrom where
  ident : Nat
  interval : Int
  deriving DecidableEq, Repr

/-- A fetch of the re-rank: its query, and the locator of the candidate (R432). -/
structure Fetch where
  query : Nat
  loc : Nat
  deriving DecidableEq, Repr

/-- What a NAND target's parameter page says (R281, R282): page and spare bytes, pages of a block, blocks of a LUN, LUNs,
planes, bits of a cell. -/
structure Geometry where
  page : Nat
  spare : Nat
  pages : Nat
  blocks : Nat
  luns : Nat
  planes : Nat
  bits : Nat
  deriving DecidableEq, Repr

/-- A target found at discovery (R282): channel, target, its parameter page where one copy is correct, and the factory bad
blocks that its markers show. -/
structure FoundTarget where
  ch : Nat
  tgt : Nat
  geometry : Option Geometry
  bad : Nat
  deriving DecidableEq, Repr

/-- An uncorrectable error in the DRAM (R279): its region by its place in Table 12.2, the 256-byte stripe of the region and
the 32-byte block of it, and what the device keeps there: a collection's chunk in SKETCH, a slot's record in CACHE. -/
structure DramErr where
  region : Nat
  stripe : Nat
  block : Nat
  held : Option (Nat × Nat)
  deriving DecidableEq, Repr

/-- A cell fault of the associative array (R454–R458): what an entry of the array reads as now, valid bit, value, mask and word,
and the state of its shadow's code: 0 clean, 1 correctable, 2 uncorrectable. -/
structure Upset where
  bank : Nat
  idx : Nat
  valid : Bool
  value : Nat
  mask : Nat
  word : Nat
  code : Nat
  deriving DecidableEq, Repr

/-- What has become unreadable on NAND: a key's record, which reads as `media` says (1 a failed check, n + 2 a page of
channel n / 8, target n mod 8), or a collection's slot record. -/
inductive Decay where
  | record (ns : Nat) (key : Text) (media : Nat)
  | slot (coll idx : Nat)
  deriving DecidableEq, Repr

/-- What a patrol brings: the errors that it corrected on its channel, and what has gone wrong in memory cells since the patrol
before: uncorrectable errors in the DRAM, and faults in the associative array. -/
structure CellFaults where
  corrected : Nat
  errs : List DramErr
  upsets : List Upset
  deriving DecidableEq, Repr

/-- The block that a NAND operation was on, and what has become unreadable since the operation before. -/
structure NandFound where
  block : Nat
  decay : List Decay
  deriving DecidableEq, Repr

/-- A chunk of a collection whose reload failed, and the code: 300 where NAND could not be read, 301 where its check failed
(R293). -/
structure ReloadFault where
  coll : Nat
  chunk : Nat
  code : Nat
  deriving DecidableEq, Repr

/-- What a Sunrise stage found (R267, R268, R282, R291–R294). Stage 1: nothing. Stage 2: the identity of every channel, the
capacity in GiB, whether the parts reach 7,500 MT/s, whether link ECC is in use, the channel that failed training three
times, the time of training in ms. Stage 3: the targets, what stands for the superblock (0 none on any target, 1 one that
can be read, 2 one that cannot), the rated endurance. Stages 4 to 6: nothing. Stage 7: the chunks that failed, by
collection, and the power-loss reserve in MiB where it is short. -/
inductive StageResult where
  | groups
  | dram (ids : List Nat) (gib : Nat) (fast linkEcc : Bool) (untrained : Option Nat) (ms : Nat)
  | nand (found : List FoundTarget) (store endurance : Nat)
  | loaded
  | colls (failed : List ReloadFault) (shortMib : Option Nat)
  deriving DecidableEq, Repr

/-- What a received frame carries (R303–R306, R320): ARP or neighbour discovery with its target and its sender, an echo
request, a report that a session's datagrams are too big, a fragment with its place, a datagram or a segment for a port,
a PTP message that the device does not support (R324),
or something that another command brings. `client` is an address and a port as one number. -/
inductive Packet where
  | arp (request : Bool) (target sender mac : Nat)
  | nd (solicit : Bool) (target sender mac : Nat)
  | echo (v6 : Bool) (target : Nat)
  | tooBig (client mtu : Nat)
  | fragment (ident at_ len : Nat) (last : Bool)
  | udp (port client : Nat) (hello : Bool)
  | tcp (port : Nat)
  | ptpOther
  | other
  deriving DecidableEq, Repr

/-- A received Ethernet frame (R300): whether its FCS is correct, its length with header and FCS, its VID where it is
tagged, its destination, whether the receive buffer stood full, the RS-FEC codewords found uncorrectable since the frame
before, and what it carries. -/
structure Frame where
  fcs : Bool
  len : Nat
  vid : Option Nat
  dst : Nat
  full : Bool
  uncorr : Nat
  packet : Packet
  deriving DecidableEq, Repr

/-- A DHCP message (R303): whether DHCPv6, its message type (DHCPv4: 2 OFFER, 5 ACK, 6 NAK; DHCPv6: 2 ADVERTISE,
7 REPLY), the address, the router of option 3, the lease in seconds (0: the server does not give the address). -/
structure DhcpMsg where
  v6 : Bool
  kind : Nat
  addr : Nat
  router : Nat
  lease : Nat
  deriving DecidableEq, Repr

/-- A ClientHello (R307, R309, R311, R317): the service (0 DKP, 1 command port), the port, the client's address and port,
whether over IPv6, the established session or connection it came in, its hash, its cookie, and what it offers. -/
structure Hello where
  svc : Nat
  port : Nat
  client : Nat
  v6 : Bool
  inside : Option Nat
  hash : Text
  cookie : Option Text
  tls13 : Bool
  suites : List Nat
  shares : List Nat
  groups : List Nat
  sigs : List Nat
  pskModes : List Nat
  psks : List (Text × Text)
  alpn : Option (List Text)
  deriving DecidableEq, Repr

/-- A certificate of a chain as its fields read (R312): its form and the algorithms it uses, basicConstraints, the
leaf's keyUsage, extendedKeyUsage where it is present, whether it holds a critical extension the device does not process,
validity in seconds, commonName, SHA-384 of its public key. -/
structure Cert where
  bytes : Nat
  v3p384 : Bool
  basicOk : Bool
  digitalSig : Bool
  clientAuth : Option Bool
  critical : Bool
  notBefore : Nat
  notAfter : Nat
  cn : Text
  keyHash : Text
  deriving DecidableEq, Repr

/-- A client's last flight (R312, R317): whether Finished and CertificateVerify are correct, its chain (leaf first), and
the trust anchor to which the chain's signatures lead. -/
structure Proof where
  finished : Bool
  verify : Bool
  chain : List Cert
  root : Option Text
  deriving DecidableEq, Repr

/-- What a DTLS record carries (R307, R322, R323). -/
inductive RecKind where
  | data
  | keyUpdate (requested : Bool)
  | keyUpdateAck
  | closeNotify
  | fatalAlert
  | hello
  deriving DecidableEq, Repr

/-- A DTLS record of a session (R321): whether it is a 0-RTT record, its epoch and number, whether its authentication
passes, what it carries. -/
structure DtlsRec where
  early : Bool
  epoch : Nat
  num : Nat
  authentic : Bool
  kind : RecKind
  deriving DecidableEq, Repr

/-- A slot of the cascade bus (R471, R472): the words on CASC_KD from H0 to the last key word (none where nobody
drives the slot; what this member sends itself does not stand here), CASC_MI at this member's two ripple cycles, CASC_WIN
for the best care count and for the count. -/
structure CascSlot where
  words : List Nat
  mi : Nat
  miCount : Nat
  win : Nat
  winCount : Nat
  deriving DecidableEq, Repr

/-- How a frame of this member resolves (R472–R474): CASC_WIN's best care count and the six result words. -/
structure CascResult where
  win : Nat
  words : List Nat
  deriving DecidableEq, Repr

end Sys2Proof
end

