-- ==== Sys2Proof/Syntax.lean ====
section
/-! DEFINITION. The commands of the block: one constructor per row of opcode_table.json, in its order. A verb
carries its parsed line, a HART command its request, an event what the outside world brings to it. -/

namespace Sys2Proof

/-- The commands (opcode_table.json). -/
inductive Instr where
  /-- R45: VAON rises above 1.7 V; PD0 leaves power-on reset 2 ms later with every kept field at its power-on value. -/
  | vaonPowerOnReset
  /-- R29: VAON falls below its minimum, losing TAI, the servo rate, latches and every kept field of PD0. -/
  | vaonLoss
  /-- R46: Absence of VDDIO_A is detected within 10 µs; ring forwarding stops and, if any enable was asserted, it is handled as a group 0 power-good loss. -/
  | vddioAAbsent
  /-- R46: 1 s after VDDIO_A returns, the device starts the power-up sequence again. -/
  | vddioAReturnRestart
  /-- R29: REFCLK is absent while VAON holds; TAI stops, CLK.TAI_VALID becomes 0 and the time state becomes FREE. -/
  | refclkLoss
  /-- R29: REFCLK returns and TAI resumes from its stored value at the retained servo rate. -/
  | refclkReturn
  /-- R48: The power-good input of the group being sequenced goes high, and sequencing proceeds to the next group or to Dawn. -/
  | seqPgHigh (g : Nat)
  /-- R48: A group's power-good wait exceeds PWR.PG_TIMEOUT_MS; EV 0x010 + g is raised, PWR.PG_FAILS counts, and the device powers down to Midnight. -/
  | pgTimeout
  /-- R50: A group's power-good, once seen high, stays low for 10 µs while its enable is asserted; EV 0x018 + g is raised and the device powers down or runs the power-fail transition. -/
  | powerGoodLoss (g : Nat)
  /-- R49: The previous group's power-good goes low, or 2 ms pass, and the next enable in the order 5 to 0 is deasserted. -/
  | powerDownEnableStep
  /-- R48: 1 s after reaching Midnight from a power-good fault, the device starts the power-up sequence again. -/
  | sequenceRestart
  /-- R54: A falling edge on WAKE_N wakes the device from M0 or M1 if PWR.WAKE_EN bit 0 is set. -/
  | wakeNFall
  /-- R54: TAI reaches PWR.WAKE_AT while the device is in M0 or M1, waking it if bit 2 of PWR.WAKE_EN is set. -/
  | taiWake
  /-- R55: RESET_N held low for 1 µs resets PD1–PD10 without a flush and holds them in reset. -/
  | resetNAssert
  /-- R55: RESET_N returns high; the device starts Dawn, records cause 1 and raises EV 0x025. -/
  | resetNRelease
  /-- R56: PWR_FAIL_N stays low for 2 µs and the power-fail transition of Table 3.4 begins in the present mode. -/
  | pwrFailNAccepted
  /-- R56: The flush of dirty data to the power-loss reserve ends, complete or short, and PLP_DONE rises before power-down. -/
  | plpFlushComplete (complete : Bool)
  /-- R60: PWR_FAIL_N has stayed high for PWR.PF_DEBOUNCE_MS and, with wake bit 3 set, the power-up sequence starts. -/
  | pfDebounceExpiry
  /-- R52: The device persists dirty data, saves the associative array to DRAM and gates domains to enter M1. -/
  | smallHoursEntry
  /-- R53: A wake in M1 restores domains, reloads the array image and reaches Morning within 50 ms. -/
  | smallHoursResume (imageOk : Bool)
  /-- R62: Each sensor reading refreshes every 1 ms (sensor 0 each second in M0–M1) and updates PWR.TEMP fields. -/
  | temperatureReading (readings : List Int)
  /-- R62: Two sensors disagree by more than 15 °C for 1 s and EV 0x024 is raised. -/
  | sensorDisagreement
  /-- R64: Every 100 µs the device updates PWR.P_CORE_MW and PWR.P_AVG_MW from measured rail currents. -/
  | powerMeasurementUpdate (core : Nat) (avg : Nat)
  /-- R44: A domain whose gating was decided finishes its held work and turns off. -/
  | domainGated (d : Nat)
  /-- R43: A domain's on-latency elapses after its switch closes and it begins accepting work. -/
  | domainOnComplete (d : Nat)
  /-- R16: Every 1 ms while the bridge is up each end sends a heartbeat, placed by the core die on a TAI millisecond boundary. -/
  | bridgeHeartbeat
  /-- R16: 20 ms pass without receipt and an end declares the bridge lost; EV 0x381 is raised and novelty bits clear. -/
  | bridgeLost
  /-- R143: The core die finishes reading every mirrored field in SYNC and the bridge enters UP, raising EV 0x380 and latched events. -/
  | bridgeMirrorLoaded
  /-- R144: A change of a mirrored loop-die field is sent to the core die within 2 ms and updates its copy. -/
  | mirrorChangeReport (param : Nat) (inst : Nat)
  /-- R144: The loop die acknowledges a written-through mirrored field and the reply is sent. -/
  | mirroredWriteAck
  /-- R33: A Sync (with Follow_Up) yields an offset and the servo steps or slews TAI by the first applicable rule. -/
  | ptpSync (port : Nat) (offset : Int) (master : SyncFrom)
  /-- R32: An Announce is received and the best master clock algorithm selects the master and slave port. -/
  | ptpAnnounce (port : Nat) (ident : Nat) (prio : Nat) (domain : Nat) (interval : Nat) (utc : Nat)
  /-- R32: A Delay_Resp is received and the mean path delay is updated with CLK.ASYM_NS. -/
  | ptpDelayResp (port : Nat) (delay : Int) (logInterval : Int)
  /-- R324: At the interval set by Delay_Resp, at most 16 per second, the device sends a Delay_Req. -/
  | ptpDelayReqSend
  /-- R31: No Announce from the selected master for 3 announce intervals; the state moves to HOLDOVER and the master is deselected. -/
  | announceTimeout
  /-- R34: A write of CLK.TAI_SET_HI after CLK.TAI_SET_LO sets TAI under the ordered conditions. -/
  | taiSet (route : Route) (lo : Nat) (hi : Nat)
  /-- R35: A write of 1 to CLK.TAI_INVALIDATE in Dusk clears TAI_VALID, moves to FREE and raises EV 0x0C4. -/
  | taiInvalidate (route : Route) (v : Nat)
  /-- R36: A member's CASC_CLK phase moves by more than ±1 beat within 2^20 beats; it withdraws and raises EV 0x0C5. -/
  | cascClkPhaseWithdraw
  /-- R36: CLK.CASC_LOCK has stayed 1 for 2^20 beats and the member rejoins the cascade. -/
  | cascLockRejoin
  /-- R37: After a window of 64 heartbeats the loop die compares its cycle count and moves ISL.OSC_TRIM by at most one step. -/
  | oscTrimWindow (cycles : Nat) (cumulative : Int)
  /-- R40: ISL.SYNC schedules a synchronising reset of excitation at TAI t, or performs it at once without at=. -/
  | islSync (l : Line)
  /-- R41: TAI reaches the pending sync instant, or a forward step passes it; excitation restarts and EV 0x0C8 reports late=. -/
  | scheduledSyncFire
  /-- R70: MODE.SET requests a move to morning, evening, dusk, small-hours or midnight. -/
  | modeSet (l : Line)
  /-- R504: MODE.SHOW returns the mode, target, throttle, reason and pin. -/
  | modeShow (l : Line)
  /-- R71: Evening completes admitted work and persists dirty data, then moves to its target. -/
  | drainComplete
  /-- R71: GOV.DRAIN_MAX_MS passes in M8; unanswered requests get 202 BUSY and EV 0x00C is raised. -/
  | drainTimeout
  /-- R73: Running Dusk jobs reach their persisted point after an abort and the pending mode move proceeds. -/
  | duskJobStopped
  /-- R73: In M9 the next job of the Dusk queue starts in submission order. -/
  | duskJobStart
  /-- R80: Every 10 ms the Almanac chooses the service mode and throttle level from its inputs. -/
  | almanacTick (due : Nat) (util : Nat) (free : Nat) (hostWrites : Bool)
  /-- R84: Once per second the Almanac may start an idle merge of the fullest eligible collection. -/
  | idleMergeCheck (util : Nat)
  /-- R88: Once per second the Almanac halves or doubles the associative scrub period. -/
  | scrubPeriodUpdate
  /-- R287: A write of FLASH.HOLDUP_MS is stored and recomputes the dirty limit at once. -/
  | flashHoldupWrite (route : Route) (v : Nat)
  /-- R275: A write of GOV.DIRTY_MAX_MIB applies to the dirty limit and may queue a repartition job for Dusk. -/
  | dirtyMaxWrite (route : Route) (v : Nat)
  /-- R91: A byte arrives on LINE_RXD and is classified, edited or forwarded within 5 character times. -/
  | ibianByteReceived (b : Nat) (damaged : Bool)
  /-- R98: A consumed command line's terminator arrives and the line is checked in order and executed. -/
  | ibianLineReceived (src : LineIn)
  /-- R94: Two character times pass without a further character and held characters are echoed as a pass-through run. -/
  | echoRelease
  /-- R580: 3 character times without a byte end a pass-through run being forwarded. -/
  | passThroughRunTimeout
  /-- R107: One character time passes after a forwarded CR with no LF and the forwarded line ends. -/
  | forwardedCrEnd
  /-- R102: A queued notice, preceded by any LOST line, is sent on the ring or a TLS connection. -/
  | noticeSend (dest : Route)
  /-- R113: LINE_RXD low for 250–999 ms then high sets 115,200 baud, sends a 500 ms break downstream and raises EV 0x3C8. -/
  | breakReceived
  /-- R113: LINE_RXD low for 1,000 ms sets the loss bit and raises EV 0x3C4 with up=. -/
  | receiveLoss
  /-- R113: Every 5 s while receive loss lasts, EV 0x3C4 is raised again. -/
  | receiveLossRepeat
  /-- R113: LINE_RXD returns high after receive loss; the bit clears, EV 0x3C5 is raised and the unit acts as for a break. -/
  | receiveRestored
  /-- R110: ADDR.CHAIN start=n forwards start=n+1 and takes address n. -/
  | addrChain (l : Line)
  /-- R111: ADDR.SET sets the consuming unit's address. -/
  | addrSet (l : Line)
  /-- R114: RING.PROBE is forwarded with each unit's address appended to path=. -/
  | ringProbe (l : Line)
  /-- R116: LINE.RATE replies at the present rate and schedules a switch to baud= after t ms. -/
  | lineRate (l : Line)
  /-- R116: t ms after the line's terminator the unit switches rate, raises EV 0x3C6 and starts the revert guard. -/
  | lineRateSwitch
  /-- R116: No clean complete line within LINE.REVERT_S after a switch; the previous rate returns and EV 0x3C7 is raised. -/
  | rateRevert
  /-- R118: LINE.SETPIN sets the 8-digit PIN at OWNER level. -/
  | lineSetpin (l : Line)
  /-- R102: LINE.NOTICES enables or disables notices on a TLS connection. -/
  | lineNotices (l : Line)
  /-- R504: LINE.SHOW returns address, rate, level, strict, echo, failures, lock and unit. -/
  | lineShow (l : Line)
  /-- R117: LOGIN.PIN with the PIN raises the route instance to OPERATOR. -/
  | loginPin (l : Line)
  /-- R119: LOGIN.CHALLENGE returns an 8-byte nonce valid 60 s for one LOGIN.OWNER. -/
  | loginChallenge (l : Line)
  /-- R119: LOGIN.OWNER verifies the HMAC response and raises the level to OWNER. -/
  | loginOwner (l : Line)
  /-- R244: LOGIN.VENDOR grants VENDOR according to the debug state. -/
  | loginVendor (l : Line)
  /-- R120: LOGIN.OUT returns the route instance to VIEW. -/
  | loginOut (l : Line)
  /-- R120: LINE.IDLE_S passes with no consumed line and the level falls back to VIEW with EV 0x3D0. -/
  | loginIdleFallback (route : Route)
  /-- R121: A login lockout's time runs out and LOGIN verbs work again. -/
  | loginLockExpiry (route : Route)
  /-- R123: A TCP connection on the command port completes its TLS handshake, or a fifth is reset with EV 0x3CE. -/
  | tlsConnectionOpen (port : Nat) (num : Nat) (proof : Proof)
  /-- R120: A TLS command connection closes; its level, staged set and cursors end and EV 0x3CC is raised. -/
  | tlsConnectionClose (conn : Nat)
  /-- R505: SYS.STATUS returns mode-dependent status fields. -/
  | sysStatus (l : Line)
  /-- R506: SYS.RESET replies then resets PD1–PD10 as RESET_N does. -/
  | sysReset (l : Line)
  /-- R517: SYS.DIAG, a vendor verb, returns unspecified diagnostic fields and changes nothing. -/
  | sysDiag (l : Line)
  /-- R128: AUX_ISL crosses 1.7 V and the loop die changes supply source within 1 ms, raising EV 0x38B. -/
  | auxIslSourceChange (aux : Bool)
  /-- R138: VISL reaches 2.7 V; the loop die drives 3.55 mA, loads OTP and MTP, starts the front end and answers HART. -/
  | loopDieStart (found : LoopFound)
  /-- R129: VISL falls below 2.6 V for 10 µs and the loop die loses all volatile state; `cut` says that a commit was under way. -/
  | loopDieReset
  /-- R138: HOLD_MAX_MS (LOCAL) or MAIN_TIMEOUT_MS (MAIN) passes after the load without a valid PV and start-up ends with cause 4 or 5. -/
  | startUpTimeout
  /-- R130: Every 10 ms ISL.DRAW_UA is updated and the amplitude governor runs. -/
  | drawUpdate (draw : Nat) (iExc : Nat)
  /-- R160: A written or governed amplitude change takes effect at the next positive-going zero crossing. -/
  | amplitudeChangeApply
  /-- R171: Each output period the front end produces results, suppresses or validates them and evaluates faults. -/
  | feOutput (x : FeInput)
  /-- R172: ISL.HOLD_MAX_MS passes without a valid output after a synchronising reset and cause 4 becomes active. -/
  | holdMaxExpiry
  /-- R177: A HOLD fault still active ISL.HOLD_MAX_MS after becoming active acts as FAIL. -/
  | faultHoldToFail
  /-- R133: Measured loop current differs from the setpoint by more than 100 µA for 100 ms and EV 0x38E is latched. -/
  | loopCurrentDeparture (later : Nat)
  /-- R141: ISL.MAIN_TIMEOUT_MS passes without a MAIN value or after bridge loss and cause 5 becomes active. -/
  | mainStale
  /-- R142: A write of ISL.MAIN_PV over the bridge stores the MAIN value. -/
  | mainPvWrite (route : Route) (v : Nat)
  /-- R139: A write of ISL.FIX_UA enters, changes or ends fixed current. -/
  | fixUaWrite (route : Route) (v : Nat)
  /-- R139: ISL.FIX_TIMEOUT_S elapses since the last nonzero write and fixed current ends. -/
  | fixTimeout
  /-- R140: A change of ISL.LOOP_CUR_EN enters or leaves multidrop and raises EV 0x387. -/
  | loopCurEnWrite (route : Route) (v : Nat)
  /-- R156: The LOOP_WP input changes and EV 0x38F is raised. -/
  | loopWpChange (on : Bool)
  /-- R155: The loop die checks and commits one bridge or HART write unit, incrementing ISL.CC. -/
  | writeUnit
  /-- R147: At every ISL.REC_DIV-th PV output the loop die takes a numbered sample, buffers it and sends it over the bridge. -/
  | recordedSampleTaken
  /-- R148: The core die stamps an arriving sample, stores it in namespace 1 and acknowledges it. -/
  | sampleStore
  /-- R148: 10 ms after a refused recording write the core die retries the sample. -/
  | sampleStoreRetry
  /-- R149: On entry to M4–M7 the core die requests the loop die's unacknowledged samples. -/
  | backfillStart
  /-- R150: Backfill stores the buffered samples and raises EV 0x382 with n, lost and overlap. -/
  | backfillComplete
  /-- R514: ISL.SHOW returns link, PV, status, currents, fail, cc, buffer and sequence. -/
  | islShow (l : Line)
  /-- R514: ISL.SET writes ISL fields as one write unit. -/
  | islSet (l : Line)
  /-- R514: FE.SHOW returns the front-end results and status. -/
  | feShow (l : Line)
  /-- R514: FE.SET writes FE fields as one write unit, causing a synchronising reset for resetting fields. -/
  | feSet (l : Line)
  /-- R514: HART.SHOW returns the HART block state. -/
  | hartShow (l : Line)
  /-- R514: HART.SET writes HART fields as one write unit. -/
  | hartSet (l : Line)
  /-- R188: CAL.ZERO takes a zero trim after the checks of R187. -/
  | calZero (l : Line)
  /-- R189: CAL.SPAN takes a span trim about the stored zero anchor. -/
  | calSpan (l : Line)
  /-- R190: CAL.PHASE trims a path's user phase and causes a synchronising reset. -/
  | calPhase (l : Line)
  /-- R191: CAL.LOOP records a reference reading and commits the loop trim when both points are pending. -/
  | calLoop (l : Line)
  /-- R186: CAL.TPOINT stages one scaling-table point in the core die. -/
  | calTpoint (l : Line)
  /-- R186: CAL.TCOMMIT sends staged points to the loop die as one write unit. -/
  | calTcommit (l : Line)
  /-- R194: CAL.SAVE copies the set in force into the saved set. -/
  | calSave (l : Line)
  /-- R194: CAL.RESTORE copies the saved set into the set in force. -/
  | calRestore (l : Line)
  /-- R194: CAL.CLEAR returns the named user quantities to their reset values. -/
  | calClear (l : Line)
  /-- R514: CAL.SHOW returns the CAL fields and committed table points. -/
  | calShow (l : Line)
  /-- R200: HART command 0 returns the 22-byte identity by polling address. -/
  | hartCmd0ReadUniqueId (q : HartReq)
  /-- R203: HART command 1 returns ISL.PV in ISL.UNITS. -/
  | hartCmd1ReadPv (q : HartReq)
  /-- R203: HART command 2 returns loop current and percent of range. -/
  | hartCmd2ReadCurrentPercent (q : HartReq)
  /-- R203: HART command 3 returns dynamic variables and loop current. -/
  | hartCmd3ReadDynamicVars (q : HartReq)
  /-- R203: HART command 6 writes ISL.POLL_ADDR and ISL.LOOP_CUR_EN in one write unit. -/
  | hartCmd6WritePollingAddr (q : HartReq)
  /-- R203: HART command 7 reads loop configuration. -/
  | hartCmd7ReadLoopConfig (q : HartReq)
  /-- R203: HART command 8 reads dynamic variable classifications. -/
  | hartCmd8ReadClassifications (q : HartReq)
  /-- R203: HART command 9 reads device variables with status. -/
  | hartCmd9ReadVarsStatus (q : HartReq)
  /-- R203: HART command 11 returns the identity when the tag matches. -/
  | hartCmd11ReadIdByTag (q : HartReq)
  /-- R203: HART command 12 reads the message. -/
  | hartCmd12ReadMessage (q : HartReq)
  /-- R203: HART command 13 reads tag, descriptor and date. -/
  | hartCmd13ReadTagDescriptor (q : HartReq)
  /-- R203: HART command 14 reads PV transducer information. -/
  | hartCmd14ReadTransducer (q : HartReq)
  /-- R203: HART command 15 reads device information. -/
  | hartCmd15ReadDeviceInfo (q : HartReq)
  /-- R203: HART command 16 reads the final assembly number. -/
  | hartCmd16ReadFan (q : HartReq)
  /-- R203: HART command 17 writes the message as one write unit. -/
  | hartCmd17WriteMessage (q : HartReq)
  /-- R203: HART command 18 writes tag, descriptor and date. -/
  | hartCmd18WriteTagDescriptor (q : HartReq)
  /-- R203: HART command 19 writes the final assembly number. -/
  | hartCmd19WriteFan (q : HartReq)
  /-- R203: HART command 20 reads the long tag. -/
  | hartCmd20ReadLongTag (q : HartReq)
  /-- R203: HART command 21 returns the identity when the long tag matches. -/
  | hartCmd21ReadIdByLongTag (q : HartReq)
  /-- R203: HART command 22 writes the long tag. -/
  | hartCmd22WriteLongTag (q : HartReq)
  /-- R203: HART command 33 reads device variables without status. -/
  | hartCmd33ReadDeviceVars (q : HartReq)
  /-- R203: HART command 34 writes ISL.DAMP_MS. -/
  | hartCmd34WriteDamping (q : HartReq)
  /-- R203: HART command 35 writes LRV and URV. -/
  | hartCmd35WriteRange (q : HartReq)
  /-- R203: HART command 36 sets URV to the present PV. -/
  | hartCmd36SetUrv (q : HartReq)
  /-- R203: HART command 37 sets LRV to the present PV. -/
  | hartCmd37SetLrv (q : HartReq)
  /-- R203: HART command 38 clears the configuration changed flag for the requesting master. -/
  | hartCmd38ResetConfigChanged (q : HartReq)
  /-- R203: HART command 40 enters or exits fixed current. -/
  | hartCmd40FixedCurrent (q : HartReq)
  /-- R203: HART command 42 responds then resets the loop die. -/
  | hartCmd42DeviceReset (q : HartReq)
  /-- R203: HART command 43 runs CAL.ZERO point=0 without force. -/
  | hartCmd43SetPvZero (q : HartReq)
  /-- R203: HART command 44 writes ISL.UNITS. -/
  | hartCmd44WritePvUnits (q : HartReq)
  /-- R203: HART command 45 records a loop trim reading at 4 mA. -/
  | hartCmd45TrimLoopZero (q : HartReq)
  /-- R203: HART command 46 records a loop trim reading at 20 mA. -/
  | hartCmd46TrimLoopGain (q : HartReq)
  /-- R209: HART command 48 returns the 14 bytes of additional status. -/
  | hartCmd48ReadAdditional (q : HartReq)
  /-- R203: HART command 54 reads device variable information. -/
  | hartCmd54ReadVarInfo (q : HartReq)
  /-- R203: HART command 59 writes HART.PREAMBLES. -/
  | hartCmd59WritePreambles (q : HartReq)
  /-- R211: HART command 103 sets the burst period. -/
  | hartCmd103BurstPeriod (q : HartReq)
  /-- R211: HART command 104 accepts burst trigger mode 0 only. -/
  | hartCmd104BurstTrigger (q : HartReq)
  /-- R211: HART command 105 reads the burst configuration. -/
  | hartCmd105BurstConfig (q : HartReq)
  /-- R211: HART command 108 selects the burst command. -/
  | hartCmd108BurstCommand (q : HartReq)
  /-- R211: HART command 109 sets HART.BURST_EN and raises EV 0x3B1. -/
  | hartCmd109BurstControl (q : HartReq)
  /-- R206: HART command 128 reads loop-die status. -/
  | hartCmd128ReadStatus (q : HartReq)
  /-- R206: HART command 129 reads front-end results. -/
  | hartCmd129ReadFeResults (q : HartReq)
  /-- R206: HART command 130 reads front-end configuration. -/
  | hartCmd130ReadFeConfig (q : HartReq)
  /-- R206: HART command 131 writes front-end configuration as one write unit. -/
  | hartCmd131WriteFeConfig (q : HartReq)
  /-- R206: HART command 132 runs a zero trim, force needing OWNER_EN. -/
  | hartCmd132ZeroTrim (q : HartReq)
  /-- R206: HART command 133 runs a span trim. -/
  | hartCmd133SpanTrim (q : HartReq)
  /-- R206: HART command 134 runs a phase trim. -/
  | hartCmd134PhaseTrim (q : HartReq)
  /-- R206: HART command 135 reads scaling. -/
  | hartCmd135ReadScaling (q : HartReq)
  /-- R206: HART command 136 writes scaling. -/
  | hartCmd136WriteScaling (q : HartReq)
  /-- R206: HART command 137 saves, restores or clears the calibration set. -/
  | hartCmd137CalSetAction (q : HartReq)
  /-- R206: HART command 138 reads supply and storage. -/
  | hartCmd138ReadSupply (q : HartReq)
  /-- R206: HART command 139 writes fail and recording settings. -/
  | hartCmd139WriteFailSettings (q : HartReq)
  /-- R206: HART command 140 performs a synchronising reset now. -/
  | hartCmd140SyncReset (q : HartReq)
  /-- R203: Any other command number below 128, or 141–143, returns response code 64. -/
  | hartUnsupportedCommand (cmd : Nat) (q : HartReq)
  /-- R211: Once per burst period the loop die sends the burst response. -/
  | hartBurstSend
  /-- R225: The mask ROM reads life cycle, derives keys, selects the flag record and checks slots. -/
  | dawn (found : DawnFound)
  /-- R231: The ROM applies the locks, arms the watchdog, raises EV 0x040 and starts the image. -/
  | handover
  /-- R230: The hold-off ends and PD1–PD10 reset for a Nightfall retry. -/
  | nightfallHoldoffExpiry
  /-- R232: 600 s pass after handover without entry to M4, M0 or M11 and the core resets with EV 0x043. -/
  | handoverWatchdog
  /-- R234: REC.INFO reports life cycle, profile, active slot and last rejection. -/
  | recInfo (l : Line)
  /-- R234: REC.OPEN opens a recovery session. -/
  | recOpen (l : Line)
  /-- R234: REC.DATA appends bytes at next. -/
  | recData (l : Line)
  /-- R234: REC.COMMIT checks the image, programs the slot and writes a flag record. -/
  | recCommit (l : Line)
  /-- R234: REC.ABORT discards the recovery session. -/
  | recAbort (l : Line)
  /-- R234: REC.BOOT replies and performs a Nightfall retry at once. -/
  | recBoot (l : Line)
  /-- R235: BOOT.SHOW reports slots, sequence, versions and update state. -/
  | bootShow (l : Line)
  /-- R235: BOOT.OPEN opens an update for the slot not running. -/
  | bootOpen (l : Line)
  /-- R235: BOOT.DATA appends bytes to the staged update. -/
  | bootData (l : Line)
  /-- R235: BOOT.FROMKV appends a key's whole value with device authority. -/
  | bootFromkv (l : Line)
  /-- R235: BOOT.COMMIT checks and programs the staged image into the target slot. -/
  | bootCommit (l : Line)
  /-- R235: BOOT.ACTIVATE checks a slot and names it active in a new flag record. -/
  | bootActivate (l : Line)
  /-- R235: BOOT.ABORT discards the open update. -/
  | bootAbort (l : Line)
  /-- R515: LC.SHOW reports the life cycle and seed state. -/
  | lcShow (l : Line)
  /-- R243: LC.CHALLENGE returns an authority nonce. -/
  | lcChallenge (l : Line)
  /-- R243: LC.AUTH takes one part and, after the fourth, verifies authority. -/
  | lcAuth (l : Line)
  /-- R240: LC.ADVANCE burns life-cycle fuses and resets. -/
  | lcAdvance (l : Line)
  /-- R259: LC.RECOMMISSION commissions the active seed, clears the ERASE latch and resets. -/
  | lcRecommission (l : Line)
  /-- R245: LC.DEBUGKEY programs the OEM debug hash in BLANK. -/
  | lcDebugkey (l : Line)
  /-- R245: LC.SIGNER provisions an OEM signer hash. -/
  | lcSigner (l : Line)
  /-- R245: LC.REVOKE burns a signer hash's revoke fuse. -/
  | lcRevoke (l : Line)
  /-- R515: VAULT.SHOW lists loaded vault slots and TRNG health. -/
  | vaultShow (l : Line)
  /-- R251: VAULT.SETOWNER programs the owner entry and loads slot 2. -/
  | vaultSetowner (l : Line)
  /-- R252: VAULT.GENID generates and wraps the P-384 identity key. -/
  | vaultGenid (l : Line)
  /-- R314: VAULT.PSK loads a PSK slot. -/
  | vaultPsk (l : Line)
  /-- R515: VAULT.CA appends a piece of a trust anchor, checked on last=1. -/
  | vaultCa (l : Line)
  /-- R515: VAULT.CERT appends a piece of the device chain, checked on last=1. -/
  | vaultCert (l : Line)
  /-- R314: VAULT.CSR returns a PKCS#10 request signed by the identity key. -/
  | vaultCsr (l : Line)
  /-- R314: VAULT.CRED reads or writes a credential entry. -/
  | vaultCred (l : Line)
  /-- R249: A write of VAULT.LOCK_USE or VAULT.LOCK_CHANGE sets sticky slot locks. -/
  | vaultLockWrite (route : Route) (change : Bool) (v : Nat)
  /-- R252: A TRNG health test fails; VAULT.TRNG_OK reads 0 and EV 0x06D is raised. -/
  | trngHealthFail
  /-- R255: An armed alarm source detects and its class acts: erase, lock or record. -/
  | alarmSourceFires (src : Nat)
  /-- R255: The active seed's revoke burn completes and EV 0x090 is raised. -/
  | eraseBurnComplete (us : Nat)
  /-- R257: In M3–M9 the alarm record reaches the persistent log and PD1–PD10 reset toward Night. -/
  | alarmRecordWritten
  /-- R262: ALM.SHOW reports the latch, source, seed and seeds left. -/
  | almShow (l : Line)
  /-- R262: ALM.CLEAR clears a LOCK latch and resets. -/
  | almClear (l : Line)
  /-- R524: An access through the open debug port reads or writes under the handover locks. -/
  | debugPortAccess (addr : Nat) (write : Option Nat)
  /-- R291: A Sunrise stage completes, EV 0x240 is raised and the next stage or entry to M4 follows. -/
  | sunriseStageComplete (r : StageResult)
  /-- R294: 60 s after a Sunrise halt the device repeats Sunrise from stage 2. -/
  | sunriseHaltRetry
  /-- R269: Every 100 ms a channel retrains WCK-to-DQ; a second failure resets PD1–PD10. -/
  | dramRetrain (ch : Nat) (fails : Nat)
  /-- R278: Every DRAM.PATROL_H hours each protected group is read and corrected. -/
  | dramPatrolScrub (ch : Nat) (found : CellFaults)
  /-- R284: A NAND program or erase completes; a failure retires the block. -/
  | nandOperationComplete (ch : Nat) (tgt : Nat) (failed : Bool) (found : NandFound) (mean : Nat) (top : Nat)
  /-- R284: A target fails to answer READ STATUS ENHANCED for 100 ms and is retired. -/
  | nandTargetTimeout (ch : Nat) (tgt : Nat)
  /-- R283: A block that needed retry or soft decode is relocated and erased. -/
  | blockRelocation (bytes : Nat)
  /-- R295: FLASH.CKPT_S passes or 4 GiB of log is written and a checkpoint begins. -/
  | checkpointDue
  /-- R295: A checkpoint completes and EV 0x245 is raised. -/
  | checkpointComplete (ms : Nat)
  /-- R289: The power-loss reserve is rebuilt and the dirty limit is raised again. -/
  | plpReserveRebuilt
  /-- R274: In Dusk the repartition job rebuilds INDEX, META and SKETCH. -/
  | repartitionJob (job : Nat)
  /-- R285: In Dusk the format job rewrites the layout for the new over-provisioning. -/
  | formatJob (job : Nat)
  /-- R300: A frame is received, filtered and dropped or passed up. -/
  | ethernetFrameReceived (port : Nat) (f : Frame)
  /-- R301: A PAUSE frame holds the port's transmitter for its quanta. -/
  | pauseFrame (port : Nat) (quanta : Nat)
  /-- R326: A port's link comes up. -/
  | linkUp (port : Nat)
  /-- R326: A port's link goes down and its sessions are held. -/
  | linkDown (port : Nat)
  /-- R326: NET.LINK_HOLD_S passes and the port's sessions close with reason=link. -/
  | linkHoldExpiry (port : Nat)
  /-- R303: A DHCPv4 or DHCPv6 message advances the client. -/
  | dhcpMessage (port : Nat) (m : DhcpMsg)
  /-- R303: T1, T2 or lease expiry triggers renew, rebind or release. -/
  | dhcpTimer (port : Nat) (v6 : Bool) (which : Nat)
  /-- R303: 60 s after a static address conflict the device retries. -/
  | addressConflictRetry (port : Nat)
  /-- R304: An ARP or neighbour entry ages out 60 s after its last confirmation. -/
  | neighbourEntryAge (port : Nat) (addr : Nat)
  /-- R305: An IP reassembly in progress 1 s is abandoned. -/
  | reassemblyTimeout (port : Nat) (ident : Nat)
  /-- R302: A Router Advertisement supplies the default router and SLAAC prefix. -/
  | routerAdvertisement (port : Nat) (router : Nat) (pfx : Nat) (aFlag : Bool)
  /-- R317: A ClientHello is judged by the handshake checks. -/
  | clientHello (h : Hello)
  /-- R315: A handshake completes and the session takes its credential's roles and level. -/
  | handshakeComplete (num : Nat) (proof : Proof)
  /-- R319: NET.HS_TIMEOUT_MS passes and the handshake is abandoned with EV 0x184. -/
  | handshakeTimeout (num : Nat)
  /-- R309: A handshake flight is resent after 400 ms, doubling to 6.4 s. -/
  | flightRetransmit (num : Nat)
  /-- R318: The handshake bucket gains NET.HS_RATE tokens per second. -/
  | handshakeTokenRefill
  /-- R309: Every 60 s the cookie key is replaced. -/
  | cookieKeyRotate
  /-- R321: A record passes replay and authentication or is discarded. -/
  | dtlsRecordReceived (sess : Nat) (r : DtlsRec)
  /-- R323: NET.IDLE_S passes without an authenticated record and the session closes. -/
  | sessionIdleTimeout (sess : Nat)
  /-- R335: A segment of a request is reassembled or judged at admission. -/
  | dkpSegmentReceived (sess : Nat) (seg : Text)
  /-- R334: An ACK advances or triggers resends of a multi-segment response. -/
  | dkpAckReceived (sess : Nat) (seg : Text)
  /-- R334: DKP.RTO_MS passes without advance and the segment is resent, or abandoned after DKP.RETX_MAX. -/
  | dkpResendTimeout (sess : Nat) (id : Nat)
  /-- R332: A request with no new segment for DKP.REASM_MS is abandoned. -/
  | dkpReassemblyTimeout (sess : Nat) (id : Nat)
  /-- R342: GET returns the value within the range. -/
  | dkpGet (q : DkpReq)
  /-- R343: PUT writes a value. -/
  | dkpPut (q : DkpReq)
  /-- R343: DELETE removes a key. -/
  | dkpDelete (q : DkpReq)
  /-- R343: CAS writes or deletes if the version matches. -/
  | dkpCas (q : DkpReq)
  /-- R344: SCAN returns keys in order from a snapshot. -/
  | dkpScan (q : DkpReq)
  /-- R345: BATCH applies all sub-ops or none. -/
  | dkpBatch (q : DkpReq)
  /-- R346: VPUT stores value and vector and appends a side-list entry. -/
  | dkpVput (q : DkpReq)
  /-- R346: VDEL removes a vector and retires its locator. -/
  | dkpVdel (q : DkpReq)
  /-- R347: SEARCH admits a query into the search queue. -/
  | dkpSearch (q : DkpReq)
  /-- R348: STAT returns items for its scope. -/
  | dkpStat (q : DkpReq)
  /-- R351: EVENTS mode 0 subscribes the session to the event stream. -/
  | eventsSubscribe (q : DkpReq)
  /-- R353: EVENTS mode 1 reads records from the persistent log. -/
  | eventsReadLog (q : DkpReq)
  /-- R351: EVENTS mode 2 ends the subscription. -/
  | eventsEnd (q : DkpReq)
  /-- R350: ADMIN runs one Ibian line. -/
  | dkpAdmin (q : DkpReq)
  /-- R349: ASSOC sub-op 0 searches the named banks. -/
  | dkpAssocSearch (q : DkpReq)
  /-- R349: ASSOC sub-op 1 steps a cursor. -/
  | dkpAssocStep (q : DkpReq)
  /-- R349: ASSOC sub-op 2 closes a cursor. -/
  | dkpAssocClose (q : DkpReq)
  /-- R349: ASSOC sub-op 3 writes an entry. -/
  | dkpAssocWrite (q : DkpReq)
  /-- R352: Within 10 ms of an event a push is sent to subscribed sessions. -/
  | eventPush (sess : Nat)
  /-- R360: An expired key is removed within 60 s and counted in KV.EXPIRED. -/
  | keyExpiryRemoval (ns : Nat) (key : Text)
  /-- R370: A snapshot ends on idle, route close, the 65th snapshot or low free space. -/
  | snapshotEnd (token : Nat) (space : Bool)
  /-- R373: Dirty data is programmed in store-position order and pending write-through acknowledgements are sent. -/
  | dirtyDataProgrammed (n : Nat)
  /-- R380: A partly stale block's live data is relocated and the block erased. -/
  | garbageCollection (moved : Nat) (free : Nat)
  /-- R511: KV.GET returns value bytes. -/
  | kvGet (l : Line)
  /-- R511: KV.SCAN returns keys from a snapshot. -/
  | kvScan (l : Line)
  /-- R511: KV.STAT returns namespace counts. -/
  | kvStat (l : Line)
  /-- R511: KV.PUT writes a value. -/
  | kvPut (l : Line)
  /-- R511: KV.CAS writes or deletes if the version matches. -/
  | kvCas (l : Line)
  /-- R511: KV.DEL deletes a key. -/
  | kvDel (l : Line)
  /-- R375: KV.SYNC replies once all earlier writes are programmed. -/
  | kvSync (l : Line)
  /-- R384: KV.NS reads or writes a namespace's action word and attributes. -/
  | kvNs (l : Line)
  /-- R386: COLL.CREATE creates a collection. -/
  | collCreate (l : Line)
  /-- R388: COLL.DROP starts dropping a collection in the background. -/
  | collDrop (l : Line)
  /-- R388: A drop finishes freeing the collection's resources. -/
  | collDropComplete (coll : Nat)
  /-- R406: COLL.SET changes max chunks. -/
  | collSet (l : Line)
  /-- R411: COLL.SHOW returns one collection's fields. -/
  | collShow (l : Line)
  /-- R512: COLL.LIST lists collections. -/
  | collList (l : Line)
  /-- R402: MAINT.MERGE starts or queues a merge. -/
  | maintMerge (l : Line)
  /-- R402: A queued merge starts, fixing g and M. -/
  | mergeStart (coll : Nat)
  /-- R402: A merge finishes building and programming a chunk, ready for switch. -/
  | chunkProgrammed (coll : Nat)
  /-- R408: MAINT.RELOAD retries reload of an offline collection. -/
  | maintReload (l : Line)
  /-- R408: MAINT.REBUILD queues a Dusk rebuild of failed chunks. -/
  | maintRebuild (l : Line)
  /-- R407: In Dusk a rebuild re-sketches and rewrites a collection. -/
  | rebuildJob (job : Nat)
  /-- R512: MAINT.JOBS lists Dusk jobs. -/
  | maintJobs (l : Line)
  /-- R418: A forming batch reaches 256 queries or its window w expires. -/
  | batchReady (coll : Nat) (exact : Bool)
  /-- R419: A batch ends and the next starts, publishing P and applying switches. -/
  | batchBoundary
  /-- R419: Every 1 ms with no batch sweeping the device makes a boundary. -/
  | idleBoundary
  /-- R424: A pass and its global merge complete and candidates go to re-rank. -/
  | sweepPassEnd
  /-- R432: A candidate's slot record arrives and its exact distance is computed. -/
  | rerankFetchComplete (f : Fetch)
  /-- R433: A query's re-rank ends and its results are returned. -/
  | queryComplete (q : Nat)
  /-- R421: An exact batch finishes reading every slot record. -/
  | exactBatchComplete
  /-- R429: The context engine drains, moves the partition and raises EV 0x313. -/
  | walkCtxDrainComplete
  /-- R437: A watch's period expires and a run is queued or skipped. -/
  | watchPeriod (n : Nat)
  /-- R439: A watch run completes and sets or clears novelty. -/
  | watchRunComplete (n : Nat)
  /-- R445: SRCH.NEAR searches with the vector taken from a key. -/
  | srchNear (l : Line)
  /-- R436: SRCH.WATCH defines or replaces a watch. -/
  | srchWatch (l : Line)
  /-- R436: SRCH.UNWATCH removes a watch. -/
  | srchUnwatch (l : Line)
  /-- R445: SRCH.WATCHES lists the watches. -/
  | srchWatches (l : Line)
  /-- R440: SRCH.RECALL starts a recall job. -/
  | srchRecall (l : Line)
  /-- R441: A recall job completes, raising EV 0x314 and setting SWEEP.RECALL_PPM. -/
  | recallJobComplete
  /-- R441: SRCH.RESULT returns a recall job's result. -/
  | srchResult (l : Line)
  /-- R450: ASSOC.SEARCH searches the named banks. -/
  | assocSearch (l : Line)
  /-- R460: ASSOC.STEP returns the next match of a cursor. -/
  | assocStep (l : Line)
  /-- R461: ASSOC.CLOSE closes a cursor. -/
  | assocClose (l : Line)
  /-- R462: ASSOC.WRITE sets or invalidates an entry. -/
  | assocWrite (l : Line)
  /-- R468: ASSOC.READ returns an entry's shadow copy. -/
  | assocRead (l : Line)
  /-- R468: ASSOC.SHOW returns bank power, widths and policy state. -/
  | assocShow (l : Line)
  /-- R468: CASC.SHOW returns cascade membership. -/
  | cascShow (l : Line)
  /-- R463: A write of ASSOC.POLICY_BANKS flips the active set and raises EV 0x340. -/
  | policyBanksWrite (route : Route) (v : Nat)
  /-- R449: A write of ASSOC.BANK_ON powers user banks on or off. -/
  | bankOnWrite (route : Route) (v : Nat)
  /-- R448: A write of ASSOC.DW changes pair widths. -/
  | dwWrite (route : Route) (v : Nat)
  /-- R466: Banks 0–3 reload from namespace 0 after a suspect policy entry. -/
  | policyReloadComplete
  /-- R457: GOV.SCRUB_MS elapses and a scrub pass begins. -/
  | scrubPassDue
  /-- R457: A scrub pass completes its comparison and repairs. -/
  | scrubPassComplete
  /-- R461: A cursor with no step for ASSOC.CURSOR_MS is closed. -/
  | cursorIdleTimeout (cur : Nat)
  /-- R471: In its slot a member sends a frame or idle header, and members track the frame. -/
  | cascadeSlot (f : CascSlot)
  /-- R473: A cascade frame resolves and the originator returns the result. -/
  | cascadeFrameResult (r : CascResult)
  /-- R476: No header in a position's slot for 2 rotations; it becomes absent. -/
  | cascadeMemberAbsent (p : Nat)
  /-- R476: 16 rotations with a header make a position present again. -/
  | cascadeMemberPresent (p : Nat)
  /-- R498: EVT.SHOW returns event configuration and state. -/
  | evtShow (l : Line)
  /-- R498: EVT.LIST returns set latches. -/
  | evtList (l : Line)
  /-- R498: EVT.SET writes masks and log bits. -/
  | evtSet (l : Line)
  /-- R486: EVT.CLEAR clears latches, and counters with counters=1. -/
  | evtClear (l : Line)
  /-- R493: EVT.GPIO assigns a GPIO pin to an event. -/
  | evtGpio (l : Line)
  /-- R497: EVT.LOG returns log records as notice text. -/
  | evtLog (l : Line)
  /-- R517: EVT.INJECT raises a named event once with test=1. -/
  | evtInject (l : Line)
  /-- R486: A write of 1 to bit 8 of EVT.En clears the latch. -/
  | eventLatchClearWrite (route : Route) (id : Nat)
  /-- R493: EVT.GPIOk_MS passes and a pulsed pin goes inactive. -/
  | gpioPulseEnd (k : Nat)
  /-- R496: Staged log records are programmed within 1 s. -/
  | logProgram
  /-- R519: REG.READ returns a field by name or address. -/
  | regRead (l : Line)
  /-- R510: REG.DUMP returns a span of words or refuses it whole. -/
  | regDump (l : Line)
  /-- R521: REG.WRITE writes a register without its own row, applying or staging it. -/
  | regWrite (l : Line)
  /-- R507: CFG.SHOW lists the staged set. -/
  | cfgShow (l : Line)
  /-- R509: CFG.COMMIT applies the staged set now, after a drain, or in Dusk. -/
  | cfgCommit (l : Line)
  /-- R507: CFG.DISCARD empties the staged set. -/
  | cfgDiscard (l : Line)
  /-- R526: At an epoch boundary a committed set of class E fields takes effect. -/
  | epochBoundaryApply
  /-- R529: After the context drain, the set applies at the next boundary and EV 0x313 is raised. -/
  | drainCommitApply
  /-- R530: A Dusk commit job checks, stores and applies its set. -/
  | duskCommitJob (job : Nat)
  /-- R507: GOV.SHOW returns Almanac state. -/
  | govShow (l : Line)
  /-- R507: GOV.PIN writes a pin bit and its pinned value. -/
  | govPin (l : Line)
  /-- R408: The background NAND reload started by MAINT.RELOAD finishes, and the offline collection comes online with EV 0x243 or stays offline with EV 0x244. -/
  | collectionReloadComplete (coll : Nat) (failed : List ReloadFault)
  /-- R279: An INDEX or META structure hit by an uncorrectable DRAM error finishes its rebuild from NAND and requests that need it stop receiving 202 BUSY with bound 9. -/
  | dramStructureRebuilt (region : Nat)
  /-- R303: The ARP probe or duplicate address detection for an address finishes without conflict and the port takes the address, raising the address-taken event. -/
  | addressProbeComplete (port : Nat) (v6 : Bool)
  /-- R213: A received HART frame fails parity or checksum, HART.FRAME_ERRORS increases and EV 0x3B2 may be raised. -/
  | hartFrameError
  /-- R157: A bridge frame arrives failing its check, for example after a transient beyond the immunity limit, and EV 0x38C counts it. -/
  | bridgeFrameCheckFail
  /-- R252: The TRNG health tests pass again, VAULT.TRNG_OK returns to 1 and operations needing fresh randomness stop returning 303 INTERNAL. -/
  | trngHealthRecovered
  /-- R253: An alarm source stops detecting, such as a mesh made whole, TAMPER_N back high or VDDIO_B restored, and its ALM.SRC_NOW bit clears. -/
  | alarmSourceCleared (src : Nat)
  deriving DecidableEq, Repr

end Sys2Proof
end

