-- ==== Sys2Proof/Config.lean ====
section
/-! DEFINITION. What the spec leaves open: free values with no body, and the named functions of other standards
that the spec uses by name. No statement can rest on a value of any of them. -/

namespace Sys2Proof.Config

/-- The n-th free value of a run (log entry 3): an estimate, an unspecified field, a choice the spec leaves to the
device. The step that uses it advances the counter of State. -/
opaque freeNat : Nat → Nat

/-- A value the spec leaves open that depends on what it is and on its argument alone (log entry 3): 0 what a field reads
whose quantity is wider than it; 1 the classification of a HART device variable; 2 the transducer serial number;
3 the family of a device variable; 4 its update period; 5 the remaining bytes of a HART response;
6 the response code of a HART command for a status that the spec gives none; 7 the number of keys in namespace 0. -/
opaque unstated : Nat → Nat → Nat

/-- The digests of SHA-384 and HMAC-SHA-256 as numbers (log entry 4). -/
opaque sha384Digest : Text → BitVec 384
opaque hmacDigest : Text → Text → BitVec 256

/-- SHA-384 of a message: 48 bytes. -/
def sha384 (m : Text) : Text := beBytes 48 (sha384Digest m).toNat

/-- HMAC-SHA-256 of a key and a message (R119): 32 bytes. -/
def hmacSha256 (k m : Text) : Text := beBytes 32 (hmacDigest k m).toNat

/-- Whether r‖s is an ECDSA P-384 signature of a message under x‖y (R222, R243). -/
opaque ecdsaP384 : Text → Text → Text → Bool

/-- Certificates (R312–R314, R515; log entry 4): whether bytes are an X.509 v3 certificate with a P-384 key, the key it
holds, the public half of the n-th identity key, and the PKCS#10 request of that key for a commonName. -/
opaque certOk : Text → Bool
opaque certKeyBits : Text → BitVec 768
opaque identityPubBits : Nat → BitVec 768
opaque csrBytes : Nat → Text → List (BitVec 8)
def certKey (cert : Text) : Text := beBytes 96 (certKeyBits cert).toNat
def identityPub (n : Nat) : Text := beBytes 96 (identityPubBits n).toNat
def csr (n : Nat) (cn : Text) : Text := (csrBytes n cn).map BitVec.toNat

/-- The private half of the n-th identity key (48 bytes), the key of the PIN verifier, and the 64 bytes of fresh randomness
that a data key takes at its place of a run (R247, R252; log entry 115). -/
opaque identityPrivBits : Nat → BitVec 384
opaque pinKeyBits : BitVec 256
opaque freeKeyBits : Nat → BitVec 512
def identityPriv (n : Nat) : Text := beBytes 48 (identityPrivBits n).toNat
def pinKey : Text := beBytes 32 pinKeyBits.toNat
def freeKey (n : Nat) : Text := beBytes 64 (freeKeyBits n).toNat

/-- The binder of a PSK for a ClientHello of a given hash, under SHA-384 or SHA-256 (R311, R317): 48 or 32 bytes. -/
opaque pskBinderDigest : Bool → Text → Text → BitVec 384
def pskBinder (long : Bool) (key hash : Text) : Text :=
  beBytes (if long then 48 else 32) (pskBinderDigest long key hash).toNat

/-- Transcendental functions of the calibration and damping formulas on binary32 numbers: the spec gives the
formula and not the rounding (log entry 5). Angles are in degrees; `f32Atan2 y x`. -/
opaque f32ExpBits : F32 → BitVec 32
opaque f32Atan2Bits : F32 → F32 → BitVec 32
opaque f32SinBits : F32 → BitVec 32
opaque f32CosBits : F32 → BitVec 32
def f32Exp (x : F32) : F32 := (f32ExpBits x).toNat
def f32Atan2 (y x : F32) : F32 := (f32Atan2Bits y x).toNat
def f32Sin (x : F32) : F32 := (f32SinBits x).toNat
def f32Cos (x : F32) : F32 := (f32CosBits x).toNat

end Sys2Proof.Config
end

