-- ==== Sys2Proof/Machine/Params.lean ====
section
/-! DEFINITION. The register fields of the parameter tables of spec/ (Tables 2.3, 3.6, 4.7, 5.6,
6.6, 7.6, 8.2, 9.9, 10.12, 11.9, 12.7, 13.7, 14.8, 15.3, 16.5, 17.5, 18.6, 19.7 and 21.6; R518–R520):
one constructor per field or family of fields, and its row as data. A field family is indexed; a field that
spans several words is indexed by word as well. -/

namespace Sys2Proof.Machine

/-- The access codes of Table 21.2 (R520). -/
inductive Access where | RO | RW | WO | W1C | RS
  deriving DecidableEq, Repr

/-- The apply classes of R525–R527; `none` for a field no write reaches. -/
inductive Apply where | none | I | E | Q
  deriving DecidableEq, Repr

/-- The register blocks of Table 21.1 (R518). -/
inductive Block where
  | SYS | PWR | CLK | BOOT | LC | VAULT | ALM | EVT | LINE | NET | DKP | KV | DRAM | FLASH | COLL | SWEEP | RRK
  | ASSOC | CASC | ISL | FE | CAL | HART | GOV
  deriving DecidableEq, Repr

/-- One constructor per row of the parameter tables. -/
inductive Param where
  | CLK_BEAT_LO | CLK_BEAT_HI | CLK_TAI_LO | CLK_TAI_HI | CLK_TIME_STATE | CLK_TAI_VALID | CLK_CASC_LOCK 
  | CLK_OFFSET_NS | CLK_PTP_EN | CLK_PTP_DOMAIN | CLK_SLEW_MAX | CLK_STEP_LIM | CLK_ASYM_NS | CLK_TAI_SET_LO 
  | CLK_TAI_SET_HI | CLK_TAI_INVALIDATE | CLK_HOLD_S | PWR_DOMAIN_ON | PWR_DOMAIN_RET | PWR_PG_STATE 
  | PWR_EN_STATE | PWR_PG_TIMEOUT_MS | PWR_PF_DEBOUNCE_MS | PWR_PLP_STATUS | PWR_FLUSH_US | PWR_P_CORE_MW 
  | PWR_P_AVG_MW | PWR_TEMP_MAX_C | PWR_TEMP_A | PWR_TEMP_B | PWR_WAKE_EN | PWR_WAKE_AT_LO | PWR_WAKE_AT_HI 
  | PWR_WAKE_CAUSE | PWR_RESET_CAUSE | PWR_PG_FAILS | GOV_MODE_NOW | GOV_THROTTLE | GOV_PCAP_MW 
  | GOV_TEMP_HI_C | GOV_MODE_MIN | GOV_MODE_MAX | GOV_PIN_MODE | GOV_UP_QDEPTH | GOV_DOWN_UTIL_PCT 
  | GOV_DWELL_MS | GOV_BATCH_MIN_US | GOV_BATCH_MAX_US | GOV_LAT_TARGET_US | GOV_MERGE_IDLE_PCT 
  | GOV_MERGE_MIN_FILL_PCT | GOV_MERGE_CONC | GOV_GC_LO_PCT | GOV_GC_HI_PCT | GOV_PIN_GC_PCT 
  | GOV_DIRTY_MAX_MIB | GOV_SCRUB_MIN_MS | GOV_SCRUB_MAX_MS | GOV_PIN_SCRUB_MS | GOV_PIN | GOV_DRAIN_MAX_MS 
  | GOV_WINDOW_US | GOV_DIRTY_LIMIT_KIB | GOV_DIRTY_NOW_KIB | GOV_PLP_BW | GOV_GC_SHARE_PCT | GOV_SCRUB_MS 
  | GOV_LAST_REASON | LINE_ADDR | LINE_ADDR_LOCK | LINE_STRICT | LINE_ECHO | LINE_NOTICE_RING | LINE_BAUD 
  | LINE_REVERT_S | LINE_IDLE_S | LINE_LEVEL | LINE_FAILS | LINE_LOCK_S | LINE_RING_STATE | LINE_RX_ERRORS 
  | LINE_CSUM_ERRORS | LINE_UNIT_ID_LO | LINE_UNIT_ID_HI | LINE_TLS_CONN | ISL_LINK | ISL_LINK_LOSSES 
  | ISL_SUPPLY | ISL_LOOP_OK | ISL_WP | ISL_CFG_VALID | ISL_FAIL_ACTIVE | ISL_PHASE_LOCK | ISL_FAIL_CAUSE 
  | ISL_OSC_TRIM | ISL_DRAW_UA | ISL_LOOP_SET_UA | ISL_LOOP_MEAS_UA | ISL_PV | ISL_PV_STATUS | ISL_PV_SRC 
  | ISL_FAIL_DIR | ISL_UNITS | ISL_LRV | ISL_URV | ISL_DAMP_MS | ISL_HOLD_MAX_MS | ISL_MAIN_TIMEOUT_MS 
  | ISL_MAIN_PV | ISL_FIX_UA | ISL_FIX_TIMEOUT_S | ISL_POLL_ADDR | ISL_LOOP_CUR_EN | ISL_REC_DIV 
  | ISL_REC_TTL_S | ISL_CC | ISL_MTP_COMMITS | ISL_BUF_FILL | ISL_SEQ | ISL_BF_LOST | ISL_BF_OVERLAP 
  | FE_EXC_FREQ | FE_EXC_MV | FE_PV_CH | FE_PV_MODE | FE_PV_GAIN | FE_AUX_EN | FE_AUX_CH | FE_AUX_MODE 
  | FE_AUX_GAIN | FE_RATE | FE_FILT | FE_IIR_MS | FE_BO_NA | FE_FAULT_ACT | FE_FAULT_N | FE_LVDT_MIN_PCT 
  | FE_BO_LIM_MV | FE_EXC_IMIN_UA | FE_CM_LO_MV | FE_CM_HI_MV | FE_RESULT | FE_RESULT_Q | FE_AUX_RESULT 
  | FE_EXC_UA | FE_EXC_NOW_MV | FE_STATUS | FE_SETTLE_MS | FE_S | FE_DC_DIFF_MV | FE_CM_MV | CAL_U_SPAN 
  | CAL_U_OFS | CAL_U_ZERO_RAW | CAL_U_ZERO_PT | CAL_U_PH_A | CAL_U_PH_B | CAL_LU_GAIN | CAL_LU_OFS 
  | CAL_FORCED | CAL_SAVED | CAL_F_VALID | CAL_NOM_SPAN | CAL_STAB_LIM | CAL_LOOP_STAB_UA | CAL_SC_MODE 
  | CAL_SC_N | CAL_SC_GAIN | CAL_SC_OFS | CAL_SC_TABLE | CAL_R_FACT | CAL_R_USER | CAL_R_AUX | CAL_LOOP_M4_UA 
  | CAL_LOOP_M20_UA | CAL_F_OFS | CAL_F_GAIN | CAL_F_LGAIN | CAL_F_LOFS | CAL_MON_T_OFS_A | CAL_MON_T_OFS_B 
  | CAL_MON_P_GAIN | HART_DEV_ID | HART_PREAMBLES | HART_OWNER_EN | HART_BURST_EN | HART_BURST_CMD 
  | HART_BURST_PERIOD_MS | HART_NOVELTY | HART_MASTERS | HART_FRAME_ERRORS | HART_TAG | HART_DESCRIPTOR 
  | HART_DATE | HART_FAN | HART_MESSAGE | HART_LONG_TAG | BOOT_RUN_SLOT | BOOT_ACTIVE | BOOT_XSPI_MODE 
  | BOOT_LAST_END | BOOT_FLAG_SEQ | BOOT_RUN_SVN | BOOT_FUSE_SVN | BOOT_SIGNERS | BOOT_RUN_VER_LO 
  | BOOT_RUN_VER_HI | BOOT_ATTEMPTS | BOOT_NOR_MIB | BOOT_SLOT_CODE | BOOT_UPD_STATE | BOOT_UPD_NEXT 
  | BOOT_TRACE_IDX | BOOT_TRACE | LC_STATE | LC_DEBUG | LC_FUSES | LC_SEED_REVOKED | LC_SEED_COMM 
  | LC_SEED_ACTIVE | LC_OWNER_SET | LC_DBG_HASH | LC_AUTH | VAULT_ATTR | VAULT_LOCK_USE | VAULT_LOCK_CHANGE 
  | VAULT_TRNG_OK | ALM_LATCH | ALM_SRC_NOW | ALM_CLASS | ALM_MESH_EN | ALM_CASE_MS | ALM_T_LO_C | ALM_T_HI_C 
  | ALM_AUTH_N | ALM_AUTH_WIN_S | ALM_AUTH_COUNT | ALM_ERASE_US | DRAM_CAP_GIB | DRAM_RATE | DRAM_LINK_ECC 
  | DRAM_TRAIN_MS | DRAM_INDEX_GIB | DRAM_META_GIB | DRAM_SKETCH_GIB | DRAM_ECC_SKETCH | DRAM_ECC_CACHE 
  | DRAM_CACHE_GIB | DRAM_DIRTY_GIB | DRAM_INDEX_KEYS | DRAM_CE_COUNT | DRAM_UE_COUNT | DRAM_PATROL_H 
  | FLASH_HOLDUP_MS | FLASH_RATE | FLASH_OP_PCT | FLASH_REFRESH_BITS | FLASH_CKPT_S | FLASH_CH_IN_SERVICE 
  | FLASH_TARGETS | FLASH_RAW_GIB | FLASH_USER_GIB | FLASH_BAD_FACTORY | FLASH_BAD_GROWN | FLASH_PLP_MIB 
  | FLASH_SUNRISE_STAGE | FLASH_SUNRISE_MS | NET_P_SPEED | NET_P_FEC | NET_P_EN | NET_P_LINK | NET_P_VLAN 
  | NET_P_PCP | NET_P_MTU | NET_P_V4_MODE | NET_P_V6_MODE | NET_P_PTP | NET_P_V4_ADDR | NET_P_V4_PREFIX 
  | NET_P_V4_GW | NET_P_V4_NOW | NET_P_V4_LEASE_S | NET_P_V6_ADDR | NET_P_V6_PREFIX | NET_P_V6_NOW 
  | NET_P_MAC_LO | NET_P_MAC_HI | NET_P_RX_DROPS | NET_P_RX_ERRORS | NET_P_FEC_UNCORR | NET_P_PAUSE_MS 
  | NET_DKP_PORT | NET_CMD_PORT | NET_HS_RATE | NET_HS_BURST | NET_HS_TIMEOUT_MS | NET_IDLE_S 
  | NET_LINK_HOLD_S | NET_SUITE_MIN | NET_CERT_TIME | NET_SESS_OPEN | NET_SESS_HS | NET_UTC_OFS_S 
  | NET_ID_STATE | NET_NOSESS_DROPS | NET_REPLAY_DROPS | NET_AUTH_DROPS | NET_PTP_BAD | DKP_RTO_MS 
  | DKP_RETX_MAX | DKP_ACK_EVERY | DKP_REASM_MS | DKP_TOKENS | DKP_BUSY | DKP_REPLAY_HITS | DKP_STALE_IDS 
  | DKP_REASM_DROPS | DKP_BAD_SEG | DKP_RETX_ABANDON | DKP_EVT_LOST | KV_STATE | KV_KEYS_LO | KV_KEYS_HI 
  | KV_USER_MIB | KV_FROZEN | KV_EXPIRED | KV_SNAP_OPEN | KV_SNAP_S | KV_WL_DELTA | KV_ENDURANCE 
  | KV_ERASE_MEAN | KV_ERASE_MAX | KV_WEAR_PCT | KV_WAF_X100 | KV_RING_ROLES | KV_RET_S | KV_NS_ACT_LO 
  | KV_NS_ACT_HI | KV_NS_ATTR | KV_NS_KEYS | COLL_C_STATE | COLL_C_FMT | COLL_C_WCODE | COLL_C_TAGGED 
  | COLL_C_SRC | COLL_C_NS | COLL_C_D | COLL_C_SEED_LO | COLL_C_SEED_HI | COLL_C_MAX_CHUNKS | COLL_C_CHUNKS 
  | COLL_C_GEN | COLL_C_MAIN_LO | COLL_C_MAIN_HI | COLL_C_SIDE | COLL_C_PUB_SEQ | COLL_C_MERGE_CHUNK 
  | COLL_C_NAME | COLL_FREE_CHUNKS | COLL_RESERVED_MIB | SWEEP_LANES_ON | SWEEP_QUEUE | SWEEP_BATCH_NUM 
  | SWEEP_LAST_N | SWEEP_LAST_WAIT_US | SWEEP_LAST_PASS_US | SWEEP_UTIL_PCT | SWEEP_OTHER_PCT | SWEEP_QUERIES 
  | SWEEP_C_CUT | SWEEP_DEGRADED | SWEEP_EXACT_RUN | SWEEP_RECALL_JOB | SWEEP_RECALL_PPM | SWEEP_W_CFG 
  | SWEEP_W_NS | SWEEP_W_C | SWEEP_W_PERIOD_MS | SWEEP_W_THR | SWEEP_W_KEYLEN | SWEEP_W_LAST_DIST 
  | SWEEP_W_STATE | SWEEP_W_SKIPS | SWEEP_W_RUNS | RRK_WALK_CTX | RRK_WALK_BUSY | RRK_RR_BUSY 
  | RRK_CACHE_HITS | RRK_CACHE_MISSES | RRK_DROPPED_DEL | RRK_REPLACED | RRK_UNIT_PCT | ASSOC_POLICY_BANKS 
  | ASSOC_BANK_ON | ASSOC_DW | ASSOC_CURSOR_MS | ASSOC_CURSORS | ASSOC_SEARCHES | ASSOC_CLASSIFY 
  | ASSOC_FALSE_HITS | ASSOC_SUSPECT | ASSOC_SCRUB_FIXES | ASSOC_SCRUB_PASSES | ASSOC_SHADOW_CE 
  | ASSOC_POLICY_STATE | ASSOC_B_ROLES | ASSOC_B_VALID | CASC_POS | CASC_SIZE | CASC_MISMATCH | CASC_PRESENT 
  | CASC_WITHDRAWN | CASC_COVERED | CASC_FRAMES | CASC_RETRIES | EVT_ALERT | EVT_ALERT_FIRST | EVT_LOG_SEQ_LO 
  | EVT_LOG_SEQ_HI | EVT_LOG_OLD_LO | EVT_LOG_OLD_HI | EVT_LOG_LOST | EVT_LOG_RATE | EVT_GPIO_EV 
  | EVT_GPIO_ON | EVT_GPIO_LOW | EVT_GPIO_PULSE | EVT_GPIO_MS | EVT_LATCH_SUM | EVT_E | SYS_VARIANT 
  | SYS_PROFILE | SYS_REV | SYS_PART | SYS_DENIED | SYS_DENIED_ADDR | SYS_COMMITS | SYS_PENDING_DUSK 
  deriving DecidableEq, Repr

/-- A row of a parameter table: `name` with `#` where the index stands, the address of the first instance,
the step between instances, how many there are, the words of one instance, the number of the first instance,
the bits, the Reset column (R535), the access and apply codes, the range of legal values, and the marks of the
Meaning column. -/
structure PInfo where
  name : String
  blk : Block
  base : Nat
  stride : Nat
  count : Nat
  words : Nat
  idx0 : Nat
  hi : Nat
  lo : Nat
  reset : Nat
  acc : Access
  app : Apply
  rmin : Nat
  rmax : Nat
  ns0 : Bool
  kept : Bool
  mtp : Bool
  core : Bool
  owner : Bool
  signed : Bool
  resets : Bool
  deriving DecidableEq, Repr

/-- The rows of the parameter tables (R42, R66, R127, R181, R265, R355, R538). -/
def Param.info : Param → PInfo
  | .CLK_BEAT_LO => ⟨"CLK.BEAT_LO", .CLK, 0x20000, 0, 1, 1, 0, 31, 0, 0, .RO, .none, 0, 0xffffffff, false, false, false, false, false, false, false⟩
  | .CLK_BEAT_HI => ⟨"CLK.BEAT_HI", .CLK, 0x20004, 0, 1, 1, 0, 31, 0, 0, .RO, .none, 0, 0xffffffff, false, false, false, false, false, false, false⟩
  | .CLK_TAI_LO => ⟨"CLK.TAI_LO", .CLK, 0x20008, 0, 1, 1, 0, 31, 0, 0, .RO, .none, 0, 0xffffffff, false, true, false, false, false, false, false⟩
  | .CLK_TAI_HI => ⟨"CLK.TAI_HI", .CLK, 0x2000c, 0, 1, 1, 0, 31, 0, 0, .RO, .none, 0, 0xffffffff, false, true, false, false, false, false, false⟩
  | .CLK_TIME_STATE => ⟨"CLK.TIME_STATE", .CLK, 0x20010, 0, 1, 1, 0, 1, 0, 0, .RO, .none, 0, 3, false, false, false, false, false, false, false⟩
  | .CLK_TAI_VALID => ⟨"CLK.TAI_VALID", .CLK, 0x20010, 0, 1, 1, 0, 2, 2, 0, .RO, .none, 0, 1, false, true, false, false, false, false, false⟩
  | .CLK_CASC_LOCK => ⟨"CLK.CASC_LOCK", .CLK, 0x20010, 0, 1, 1, 0, 3, 3, 0, .RO, .none, 0, 1, false, false, false, false, false, false, false⟩
  | .CLK_OFFSET_NS => ⟨"CLK.OFFSET_NS", .CLK, 0x20014, 0, 1, 1, 0, 31, 0, 0, .RO, .none, 0, 0xffffffff, false, false, false, false, false, true, false⟩
  | .CLK_PTP_EN => ⟨"CLK.PTP_EN", .CLK, 0x20018, 0, 1, 1, 0, 0, 0, 1, .RW, .E, 0, 1, false, false, false, false, false, false, false⟩
  | .CLK_PTP_DOMAIN => ⟨"CLK.PTP_DOMAIN", .CLK, 0x20018, 0, 1, 1, 0, 15, 8, 0, .RW, .E, 0, 255, false, false, false, false, false, false, false⟩
  | .CLK_SLEW_MAX => ⟨"CLK.SLEW_MAX", .CLK, 0x2001c, 0, 1, 1, 0, 15, 0, 200, .RW, .I, 10, 1000, false, false, false, false, false, false, false⟩
  | .CLK_STEP_LIM => ⟨"CLK.STEP_LIM", .CLK, 0x20020, 0, 1, 1, 0, 31, 0, 1000, .RW, .I, 1, 0x36ee80, false, false, false, false, false, false, false⟩
  | .CLK_ASYM_NS => ⟨"CLK.ASYM_NS", .CLK, 0x20024, 0, 1, 1, 0, 31, 0, 0, .RW, .E, 0, 0xffffffff, false, false, false, false, false, true, false⟩
  | .CLK_TAI_SET_LO => ⟨"CLK.TAI_SET_LO", .CLK, 0x20028, 0, 1, 1, 0, 31, 0, 0, .WO, .I, 0, 0xffffffff, false, false, false, false, false, false, false⟩
  | .CLK_TAI_SET_HI => ⟨"CLK.TAI_SET_HI", .CLK, 0x2002c, 0, 1, 1, 0, 31, 0, 0, .WO, .I, 0, 0xffffffff, false, false, false, false, false, false, false⟩
  | .CLK_TAI_INVALIDATE => ⟨"CLK.TAI_INVALIDATE", .CLK, 0x20030, 0, 1, 1, 0, 0, 0, 0, .WO, .I, 0, 1, false, false, false, false, false, false, false⟩
  | .CLK_HOLD_S => ⟨"CLK.HOLD_S", .CLK, 0x20034, 0, 1, 1, 0, 31, 0, 0, .RO, .none, 0, 0xffffffff, false, false, false, false, false, false, false⟩
  | .PWR_DOMAIN_ON => ⟨"PWR.DOMAIN_ON", .PWR, 0x10000, 0, 1, 1, 0, 11, 0, 1, .RO, .none, 0, 4095, false, false, false, false, false, false, false⟩
  | .PWR_DOMAIN_RET => ⟨"PWR.DOMAIN_RET", .PWR, 0x10004, 0, 1, 1, 0, 11, 0, 0, .RO, .none, 0, 4095, false, false, false, false, false, false, false⟩
  | .PWR_PG_STATE => ⟨"PWR.PG_STATE", .PWR, 0x10008, 0, 1, 1, 0, 5, 0, 0, .RO, .none, 0, 63, false, false, false, false, false, false, false⟩
  | .PWR_EN_STATE => ⟨"PWR.EN_STATE", .PWR, 0x10008, 0, 1, 1, 0, 13, 8, 0, .RO, .none, 0, 63, false, false, false, false, false, false, false⟩
  | .PWR_PG_TIMEOUT_MS => ⟨"PWR.PG_TIMEOUT_MS", .PWR, 0x1000c, 0, 1, 1, 0, 7, 0, 20, .RW, .I, 1, 250, false, false, false, false, false, false, false⟩
  | .PWR_PF_DEBOUNCE_MS => ⟨"PWR.PF_DEBOUNCE_MS", .PWR, 0x10010, 0, 1, 1, 0, 15, 0, 100, .RW, .I, 10, 60000, false, false, false, false, false, false, false⟩
  | .PWR_PLP_STATUS => ⟨"PWR.PLP_STATUS", .PWR, 0x10014, 0, 1, 1, 0, 1, 0, 0, .RO, .none, 0, 3, false, true, false, false, false, false, false⟩
  | .PWR_FLUSH_US => ⟨"PWR.FLUSH_US", .PWR, 0x10018, 0, 1, 1, 0, 31, 0, 0, .RO, .none, 0, 0xffffffff, false, true, false, false, false, false, false⟩
  | .PWR_P_CORE_MW => ⟨"PWR.P_CORE_MW", .PWR, 0x1001c, 0, 1, 1, 0, 31, 0, 0, .RO, .none, 0, 0xffffffff, false, false, false, false, false, false, false⟩
  | .PWR_P_AVG_MW => ⟨"PWR.P_AVG_MW", .PWR, 0x10020, 0, 1, 1, 0, 31, 0, 0, .RO, .none, 0, 0xffffffff, false, false, false, false, false, false, false⟩
  | .PWR_TEMP_MAX_C => ⟨"PWR.TEMP_MAX_C", .PWR, 0x10024, 0, 1, 1, 0, 7, 0, 0, .RO, .none, 0, 255, false, false, false, false, false, true, false⟩
  | .PWR_TEMP_A => ⟨"PWR.TEMP_A", .PWR, 0x10028, 0, 1, 1, 0, 31, 0, 0, .RO, .none, 0, 0xffffffff, false, false, false, false, false, false, false⟩
  | .PWR_TEMP_B => ⟨"PWR.TEMP_B", .PWR, 0x1002c, 0, 1, 1, 0, 31, 0, 0, .RO, .none, 0, 0xffffffff, false, false, false, false, false, false, false⟩
  | .PWR_WAKE_EN => ⟨"PWR.WAKE_EN", .PWR, 0x10030, 0, 1, 1, 0, 3, 0, 15, .RW, .I, 0, 15, false, true, false, false, false, false, false⟩
  | .PWR_WAKE_AT_LO => ⟨"PWR.WAKE_AT_LO", .PWR, 0x10034, 0, 1, 1, 0, 31, 0, 0, .RW, .I, 0, 0xffffffff, false, true, false, false, false, false, false⟩
  | .PWR_WAKE_AT_HI => ⟨"PWR.WAKE_AT_HI", .PWR, 0x10038, 0, 1, 1, 0, 31, 0, 0, .RW, .I, 0, 0xffffffff, false, true, false, false, false, false, false⟩
  | .PWR_WAKE_CAUSE => ⟨"PWR.WAKE_CAUSE", .PWR, 0x1003c, 0, 1, 1, 0, 3, 0, 0, .RO, .none, 0, 15, false, true, false, false, false, false, false⟩
  | .PWR_RESET_CAUSE => ⟨"PWR.RESET_CAUSE", .PWR, 0x10040, 0, 1, 1, 0, 3, 0, 0, .RO, .none, 0, 15, false, true, false, false, false, false, false⟩
  | .PWR_PG_FAILS => ⟨"PWR.PG_FAILS", .PWR, 0x10044, 0, 1, 1, 0, 15, 0, 0, .RO, .none, 0, 65535, false, true, false, false, false, false, false⟩
  | .GOV_MODE_NOW => ⟨"GOV.MODE_NOW", .GOV, 0x170000, 0, 1, 1, 0, 3, 0, 2, .RO, .none, 0, 15, false, false, false, false, false, false, false⟩
  | .GOV_THROTTLE => ⟨"GOV.THROTTLE", .GOV, 0x170000, 0, 1, 1, 0, 12, 8, 0, .RO, .none, 0, 31, false, false, false, false, false, false, false⟩
  | .GOV_PCAP_MW => ⟨"GOV.PCAP_MW", .GOV, 0x170004, 0, 1, 1, 0, 31, 0, 0xcb20, .RW, .I, 10000, 60000, false, false, false, false, false, false, false⟩
  | .GOV_TEMP_HI_C => ⟨"GOV.TEMP_HI_C", .GOV, 0x170008, 0, 1, 1, 0, 7, 0, 105, .RW, .I, 70, 115, false, false, false, false, false, false, false⟩
  | .GOV_MODE_MIN => ⟨"GOV.MODE_MIN", .GOV, 0x17000c, 0, 1, 1, 0, 3, 0, 4, .RW, .I, 4, 6, false, false, false, false, false, false, false⟩
  | .GOV_MODE_MAX => ⟨"GOV.MODE_MAX", .GOV, 0x17000c, 0, 1, 1, 0, 7, 4, 6, .RW, .I, 4, 6, false, false, false, false, false, false, false⟩
  | .GOV_PIN_MODE => ⟨"GOV.PIN_MODE", .GOV, 0x17000c, 0, 1, 1, 0, 11, 8, 6, .RW, .I, 4, 6, false, false, false, false, false, false, false⟩
  | .GOV_UP_QDEPTH => ⟨"GOV.UP_QDEPTH", .GOV, 0x170010, 0, 1, 1, 0, 11, 0, 64, .RW, .I, 1, 4095, false, false, false, false, false, false, false⟩
  | .GOV_DOWN_UTIL_PCT => ⟨"GOV.DOWN_UTIL_PCT", .GOV, 0x170010, 0, 1, 1, 0, 23, 16, 40, .RW, .I, 5, 90, false, false, false, false, false, false, false⟩
  | .GOV_DWELL_MS => ⟨"GOV.DWELL_MS", .GOV, 0x170014, 0, 1, 1, 0, 15, 0, 2000, .RW, .I, 100, 60000, false, false, false, false, false, false, false⟩
  | .GOV_BATCH_MIN_US => ⟨"GOV.BATCH_MIN_US", .GOV, 0x170018, 0, 1, 1, 0, 15, 0, 0, .RW, .E, 0, 2000, false, false, false, false, false, false, false⟩
  | .GOV_BATCH_MAX_US => ⟨"GOV.BATCH_MAX_US", .GOV, 0x170018, 0, 1, 1, 0, 31, 16, 2000, .RW, .E, 0, 2000, false, false, false, false, false, false, false⟩
  | .GOV_LAT_TARGET_US => ⟨"GOV.LAT_TARGET_US", .GOV, 0x17001c, 0, 1, 1, 0, 31, 0, 0x4e20, .RW, .I, 1000, 0x989680, false, false, false, false, false, false, false⟩
  | .GOV_MERGE_IDLE_PCT => ⟨"GOV.MERGE_IDLE_PCT", .GOV, 0x170020, 0, 1, 1, 0, 7, 0, 20, .RW, .I, 0, 90, false, false, false, false, false, false, false⟩
  | .GOV_MERGE_MIN_FILL_PCT => ⟨"GOV.MERGE_MIN_FILL_PCT", .GOV, 0x170020, 0, 1, 1, 0, 15, 8, 10, .RW, .I, 1, 49, false, false, false, false, false, false, false⟩
  | .GOV_MERGE_CONC => ⟨"GOV.MERGE_CONC", .GOV, 0x170020, 0, 1, 1, 0, 19, 16, 1, .RW, .I, 1, 4, false, false, false, false, false, false, false⟩
  | .GOV_GC_LO_PCT => ⟨"GOV.GC_LO_PCT", .GOV, 0x170024, 0, 1, 1, 0, 7, 0, 2, .RW, .I, 2, 30, false, false, false, false, false, false, false⟩
  | .GOV_GC_HI_PCT => ⟨"GOV.GC_HI_PCT", .GOV, 0x170024, 0, 1, 1, 0, 15, 8, 5, .RW, .I, 3, 40, false, false, false, false, false, false, false⟩
  | .GOV_PIN_GC_PCT => ⟨"GOV.PIN_GC_PCT", .GOV, 0x170024, 0, 1, 1, 0, 23, 16, 50, .RW, .I, 0, 90, false, false, false, false, false, false, false⟩
  | .GOV_DIRTY_MAX_MIB => ⟨"GOV.DIRTY_MAX_MIB", .GOV, 0x170028, 0, 1, 1, 0, 15, 0, 1024, .RW, .I, 0, 4096, false, false, false, false, false, false, false⟩
  | .GOV_SCRUB_MIN_MS => ⟨"GOV.SCRUB_MIN_MS", .GOV, 0x17002c, 0, 1, 1, 0, 15, 0, 10, .RW, .I, 10, 1000, false, false, false, false, false, false, false⟩
  | .GOV_SCRUB_MAX_MS => ⟨"GOV.SCRUB_MAX_MS", .GOV, 0x17002c, 0, 1, 1, 0, 31, 16, 1000, .RW, .I, 10, 1000, false, false, false, false, false, false, false⟩
  | .GOV_PIN_SCRUB_MS => ⟨"GOV.PIN_SCRUB_MS", .GOV, 0x170030, 0, 1, 1, 0, 15, 0, 100, .RW, .I, 10, 1000, false, false, false, false, false, false, false⟩
  | .GOV_PIN => ⟨"GOV.PIN", .GOV, 0x170034, 0, 1, 1, 0, 3, 0, 0, .RW, .I, 0, 15, false, false, false, false, false, false, false⟩
  | .GOV_DRAIN_MAX_MS => ⟨"GOV.DRAIN_MAX_MS", .GOV, 0x170038, 0, 1, 1, 0, 31, 0, 0x2710, .RW, .I, 1000, 0x927c0, false, false, false, false, false, false, false⟩
  | .GOV_WINDOW_US => ⟨"GOV.WINDOW_US", .GOV, 0x170040, 0, 1, 1, 0, 15, 0, 500, .RO, .none, 0, 65535, false, false, false, false, false, false, false⟩
  | .GOV_DIRTY_LIMIT_KIB => ⟨"GOV.DIRTY_LIMIT_KIB", .GOV, 0x170044, 0, 1, 1, 0, 31, 0, 0, .RO, .none, 0, 0xffffffff, false, false, false, false, false, false, false⟩
  | .GOV_DIRTY_NOW_KIB => ⟨"GOV.DIRTY_NOW_KIB", .GOV, 0x170048, 0, 1, 1, 0, 31, 0, 0, .RO, .none, 0, 0xffffffff, false, false, false, false, false, false, false⟩
  | .GOV_PLP_BW => ⟨"GOV.PLP_BW", .GOV, 0x17004c, 0, 1, 1, 0, 15, 0, 0, .RO, .none, 0, 65535, false, false, false, false, false, false, false⟩
  | .GOV_GC_SHARE_PCT => ⟨"GOV.GC_SHARE_PCT", .GOV, 0x170050, 0, 1, 1, 0, 7, 0, 0, .RO, .none, 0, 255, false, false, false, false, false, false, false⟩
  | .GOV_SCRUB_MS => ⟨"GOV.SCRUB_MS", .GOV, 0x170050, 0, 1, 1, 0, 31, 16, 100, .RO, .none, 0, 65535, false, false, false, false, false, false, false⟩
  | .GOV_LAST_REASON => ⟨"GOV.LAST_REASON", .GOV, 0x170054, 0, 1, 1, 0, 7, 0, 0, .RO, .none, 0, 255, false, false, false, false, false, false, false⟩
  | .LINE_ADDR => ⟨"LINE.ADDR", .LINE, 0x80000, 0, 1, 1, 0, 5, 0, 0, .RO, .none, 0, 63, false, true, false, false, false, false, false⟩
  | .LINE_ADDR_LOCK => ⟨"LINE.ADDR_LOCK", .LINE, 0x80000, 0, 1, 1, 0, 8, 8, 0, .RW, .I, 0, 1, false, true, false, false, true, false, false⟩
  | .LINE_STRICT => ⟨"LINE.STRICT", .LINE, 0x80004, 0, 1, 1, 0, 0, 0, 0, .RW, .I, 0, 1, false, true, false, false, true, false, false⟩
  | .LINE_ECHO => ⟨"LINE.ECHO", .LINE, 0x80004, 0, 1, 1, 0, 1, 1, 1, .RW, .I, 0, 1, false, true, false, false, false, false, false⟩
  | .LINE_NOTICE_RING => ⟨"LINE.NOTICE_RING", .LINE, 0x80004, 0, 1, 1, 0, 2, 2, 1, .RW, .I, 0, 1, false, true, false, false, false, false, false⟩
  | .LINE_BAUD => ⟨"LINE.BAUD", .LINE, 0x80008, 0, 1, 1, 0, 31, 0, 0x1c200, .RO, .none, 0, 0xffffffff, false, true, false, false, false, false, false⟩
  | .LINE_REVERT_S => ⟨"LINE.REVERT_S", .LINE, 0x8000c, 0, 1, 1, 0, 15, 0, 60, .RW, .I, 10, 3600, false, true, false, false, false, false, false⟩
  | .LINE_IDLE_S => ⟨"LINE.IDLE_S", .LINE, 0x80010, 0, 1, 1, 0, 15, 0, 900, .RW, .I, 30, 65535, false, true, false, false, false, false, false⟩
  | .LINE_LEVEL => ⟨"LINE.LEVEL", .LINE, 0x80014, 0, 1, 1, 0, 1, 0, 0, .RO, .none, 0, 3, false, false, false, false, false, false, false⟩
  | .LINE_FAILS => ⟨"LINE.FAILS", .LINE, 0x80014, 0, 1, 1, 0, 10, 8, 0, .RO, .none, 0, 7, false, true, false, false, false, false, false⟩
  | .LINE_LOCK_S => ⟨"LINE.LOCK_S", .LINE, 0x80018, 0, 1, 1, 0, 31, 0, 0, .RO, .none, 0, 0xffffffff, false, true, false, false, false, false, false⟩
  | .LINE_RING_STATE => ⟨"LINE.RING_STATE", .LINE, 0x8001c, 0, 1, 1, 0, 13, 0, 0, .RO, .none, 0, 16383, false, true, false, false, false, false, false⟩
  | .LINE_RX_ERRORS => ⟨"LINE.RX_ERRORS", .LINE, 0x80020, 0, 1, 1, 0, 15, 0, 0, .RO, .none, 0, 65535, false, true, false, false, false, false, false⟩
  | .LINE_CSUM_ERRORS => ⟨"LINE.CSUM_ERRORS", .LINE, 0x80020, 0, 1, 1, 0, 31, 16, 0, .RO, .none, 0, 65535, false, true, false, false, false, false, false⟩
  | .LINE_UNIT_ID_LO => ⟨"LINE.UNIT_ID_LO", .LINE, 0x80024, 0, 1, 1, 0, 31, 0, 0, .RO, .none, 0, 0xffffffff, false, true, false, false, false, false, false⟩
  | .LINE_UNIT_ID_HI => ⟨"LINE.UNIT_ID_HI", .LINE, 0x80028, 0, 1, 1, 0, 31, 0, 0, .RO, .none, 0, 0xffffffff, false, true, false, false, false, false, false⟩
  | .LINE_TLS_CONN => ⟨"LINE.TLS_CONN", .LINE, 0x8002c, 0, 1, 1, 0, 2, 0, 0, .RO, .none, 0, 7, false, false, false, false, false, false, false⟩
  | .ISL_LINK => ⟨"ISL.LINK", .ISL, 0x130000, 0, 1, 1, 0, 1, 0, 0, .RO, .none, 0, 3, false, false, false, true, false, false, false⟩
  | .ISL_LINK_LOSSES => ⟨"ISL.LINK_LOSSES", .ISL, 0x130000, 0, 1, 1, 0, 31, 16, 0, .RO, .none, 0, 65535, false, false, false, true, false, false, false⟩
  | .ISL_SUPPLY => ⟨"ISL.SUPPLY", .ISL, 0x130004, 0, 1, 1, 0, 0, 0, 0, .RO, .none, 0, 1, false, false, false, false, false, false, false⟩
  | .ISL_LOOP_OK => ⟨"ISL.LOOP_OK", .ISL, 0x130004, 0, 1, 1, 0, 1, 1, 0, .RO, .none, 0, 1, false, false, false, false, false, false, false⟩
  | .ISL_WP => ⟨"ISL.WP", .ISL, 0x130004, 0, 1, 1, 0, 2, 2, 0, .RO, .none, 0, 1, false, false, false, false, false, false, false⟩
  | .ISL_CFG_VALID => ⟨"ISL.CFG_VALID", .ISL, 0x130004, 0, 1, 1, 0, 3, 3, 0, .RO, .none, 0, 1, false, false, true, false, false, false, false⟩
  | .ISL_FAIL_ACTIVE => ⟨"ISL.FAIL_ACTIVE", .ISL, 0x130004, 0, 1, 1, 0, 4, 4, 0, .RO, .none, 0, 1, false, false, false, false, false, false, false⟩
  | .ISL_PHASE_LOCK => ⟨"ISL.PHASE_LOCK", .ISL, 0x130004, 0, 1, 1, 0, 5, 5, 0, .RO, .none, 0, 1, false, false, false, false, false, false, false⟩
  | .ISL_FAIL_CAUSE => ⟨"ISL.FAIL_CAUSE", .ISL, 0x130004, 0, 1, 1, 0, 11, 8, 0, .RO, .none, 0, 15, false, false, false, false, false, false, false⟩
  | .ISL_OSC_TRIM => ⟨"ISL.OSC_TRIM", .ISL, 0x130008, 0, 1, 1, 0, 7, 0, 0, .RO, .none, 0, 255, false, false, false, false, false, true, false⟩
  | .ISL_DRAW_UA => ⟨"ISL.DRAW_UA", .ISL, 0x13000c, 0, 1, 1, 0, 15, 0, 0, .RO, .none, 0, 65535, false, false, false, false, false, false, false⟩
  | .ISL_LOOP_SET_UA => ⟨"ISL.LOOP_SET_UA", .ISL, 0x130010, 0, 1, 1, 0, 15, 0, 3550, .RO, .none, 0, 65535, false, false, false, false, false, false, false⟩
  | .ISL_LOOP_MEAS_UA => ⟨"ISL.LOOP_MEAS_UA", .ISL, 0x130010, 0, 1, 1, 0, 31, 16, 0, .RO, .none, 0, 65535, false, false, false, false, false, false, false⟩
  | .ISL_PV => ⟨"ISL.PV", .ISL, 0x130014, 0, 1, 1, 0, 31, 0, 0x7fc00000, .RO, .none, 0, 0xffffffff, false, false, false, false, false, false, false⟩
  | .ISL_PV_STATUS => ⟨"ISL.PV_STATUS", .ISL, 0x130018, 0, 1, 1, 0, 15, 0, 0, .RO, .none, 0, 65535, false, false, false, false, false, false, false⟩
  | .ISL_PV_SRC => ⟨"ISL.PV_SRC", .ISL, 0x13001c, 0, 1, 1, 0, 0, 0, 0, .RW, .I, 0, 1, false, false, true, false, false, false, false⟩
  | .ISL_FAIL_DIR => ⟨"ISL.FAIL_DIR", .ISL, 0x13001c, 0, 1, 1, 0, 1, 1, 0, .RW, .I, 0, 1, false, false, true, false, false, false, false⟩
  | .ISL_UNITS => ⟨"ISL.UNITS", .ISL, 0x13001c, 0, 1, 1, 0, 15, 8, 250, .RW, .I, 0, 255, false, false, true, false, false, false, false⟩
  | .ISL_LRV => ⟨"ISL.LRV", .ISL, 0x130020, 0, 1, 1, 0, 31, 0, 0, .RW, .I, 0, 0xffffffff, false, false, true, false, false, false, false⟩
  | .ISL_URV => ⟨"ISL.URV", .ISL, 0x130024, 0, 1, 1, 0, 31, 0, 0x42c80000, .RW, .I, 0, 0xffffffff, false, false, true, false, false, false, false⟩
  | .ISL_DAMP_MS => ⟨"ISL.DAMP_MS", .ISL, 0x130028, 0, 1, 1, 0, 15, 0, 0, .RW, .I, 0, 60000, false, false, true, false, false, false, false⟩
  | .ISL_HOLD_MAX_MS => ⟨"ISL.HOLD_MAX_MS", .ISL, 0x13002c, 0, 1, 1, 0, 15, 0, 500, .RW, .I, 50, 10000, false, false, true, false, false, false, false⟩
  | .ISL_MAIN_TIMEOUT_MS => ⟨"ISL.MAIN_TIMEOUT_MS", .ISL, 0x13002c, 0, 1, 1, 0, 31, 16, 1000, .RW, .I, 100, 60000, false, false, true, false, false, false, false⟩
  | .ISL_MAIN_PV => ⟨"ISL.MAIN_PV", .ISL, 0x130030, 0, 1, 1, 0, 31, 0, 0x7fc00000, .RW, .I, 0, 0xffffffff, false, false, false, false, false, false, false⟩
  | .ISL_FIX_UA => ⟨"ISL.FIX_UA", .ISL, 0x130034, 0, 1, 1, 0, 15, 0, 0, .RW, .I, 0, 21500, false, false, false, false, false, false, false⟩
  | .ISL_FIX_TIMEOUT_S => ⟨"ISL.FIX_TIMEOUT_S", .ISL, 0x130034, 0, 1, 1, 0, 31, 16, 600, .RW, .I, 0, 3600, false, false, true, false, false, false, false⟩
  | .ISL_POLL_ADDR => ⟨"ISL.POLL_ADDR", .ISL, 0x130038, 0, 1, 1, 0, 5, 0, 0, .RW, .I, 0, 63, false, false, true, false, false, false, false⟩
  | .ISL_LOOP_CUR_EN => ⟨"ISL.LOOP_CUR_EN", .ISL, 0x130038, 0, 1, 1, 0, 8, 8, 1, .RW, .I, 0, 1, false, false, true, false, false, false, false⟩
  | .ISL_REC_DIV => ⟨"ISL.REC_DIV", .ISL, 0x13003c, 0, 1, 1, 0, 15, 0, 10, .RW, .I, 0, 65535, false, false, true, false, false, false, false⟩
  | .ISL_REC_TTL_S => ⟨"ISL.REC_TTL_S", .ISL, 0x130040, 0, 1, 1, 0, 31, 0, 0, .RW, .I, 0, 0xffffffff, false, false, false, true, false, false, false⟩
  | .ISL_CC => ⟨"ISL.CC", .ISL, 0x130044, 0, 1, 1, 0, 15, 0, 0, .RO, .none, 0, 65535, false, false, false, false, false, false, false⟩
  | .ISL_MTP_COMMITS => ⟨"ISL.MTP_COMMITS", .ISL, 0x130048, 0, 1, 1, 0, 31, 0, 0, .RO, .none, 0, 0xffffffff, false, false, true, false, false, false, false⟩
  | .ISL_BUF_FILL => ⟨"ISL.BUF_FILL", .ISL, 0x13004c, 0, 1, 1, 0, 9, 0, 0, .RO, .none, 0, 1023, false, false, false, false, false, false, false⟩
  | .ISL_SEQ => ⟨"ISL.SEQ", .ISL, 0x130050, 0, 1, 1, 0, 31, 0, 0, .RO, .none, 0, 0xffffffff, false, false, false, false, false, false, false⟩
  | .ISL_BF_LOST => ⟨"ISL.BF_LOST", .ISL, 0x130054, 0, 1, 1, 0, 31, 0, 0, .RO, .none, 0, 0xffffffff, false, false, false, true, false, false, false⟩
  | .ISL_BF_OVERLAP => ⟨"ISL.BF_OVERLAP", .ISL, 0x130058, 0, 1, 1, 0, 15, 0, 0, .RO, .none, 0, 65535, false, false, false, true, false, false, false⟩
  | .FE_EXC_FREQ => ⟨"FE.EXC_FREQ", .FE, 0x140000, 0, 1, 1, 0, 2, 0, 3, .RW, .I, 0, 7, false, false, false, false, false, false, true⟩
  | .FE_EXC_MV => ⟨"FE.EXC_MV", .FE, 0x140000, 0, 1, 1, 0, 25, 16, 250, .RW, .I, 10, 1000, false, false, false, false, false, false, true⟩
  | .FE_PV_CH => ⟨"FE.PV_CH", .FE, 0x140004, 0, 1, 1, 0, 1, 0, 0, .RW, .I, 0, 3, false, false, false, false, false, false, true⟩
  | .FE_PV_MODE => ⟨"FE.PV_MODE", .FE, 0x140004, 0, 1, 1, 0, 5, 4, 0, .RW, .I, 0, 2, false, false, false, false, false, false, true⟩
  | .FE_PV_GAIN => ⟨"FE.PV_GAIN", .FE, 0x140004, 0, 1, 1, 0, 9, 8, 3, .RW, .I, 0, 3, false, false, false, false, false, false, true⟩
  | .FE_AUX_EN => ⟨"FE.AUX_EN", .FE, 0x140004, 0, 1, 1, 0, 12, 12, 0, .RW, .I, 0, 1, false, false, false, false, false, false, true⟩
  | .FE_AUX_CH => ⟨"FE.AUX_CH", .FE, 0x140004, 0, 1, 1, 0, 15, 14, 1, .RW, .I, 0, 3, false, false, false, false, false, false, true⟩
  | .FE_AUX_MODE => ⟨"FE.AUX_MODE", .FE, 0x140004, 0, 1, 1, 0, 17, 16, 0, .RW, .I, 0, 2, false, false, false, false, false, false, true⟩
  | .FE_AUX_GAIN => ⟨"FE.AUX_GAIN", .FE, 0x140004, 0, 1, 1, 0, 21, 20, 3, .RW, .I, 0, 3, false, false, false, false, false, false, true⟩
  | .FE_RATE => ⟨"FE.RATE", .FE, 0x140008, 0, 1, 1, 0, 2, 0, 3, .RW, .I, 0, 7, false, false, false, false, false, false, true⟩
  | .FE_FILT => ⟨"FE.FILT", .FE, 0x140008, 0, 1, 1, 0, 5, 4, 1, .RW, .I, 0, 3, false, false, false, false, false, false, true⟩
  | .FE_IIR_MS => ⟨"FE.IIR_MS", .FE, 0x140008, 0, 1, 1, 0, 31, 16, 0, .RW, .I, 0, 10000, false, false, false, false, false, false, true⟩
  | .FE_BO_NA => ⟨"FE.BO_NA", .FE, 0x14000c, 0, 1, 1, 0, 1, 0, 2, .RW, .I, 0, 3, false, false, false, false, false, false, false⟩
  | .FE_FAULT_ACT => ⟨"FE.FAULT_ACT", .FE, 0x14000c, 0, 1, 1, 0, 5, 4, 2, .RW, .I, 0, 2, false, false, false, false, false, false, false⟩
  | .FE_FAULT_N => ⟨"FE.FAULT_N", .FE, 0x14000c, 0, 1, 1, 0, 11, 8, 3, .RW, .I, 1, 15, false, false, false, false, false, false, false⟩
  | .FE_LVDT_MIN_PCT => ⟨"FE.LVDT_MIN_PCT", .FE, 0x14000c, 0, 1, 1, 0, 23, 16, 10, .RW, .I, 1, 100, false, false, false, false, false, false, false⟩
  | .FE_BO_LIM_MV => ⟨"FE.BO_LIM_MV", .FE, 0x140010, 0, 1, 1, 0, 15, 0, 100, .RW, .I, 10, 1000, false, false, false, false, false, false, false⟩
  | .FE_EXC_IMIN_UA => ⟨"FE.EXC_IMIN_UA", .FE, 0x140010, 0, 1, 1, 0, 31, 16, 20, .RW, .I, 5, 200, false, false, false, false, false, false, false⟩
  | .FE_CM_LO_MV => ⟨"FE.CM_LO_MV", .FE, 0x140014, 0, 1, 1, 0, 15, 0, 300, .RW, .I, 0, 1500, false, false, false, false, false, false, false⟩
  | .FE_CM_HI_MV => ⟨"FE.CM_HI_MV", .FE, 0x140014, 0, 1, 1, 0, 31, 16, 2700, .RW, .I, 1500, 3000, false, false, false, false, false, false, false⟩
  | .FE_RESULT => ⟨"FE.RESULT", .FE, 0x140020, 0, 1, 1, 0, 31, 0, 0x7fc00000, .RO, .none, 0, 0xffffffff, false, false, false, false, false, false, false⟩
  | .FE_RESULT_Q => ⟨"FE.RESULT_Q", .FE, 0x140024, 0, 1, 1, 0, 31, 0, 0x7fc00000, .RO, .none, 0, 0xffffffff, false, false, false, false, false, false, false⟩
  | .FE_AUX_RESULT => ⟨"FE.AUX_RESULT", .FE, 0x140028, 0, 1, 1, 0, 31, 0, 0x7fc00000, .RO, .none, 0, 0xffffffff, false, false, false, false, false, false, false⟩
  | .FE_EXC_UA => ⟨"FE.EXC_UA", .FE, 0x14002c, 0, 1, 1, 0, 15, 0, 0, .RO, .none, 0, 65535, false, false, false, false, false, false, false⟩
  | .FE_EXC_NOW_MV => ⟨"FE.EXC_NOW_MV", .FE, 0x14002c, 0, 1, 1, 0, 31, 16, 0, .RO, .none, 0, 65535, false, false, false, false, false, false, false⟩
  | .FE_STATUS => ⟨"FE.STATUS", .FE, 0x140030, 0, 1, 1, 0, 14, 0, 1, .RO, .none, 0, 32767, false, false, false, false, false, false, false⟩
  | .FE_SETTLE_MS => ⟨"FE.SETTLE_MS", .FE, 0x140034, 0, 1, 1, 0, 15, 0, 0, .RO, .none, 0, 65535, false, false, false, false, false, false, false⟩
  | .FE_S => ⟨"FE.S", .FE, 0x140034, 0, 1, 1, 0, 23, 16, 0, .RO, .none, 0, 255, false, false, false, false, false, false, false⟩
  | .FE_DC_DIFF_MV => ⟨"FE.DC_DIFF_MV", .FE, 0x140038, 0, 1, 1, 0, 15, 0, 0, .RO, .none, 0, 65535, false, false, false, false, false, true, false⟩
  | .FE_CM_MV => ⟨"FE.CM_MV", .FE, 0x140038, 0, 1, 1, 0, 31, 16, 0, .RO, .none, 0, 65535, false, false, false, false, false, false, false⟩
  | .CAL_U_SPAN => ⟨"CAL.U_SPAN", .CAL, 0x150000, 0, 1, 1, 0, 31, 0, 0x3f800000, .RO, .none, 0, 0xffffffff, false, false, true, false, false, false, false⟩
  | .CAL_U_OFS => ⟨"CAL.U_OFS", .CAL, 0x150004, 0, 1, 1, 0, 31, 0, 0, .RO, .none, 0, 0xffffffff, false, false, true, false, false, false, false⟩
  | .CAL_U_ZERO_RAW => ⟨"CAL.U_ZERO_RAW", .CAL, 0x150008, 0, 1, 1, 0, 31, 0, 0, .RO, .none, 0, 0xffffffff, false, false, true, false, false, false, false⟩
  | .CAL_U_ZERO_PT => ⟨"CAL.U_ZERO_PT", .CAL, 0x15000c, 0, 1, 1, 0, 31, 0, 0, .RO, .none, 0, 0xffffffff, false, false, true, false, false, false, false⟩
  | .CAL_U_PH_A => ⟨"CAL.U_PH_A", .CAL, 0x150010, 0, 1, 1, 0, 15, 0, 0, .RO, .none, 0, 65535, false, false, true, false, false, true, false⟩
  | .CAL_U_PH_B => ⟨"CAL.U_PH_B", .CAL, 0x150010, 0, 1, 1, 0, 31, 16, 0, .RO, .none, 0, 65535, false, false, true, false, false, true, false⟩
  | .CAL_LU_GAIN => ⟨"CAL.LU_GAIN", .CAL, 0x150014, 0, 1, 1, 0, 31, 0, 0x3f800000, .RO, .none, 0, 0xffffffff, false, false, true, false, false, false, false⟩
  | .CAL_LU_OFS => ⟨"CAL.LU_OFS", .CAL, 0x150018, 0, 1, 1, 0, 31, 0, 0, .RO, .none, 0, 0xffffffff, false, false, true, false, false, false, false⟩
  | .CAL_FORCED => ⟨"CAL.FORCED", .CAL, 0x15001c, 0, 1, 1, 0, 3, 0, 0, .RO, .none, 0, 15, false, false, true, false, false, false, false⟩
  | .CAL_SAVED => ⟨"CAL.SAVED", .CAL, 0x15001c, 0, 1, 1, 0, 8, 8, 0, .RO, .none, 0, 1, false, false, true, false, false, false, false⟩
  | .CAL_F_VALID => ⟨"CAL.F_VALID", .CAL, 0x15001c, 0, 1, 1, 0, 16, 16, 0, .RO, .none, 0, 1, false, false, false, false, false, false, false⟩
  | .CAL_NOM_SPAN => ⟨"CAL.NOM_SPAN", .CAL, 0x150020, 0, 1, 1, 0, 31, 0, 0x40000000, .RW, .I, 0, 0xffffffff, false, false, true, false, false, false, false⟩
  | .CAL_STAB_LIM => ⟨"CAL.STAB_LIM", .CAL, 0x150024, 0, 1, 1, 0, 31, 0, 0x3b03126f, .RW, .I, 0, 0xffffffff, false, false, true, false, false, false, false⟩
  | .CAL_LOOP_STAB_UA => ⟨"CAL.LOOP_STAB_UA", .CAL, 0x150028, 0, 1, 1, 0, 15, 0, 20, .RW, .I, 1, 1000, false, false, true, false, false, false, false⟩
  | .CAL_SC_MODE => ⟨"CAL.SC_MODE", .CAL, 0x15002c, 0, 1, 1, 0, 0, 0, 0, .RW, .I, 0, 1, false, false, true, false, false, false, false⟩
  | .CAL_SC_N => ⟨"CAL.SC_N", .CAL, 0x15002c, 0, 1, 1, 0, 12, 8, 0, .RO, .none, 0, 31, false, false, true, false, false, false, false⟩
  | .CAL_SC_GAIN => ⟨"CAL.SC_GAIN", .CAL, 0x150030, 0, 1, 1, 0, 31, 0, 0x3f800000, .RW, .I, 0, 0xffffffff, false, false, true, false, false, false, false⟩
  | .CAL_SC_OFS => ⟨"CAL.SC_OFS", .CAL, 0x150034, 0, 1, 1, 0, 31, 0, 0, .RW, .I, 0, 0xffffffff, false, false, true, false, false, false, false⟩
  | .CAL_SC_TABLE => ⟨"CAL.SC_TABLE", .CAL, 0x150040, 0, 1, 32, 0, 31, 0, 0, .RO, .none, 0, 0xffffffff, false, false, true, false, false, false, false⟩
  | .CAL_R_FACT => ⟨"CAL.R_FACT", .CAL, 0x1500c0, 0, 1, 1, 0, 31, 0, 0x7fc00000, .RO, .none, 0, 0xffffffff, false, false, false, false, false, false, false⟩
  | .CAL_R_USER => ⟨"CAL.R_USER", .CAL, 0x1500c4, 0, 1, 1, 0, 31, 0, 0x7fc00000, .RO, .none, 0, 0xffffffff, false, false, false, false, false, false, false⟩
  | .CAL_R_AUX => ⟨"CAL.R_AUX", .CAL, 0x1500c8, 0, 1, 1, 0, 31, 0, 0x7fc00000, .RO, .none, 0, 0xffffffff, false, false, false, false, false, false, false⟩
  | .CAL_LOOP_M4_UA => ⟨"CAL.LOOP_M4_UA", .CAL, 0x1500cc, 0, 1, 1, 0, 15, 0, 0, .RO, .none, 0, 65535, false, false, false, false, false, false, false⟩
  | .CAL_LOOP_M20_UA => ⟨"CAL.LOOP_M20_UA", .CAL, 0x1500cc, 0, 1, 1, 0, 31, 16, 0, .RO, .none, 0, 65535, false, false, false, false, false, false, false⟩
  | .CAL_F_OFS => ⟨"CAL.F_OFS", .CAL, 0x1500d0, 0, 1, 1, 0, 31, 0, 0, .RO, .none, 0, 0xffffffff, false, false, false, false, false, false, false⟩
  | .CAL_F_GAIN => ⟨"CAL.F_GAIN", .CAL, 0x1500d4, 0, 1, 1, 0, 31, 0, 0, .RO, .none, 0, 0xffffffff, false, false, false, false, false, false, false⟩
  | .CAL_F_LGAIN => ⟨"CAL.F_LGAIN", .CAL, 0x1500d8, 0, 1, 1, 0, 31, 0, 0, .RO, .none, 0, 0xffffffff, false, false, false, false, false, false, false⟩
  | .CAL_F_LOFS => ⟨"CAL.F_LOFS", .CAL, 0x1500dc, 0, 1, 1, 0, 31, 0, 0, .RO, .none, 0, 0xffffffff, false, false, false, false, false, false, false⟩
  | .CAL_MON_T_OFS_A => ⟨"CAL.MON_T_OFS_A", .CAL, 0x150100, 0, 1, 1, 0, 31, 0, 0, .RW, .I, 0, 0xffffffff, true, false, false, true, false, false, false⟩
  | .CAL_MON_T_OFS_B => ⟨"CAL.MON_T_OFS_B", .CAL, 0x150104, 0, 1, 1, 0, 31, 0, 0, .RW, .I, 0, 0xffffffff, true, false, false, true, false, false, false⟩
  | .CAL_MON_P_GAIN => ⟨"CAL.MON_P_GAIN", .CAL, 0x150108, 0, 1, 1, 0, 15, 0, 0x2710, .RW, .I, 9500, 10500, true, false, false, true, false, false, false⟩
  | .HART_DEV_ID => ⟨"HART.DEV_ID", .HART, 0x160000, 0, 1, 1, 0, 23, 0, 0, .RO, .none, 0, 0xffffff, false, false, false, false, false, false, false⟩
  | .HART_PREAMBLES => ⟨"HART.PREAMBLES", .HART, 0x160004, 0, 1, 1, 0, 4, 0, 5, .RW, .I, 5, 20, false, false, true, false, false, false, false⟩
  | .HART_OWNER_EN => ⟨"HART.OWNER_EN", .HART, 0x160004, 0, 1, 1, 0, 8, 8, 0, .RW, .I, 0, 1, false, false, true, false, true, false, false⟩
  | .HART_BURST_EN => ⟨"HART.BURST_EN", .HART, 0x160008, 0, 1, 1, 0, 0, 0, 0, .RW, .I, 0, 1, false, false, true, false, false, false, false⟩
  | .HART_BURST_CMD => ⟨"HART.BURST_CMD", .HART, 0x160008, 0, 1, 1, 0, 15, 8, 3, .RW, .I, 0, 255, false, false, true, false, false, false, false⟩
  | .HART_BURST_PERIOD_MS => ⟨"HART.BURST_PERIOD_MS", .HART, 0x16000c, 0, 1, 1, 0, 31, 0, 1000, .RW, .I, 500, 0x36ee80, false, false, true, false, false, false, false⟩
  | .HART_NOVELTY => ⟨"HART.NOVELTY", .HART, 0x160010, 0, 1, 1, 0, 7, 0, 0, .RO, .none, 0, 255, false, false, false, false, false, false, false⟩
  | .HART_MASTERS => ⟨"HART.MASTERS", .HART, 0x160010, 0, 1, 1, 0, 9, 8, 0, .RO, .none, 0, 3, false, false, false, false, false, false, false⟩
  | .HART_FRAME_ERRORS => ⟨"HART.FRAME_ERRORS", .HART, 0x160014, 0, 1, 1, 0, 15, 0, 0, .RO, .none, 0, 65535, false, false, false, false, false, false, false⟩
  | .HART_TAG => ⟨"HART.TAG", .HART, 0x160020, 0, 1, 2, 0, 31, 0, 0, .RW, .I, 0, 0xffffffff, false, false, true, false, false, false, false⟩
  | .HART_DESCRIPTOR => ⟨"HART.DESCRIPTOR", .HART, 0x160028, 0, 1, 3, 0, 31, 0, 0, .RW, .I, 0, 0xffffffff, false, false, true, false, false, false, false⟩
  | .HART_DATE => ⟨"HART.DATE", .HART, 0x160034, 0, 1, 1, 0, 23, 0, 0, .RW, .I, 0, 0xffffff, false, false, true, false, false, false, false⟩
  | .HART_FAN => ⟨"HART.FAN", .HART, 0x160038, 0, 1, 1, 0, 23, 0, 0, .RW, .I, 0, 0xffffff, false, false, true, false, false, false, false⟩
  | .HART_MESSAGE => ⟨"HART.MESSAGE", .HART, 0x160040, 0, 1, 6, 0, 31, 0, 0, .RW, .I, 0, 0xffffffff, false, false, true, false, false, false, false⟩
  | .HART_LONG_TAG => ⟨"HART.LONG_TAG", .HART, 0x160060, 0, 1, 8, 0, 31, 0, 0, .RW, .I, 0, 0xffffffff, false, false, true, false, false, false, false⟩
  | .BOOT_RUN_SLOT => ⟨"BOOT.RUN_SLOT", .BOOT, 0x30000, 0, 1, 1, 0, 0, 0, 0, .RO, .none, 0, 1, false, false, false, false, false, false, false⟩
  | .BOOT_ACTIVE => ⟨"BOOT.ACTIVE", .BOOT, 0x30000, 0, 1, 1, 0, 1, 1, 0, .RO, .none, 0, 1, false, false, false, false, false, false, false⟩
  | .BOOT_XSPI_MODE => ⟨"BOOT.XSPI_MODE", .BOOT, 0x30000, 0, 1, 1, 0, 3, 2, 0, .RO, .none, 0, 3, false, false, false, false, false, false, false⟩
  | .BOOT_LAST_END => ⟨"BOOT.LAST_END", .BOOT, 0x30000, 0, 1, 1, 0, 7, 4, 4, .RO, .none, 0, 15, false, true, false, false, false, false, false⟩
  | .BOOT_FLAG_SEQ => ⟨"BOOT.FLAG_SEQ", .BOOT, 0x30004, 0, 1, 1, 0, 31, 0, 0, .RO, .none, 0, 0xffffffff, false, false, false, false, false, false, false⟩
  | .BOOT_RUN_SVN => ⟨"BOOT.RUN_SVN", .BOOT, 0x30008, 0, 1, 1, 0, 7, 0, 0, .RO, .none, 0, 255, false, false, false, false, false, false, false⟩
  | .BOOT_FUSE_SVN => ⟨"BOOT.FUSE_SVN", .BOOT, 0x30008, 0, 1, 1, 0, 15, 8, 0, .RO, .none, 0, 255, false, false, false, false, false, false, false⟩
  | .BOOT_SIGNERS => ⟨"BOOT.SIGNERS", .BOOT, 0x30008, 0, 1, 1, 0, 23, 16, 0, .RO, .none, 0, 255, false, false, false, false, false, false, false⟩
  | .BOOT_RUN_VER_LO => ⟨"BOOT.RUN_VER_LO", .BOOT, 0x3000c, 0, 1, 1, 0, 31, 0, 0, .RO, .none, 0, 0xffffffff, false, false, false, false, false, false, false⟩
  | .BOOT_RUN_VER_HI => ⟨"BOOT.RUN_VER_HI", .BOOT, 0x30010, 0, 1, 1, 0, 31, 0, 0, .RO, .none, 0, 0xffffffff, false, false, false, false, false, false, false⟩
  | .BOOT_ATTEMPTS => ⟨"BOOT.ATTEMPTS", .BOOT, 0x30014, 0, 1, 1, 0, 15, 0, 0, .RO, .none, 0, 65535, false, true, false, false, false, false, false⟩
  | .BOOT_NOR_MIB => ⟨"BOOT.NOR_MIB", .BOOT, 0x30014, 0, 1, 1, 0, 31, 16, 0, .RO, .none, 0, 65535, false, false, false, false, false, false, false⟩
  | .BOOT_SLOT_CODE => ⟨"BOOT.SLOT_CODE", .BOOT, 0x30018, 0, 1, 1, 0, 15, 0, 0, .RO, .none, 0, 65535, false, true, false, false, false, false, false⟩
  | .BOOT_UPD_STATE => ⟨"BOOT.UPD_STATE", .BOOT, 0x3001c, 0, 1, 1, 0, 1, 0, 0, .RO, .none, 0, 3, false, false, false, false, false, false, false⟩
  | .BOOT_UPD_NEXT => ⟨"BOOT.UPD_NEXT", .BOOT, 0x30020, 0, 1, 1, 0, 31, 0, 0, .RO, .none, 0, 0xffffffff, false, false, false, false, false, false, false⟩
  | .BOOT_TRACE_IDX => ⟨"BOOT.TRACE_IDX", .BOOT, 0x30024, 0, 1, 1, 0, 4, 0, 0, .RO, .none, 0, 31, false, true, false, false, false, false, false⟩
  | .BOOT_TRACE => ⟨"BOOT.TRACE", .BOOT, 0x30080, 0, 1, 32, 0, 31, 0, 0, .RO, .none, 0, 0xffffffff, false, true, false, false, false, false, false⟩
  | .LC_STATE => ⟨"LC.STATE", .LC, 0x40000, 0, 1, 1, 0, 2, 0, 0, .RO, .none, 0, 7, false, false, false, false, false, false, false⟩
  | .LC_DEBUG => ⟨"LC.DEBUG", .LC, 0x40000, 0, 1, 1, 0, 6, 4, 0, .RO, .none, 0, 7, false, false, false, false, false, false, false⟩
  | .LC_FUSES => ⟨"LC.FUSES", .LC, 0x40004, 0, 1, 1, 0, 6, 0, 0, .RO, .none, 0, 127, false, false, false, false, false, false, false⟩
  | .LC_SEED_REVOKED => ⟨"LC.SEED_REVOKED", .LC, 0x40008, 0, 1, 1, 0, 7, 0, 0, .RO, .none, 0, 255, false, false, false, false, false, false, false⟩
  | .LC_SEED_COMM => ⟨"LC.SEED_COMM", .LC, 0x40008, 0, 1, 1, 0, 15, 8, 0, .RO, .none, 0, 255, false, false, false, false, false, false, false⟩
  | .LC_SEED_ACTIVE => ⟨"LC.SEED_ACTIVE", .LC, 0x40008, 0, 1, 1, 0, 19, 16, 0, .RO, .none, 0, 15, false, false, false, false, false, false, false⟩
  | .LC_OWNER_SET => ⟨"LC.OWNER_SET", .LC, 0x40008, 0, 1, 1, 0, 31, 24, 0, .RO, .none, 0, 255, false, false, false, false, false, false, false⟩
  | .LC_DBG_HASH => ⟨"LC.DBG_HASH", .LC, 0x4000c, 0, 1, 1, 0, 0, 0, 0, .RO, .none, 0, 1, false, false, false, false, false, false, false⟩
  | .LC_AUTH => ⟨"LC.AUTH", .LC, 0x4000c, 0, 1, 1, 0, 1, 1, 0, .RO, .none, 0, 1, false, false, false, false, false, false, false⟩
  | .VAULT_ATTR => ⟨"VAULT.ATTR#", .VAULT, 0x50000, 4, 32, 1, 0, 15, 0, 0, .RO, .none, 0, 65535, false, false, false, false, true, false, false⟩
  | .VAULT_LOCK_USE => ⟨"VAULT.LOCK_USE", .VAULT, 0x50080, 0, 1, 1, 0, 31, 0, 0, .RS, .I, 0, 0xffffffff, false, false, false, false, true, false, false⟩
  | .VAULT_LOCK_CHANGE => ⟨"VAULT.LOCK_CHANGE", .VAULT, 0x50084, 0, 1, 1, 0, 31, 0, 0, .RS, .I, 0, 0xffffffff, false, false, false, false, true, false, false⟩
  | .VAULT_TRNG_OK => ⟨"VAULT.TRNG_OK", .VAULT, 0x50088, 0, 1, 1, 0, 0, 0, 1, .RO, .none, 0, 1, false, false, false, false, true, false, false⟩
  | .ALM_LATCH => ⟨"ALM.LATCH", .ALM, 0x60000, 0, 1, 1, 0, 15, 0, 0, .RO, .none, 0, 65535, false, true, false, false, false, false, false⟩
  | .ALM_SRC_NOW => ⟨"ALM.SRC_NOW", .ALM, 0x60004, 0, 1, 1, 0, 8, 0, 0, .RO, .none, 0, 511, false, false, false, false, false, false, false⟩
  | .ALM_CLASS => ⟨"ALM.CLASS", .ALM, 0x60008, 0, 1, 1, 0, 17, 0, 0x2eba5, .RW, .I, 0, 0x3ffff, false, true, false, false, true, false, false⟩
  | .ALM_MESH_EN => ⟨"ALM.MESH_EN", .ALM, 0x6000c, 0, 1, 1, 0, 1, 0, 3, .RW, .I, 0, 3, false, false, false, false, false, false, false⟩
  | .ALM_CASE_MS => ⟨"ALM.CASE_MS", .ALM, 0x60010, 0, 1, 1, 0, 15, 0, 20, .RW, .I, 1, 1000, false, true, false, false, false, false, false⟩
  | .ALM_T_LO_C => ⟨"ALM.T_LO_C", .ALM, 0x60014, 0, 1, 1, 0, 7, 0, 206, .RW, .I, 0, 255, false, true, false, false, false, true, false⟩
  | .ALM_T_HI_C => ⟨"ALM.T_HI_C", .ALM, 0x60014, 0, 1, 1, 0, 15, 8, 140, .RW, .I, 100, 150, false, true, false, false, false, false, false⟩
  | .ALM_AUTH_N => ⟨"ALM.AUTH_N", .ALM, 0x60018, 0, 1, 1, 0, 15, 0, 32, .RW, .I, 8, 1024, false, true, false, false, false, false, false⟩
  | .ALM_AUTH_WIN_S => ⟨"ALM.AUTH_WIN_S", .ALM, 0x60018, 0, 1, 1, 0, 31, 16, 60, .RW, .I, 10, 3600, false, true, false, false, false, false, false⟩
  | .ALM_AUTH_COUNT => ⟨"ALM.AUTH_COUNT", .ALM, 0x6001c, 0, 1, 1, 0, 15, 0, 0, .RO, .none, 0, 65535, false, false, false, false, false, false, false⟩
  | .ALM_ERASE_US => ⟨"ALM.ERASE_US", .ALM, 0x60020, 0, 1, 1, 0, 15, 0, 0, .RO, .none, 0, 65535, false, true, false, false, false, false, false⟩
  | .DRAM_CAP_GIB => ⟨"DRAM.CAP_GIB", .DRAM, 0xc0000, 0, 1, 1, 0, 7, 0, 0, .RO, .none, 0, 255, false, false, false, false, false, false, false⟩
  | .DRAM_RATE => ⟨"DRAM.RATE", .DRAM, 0xc0000, 0, 1, 1, 0, 8, 8, 1, .RW, .Q, 0, 1, true, false, false, false, false, false, false⟩
  | .DRAM_LINK_ECC => ⟨"DRAM.LINK_ECC", .DRAM, 0xc0000, 0, 1, 1, 0, 9, 9, 0, .RO, .none, 0, 1, false, false, false, false, false, false, false⟩
  | .DRAM_TRAIN_MS => ⟨"DRAM.TRAIN_MS", .DRAM, 0xc0004, 0, 1, 1, 0, 15, 0, 0, .RO, .none, 0, 65535, false, false, false, false, false, false, false⟩
  | .DRAM_INDEX_GIB => ⟨"DRAM.INDEX_GIB", .DRAM, 0xc0008, 0, 1, 1, 0, 7, 0, 4, .RW, .Q, 1, 64, true, false, false, false, false, false, false⟩
  | .DRAM_META_GIB => ⟨"DRAM.META_GIB", .DRAM, 0xc0008, 0, 1, 1, 0, 15, 8, 2, .RW, .Q, 1, 32, true, false, false, false, false, false, false⟩
  | .DRAM_SKETCH_GIB => ⟨"DRAM.SKETCH_GIB", .DRAM, 0xc0008, 0, 1, 1, 0, 23, 16, 0, .RW, .Q, 0, 96, true, false, false, false, false, false, false⟩
  | .DRAM_ECC_SKETCH => ⟨"DRAM.ECC_SKETCH", .DRAM, 0xc0008, 0, 1, 1, 0, 24, 24, 1, .RW, .Q, 0, 1, true, false, false, false, false, false, false⟩
  | .DRAM_ECC_CACHE => ⟨"DRAM.ECC_CACHE", .DRAM, 0xc0008, 0, 1, 1, 0, 25, 25, 1, .RW, .Q, 0, 1, true, false, false, false, false, false, false⟩
  | .DRAM_CACHE_GIB => ⟨"DRAM.CACHE_GIB", .DRAM, 0xc000c, 0, 1, 1, 0, 7, 0, 0, .RO, .none, 0, 255, false, false, false, false, false, false, false⟩
  | .DRAM_DIRTY_GIB => ⟨"DRAM.DIRTY_GIB", .DRAM, 0xc000c, 0, 1, 1, 0, 15, 8, 0, .RO, .none, 0, 255, false, false, false, false, false, false, false⟩
  | .DRAM_INDEX_KEYS => ⟨"DRAM.INDEX_KEYS", .DRAM, 0xc0010, 0, 1, 1, 0, 31, 0, 0, .RO, .none, 0, 0xffffffff, false, false, false, false, false, false, false⟩
  | .DRAM_CE_COUNT => ⟨"DRAM.CE_COUNT", .DRAM, 0xc0014, 0, 1, 1, 0, 31, 0, 0, .RO, .none, 0, 0xffffffff, false, false, false, false, false, false, false⟩
  | .DRAM_UE_COUNT => ⟨"DRAM.UE_COUNT", .DRAM, 0xc0018, 0, 1, 1, 0, 15, 0, 0, .RO, .none, 0, 65535, false, false, false, false, false, false, false⟩
  | .DRAM_PATROL_H => ⟨"DRAM.PATROL_H", .DRAM, 0xc001c, 0, 1, 1, 0, 7, 0, 24, .RW, .I, 1, 168, true, false, false, false, false, false, false⟩
  | .FLASH_HOLDUP_MS => ⟨"FLASH.HOLDUP_MS", .FLASH, 0xd0000, 0, 1, 1, 0, 7, 0, 0, .RW, .I, 0, 200, true, false, false, false, false, false, false⟩
  | .FLASH_RATE => ⟨"FLASH.RATE", .FLASH, 0xd0000, 0, 1, 1, 0, 8, 8, 1, .RW, .Q, 0, 1, true, false, false, false, false, false, false⟩
  | .FLASH_OP_PCT => ⟨"FLASH.OP_PCT", .FLASH, 0xd0004, 0, 1, 1, 0, 7, 0, 7, .RW, .Q, 7, 50, true, false, false, false, false, false, false⟩
  | .FLASH_REFRESH_BITS => ⟨"FLASH.REFRESH_BITS", .FLASH, 0xd0004, 0, 1, 1, 0, 15, 8, 60, .RW, .I, 8, 120, true, false, false, false, false, false, false⟩
  | .FLASH_CKPT_S => ⟨"FLASH.CKPT_S", .FLASH, 0xd0004, 0, 1, 1, 0, 31, 16, 10, .RW, .I, 1, 600, true, false, false, false, false, false, false⟩
  | .FLASH_CH_IN_SERVICE => ⟨"FLASH.CH_IN_SERVICE", .FLASH, 0xd0008, 0, 1, 1, 0, 15, 0, 0, .RO, .none, 0, 65535, false, false, false, false, false, false, false⟩
  | .FLASH_TARGETS => ⟨"FLASH.TARGETS", .FLASH, 0xd000c, 0, 1, 4, 0, 31, 0, 0, .RO, .none, 0, 0xffffffff, false, false, false, false, false, false, false⟩
  | .FLASH_RAW_GIB => ⟨"FLASH.RAW_GIB", .FLASH, 0xd001c, 0, 1, 1, 0, 31, 0, 0, .RO, .none, 0, 0xffffffff, false, false, false, false, false, false, false⟩
  | .FLASH_USER_GIB => ⟨"FLASH.USER_GIB", .FLASH, 0xd0020, 0, 1, 1, 0, 31, 0, 0, .RO, .none, 0, 0xffffffff, false, false, false, false, false, false, false⟩
  | .FLASH_BAD_FACTORY => ⟨"FLASH.BAD_FACTORY", .FLASH, 0xd0024, 0, 1, 1, 0, 31, 0, 0, .RO, .none, 0, 0xffffffff, false, false, false, false, false, false, false⟩
  | .FLASH_BAD_GROWN => ⟨"FLASH.BAD_GROWN", .FLASH, 0xd0028, 0, 1, 1, 0, 31, 0, 0, .RO, .none, 0, 0xffffffff, false, false, false, false, false, false, false⟩
  | .FLASH_PLP_MIB => ⟨"FLASH.PLP_MIB", .FLASH, 0xd002c, 0, 1, 1, 0, 15, 0, 0, .RO, .none, 0, 65535, false, false, false, false, false, false, false⟩
  | .FLASH_SUNRISE_STAGE => ⟨"FLASH.SUNRISE_STAGE", .FLASH, 0xd0030, 0, 1, 1, 0, 3, 0, 0, .RO, .none, 0, 15, false, false, false, false, false, false, false⟩
  | .FLASH_SUNRISE_MS => ⟨"FLASH.SUNRISE_MS", .FLASH, 0xd0034, 0, 1, 1, 0, 31, 0, 0, .RO, .none, 0, 0xffffffff, false, false, false, false, false, false, false⟩
  | .NET_P_SPEED => ⟨"NET.P#_SPEED", .NET, 0x90000, 128, 2, 1, 0, 0, 0, 1, .RW, .E, 0, 1, true, false, false, false, false, false, false⟩
  | .NET_P_FEC => ⟨"NET.P#_FEC", .NET, 0x90000, 128, 2, 1, 0, 1, 1, 1, .RW, .E, 0, 1, true, false, false, false, false, false, false⟩
  | .NET_P_EN => ⟨"NET.P#_EN", .NET, 0x90000, 128, 2, 1, 0, 2, 2, 1, .RW, .E, 0, 1, true, false, false, false, false, false, false⟩
  | .NET_P_LINK => ⟨"NET.P#_LINK", .NET, 0x90000, 128, 2, 1, 0, 8, 8, 0, .RO, .none, 0, 1, false, false, false, false, false, false, false⟩
  | .NET_P_VLAN => ⟨"NET.P#_VLAN", .NET, 0x90004, 128, 2, 1, 0, 11, 0, 0, .RW, .E, 0, 4094, true, false, false, false, false, false, false⟩
  | .NET_P_PCP => ⟨"NET.P#_PCP", .NET, 0x90004, 128, 2, 1, 0, 14, 12, 0, .RW, .E, 0, 7, true, false, false, false, false, false, false⟩
  | .NET_P_MTU => ⟨"NET.P#_MTU", .NET, 0x90004, 128, 2, 1, 0, 31, 16, 1500, .RW, .E, 1280, 9000, true, false, false, false, false, false, false⟩
  | .NET_P_V4_MODE => ⟨"NET.P#_V4_MODE", .NET, 0x90008, 128, 2, 1, 0, 1, 0, 2, .RW, .E, 0, 2, true, false, false, false, false, false, false⟩
  | .NET_P_V6_MODE => ⟨"NET.P#_V6_MODE", .NET, 0x90008, 128, 2, 1, 0, 5, 4, 2, .RW, .E, 0, 2, true, false, false, false, false, false, false⟩
  | .NET_P_PTP => ⟨"NET.P#_PTP", .NET, 0x90008, 128, 2, 1, 0, 9, 8, 1, .RW, .E, 0, 2, true, false, false, false, false, false, false⟩
  | .NET_P_V4_ADDR => ⟨"NET.P#_V4_ADDR", .NET, 0x9000c, 128, 2, 1, 0, 31, 0, 0, .RW, .E, 0, 0xffffffff, true, false, false, false, false, false, false⟩
  | .NET_P_V4_PREFIX => ⟨"NET.P#_V4_PREFIX", .NET, 0x90010, 128, 2, 1, 0, 5, 0, 24, .RW, .E, 1, 30, true, false, false, false, false, false, false⟩
  | .NET_P_V4_GW => ⟨"NET.P#_V4_GW", .NET, 0x90014, 128, 2, 1, 0, 31, 0, 0, .RW, .E, 0, 0xffffffff, true, false, false, false, false, false, false⟩
  | .NET_P_V4_NOW => ⟨"NET.P#_V4_NOW", .NET, 0x90018, 128, 2, 1, 0, 31, 0, 0, .RO, .none, 0, 0xffffffff, false, false, false, false, false, false, false⟩
  | .NET_P_V4_LEASE_S => ⟨"NET.P#_V4_LEASE_S", .NET, 0x9001c, 128, 2, 1, 0, 31, 0, 0, .RO, .none, 0, 0xffffffff, false, false, false, false, false, false, false⟩
  | .NET_P_V6_ADDR => ⟨"NET.P#_V6_ADDR", .NET, 0x90020, 128, 2, 4, 0, 31, 0, 0, .RW, .E, 0, 0xffffffff, true, false, false, false, false, false, false⟩
  | .NET_P_V6_PREFIX => ⟨"NET.P#_V6_PREFIX", .NET, 0x90030, 128, 2, 1, 0, 7, 0, 64, .RW, .E, 8, 128, true, false, false, false, false, false, false⟩
  | .NET_P_V6_NOW => ⟨"NET.P#_V6_NOW", .NET, 0x90040, 128, 2, 4, 0, 31, 0, 0, .RO, .none, 0, 0xffffffff, false, false, false, false, false, false, false⟩
  | .NET_P_MAC_LO => ⟨"NET.P#_MAC_LO", .NET, 0x90050, 128, 2, 1, 0, 31, 0, 0, .RO, .none, 0, 0xffffffff, false, false, false, false, false, false, false⟩
  | .NET_P_MAC_HI => ⟨"NET.P#_MAC_HI", .NET, 0x90054, 128, 2, 1, 0, 15, 0, 0, .RO, .none, 0, 65535, false, false, false, false, false, false, false⟩
  | .NET_P_RX_DROPS => ⟨"NET.P#_RX_DROPS", .NET, 0x90058, 128, 2, 1, 0, 31, 0, 0, .RO, .none, 0, 0xffffffff, false, false, false, false, false, false, false⟩
  | .NET_P_RX_ERRORS => ⟨"NET.P#_RX_ERRORS", .NET, 0x9005c, 128, 2, 1, 0, 31, 0, 0, .RO, .none, 0, 0xffffffff, false, false, false, false, false, false, false⟩
  | .NET_P_FEC_UNCORR => ⟨"NET.P#_FEC_UNCORR", .NET, 0x90060, 128, 2, 1, 0, 31, 0, 0, .RO, .none, 0, 0xffffffff, false, false, false, false, false, false, false⟩
  | .NET_P_PAUSE_MS => ⟨"NET.P#_PAUSE_MS", .NET, 0x90064, 128, 2, 1, 0, 31, 0, 0, .RO, .none, 0, 0xffffffff, false, false, false, false, false, false, false⟩
  | .NET_DKP_PORT => ⟨"NET.DKP_PORT", .NET, 0x90100, 0, 1, 1, 0, 15, 0, 0x4394, .RW, .E, 1024, 65535, true, false, false, false, false, false, false⟩
  | .NET_CMD_PORT => ⟨"NET.CMD_PORT", .NET, 0x90100, 0, 1, 1, 0, 31, 16, 0x4395, .RW, .E, 1024, 65535, true, false, false, false, false, false, false⟩
  | .NET_HS_RATE => ⟨"NET.HS_RATE", .NET, 0x90104, 0, 1, 1, 0, 15, 0, 64, .RW, .I, 1, 1024, true, false, false, false, false, false, false⟩
  | .NET_HS_BURST => ⟨"NET.HS_BURST", .NET, 0x90104, 0, 1, 1, 0, 31, 16, 128, .RW, .I, 1, 1024, true, false, false, false, false, false, false⟩
  | .NET_HS_TIMEOUT_MS => ⟨"NET.HS_TIMEOUT_MS", .NET, 0x90108, 0, 1, 1, 0, 15, 0, 0x1388, .RW, .I, 1000, 60000, true, false, false, false, false, false, false⟩
  | .NET_IDLE_S => ⟨"NET.IDLE_S", .NET, 0x9010c, 0, 1, 1, 0, 31, 0, 300, .RW, .I, 10, 0x15180, true, false, false, false, false, false, false⟩
  | .NET_LINK_HOLD_S => ⟨"NET.LINK_HOLD_S", .NET, 0x90110, 0, 1, 1, 0, 15, 0, 10, .RW, .I, 0, 600, true, false, false, false, false, false, false⟩
  | .NET_SUITE_MIN => ⟨"NET.SUITE_MIN", .NET, 0x90110, 0, 1, 1, 0, 16, 16, 0, .RW, .I, 0, 1, true, false, false, false, false, false, false⟩
  | .NET_CERT_TIME => ⟨"NET.CERT_TIME", .NET, 0x90110, 0, 1, 1, 0, 17, 17, 0, .RW, .I, 0, 1, true, false, false, false, false, false, false⟩
  | .NET_SESS_OPEN => ⟨"NET.SESS_OPEN", .NET, 0x90114, 0, 1, 1, 0, 10, 0, 0, .RO, .none, 0, 2047, false, false, false, false, false, false, false⟩
  | .NET_SESS_HS => ⟨"NET.SESS_HS", .NET, 0x90114, 0, 1, 1, 0, 26, 16, 0, .RO, .none, 0, 2047, false, false, false, false, false, false, false⟩
  | .NET_UTC_OFS_S => ⟨"NET.UTC_OFS_S", .NET, 0x90118, 0, 1, 1, 0, 15, 0, 37, .RO, .none, 0, 65535, false, false, false, false, false, false, false⟩
  | .NET_ID_STATE => ⟨"NET.ID_STATE", .NET, 0x90118, 0, 1, 1, 0, 17, 16, 0, .RO, .none, 0, 3, false, false, false, false, false, false, false⟩
  | .NET_NOSESS_DROPS => ⟨"NET.NOSESS_DROPS", .NET, 0x9011c, 0, 1, 1, 0, 31, 0, 0, .RO, .none, 0, 0xffffffff, false, false, false, false, false, false, false⟩
  | .NET_REPLAY_DROPS => ⟨"NET.REPLAY_DROPS", .NET, 0x90120, 0, 1, 1, 0, 31, 0, 0, .RO, .none, 0, 0xffffffff, false, false, false, false, false, false, false⟩
  | .NET_AUTH_DROPS => ⟨"NET.AUTH_DROPS", .NET, 0x90124, 0, 1, 1, 0, 31, 0, 0, .RO, .none, 0, 0xffffffff, false, false, false, false, false, false, false⟩
  | .NET_PTP_BAD => ⟨"NET.PTP_BAD", .NET, 0x90128, 0, 1, 1, 0, 31, 0, 0, .RO, .none, 0, 0xffffffff, false, false, false, false, false, false, false⟩
  | .DKP_RTO_MS => ⟨"DKP.RTO_MS", .DKP, 0xa0000, 0, 1, 1, 0, 15, 0, 50, .RW, .I, 10, 2000, true, false, false, false, false, false, false⟩
  | .DKP_RETX_MAX => ⟨"DKP.RETX_MAX", .DKP, 0xa0000, 0, 1, 1, 0, 23, 16, 8, .RW, .I, 1, 32, true, false, false, false, false, false, false⟩
  | .DKP_ACK_EVERY => ⟨"DKP.ACK_EVERY", .DKP, 0xa0004, 0, 1, 1, 0, 8, 0, 64, .RW, .I, 8, 256, true, false, false, false, false, false, false⟩
  | .DKP_REASM_MS => ⟨"DKP.REASM_MS", .DKP, 0xa0004, 0, 1, 1, 0, 31, 16, 1000, .RW, .I, 100, 10000, true, false, false, false, false, false, false⟩
  | .DKP_TOKENS => ⟨"DKP.TOKENS", .DKP, 0xa0008, 0, 1, 1, 0, 16, 0, 0, .RO, .none, 0, 0x1ffff, false, false, false, false, false, false, false⟩
  | .DKP_BUSY => ⟨"DKP.BUSY", .DKP, 0xa000c, 0, 1, 1, 0, 31, 0, 0, .RO, .none, 0, 0xffffffff, false, false, false, false, false, false, false⟩
  | .DKP_REPLAY_HITS => ⟨"DKP.REPLAY_HITS", .DKP, 0xa0010, 0, 1, 1, 0, 31, 0, 0, .RO, .none, 0, 0xffffffff, false, false, false, false, false, false, false⟩
  | .DKP_STALE_IDS => ⟨"DKP.STALE_IDS", .DKP, 0xa0014, 0, 1, 1, 0, 31, 0, 0, .RO, .none, 0, 0xffffffff, false, false, false, false, false, false, false⟩
  | .DKP_REASM_DROPS => ⟨"DKP.REASM_DROPS", .DKP, 0xa0018, 0, 1, 1, 0, 31, 0, 0, .RO, .none, 0, 0xffffffff, false, false, false, false, false, false, false⟩
  | .DKP_BAD_SEG => ⟨"DKP.BAD_SEG", .DKP, 0xa001c, 0, 1, 1, 0, 31, 0, 0, .RO, .none, 0, 0xffffffff, false, false, false, false, false, false, false⟩
  | .DKP_RETX_ABANDON => ⟨"DKP.RETX_ABANDON", .DKP, 0xa0020, 0, 1, 1, 0, 31, 0, 0, .RO, .none, 0, 0xffffffff, false, false, false, false, false, false, false⟩
  | .DKP_EVT_LOST => ⟨"DKP.EVT_LOST", .DKP, 0xa0024, 0, 1, 1, 0, 31, 0, 0, .RO, .none, 0, 0xffffffff, false, false, false, false, false, false, false⟩
  | .KV_STATE => ⟨"KV.STATE", .KV, 0xb0000, 0, 1, 1, 0, 1, 0, 0, .RO, .none, 0, 3, false, false, false, false, false, false, false⟩
  | .KV_KEYS_LO => ⟨"KV.KEYS_LO", .KV, 0xb0004, 0, 1, 1, 0, 31, 0, 0, .RO, .none, 0, 0xffffffff, false, false, false, false, false, false, false⟩
  | .KV_KEYS_HI => ⟨"KV.KEYS_HI", .KV, 0xb0008, 0, 1, 1, 0, 0, 0, 0, .RO, .none, 0, 1, false, false, false, false, false, false, false⟩
  | .KV_USER_MIB => ⟨"KV.USER_MIB", .KV, 0xb000c, 0, 1, 1, 0, 31, 0, 0, .RO, .none, 0, 0xffffffff, false, false, false, false, false, false, false⟩
  | .KV_FROZEN => ⟨"KV.FROZEN", .KV, 0xb0010, 0, 1, 1, 0, 31, 0, 0, .RO, .none, 0, 0xffffffff, false, false, false, false, false, false, false⟩
  | .KV_EXPIRED => ⟨"KV.EXPIRED", .KV, 0xb0014, 0, 1, 1, 0, 31, 0, 0, .RO, .none, 0, 0xffffffff, false, false, false, false, false, false, false⟩
  | .KV_SNAP_OPEN => ⟨"KV.SNAP_OPEN", .KV, 0xb0018, 0, 1, 1, 0, 6, 0, 0, .RO, .none, 0, 127, false, false, false, false, false, false, false⟩
  | .KV_SNAP_S => ⟨"KV.SNAP_S", .KV, 0xb0018, 0, 1, 1, 0, 31, 16, 60, .RW, .I, 10, 3600, true, false, false, false, false, false, false⟩
  | .KV_WL_DELTA => ⟨"KV.WL_DELTA", .KV, 0xb001c, 0, 1, 1, 0, 15, 0, 1000, .RW, .I, 100, 10000, true, false, false, false, false, false, false⟩
  | .KV_ENDURANCE => ⟨"KV.ENDURANCE", .KV, 0xb0020, 0, 1, 1, 0, 31, 0, 0, .RO, .none, 0, 0xffffffff, false, false, false, false, false, false, false⟩
  | .KV_ERASE_MEAN => ⟨"KV.ERASE_MEAN", .KV, 0xb0024, 0, 1, 1, 0, 31, 0, 0, .RO, .none, 0, 0xffffffff, false, false, false, false, false, false, false⟩
  | .KV_ERASE_MAX => ⟨"KV.ERASE_MAX", .KV, 0xb0028, 0, 1, 1, 0, 31, 0, 0, .RO, .none, 0, 0xffffffff, false, false, false, false, false, false, false⟩
  | .KV_WEAR_PCT => ⟨"KV.WEAR_PCT", .KV, 0xb002c, 0, 1, 1, 0, 7, 0, 0, .RO, .none, 0, 255, false, false, false, false, false, false, false⟩
  | .KV_WAF_X100 => ⟨"KV.WAF_X100", .KV, 0xb002c, 0, 1, 1, 0, 31, 16, 0, .RO, .none, 0, 65535, false, false, false, false, false, false, false⟩
  | .KV_RING_ROLES => ⟨"KV.RING_ROLES", .KV, 0xb0030, 0, 1, 1, 0, 15, 0, 0, .RW, .I, 0, 65535, true, false, false, false, true, false, false⟩
  | .KV_RET_S => ⟨"KV.RET_S#", .KV, 0xb0040, 4, 7, 1, 1, 31, 0, 0, .RW, .I, 0, 0xffffffff, true, false, false, false, false, false, false⟩
  | .KV_NS_ACT_LO => ⟨"KV.NS_ACT_LO#", .KV, 0xb1000, 16, 256, 1, 0, 31, 0, 0, .RW, .I, 0, 0xffffffff, true, false, false, false, true, false, false⟩
  | .KV_NS_ACT_HI => ⟨"KV.NS_ACT_HI#", .KV, 0xb1004, 16, 256, 1, 0, 31, 0, 0, .RW, .I, 0, 0xffffffff, true, false, false, false, true, false, false⟩
  | .KV_NS_ATTR => ⟨"KV.NS_ATTR#", .KV, 0xb1008, 16, 256, 1, 0, 0, 0, 0, .RW, .I, 0, 1, true, false, false, false, true, false, false⟩
  | .KV_NS_KEYS => ⟨"KV.NS_KEYS#", .KV, 0xb100c, 16, 256, 1, 0, 31, 0, 0, .RO, .none, 0, 0xffffffff, false, false, false, false, false, false, false⟩
  | .COLL_C_STATE => ⟨"COLL.C#_STATE", .COLL, 0xe0000, 64, 64, 1, 0, 2, 0, 7, .RO, .none, 0, 7, false, false, false, false, true, false, false⟩
  | .COLL_C_FMT => ⟨"COLL.C#_FMT", .COLL, 0xe0000, 64, 64, 1, 0, 5, 4, 0, .RO, .none, 0, 3, false, false, false, false, true, false, false⟩
  | .COLL_C_WCODE => ⟨"COLL.C#_WCODE", .COLL, 0xe0000, 64, 64, 1, 0, 9, 8, 1, .RW, .Q, 0, 3, false, false, false, false, true, false, false⟩
  | .COLL_C_TAGGED => ⟨"COLL.C#_TAGGED", .COLL, 0xe0000, 64, 64, 1, 0, 12, 12, 0, .RW, .Q, 0, 1, false, false, false, false, true, false, false⟩
  | .COLL_C_SRC => ⟨"COLL.C#_SRC", .COLL, 0xe0000, 64, 64, 1, 0, 13, 13, 0, .RO, .none, 0, 1, false, false, false, false, true, false, false⟩
  | .COLL_C_NS => ⟨"COLL.C#_NS", .COLL, 0xe0004, 64, 64, 1, 0, 7, 0, 0, .RO, .none, 0, 255, false, false, false, false, true, false, false⟩
  | .COLL_C_D => ⟨"COLL.C#_D", .COLL, 0xe0004, 64, 64, 1, 0, 27, 16, 0, .RO, .none, 0, 4095, false, false, false, false, true, false, false⟩
  | .COLL_C_SEED_LO => ⟨"COLL.C#_SEED_LO", .COLL, 0xe0008, 64, 64, 1, 0, 31, 0, 0, .RW, .Q, 0, 0xffffffff, false, false, false, false, true, false, false⟩
  | .COLL_C_SEED_HI => ⟨"COLL.C#_SEED_HI", .COLL, 0xe000c, 64, 64, 1, 0, 31, 0, 0, .RW, .Q, 0, 0xffffffff, false, false, false, false, true, false, false⟩
  | .COLL_C_MAX_CHUNKS => ⟨"COLL.C#_MAX_CHUNKS", .COLL, 0xe0010, 64, 64, 1, 0, 10, 0, 0, .RW, .I, 1, 1536, false, false, false, false, true, false, false⟩
  | .COLL_C_CHUNKS => ⟨"COLL.C#_CHUNKS", .COLL, 0xe0010, 64, 64, 1, 0, 26, 16, 0, .RO, .none, 0, 2047, false, false, false, false, true, false, false⟩
  | .COLL_C_GEN => ⟨"COLL.C#_GEN", .COLL, 0xe0014, 64, 64, 1, 0, 31, 0, 0, .RO, .none, 0, 0xffffffff, false, false, false, false, true, false, false⟩
  | .COLL_C_MAIN_LO => ⟨"COLL.C#_MAIN_LO", .COLL, 0xe0018, 64, 64, 1, 0, 31, 0, 0, .RO, .none, 0, 0xffffffff, false, false, false, false, true, false, false⟩
  | .COLL_C_MAIN_HI => ⟨"COLL.C#_MAIN_HI", .COLL, 0xe001c, 64, 64, 1, 0, 1, 0, 0, .RO, .none, 0, 3, false, false, false, false, true, false, false⟩
  | .COLL_C_SIDE => ⟨"COLL.C#_SIDE", .COLL, 0xe0020, 64, 64, 1, 0, 24, 0, 0, .RO, .none, 0, 0x1ffffff, false, false, false, false, true, false, false⟩
  | .COLL_C_PUB_SEQ => ⟨"COLL.C#_PUB_SEQ", .COLL, 0xe0024, 64, 64, 1, 0, 31, 0, 0, .RO, .none, 0, 0xffffffff, false, false, false, false, true, false, false⟩
  | .COLL_C_MERGE_CHUNK => ⟨"COLL.C#_MERGE_CHUNK", .COLL, 0xe0028, 64, 64, 1, 0, 31, 0, 0, .RO, .none, 0, 0xffffffff, false, false, false, false, true, false, false⟩
  | .COLL_C_NAME => ⟨"COLL.C#_NAME", .COLL, 0xe0030, 64, 64, 4, 0, 31, 0, 0, .RO, .none, 0, 0xffffffff, false, false, false, false, true, false, false⟩
  | .COLL_FREE_CHUNKS => ⟨"COLL.FREE_CHUNKS", .COLL, 0xe1000, 0, 1, 1, 0, 10, 0, 0, .RO, .none, 0, 2047, false, false, false, false, true, false, false⟩
  | .COLL_RESERVED_MIB => ⟨"COLL.RESERVED_MIB", .COLL, 0xe1004, 0, 1, 1, 0, 31, 0, 0, .RO, .none, 0, 0xffffffff, false, false, false, false, true, false, false⟩
  | .SWEEP_LANES_ON => ⟨"SWEEP.LANES_ON", .SWEEP, 0xf0000, 0, 1, 1, 0, 15, 0, 0, .RO, .none, 0, 65535, false, false, false, false, false, false, false⟩
  | .SWEEP_QUEUE => ⟨"SWEEP.QUEUE", .SWEEP, 0xf0004, 0, 1, 1, 0, 12, 0, 0, .RO, .none, 0, 8191, false, false, false, false, false, false, false⟩
  | .SWEEP_BATCH_NUM => ⟨"SWEEP.BATCH_NUM", .SWEEP, 0xf0008, 0, 1, 1, 0, 31, 0, 0, .RO, .none, 0, 0xffffffff, false, false, false, false, false, false, false⟩
  | .SWEEP_LAST_N => ⟨"SWEEP.LAST_N", .SWEEP, 0xf000c, 0, 1, 1, 0, 8, 0, 0, .RO, .none, 0, 511, false, false, false, false, false, false, false⟩
  | .SWEEP_LAST_WAIT_US => ⟨"SWEEP.LAST_WAIT_US", .SWEEP, 0xf0010, 0, 1, 1, 0, 31, 0, 0, .RO, .none, 0, 0xffffffff, false, false, false, false, false, false, false⟩
  | .SWEEP_LAST_PASS_US => ⟨"SWEEP.LAST_PASS_US", .SWEEP, 0xf0014, 0, 1, 1, 0, 31, 0, 0, .RO, .none, 0, 0xffffffff, false, false, false, false, false, false, false⟩
  | .SWEEP_UTIL_PCT => ⟨"SWEEP.UTIL_PCT", .SWEEP, 0xf0018, 0, 1, 1, 0, 7, 0, 0, .RO, .none, 0, 255, false, false, false, false, false, false, false⟩
  | .SWEEP_OTHER_PCT => ⟨"SWEEP.OTHER_PCT", .SWEEP, 0xf0018, 0, 1, 1, 0, 15, 8, 0, .RO, .none, 0, 255, false, false, false, false, false, false, false⟩
  | .SWEEP_QUERIES => ⟨"SWEEP.QUERIES", .SWEEP, 0xf001c, 0, 1, 1, 0, 31, 0, 0, .RO, .none, 0, 0xffffffff, false, false, false, false, false, false, false⟩
  | .SWEEP_C_CUT => ⟨"SWEEP.C_CUT", .SWEEP, 0xf0020, 0, 1, 1, 0, 31, 0, 0, .RO, .none, 0, 0xffffffff, false, false, false, false, false, false, false⟩
  | .SWEEP_DEGRADED => ⟨"SWEEP.DEGRADED", .SWEEP, 0xf0024, 0, 1, 1, 0, 31, 0, 0, .RO, .none, 0, 0xffffffff, false, false, false, false, false, false, false⟩
  | .SWEEP_EXACT_RUN => ⟨"SWEEP.EXACT_RUN", .SWEEP, 0xf0028, 0, 1, 1, 0, 4, 0, 0, .RO, .none, 0, 31, false, false, false, false, false, false, false⟩
  | .SWEEP_RECALL_JOB => ⟨"SWEEP.RECALL_JOB", .SWEEP, 0xf0030, 0, 1, 1, 0, 31, 0, 0, .RO, .none, 0, 0xffffffff, false, false, false, false, false, false, false⟩
  | .SWEEP_RECALL_PPM => ⟨"SWEEP.RECALL_PPM", .SWEEP, 0xf0034, 0, 1, 1, 0, 31, 0, 0, .RO, .none, 0, 0xffffffff, false, false, false, false, false, false, false⟩
  | .SWEEP_W_CFG => ⟨"SWEEP.W#_CFG", .SWEEP, 0xf0100, 32, 8, 1, 0, 31, 0, 0, .RO, .none, 0, 0xffffffff, false, false, false, false, false, false, false⟩
  | .SWEEP_W_NS => ⟨"SWEEP.W#_NS", .SWEEP, 0xf0104, 32, 8, 1, 0, 7, 0, 0, .RO, .none, 0, 255, false, false, false, false, false, false, false⟩
  | .SWEEP_W_C => ⟨"SWEEP.W#_C", .SWEEP, 0xf0104, 32, 8, 1, 0, 27, 16, 64, .RO, .none, 0, 4095, false, false, false, false, false, false, false⟩
  | .SWEEP_W_PERIOD_MS => ⟨"SWEEP.W#_PERIOD_MS", .SWEEP, 0xf0108, 32, 8, 1, 0, 31, 0, 0, .RO, .none, 0, 0xffffffff, false, false, false, false, false, false, false⟩
  | .SWEEP_W_THR => ⟨"SWEEP.W#_THR", .SWEEP, 0xf010c, 32, 8, 1, 0, 31, 0, 0, .RO, .none, 0, 0xffffffff, false, false, false, false, false, false, false⟩
  | .SWEEP_W_KEYLEN => ⟨"SWEEP.W#_KEYLEN", .SWEEP, 0xf0110, 32, 8, 1, 0, 7, 0, 0, .RO, .none, 0, 255, false, false, false, false, false, false, false⟩
  | .SWEEP_W_LAST_DIST => ⟨"SWEEP.W#_LAST_DIST", .SWEEP, 0xf0114, 32, 8, 1, 0, 31, 0, 0, .RO, .none, 0, 0xffffffff, false, false, false, false, false, false, false⟩
  | .SWEEP_W_STATE => ⟨"SWEEP.W#_STATE", .SWEEP, 0xf0118, 32, 8, 1, 0, 15, 0, 0, .RO, .none, 0, 65535, false, false, false, false, false, false, false⟩
  | .SWEEP_W_SKIPS => ⟨"SWEEP.W#_SKIPS", .SWEEP, 0xf0118, 32, 8, 1, 0, 31, 16, 0, .RO, .none, 0, 65535, false, false, false, false, false, false, false⟩
  | .SWEEP_W_RUNS => ⟨"SWEEP.W#_RUNS", .SWEEP, 0xf011c, 32, 8, 1, 0, 31, 0, 0, .RO, .none, 0, 0xffffffff, false, false, false, false, false, false, false⟩
  | .RRK_WALK_CTX => ⟨"RRK.WALK_CTX", .RRK, 0x100000, 0, 1, 1, 0, 11, 0, 1024, .RW, .Q, 256, 3840, true, false, false, false, false, false, false⟩
  | .RRK_WALK_BUSY => ⟨"RRK.WALK_BUSY", .RRK, 0x100004, 0, 1, 1, 0, 12, 0, 0, .RO, .none, 0, 8191, false, false, false, false, false, false, false⟩
  | .RRK_RR_BUSY => ⟨"RRK.RR_BUSY", .RRK, 0x100004, 0, 1, 1, 0, 28, 16, 0, .RO, .none, 0, 8191, false, false, false, false, false, false, false⟩
  | .RRK_CACHE_HITS => ⟨"RRK.CACHE_HITS", .RRK, 0x100008, 0, 1, 1, 0, 31, 0, 0, .RO, .none, 0, 0xffffffff, false, false, false, false, false, false, false⟩
  | .RRK_CACHE_MISSES => ⟨"RRK.CACHE_MISSES", .RRK, 0x10000c, 0, 1, 1, 0, 31, 0, 0, .RO, .none, 0, 0xffffffff, false, false, false, false, false, false, false⟩
  | .RRK_DROPPED_DEL => ⟨"RRK.DROPPED_DEL", .RRK, 0x100010, 0, 1, 1, 0, 31, 0, 0, .RO, .none, 0, 0xffffffff, false, false, false, false, false, false, false⟩
  | .RRK_REPLACED => ⟨"RRK.REPLACED", .RRK, 0x100014, 0, 1, 1, 0, 31, 0, 0, .RO, .none, 0, 0xffffffff, false, false, false, false, false, false, false⟩
  | .RRK_UNIT_PCT => ⟨"RRK.UNIT_PCT", .RRK, 0x100018, 0, 1, 1, 0, 7, 0, 0, .RO, .none, 0, 255, false, false, false, false, false, false, false⟩
  | .ASSOC_POLICY_BANKS => ⟨"ASSOC.POLICY_BANKS", .ASSOC, 0x110000, 0, 1, 1, 0, 3, 0, 1, .RW, .I, 0, 15, true, false, false, false, true, false, false⟩
  | .ASSOC_BANK_ON => ⟨"ASSOC.BANK_ON", .ASSOC, 0x110004, 0, 1, 1, 0, 15, 0, 0xffff, .RW, .I, 0, 65535, true, false, false, false, false, false, false⟩
  | .ASSOC_DW => ⟨"ASSOC.DW", .ASSOC, 0x110008, 0, 1, 1, 0, 7, 2, 0, .RW, .I, 0, 63, true, false, false, false, false, false, false⟩
  | .ASSOC_CURSOR_MS => ⟨"ASSOC.CURSOR_MS", .ASSOC, 0x11000c, 0, 1, 1, 0, 15, 0, 1000, .RW, .I, 10, 60000, true, false, false, false, false, false, false⟩
  | .ASSOC_CURSORS => ⟨"ASSOC.CURSORS", .ASSOC, 0x11000c, 0, 1, 1, 0, 22, 16, 0, .RO, .none, 0, 127, false, false, false, false, false, false, false⟩
  | .ASSOC_SEARCHES => ⟨"ASSOC.SEARCHES", .ASSOC, 0x110010, 0, 1, 1, 0, 31, 0, 0, .RO, .none, 0, 0xffffffff, false, false, false, false, false, false, false⟩
  | .ASSOC_CLASSIFY => ⟨"ASSOC.CLASSIFY", .ASSOC, 0x110014, 0, 1, 1, 0, 31, 0, 0, .RO, .none, 0, 0xffffffff, false, false, false, false, false, false, false⟩
  | .ASSOC_FALSE_HITS => ⟨"ASSOC.FALSE_HITS", .ASSOC, 0x110018, 0, 1, 1, 0, 31, 0, 0, .RO, .none, 0, 0xffffffff, false, false, false, false, false, false, false⟩
  | .ASSOC_SUSPECT => ⟨"ASSOC.SUSPECT", .ASSOC, 0x11001c, 0, 1, 1, 0, 16, 0, 0, .RO, .none, 0, 0x1ffff, false, false, false, false, false, false, false⟩
  | .ASSOC_SCRUB_FIXES => ⟨"ASSOC.SCRUB_FIXES", .ASSOC, 0x110020, 0, 1, 1, 0, 31, 0, 0, .RO, .none, 0, 0xffffffff, false, false, false, false, false, false, false⟩
  | .ASSOC_SCRUB_PASSES => ⟨"ASSOC.SCRUB_PASSES", .ASSOC, 0x110024, 0, 1, 1, 0, 31, 0, 0, .RO, .none, 0, 0xffffffff, false, false, false, false, false, false, false⟩
  | .ASSOC_SHADOW_CE => ⟨"ASSOC.SHADOW_CE", .ASSOC, 0x110028, 0, 1, 1, 0, 31, 0, 0, .RO, .none, 0, 0xffffffff, false, false, false, false, false, false, false⟩
  | .ASSOC_POLICY_STATE => ⟨"ASSOC.POLICY_STATE", .ASSOC, 0x11002c, 0, 1, 1, 0, 1, 0, 0, .RO, .none, 0, 3, false, false, false, false, false, false, false⟩
  | .ASSOC_B_ROLES => ⟨"ASSOC.B#_ROLES", .ASSOC, 0x110040, 4, 16, 1, 0, 31, 0, 0, .RW, .I, 0, 0xffffffff, true, false, false, false, false, false, false⟩
  | .ASSOC_B_VALID => ⟨"ASSOC.B#_VALID", .ASSOC, 0x110080, 4, 16, 1, 0, 12, 0, 0, .RO, .none, 0, 8191, false, false, false, false, false, false, false⟩
  | .CASC_POS => ⟨"CASC.POS", .CASC, 0x120000, 0, 1, 1, 0, 2, 0, 0, .RO, .none, 0, 7, false, false, false, false, false, false, false⟩
  | .CASC_SIZE => ⟨"CASC.SIZE", .CASC, 0x120000, 0, 1, 1, 0, 11, 8, 1, .RW, .I, 1, 8, true, false, false, false, false, false, false⟩
  | .CASC_MISMATCH => ⟨"CASC.MISMATCH", .CASC, 0x120000, 0, 1, 1, 0, 16, 16, 0, .RO, .none, 0, 1, false, false, false, false, false, false, false⟩
  | .CASC_PRESENT => ⟨"CASC.PRESENT", .CASC, 0x120004, 0, 1, 1, 0, 7, 0, 0, .RO, .none, 0, 255, false, false, false, false, false, false, false⟩
  | .CASC_WITHDRAWN => ⟨"CASC.WITHDRAWN", .CASC, 0x120004, 0, 1, 1, 0, 15, 8, 0, .RO, .none, 0, 255, false, false, false, false, false, false, false⟩
  | .CASC_COVERED => ⟨"CASC.COVERED", .CASC, 0x120004, 0, 1, 1, 0, 23, 16, 0, .RO, .none, 0, 255, false, false, false, false, false, false, false⟩
  | .CASC_FRAMES => ⟨"CASC.FRAMES", .CASC, 0x120008, 0, 1, 1, 0, 31, 0, 0, .RO, .none, 0, 0xffffffff, false, false, false, false, false, false, false⟩
  | .CASC_RETRIES => ⟨"CASC.RETRIES", .CASC, 0x12000c, 0, 1, 1, 0, 31, 0, 0, .RO, .none, 0, 0xffffffff, false, false, false, false, false, false, false⟩
  | .EVT_ALERT => ⟨"EVT.ALERT", .EVT, 0x70000, 0, 1, 1, 0, 0, 0, 0, .RO, .none, 0, 1, false, false, false, false, false, false, false⟩
  | .EVT_ALERT_FIRST => ⟨"EVT.ALERT_FIRST", .EVT, 0x70000, 0, 1, 1, 0, 25, 16, 0, .RO, .none, 0, 1023, false, false, false, false, false, false, false⟩
  | .EVT_LOG_SEQ_LO => ⟨"EVT.LOG_SEQ_LO", .EVT, 0x70004, 0, 1, 1, 0, 31, 0, 0, .RO, .none, 0, 0xffffffff, false, false, false, false, false, false, false⟩
  | .EVT_LOG_SEQ_HI => ⟨"EVT.LOG_SEQ_HI", .EVT, 0x70008, 0, 1, 1, 0, 31, 0, 0, .RO, .none, 0, 0xffffffff, false, false, false, false, false, false, false⟩
  | .EVT_LOG_OLD_LO => ⟨"EVT.LOG_OLD_LO", .EVT, 0x7000c, 0, 1, 1, 0, 31, 0, 0, .RO, .none, 0, 0xffffffff, false, false, false, false, false, false, false⟩
  | .EVT_LOG_OLD_HI => ⟨"EVT.LOG_OLD_HI", .EVT, 0x70010, 0, 1, 1, 0, 31, 0, 0, .RO, .none, 0, 0xffffffff, false, false, false, false, false, false, false⟩
  | .EVT_LOG_LOST => ⟨"EVT.LOG_LOST", .EVT, 0x70014, 0, 1, 1, 0, 31, 0, 0, .RO, .none, 0, 0xffffffff, false, false, false, false, false, false, false⟩
  | .EVT_LOG_RATE => ⟨"EVT.LOG_RATE", .EVT, 0x70018, 0, 1, 1, 0, 15, 0, 1000, .RW, .I, 100, 1000, true, false, false, false, false, false, false⟩
  | .EVT_GPIO_EV => ⟨"EVT.GPIO#_EV", .EVT, 0x70020, 4, 8, 1, 0, 9, 0, 0, .RW, .I, 0, 1023, true, false, false, false, false, false, false⟩
  | .EVT_GPIO_ON => ⟨"EVT.GPIO#_ON", .EVT, 0x70020, 4, 8, 1, 0, 12, 12, 0, .RW, .I, 0, 1, true, false, false, false, false, false, false⟩
  | .EVT_GPIO_LOW => ⟨"EVT.GPIO#_LOW", .EVT, 0x70020, 4, 8, 1, 0, 13, 13, 0, .RW, .I, 0, 1, true, false, false, false, false, false, false⟩
  | .EVT_GPIO_PULSE => ⟨"EVT.GPIO#_PULSE", .EVT, 0x70020, 4, 8, 1, 0, 14, 14, 0, .RW, .I, 0, 1, true, false, false, false, false, false, false⟩
  | .EVT_GPIO_MS => ⟨"EVT.GPIO#_MS", .EVT, 0x70020, 4, 8, 1, 0, 31, 16, 10, .RW, .I, 1, 1000, true, false, false, false, false, false, false⟩
  | .EVT_LATCH_SUM => ⟨"EVT.LATCH_SUM", .EVT, 0x70040, 0, 1, 32, 0, 31, 0, 0, .RO, .none, 0, 0xffffffff, false, false, false, false, false, false, false⟩
  | .EVT_E => ⟨"EVT.E#", .EVT, 0x71000, 4, 1024, 1, 0, 31, 0, 0, .RW, .I, 0, 0xffffffff, true, false, false, false, false, false, false⟩
  | .SYS_VARIANT => ⟨"SYS.VARIANT", .SYS, 0x0, 0, 1, 1, 0, 1, 0, 0, .RO, .none, 0, 3, false, false, false, false, false, false, false⟩
  | .SYS_PROFILE => ⟨"SYS.PROFILE", .SYS, 0x0, 0, 1, 1, 0, 4, 4, 0, .RO, .none, 0, 1, false, false, false, false, false, false, false⟩
  | .SYS_REV => ⟨"SYS.REV", .SYS, 0x0, 0, 1, 1, 0, 15, 8, 177, .RO, .none, 0, 255, false, false, false, false, false, false, false⟩
  | .SYS_PART => ⟨"SYS.PART", .SYS, 0x4, 0, 1, 1, 0, 15, 0, 0x1500, .RO, .none, 0, 65535, false, false, false, false, false, false, false⟩
  | .SYS_DENIED => ⟨"SYS.DENIED", .SYS, 0x8, 0, 1, 1, 0, 15, 0, 0, .RO, .none, 0, 65535, false, false, false, false, false, false, false⟩
  | .SYS_DENIED_ADDR => ⟨"SYS.DENIED_ADDR", .SYS, 0xc, 0, 1, 1, 0, 31, 0, 0, .RO, .none, 0, 0xffffffff, false, false, false, false, false, false, false⟩
  | .SYS_COMMITS => ⟨"SYS.COMMITS", .SYS, 0x10, 0, 1, 1, 0, 15, 0, 0, .RO, .none, 0, 65535, false, false, false, false, false, false, false⟩
  | .SYS_PENDING_DUSK => ⟨"SYS.PENDING_DUSK", .SYS, 0x10, 0, 1, 1, 0, 23, 16, 0, .RO, .none, 0, 255, false, false, false, false, false, false, false⟩

/-- The fields of one block, in the order of its table. -/
def Block.params : Block → List Param
  | .SYS => [.SYS_VARIANT, .SYS_PROFILE, .SYS_REV, .SYS_PART, .SYS_DENIED, .SYS_DENIED_ADDR, .SYS_COMMITS,
      .SYS_PENDING_DUSK]
  | .PWR => [.PWR_DOMAIN_ON, .PWR_DOMAIN_RET, .PWR_PG_STATE, .PWR_EN_STATE, .PWR_PG_TIMEOUT_MS,
      .PWR_PF_DEBOUNCE_MS, .PWR_PLP_STATUS, .PWR_FLUSH_US, .PWR_P_CORE_MW, .PWR_P_AVG_MW, .PWR_TEMP_MAX_C,
      .PWR_TEMP_A, .PWR_TEMP_B, .PWR_WAKE_EN, .PWR_WAKE_AT_LO, .PWR_WAKE_AT_HI, .PWR_WAKE_CAUSE,
      .PWR_RESET_CAUSE, .PWR_PG_FAILS]
  | .CLK => [.CLK_BEAT_LO, .CLK_BEAT_HI, .CLK_TAI_LO, .CLK_TAI_HI, .CLK_TIME_STATE, .CLK_TAI_VALID,
      .CLK_CASC_LOCK, .CLK_OFFSET_NS, .CLK_PTP_EN, .CLK_PTP_DOMAIN, .CLK_SLEW_MAX, .CLK_STEP_LIM,
      .CLK_ASYM_NS, .CLK_TAI_SET_LO, .CLK_TAI_SET_HI, .CLK_TAI_INVALIDATE, .CLK_HOLD_S]
  | .BOOT => [.BOOT_RUN_SLOT, .BOOT_ACTIVE, .BOOT_XSPI_MODE, .BOOT_LAST_END, .BOOT_FLAG_SEQ, .BOOT_RUN_SVN,
      .BOOT_FUSE_SVN, .BOOT_SIGNERS, .BOOT_RUN_VER_LO, .BOOT_RUN_VER_HI, .BOOT_ATTEMPTS, .BOOT_NOR_MIB,
      .BOOT_SLOT_CODE, .BOOT_UPD_STATE, .BOOT_UPD_NEXT, .BOOT_TRACE_IDX, .BOOT_TRACE]
  | .LC => [.LC_STATE, .LC_DEBUG, .LC_FUSES, .LC_SEED_REVOKED, .LC_SEED_COMM, .LC_SEED_ACTIVE,
      .LC_OWNER_SET, .LC_DBG_HASH, .LC_AUTH]
  | .VAULT => [.VAULT_ATTR, .VAULT_LOCK_USE, .VAULT_LOCK_CHANGE, .VAULT_TRNG_OK]
  | .ALM => [.ALM_LATCH, .ALM_SRC_NOW, .ALM_CLASS, .ALM_MESH_EN, .ALM_CASE_MS, .ALM_T_LO_C, .ALM_T_HI_C,
      .ALM_AUTH_N, .ALM_AUTH_WIN_S, .ALM_AUTH_COUNT, .ALM_ERASE_US]
  | .EVT => [.EVT_ALERT, .EVT_ALERT_FIRST, .EVT_LOG_SEQ_LO, .EVT_LOG_SEQ_HI, .EVT_LOG_OLD_LO,
      .EVT_LOG_OLD_HI, .EVT_LOG_LOST, .EVT_LOG_RATE, .EVT_GPIO_EV, .EVT_GPIO_ON, .EVT_GPIO_LOW,
      .EVT_GPIO_PULSE, .EVT_GPIO_MS, .EVT_LATCH_SUM, .EVT_E]
  | .LINE => [.LINE_ADDR, .LINE_ADDR_LOCK, .LINE_STRICT, .LINE_ECHO, .LINE_NOTICE_RING, .LINE_BAUD,
      .LINE_REVERT_S, .LINE_IDLE_S, .LINE_LEVEL, .LINE_FAILS, .LINE_LOCK_S, .LINE_RING_STATE,
      .LINE_RX_ERRORS, .LINE_CSUM_ERRORS, .LINE_UNIT_ID_LO, .LINE_UNIT_ID_HI, .LINE_TLS_CONN]
  | .NET => [.NET_P_SPEED, .NET_P_FEC, .NET_P_EN, .NET_P_LINK, .NET_P_VLAN, .NET_P_PCP, .NET_P_MTU,
      .NET_P_V4_MODE, .NET_P_V6_MODE, .NET_P_PTP, .NET_P_V4_ADDR, .NET_P_V4_PREFIX, .NET_P_V4_GW,
      .NET_P_V4_NOW, .NET_P_V4_LEASE_S, .NET_P_V6_ADDR, .NET_P_V6_PREFIX, .NET_P_V6_NOW, .NET_P_MAC_LO,
      .NET_P_MAC_HI, .NET_P_RX_DROPS, .NET_P_RX_ERRORS, .NET_P_FEC_UNCORR, .NET_P_PAUSE_MS, .NET_DKP_PORT,
      .NET_CMD_PORT, .NET_HS_RATE, .NET_HS_BURST, .NET_HS_TIMEOUT_MS, .NET_IDLE_S, .NET_LINK_HOLD_S,
      .NET_SUITE_MIN, .NET_CERT_TIME, .NET_SESS_OPEN, .NET_SESS_HS, .NET_UTC_OFS_S, .NET_ID_STATE,
      .NET_NOSESS_DROPS, .NET_REPLAY_DROPS, .NET_AUTH_DROPS, .NET_PTP_BAD]
  | .DKP => [.DKP_RTO_MS, .DKP_RETX_MAX, .DKP_ACK_EVERY, .DKP_REASM_MS, .DKP_TOKENS, .DKP_BUSY,
      .DKP_REPLAY_HITS, .DKP_STALE_IDS, .DKP_REASM_DROPS, .DKP_BAD_SEG, .DKP_RETX_ABANDON, .DKP_EVT_LOST]
  | .KV => [.KV_STATE, .KV_KEYS_LO, .KV_KEYS_HI, .KV_USER_MIB, .KV_FROZEN, .KV_EXPIRED, .KV_SNAP_OPEN,
      .KV_SNAP_S, .KV_WL_DELTA, .KV_ENDURANCE, .KV_ERASE_MEAN, .KV_ERASE_MAX, .KV_WEAR_PCT, .KV_WAF_X100,
      .KV_RING_ROLES, .KV_RET_S, .KV_NS_ACT_LO, .KV_NS_ACT_HI, .KV_NS_ATTR, .KV_NS_KEYS]
  | .DRAM => [.DRAM_CAP_GIB, .DRAM_RATE, .DRAM_LINK_ECC, .DRAM_TRAIN_MS, .DRAM_INDEX_GIB, .DRAM_META_GIB,
      .DRAM_SKETCH_GIB, .DRAM_ECC_SKETCH, .DRAM_ECC_CACHE, .DRAM_CACHE_GIB, .DRAM_DIRTY_GIB,
      .DRAM_INDEX_KEYS, .DRAM_CE_COUNT, .DRAM_UE_COUNT, .DRAM_PATROL_H]
  | .FLASH => [.FLASH_HOLDUP_MS, .FLASH_RATE, .FLASH_OP_PCT, .FLASH_REFRESH_BITS, .FLASH_CKPT_S,
      .FLASH_CH_IN_SERVICE, .FLASH_TARGETS, .FLASH_RAW_GIB, .FLASH_USER_GIB, .FLASH_BAD_FACTORY,
      .FLASH_BAD_GROWN, .FLASH_PLP_MIB, .FLASH_SUNRISE_STAGE, .FLASH_SUNRISE_MS]
  | .COLL => [.COLL_C_STATE, .COLL_C_FMT, .COLL_C_WCODE, .COLL_C_TAGGED, .COLL_C_SRC, .COLL_C_NS,
      .COLL_C_D, .COLL_C_SEED_LO, .COLL_C_SEED_HI, .COLL_C_MAX_CHUNKS, .COLL_C_CHUNKS, .COLL_C_GEN,
      .COLL_C_MAIN_LO, .COLL_C_MAIN_HI, .COLL_C_SIDE, .COLL_C_PUB_SEQ, .COLL_C_MERGE_CHUNK, .COLL_C_NAME,
      .COLL_FREE_CHUNKS, .COLL_RESERVED_MIB]
  | .SWEEP => [.SWEEP_LANES_ON, .SWEEP_QUEUE, .SWEEP_BATCH_NUM, .SWEEP_LAST_N, .SWEEP_LAST_WAIT_US,
      .SWEEP_LAST_PASS_US, .SWEEP_UTIL_PCT, .SWEEP_OTHER_PCT, .SWEEP_QUERIES, .SWEEP_C_CUT,
      .SWEEP_DEGRADED, .SWEEP_EXACT_RUN, .SWEEP_RECALL_JOB, .SWEEP_RECALL_PPM, .SWEEP_W_CFG, .SWEEP_W_NS,
      .SWEEP_W_C, .SWEEP_W_PERIOD_MS, .SWEEP_W_THR, .SWEEP_W_KEYLEN, .SWEEP_W_LAST_DIST, .SWEEP_W_STATE,
      .SWEEP_W_SKIPS, .SWEEP_W_RUNS]
  | .RRK => [.RRK_WALK_CTX, .RRK_WALK_BUSY, .RRK_RR_BUSY, .RRK_CACHE_HITS, .RRK_CACHE_MISSES,
      .RRK_DROPPED_DEL, .RRK_REPLACED, .RRK_UNIT_PCT]
  | .ASSOC => [.ASSOC_POLICY_BANKS, .ASSOC_BANK_ON, .ASSOC_DW, .ASSOC_CURSOR_MS, .ASSOC_CURSORS,
      .ASSOC_SEARCHES, .ASSOC_CLASSIFY, .ASSOC_FALSE_HITS, .ASSOC_SUSPECT, .ASSOC_SCRUB_FIXES,
      .ASSOC_SCRUB_PASSES, .ASSOC_SHADOW_CE, .ASSOC_POLICY_STATE, .ASSOC_B_ROLES, .ASSOC_B_VALID]
  | .CASC => [.CASC_POS, .CASC_SIZE, .CASC_MISMATCH, .CASC_PRESENT, .CASC_WITHDRAWN, .CASC_COVERED,
      .CASC_FRAMES, .CASC_RETRIES]
  | .ISL => [.ISL_LINK, .ISL_LINK_LOSSES, .ISL_SUPPLY, .ISL_LOOP_OK, .ISL_WP, .ISL_CFG_VALID,
      .ISL_FAIL_ACTIVE, .ISL_PHASE_LOCK, .ISL_FAIL_CAUSE, .ISL_OSC_TRIM, .ISL_DRAW_UA, .ISL_LOOP_SET_UA,
      .ISL_LOOP_MEAS_UA, .ISL_PV, .ISL_PV_STATUS, .ISL_PV_SRC, .ISL_FAIL_DIR, .ISL_UNITS, .ISL_LRV,
      .ISL_URV, .ISL_DAMP_MS, .ISL_HOLD_MAX_MS, .ISL_MAIN_TIMEOUT_MS, .ISL_MAIN_PV, .ISL_FIX_UA,
      .ISL_FIX_TIMEOUT_S, .ISL_POLL_ADDR, .ISL_LOOP_CUR_EN, .ISL_REC_DIV, .ISL_REC_TTL_S, .ISL_CC,
      .ISL_MTP_COMMITS, .ISL_BUF_FILL, .ISL_SEQ, .ISL_BF_LOST, .ISL_BF_OVERLAP]
  | .FE => [.FE_EXC_FREQ, .FE_EXC_MV, .FE_PV_CH, .FE_PV_MODE, .FE_PV_GAIN, .FE_AUX_EN, .FE_AUX_CH,
      .FE_AUX_MODE, .FE_AUX_GAIN, .FE_RATE, .FE_FILT, .FE_IIR_MS, .FE_BO_NA, .FE_FAULT_ACT, .FE_FAULT_N,
      .FE_LVDT_MIN_PCT, .FE_BO_LIM_MV, .FE_EXC_IMIN_UA, .FE_CM_LO_MV, .FE_CM_HI_MV, .FE_RESULT,
      .FE_RESULT_Q, .FE_AUX_RESULT, .FE_EXC_UA, .FE_EXC_NOW_MV, .FE_STATUS, .FE_SETTLE_MS, .FE_S,
      .FE_DC_DIFF_MV, .FE_CM_MV]
  | .CAL => [.CAL_U_SPAN, .CAL_U_OFS, .CAL_U_ZERO_RAW, .CAL_U_ZERO_PT, .CAL_U_PH_A, .CAL_U_PH_B,
      .CAL_LU_GAIN, .CAL_LU_OFS, .CAL_FORCED, .CAL_SAVED, .CAL_F_VALID, .CAL_NOM_SPAN, .CAL_STAB_LIM,
      .CAL_LOOP_STAB_UA, .CAL_SC_MODE, .CAL_SC_N, .CAL_SC_GAIN, .CAL_SC_OFS, .CAL_SC_TABLE, .CAL_R_FACT,
      .CAL_R_USER, .CAL_R_AUX, .CAL_LOOP_M4_UA, .CAL_LOOP_M20_UA, .CAL_F_OFS, .CAL_F_GAIN, .CAL_F_LGAIN,
      .CAL_F_LOFS, .CAL_MON_T_OFS_A, .CAL_MON_T_OFS_B, .CAL_MON_P_GAIN]
  | .HART => [.HART_DEV_ID, .HART_PREAMBLES, .HART_OWNER_EN, .HART_BURST_EN, .HART_BURST_CMD,
      .HART_BURST_PERIOD_MS, .HART_NOVELTY, .HART_MASTERS, .HART_FRAME_ERRORS, .HART_TAG, .HART_DESCRIPTOR,
      .HART_DATE, .HART_FAN, .HART_MESSAGE, .HART_LONG_TAG]
  | .GOV => [.GOV_MODE_NOW, .GOV_THROTTLE, .GOV_PCAP_MW, .GOV_TEMP_HI_C, .GOV_MODE_MIN, .GOV_MODE_MAX,
      .GOV_PIN_MODE, .GOV_UP_QDEPTH, .GOV_DOWN_UTIL_PCT, .GOV_DWELL_MS, .GOV_BATCH_MIN_US,
      .GOV_BATCH_MAX_US, .GOV_LAT_TARGET_US, .GOV_MERGE_IDLE_PCT, .GOV_MERGE_MIN_FILL_PCT, .GOV_MERGE_CONC,
      .GOV_GC_LO_PCT, .GOV_GC_HI_PCT, .GOV_PIN_GC_PCT, .GOV_DIRTY_MAX_MIB, .GOV_SCRUB_MIN_MS,
      .GOV_SCRUB_MAX_MS, .GOV_PIN_SCRUB_MS, .GOV_PIN, .GOV_DRAIN_MAX_MS, .GOV_WINDOW_US,
      .GOV_DIRTY_LIMIT_KIB, .GOV_DIRTY_NOW_KIB, .GOV_PLP_BW, .GOV_GC_SHARE_PCT, .GOV_SCRUB_MS,
      .GOV_LAST_REASON]

/-- Every block, in the order of Table 21.1. -/
def Block.all : List Block :=
  [.SYS, .PWR, .CLK, .BOOT, .LC, .VAULT, .ALM, .EVT, .LINE, .NET, .DKP, .KV, .DRAM, .FLASH, .COLL, .SWEEP,
   .RRK, .ASSOC, .CASC, .ISL, .FE, .CAL, .HART, .GOV]

/-- The place of a field in the tables, by which the register file is kept in order. -/
def Param.rank (p : Param) : Nat := p.ctorIdx

end Sys2Proof.Machine
end

