-- ==== Sys2Proof/Machine/State.lean ====
section
/-! DEFINITION. The state of the block: every register field, queue, buffer, counter, mode and pin the spec gives
the two dies, as plain data; the state right after reset; the faults and refusals a command can end in. -/

namespace Sys2Proof.Machine

/-- The twelve modes (R67). -/
inductive Mode where
  | M0 | M1 | M2 | M3 | M4 | M5 | M6 | M7 | M8 | M9 | M10 | M11
  deriving DecidableEq, Repr

/-- One register field away from its reset value: the field, the index within its family, the value. -/
structure Cell where
  p : Param
  i : Nat
  v : Nat
  deriving DecidableEq, Repr

/-! ## Power (chapter 3) -/

/-- Where the power sequencer stands (R48, R49): at rest, waiting for the power-good of a group on the way up, or
with the enables of the groups above deasserted on the way down. -/
inductive Seq where
  | idle
  | up (g : Nat)
  | down (g : Nat)
  deriving DecidableEq, Repr

/-- What the sequencer waits for in Midnight before it starts the sequence again by itself (R46, R48, R50). -/
inductive Restart where
  | none
  | pgFault
  | vddioA
  deriving DecidableEq, Repr

/-- The power controller in PD0: supplies and pins as they stand, the domains, the enables, the sequencer, the
power-fail transition. `causeHeld` says that what led to this Midnight has recorded its cause, `waking` that a wake
from Small Hours has begun, `byAt` the by= code that the next Dawn reports (R55). `on`, `ready`, `gating` and `ret` have one bit per domain;
`pd8Due` says that PD8 is to come on once PD7 has had its on-latency (R44). `pfHigh` says that PWR_FAIL_N has stayed high for its
debounce time while the transition still ran (R60), `belowWake` that TAI has been below PWR.WAKE_AT since that was written or
M0 or M1 entered (R54), `tempFresh` that every sensor has been read since M0 or M1 was left (R62). `raw` has the readings
corrected by their factory trim, `tamperRun` counts sensor 0's in a row outside the window of Table 11.5. -/
structure Pwr where
  vaon : Bool
  vddioA : Bool
  vddioB : Bool
  refclk : Bool
  resetN : Bool
  pwrFailN : Bool
  wakeN : Bool
  held : Bool
  on : Nat
  ready : Nat
  gating : Nat
  ret : Nat
  pd8Due : Bool
  en : Nat
  pg : Nat
  pgSeen : Nat
  seq : Seq
  restart : Restart
  plpDone : Bool
  failing : Bool
  acceptedAt : Nat
  pfWait : Bool
  pfHigh : Bool
  tempFresh : Bool
  belowWake : Bool
  tripped : Bool
  needCool : Bool
  tripCount : List Nat
  raw : List Int
  tamperRun : Nat
  causeHeld : Bool
  waking : Bool
  byAt : Nat
  deriving DecidableEq, Repr

/-! ## Time (chapter 2) -/

/-- CLK.TIME_STATE (R31). -/
inductive TimeState where
  | FREE | LOCKING | LOCKED | HOLDOVER
  deriving DecidableEq, Repr

/-- A PTP master the device follows (R32): the port it is heard on and its clock identity. -/
structure Master where
  port : Nat
  ident : Nat
  prio : Nat
  interval : Nat
  deriving DecidableEq, Repr

/-- The clocks: elapsed beats of the model, BEAT, TAI in nanoseconds and the part of a nanosecond in units of
1/3,000,000, the servo rate in ppm, the PTP slave, the latches of R28 (those of the debug port apart), the pending synchronising instant.
`refSub` and `refCount` count, while the beat is stopped, the beats' time since the last REFCLK cycle and the REFCLK cycles
(R27, R29); `cascLockAt` says since when CLK.CASC_LOCK has been 1. -/
structure Clk where
  now : Nat
  beat : Nat
  tai : Nat
  taiFrac : Nat
  valid : Bool
  rate : Int
  state : TimeState
  masters : List Master
  master : Option Master
  mpd : Int
  good : Nat
  bad : Nat
  holdAt : Nat
  beatHi : List (Route × Nat)
  taiHi : List (Route × Nat)
  setLo : Nat
  overrun : Bool
  syncAt : Option Nat
  debugBeatHi : Option Nat
  debugTaiHi : Option Nat
  cascLock : Bool
  cascLockAt : Nat
  refSub : Nat
  refCount : Nat
  delayGap : Nat
  delayAt : Option Nat
  deriving DecidableEq, Repr

/-! ## The day (chapter 4) -/

/-- One write that waits in a staged set or a commit (R508). -/
structure Staged where
  p : Param
  i : Nat
  v : Nat
  deriving DecidableEq, Repr

/-- The kinds of Dusk job (R512). -/
inductive JobKind where
  | commit | rebuild | repartition | format | merge
  deriving DecidableEq, Repr

/-- A job of the Dusk queue (R73): its number and kind, the staged set of a commit, the collection of a rebuild or
merge, whether it runs, and which parts of a commit's work are complete (R530): bit 0 the repartition, bit 1 the format,
bit 2 the rebuilds, bit 3 its pending records. -/
structure Job where
  num : Nat
  kind : JobKind
  coll : Nat
  set : List Staged
  running : Bool
  parts : Nat
  deriving DecidableEq, Repr

/-- A commit that waits for its apply point (R526, R529): the route, the set, whether it waits for the context
drain, and when it was made. -/
structure Commit where
  route : Route
  set : List Staged
  drain : Bool
  drained : Bool
  at_ : Nat
  deriving DecidableEq, Repr

/-- The mode and the Almanac (R67–R90). `overTicks` counts ticks over in a row, `capTicks` those at t = 20, `pinTold` says
that EV 0x3FB has told the present run; `limit` is the dirty limit in force in bytes (R86). -/
structure Day where
  mode : Mode
  target : Mode
  abortTo : Option Mode
  drainFrom : Nat
  upTicks : Nat
  downTicks : Nat
  idleTicks : Nat
  underTicks : Nat
  overTicks : Nat
  capTicks : Nat
  capRaised : Bool
  pinTold : Bool
  limit : Nat
  tempHi : Bool
  base : Mode
  t : Nat
  hostWrites : Bool
  quietSecs : Nat
  gcHeld : Bool
  queue : List Job
  nextJob : Nat
  commits : List Commit
  deriving DecidableEq, Repr

/-! ## The line (chapter 5) -/

/-- A notice waiting to be sent (R102, R490). -/
structure Notice where
  id : Nat
  sev : Nat
  fields : List (String × Val)
  deriving DecidableEq, Repr

/-- A challenge given out (R119, R243): its nonce and when it was given. -/
structure Nonce where
  bytes : Text
  at_ : Nat
  deriving DecidableEq, Repr

/-- A load of certificate bytes in progress (R515). -/
structure Load where
  idx : Nat
  bytes : Text
  deriving DecidableEq, Repr

/-- The lock of the logins of the ring or of all TLS connections (R121). -/
structure Lock where
  fails : Nat
  until_ : Nat
  locked : Bool
  dur : Nat
  deriving DecidableEq, Repr

/-- What one route instance holds (R99, R117–R121, R243, R508, R515); for the ADMIN stream of a DKP session also the
request that its present line answers and the reply lines so far (R350), and the count of failed proofs of authority (R121). -/
structure RouteSt where
  route : Route
  level : Nat
  nonce : Option Nonce
  lcNonce : Option Nonce
  lcParts : List (Nat × Text)
  auth : Bool
  lastLine : Nat
  notices : Bool
  queue : List Notice
  lost : Nat
  staged : List Staged
  busy : Option String
  caLoad : Option Load
  certLoad : Option Load
  roles : Nat
  admin : Option Nat
  lines : List Reply
  lock : Lock
  deriving DecidableEq, Repr

/-- What the block sends out, oldest first: characters and breaks on LINE_TXD, reply lines and notices by route,
DKP segments, TLS and DTLS alerts, messages of the network block by port, HART responses, cascade words, words read
by the debug port, what the HART and bridge ends exchange, and pulses on pins. Reply, notice and LOST lines stand with the
characters that leave (R100, R102). -/
inductive Output where
  | tx (bytes : Text)
  | brk (ms : Nat)
  | reply (route : Route) (r : Reply) (line : Text)
  | notice (route : Route) (n : Notice) (line : Text)
  | lost (route : Route) (n : Nat) (line : Text)
  | segment (sess : Nat) (bytes : Text)
  | alert (conn : Nat) (desc : Nat)
  | net (port : Nat) (what : String) (args : List Nat)
  | hart (bytes : Text)
  | bridge (what : String) (args : List Nat)
  | casc (words : List Nat)
  | debug (v : Option Nat)
  deriving DecidableEq, Repr

/-- How the unit treats the line it is receiving (Table 5.3): not decided, consumed, forwarded, both, or held for
a rewrite (R110, R114), or a pass-through run (R580). -/
inductive RxClass where
  | undecided | consume | forward | both | run | discard
  deriving DecidableEq, Repr

/-- A consumed line whose terminator has arrived (R92, R93): the kept characters, the characters counted where they
are more than 250, the column of the first byte that fails the line, whether it was typed, and whether it was sent to
every unit. -/
structure RxLine where
  text : Text
  tooLong : Option Nat
  badCol : Option Nat
  typed : Bool
  bcast : Bool
  deriving DecidableEq, Repr

/-- The line controller in PD0 (R91–R116): the line in reception with its bytes as received and its edited text, what
waits to be echoed, the forwarder, the lines and runs of the unit's own that wait for it, the ring's state. `tail` is the edited
text with the characters that were not kept; `sentRaw` of the bytes received have been forwarded; `hold` says that the rest is held for a
rewrite, from the character `holdAt` on. `hush` holds the unit's own lines back in `hushed` before a rate switch; `lastVerb` is the verb of
the last command line; `typed` says whether the line that runs was typed, `typedBusy` whether the one whose reply waits was. -/
structure LineCtl where
  cls : RxClass
  raw : Text
  text : Text
  count : Nat
  tail : Text
  badCol : Option Nat
  framed : Bool
  ctrlC : Bool
  spaceSeen : Bool
  sentRaw : Nat
  hold : Bool
  holdAt : Nat
  lastCR : Bool
  held : Text
  fwdOpen : Bool
  fwdCR : Bool
  own : List Output
  hush : Bool
  hushed : List Output
  lastVerb : String
  typed : Bool
  typedBusy : Bool
  ready : List RxLine
  upstream : Option Nat
  loss : Bool
  lossAt : Nat
  dup : Bool
  switchTo : Option Nat
  prevRate : Option Nat
  pin : Option Text
  tlsConns : List Nat
  nextConn : Nat
  ringLock : Lock
  tlsLock : Lock
  deriving DecidableEq, Repr

/-! ## Events (chapter 19) -/

/-- The configuration word and state of one event that is away from its reset value (R482). -/
structure EvtCell where
  id : Nat
  masks : Nat
  latch : Bool
  count : Nat
  deriving DecidableEq, Repr

/-- A raise as the log and the pushes carry it (R353, R495): the log sequence (0 while none), the event, its
severity, the late flag and count, TAI, the fields. -/
structure Record where
  seq : Nat
  id : Nat
  sev : Nat
  latch : Bool
  late : Bool
  count : Nat
  tai : Nat
  fields : List (String × Val)
  deriving DecidableEq, Repr

/-- The event fabric (R480–R499). `cells` is sorted by identifier and lists no event in its reset state; `suppress`
holds, by event, when it was last raised under a rate limit and the occurrences since; `gpio` has the pins that pulse,
`gpioHold` the levels held through M0 and M1. -/
structure Evt where
  cells : List EvtCell
  late : List Record
  staged : List Record
  log : List Record
  nextSeq : Nat
  oldSeq : Nat
  rateAt : Nat
  rateN : Nat
  suppress : List (Nat × Nat × Nat)
  gpio : Nat
  gpioHold : Nat
  gpioOn : Bool
  deriving DecidableEq, Repr

/-! ## The loop die (chapters 6 to 9) -/

/-- What drives a write unit (R155). -/
inductive By where
  | hart | bridge
  deriving DecidableEq, Repr

/-- The calibration trims and set actions that run as one write unit (R187, R194). -/
inductive UnitOp where
  | fields (set : List Staged)
  | zero (z : F32) (force : Bool)
  | span (z : F32) (force : Bool)
  | phase (pathB : Bool) (z : F32) (force : Bool)
  | loop (point m : Nat) (force : Bool)
  | tcommit (pts : List (F32 × F32))
  | save
  | restore
  | clear (what : Nat)
  deriving DecidableEq, Repr

/-- A write unit on its way over the bridge (R144, R155): the route that waits (none for the debug port), the expected change counter, the
operation, the core-die fields of the same line, what a REG.WRITE answers, and the outcome once the loop die has executed it. -/
structure BridgeUnit where
  route : Option Route
  verb : String
  cc : Option Nat
  op : UnitOp
  core : List Staged
  note : List (String × Val)
  outcome : Option Reply
  deriving DecidableEq, Repr

/-- A recorded sample (R147, Table 6.5). -/
structure Sample where
  seq : Nat
  tick : Nat
  pv : F32
  setUa : Nat
  flags : Nat
  units : Nat
  deriving DecidableEq, Repr

/-- The saved user set (R194). -/
structure SavedSet where
  mode : Nat
  cells : List Cell
  deriving DecidableEq, Repr

/-- One bank of MTP (R154): `valid` says that its image passes its CRC-32, `works` whether what is committed to it passes its
verification. -/
structure Bank where
  valid : Bool
  works : Bool
  seq : Nat
  image : List Cell
  saved : Option SavedSet
  deriving DecidableEq, Repr

/-- The factory calibration in loop-die OTP (R180, R181, Table 8.1): offsets and gains by mode and gain code (place 4 × mode + gain code,
the modes BRIDGE, LVDT, ACV), phase trims in millidegrees by path, frequency and gain (place 24 × path + 4 ×
frequency + gain code, the paths E, A, M, B), the loop DAC's, the amplitude gain and the monitors', the oscillator trim and the
device ID. -/
structure Factory where
  ok : Bool
  ofs : List F32
  gain : List F32
  phase : List Int
  excGain : F32
  curGain : F32
  lgain : F32
  lofs : F32
  measGain : F32
  measOfs : F32
  drawGain : F32
  dcGain : F32
  dcOfs : F32
  oscTrim : Nat
  devId : Nat
  deriving DecidableEq, Repr

/-- I and Q of one path (R167). -/
structure IQ where
  i : F32
  q : F32
  deriving DecidableEq, Repr

/-- The filter state of one path: the demodulated samples of the last two output periods, the latest first, then at the output
rate the last sinc3 outputs and the IIR state (R169). -/
structure PathSt where
  taps : List IQ
  hist : List IQ
  iir : IQ
  deriving DecidableEq, Repr

/-- What one output leaves for the trims (R187–R191). -/
structure OutRec where
  rf : F32
  angA : F32
  angB : F32
  magA : F32
  magB : F32
  deriving DecidableEq, Repr

/-- A front-end fault (R176): its code, what it concerns (an input 0 to 3, 4 the sense pair; or 8 to 11 for the paths E, A,
M, B and 12 for all paths), and the outputs in a row that went against its state. -/
structure FaultSt where
  code : Nat
  ch : Nat
  active : Bool
  run : Nat
  deriving DecidableEq, Repr

/-- An event of the loop die latched while the bridge is not UP (R146). -/
structure LdEvent where
  id : Nat
  count : Nat
  fields : List (String × Val)
  deriving DecidableEq, Repr

/-- The front end (chapter 7): outputs and valid outputs since the last synchronising reset, whether the latest output was
invalid, the governor, the filters of the four paths, the faults, whether a HOLD fault acts as FAIL, what the last 16
outputs gave the trims, and the loop current measured at the last 16 outputs. -/
structure Front where
  outN : Nat
  valid : Nat
  lastBad : Bool
  aNow : Nat
  aNext : Option Nat
  limited : Bool
  excOver : Bool
  pathE : PathSt
  pathA : PathSt
  pathM : PathSt
  pathB : PathSt
  faults : List FaultSt
  holdFail : Bool
  last16 : List OutRec
  meas16 : List Nat
  deriving DecidableEq, Repr

/-- The HART slave (chapter 9). In `changed`, `cold` and `heard` bit 0 stands for the primary master, bit 1 for the secondary. -/
structure Hart where
  changed : Nat
  cold : Nat
  heard : Nat
  last48P : Option Text
  last48S : Option Text
  refusal : Nat
  burstBit : Bool
  novelty : Nat
  frameAt : Option Nat
  frameN : Nat
  deriving DecidableEq, Repr

/-- The Waimal loop die (R128–R213). `regs` holds the fields in force that are away from their reset value. `link` says that
its end of the bridge receives heartbeats, `up` that the bridge is UP there; `causes` has a bit for each of the causes 2, 4 and 5 of Table 6.4 that is active, `cause` is the lowest
active one and `failHigh` its level; `told` is the cause that EV 0x383 last told, 0 once the loop is back at the mapped
setpoint. `src` is the PV source that acts (R142). `setF` is the setpoint before trim in µA, `row` the row of Table 6.3
that gave it, `y` the damped PV, which restarts while `yOk` is false; `offSince` is the tick at which the measured current was first
found off (R133). `recN` counts PV outputs since the last recorded sample, `seq32` the samples recorded since the last reset,
`tick` tenths of a millisecond since start-up. A pending reading of the loop trim has the reading, the commanded value and
whether it was forced (R191, R193). -/
structure Loop where
  visl : Bool
  link : Bool
  up : Bool
  started : Bool
  startUp : Bool
  aux : Bool
  loopOk : Bool
  wp : Bool
  regs : List Cell
  saved : Option SavedSet
  bankA : Bank
  bankB : Bank
  otp : Factory
  causes : Nat
  cause : Nat
  failHigh : Bool
  told : Nat
  src : Nat
  yOk : Bool
  y : F32
  setF : F32
  row : Nat
  satLow : Bool
  satHigh : Bool
  code : Nat
  departed : Bool
  offSince : Option Nat
  recN : Nat
  seq32 : Nat
  tick : Nat
  buf : List Sample
  displaced : Nat
  resetSince : Bool
  resetUnacked : Bool
  latched : List LdEvent
  pend4 : Option (Nat × F32 × Bool)
  pend20 : Option (Nat × F32 × Bool)
  synced : Bool
  freqOk : Bool
  hbCount : Nat
  fe : Front
  hart : Hart
  deriving DecidableEq, Repr

/-- A sample that has reached the core die, with its stamp once it has one (R149). -/
structure Arrived where
  sample : Sample
  stamp : Option Nat
  deriving DecidableEq, Repr

/-- The core-die end of the bridge (R143–R152). `link` is 0 DOWN, 1 SYNC, 2 UP; `anchor` is a stamp and its tick; `backfill`
says that a backfill is due or runs, `fill` holds what it has still to store once requested, `asked` that it has been, `lost` the samples
lost when it was. -/
structure Bridge where
  link : Nat
  upSinceDawn : Bool
  mirror : List Cell
  units : List BridgeUnit
  anchor : Option (Nat × Nat)
  backfill : Bool
  asked : Bool
  fill : List Sample
  stored : Nat
  overlap : Nat
  lost : Nat
  taiHeld : Bool
  arrived : List Arrived
  tpoints : List (Nat × F32 × F32)
  deriving DecidableEq, Repr

/-! ## Boot (chapter 10) -/

/-- What a slot holds (R214, R220): its bytes from the slot's first on, and whether the header and the body read
without an xSPI error. -/
structure Image where
  bytes : Text
  headerOk : Bool
  bodyOk : Bool
  deriving DecidableEq, Repr

/-- A recovery session (R234) or an update (R235): the slot, the size, the bytes so far, the route that holds it, and
whether it has been committed to its slot. -/
structure Session where
  slotB : Bool
  size : Nat
  bytes : Text
  route : Route
  committed : Bool
  deriving DecidableEq, Repr

/-- The boot NOR and the ROM's state (R214–R238). The NOR is the board's: its capacity, the 64 bytes of its slot directory,
whether it takes what is programmed, and the flag-record positions (sector 1, place) that fail their read-back. A sector is
the 64 bytes of each of its positions; those beyond its list are empty. `sram` is the body loaded at offset 0 of the SRAM, `started`
the entry offset at which it was started (R220, R231). `selected` is the flag
record in force (sequence, slot, sector and place), `handover` the slot that passed and waits for handover, `lastReject`
code and slot of the last rejection, `lastRun` the slot of the last handover. The boot trace stands in its registers. -/
structure Boot where
  norMib : Nat
  dir : Text
  norWrites : Bool
  badPos : List (Bool × Nat)
  sector0 : List Text
  sector1 : List Text
  slotA : Option Image
  slotB : Option Image
  selected : Option (Nat × Bool × Bool × Nat)
  handover : Option Bool
  firstM4 : Bool
  watchdog : Bool
  handoverAt : Nat
  enteredAt : Nat
  lastRecLine : Option Nat
  lastReject : Option (Nat × Bool)
  lastRun : Bool
  recov : Option Session
  upd : Option Session
  sram : Text
  started : Option Nat
  deriving DecidableEq, Repr

/-! ## Life cycle, vault and alarms (chapter 11) -/

/-- What the factory fuses that name the unit hold (R245): the variant (0 DX-1500S, 1 DX-1500G, 2 DX-1500N), whether the
profile is G, the unit identifier, the MAC address of port 0. No command changes them. -/
structure Ident where
  variant : Nat
  profileG : Bool
  unitId : Nat
  mac0 : Nat
  deriving DecidableEq, Repr

/-- The OTP (R245, R246): the fuses that identify the unit, the unique secret, the values of seed slots 0 to 7, the life-cycle,
mesh, seed and anti-rollback fuses, owner entries by seed slot as programmed (R251), signer hashes 0 to 3 (Alhogal) and 4, 5 (OEM) with their revoke fuses, the OEM debug hash.
`bad` lists the items that read invalid, as item= of EV 0x068 numbers them (Table 19.5b). -/
structure Otp where
  ident : Ident
  uds : Text
  seeds : List Text
  fuses : Nat
  meshFuses : Nat
  bad : List Nat
  revoked : Nat
  commissioned : Nat
  owner : List (Nat × Text)
  signers : List (Nat × Text)
  signerRevoked : Nat
  debugHash : Option Text
  svnFuses : Nat
  deriving DecidableEq, Repr

/-- A loaded slot of the vault (R247): type and uses with bit 12 loaded and bit 15 set by the ROM, and its contents (none for a
reference). -/
structure VaultSlot where
  slot : Nat
  attr : Nat
  key : Text
  deriving DecidableEq, Repr

/-- The key vault, the XTS key table of PD6 and the record-key table of PD3 by namespace (R248), and the alarm monitors. `latch` is 0 none, 1 ERASE,
2 LOCK, `srcNow` the sources detecting, `debugOpen` whether authority has opened the port (R242). `recordDue` says that an alarm record is to be written
before the reset toward Night (R257). -/
structure Sec where
  otp : Otp
  vault : List VaultSlot
  xts : List (Nat × Text)
  recKeys : List (Nat × Text)
  latch : Nat
  latchSrc : Nat
  srcNow : Nat
  burning : Option Nat
  burnAt : Nat
  recordDue : Bool
  debugOpen : Bool
  romLocks : Bool
  trngOk : Bool
  authFails : List Nat
  identity : Bool
  identNo : Nat
  chain : Option Text
  deriving DecidableEq, Repr

/-! ## Memories (chapter 12) -/

/-- A NAND target (R282, R284): channel, target, whether in use, whether retired, blocks, bad blocks. -/
structure Target where
  ch : Nat
  tgt : Nat
  used : Bool
  retired : Bool
  blocks : Nat
  grown : Nat
  factory : Nat
  deriving DecidableEq, Repr

/-- How Sunrise stands (R291, R294). -/
structure Sunrise where
  stage : Nat
  halted : Bool
  startAt : Nat
  stageAt : Nat
  deriving DecidableEq, Repr

/-- The DRAM and the NAND the device owns (R266–R297). `ceHour` counts a channel's corrected errors in an hour (R278), `ue` lists the
uncorrectable errors not yet met (R279), `repair` the structures being rebuilt. `userGib` and `dirtyGib` are the sizes fixed with the format and the partition (R275, R285). -/
structure Mem where
  capGib : Nat
  rateKept : Nat
  flashRateKept : Nat
  ceHour : List (Nat × Nat × Nat)
  ue : List DramErr
  repair : List Nat
  sunrise : Sunrise
  targets : List Target
  blockBytes : Nat
  superblock : Bool
  cutShort : Bool
  ckptAt : Nat
  ckptBusy : Bool
  ckptBytes : Nat
  logBytes : Nat
  freePermille : Nat
  plpOk : Bool
  imageM1 : Bool
  userGib : Nat
  dirtyGib : Nat
  deriving DecidableEq, Repr

/-! ## Network and sessions (chapter 13) -/

/-- DHCP client of a port (R303): no lease sought, waiting for an offer, for the answer to a request, bound, renewing,
rebinding. -/
inductive Dhcp where
  | init
  | selecting
  | requesting
  | bound
  | renewing
  | rebinding
  deriving DecidableEq, Repr

/-- An entry of the ARP or neighbour cache (R304): protocol address, MAC, when used last, whether IPv6. -/
structure Neigh where
  addr : Nat
  mac : Nat
  used : Nat
  v6 : Bool
  deriving DecidableEq, Repr

/-- A reassembly in progress (R305): the datagram's identity, the fragments and bytes so far, its length once known. -/
structure Reasm where
  ident : Nat
  frags : Nat
  got : Nat
  total : Option Nat
  deriving DecidableEq, Repr

/-- How one address of a port stands (R302, R303): the address in use (0 none), the one being probed, whether a static
address waits after a conflict, the DHCP client, and when the lease ends. -/
structure AddrSt where
  now_ : Nat
  probe : Option Nat
  conflict : Bool
  dhcp : Dhcp
  leaseEnd : Option Nat
  deriving DecidableEq, Repr

/-- One Ethernet port (R298–R306, R326): the link; until when PAUSE holds the transmitter, the holds of the last
200 ms, and the beats held in all; the two addresses; the IPv4 gateway of DHCP, the IPv6 default router and the first
prefix advertised; the caches; echo replies and unreachables of the present second; whether sessions are held for the
link. -/
structure Port where
  link : Bool
  pauseUntil : Nat
  holds : List (Nat × Nat)
  pausedBeats : Nat
  v4 : AddrSt
  v6 : AddrSt
  gateway : Nat
  router : Nat
  prefix6 : Option Nat
  neigh : List Neigh
  reasm : List Reasm
  echoAt : Nat
  echoN : Nat
  holding : Bool
  txq : List Output
  deriving DecidableEq, Repr

/-- A credential entry (Table 13.4). -/
structure Cred where
  idx : Nat
  type : Nat
  ref : Nat
  name : Text
  roles : Nat
  level : Nat
  svc : Nat
  ports : Nat
  en : Bool
  deriving DecidableEq, Repr

/-- A PSK slot (R311). -/
structure Psk where
  slot : Nat
  ident : Text
  key : Text
  sha384 : Bool
  deriving DecidableEq, Repr

/-- A handshake in progress (R309, R317, R319): its number, the service (0 DKP, 1 command port), the port, the
client's address and port, whether over IPv6, the suite, the PSK slot (none: certificates), how often its flight was
sent, whether it waits for a ClientHello with a key share. -/
structure Hs where
  num : Nat
  svc : Nat
  port : Nat
  client : Nat
  v6 : Bool
  suite : Nat
  psk : Option Nat
  sent : Nat
  wait : Bool
  deriving DecidableEq, Repr

/-- A command connection (R123, R320, R322): its number, the credential and port it came by, the client's address and port,
records received in the client's present keys. -/
structure TlsConn where
  num : Nat
  cred : Nat
  port : Nat
  client : Nat
  sentRecs : Nat
  recvRecs : Nat
  deriving DecidableEq, Repr

/-- The network block (R298–R329). -/
structure Net where
  port0 : Port
  port1 : Port
  creds : List Cred
  psks : List Psk
  anchors : List (Nat × Text)
  cookieKey : Nat
  cookiePrev : Nat
  tokens : Nat
  hs : List Hs
  nextHs : Nat
  tls : List TlsConn
  deriving DecidableEq, Repr

/-! ## Collections (chapter 16) -/

/-- A slot record (Table 16.4), with the use count of its slot. Key length 0 is `live = false`; `seq` is the sequence of
its last side-list entry, `free` says that it may be assigned again, `ok` is false where it cannot be read. -/
structure Slot where
  idx : Nat
  use : Nat
  live : Bool
  ns : Nat
  key : Text
  ver : Nat
  tag : Nat
  sketch : Text
  vec : Text
  seq : Nat
  free : Bool
  ok : Bool
  deriving DecidableEq, Repr

/-- A side-list entry (Table 16.3). -/
structure Side where
  loc : Nat
  seq : Nat
  sup : Nat
  absorbed : Nat
  tag : Nat
  kind : Nat
  sketch : Text
  deriving DecidableEq, Repr

/-- A slot as a chunk holds it: its place in the chunk, its locator, its tag and its sketch. -/
structure ChunkSlot where
  place : Nat
  loc : Nat
  tag : Nat
  sketch : Text
  deriving DecidableEq, Repr

/-- A chunk of the main array in one generation: `slots` lists the places whose bitmap bit is 0 (R392). -/
structure Chunk where
  num : Nat
  gen : Nat
  loaded : Bool
  slots : List ChunkSlot
  deriving DecidableEq, Repr

/-- A merge (R402): g, M, the chunks still to be rewritten, those programmed and waiting for their switch, how many
have switched and how many were chosen, whether it waits for a spare chunk, whether it is stopped. -/
structure Merge where
  g : Nat
  m : Nat
  chosen : List Nat
  built : List Chunk
  done : Nat
  total : Nat
  waiting : Bool
  stopped : Bool
  deriving DecidableEq, Repr

/-- A collection (Table 16.1, R387–R408). `queued` says that a merge waits to start, `reloading` that failed chunks are being
read again. -/
structure Coll where
  num : Nat
  name : Text
  ns : Nat
  fmt : Nat
  d : Nat
  wcode : Nat
  tagged : Bool
  client : Bool
  seed : Nat
  maxChunks : Nat
  state : Nat
  gen : Nat
  slots : List Slot
  side : List Side
  nextSeq : Nat
  pub : Nat
  chunks : List Chunk
  merge : Option Merge
  queued : Bool
  reloading : Bool
  deriving DecidableEq, Repr


/-! ## The Dientic Key Protocol (chapter 14) and its sessions (chapter 13) -/

/-- A request in reassembly (R332): its ID, op, flags without RETRY, body length, the bytes held as runs in order
of offset, segments since the last ACK, and when a new segment last came. -/
structure Asm where
  id : Nat
  op : Nat
  flags : Nat
  len : Nat
  runs : List (Nat × Text)
  sinceAck : Nat
  at_ : Nat
  deriving DecidableEq, Repr

/-- A cached response (R337): without a body where it is larger than 65,536 bytes, and then with its
version and its request (R337). -/
structure Cached where
  id : Nat
  op : Nat
  status : Nat
  body : Option Text
  ver : Nat
  req : Text
  deriving DecidableEq, Repr

/-- An admitted request (R335): its ID, op, body length, and whether it runs as a REEXEC (R337), its
body once complete. -/
structure Admitted where
  id : Nat
  op : Nat
  len : Nat
  reexec : Bool
  body : Text
  deriving DecidableEq, Repr

/-- A response of several segments on its way (R333, R334): what was sent up to, what is acknowledged, resends
without advance, whether it was abandoned. -/
structure Tx where
  id : Nat
  op : Nat
  flags : Nat
  status : Nat
  body : Text
  sent : Nat
  acked : Nat
  resends : Nat
  stopped : Bool
  deriving DecidableEq, Repr

/-- The event subscription of a session (R351, R352). -/
structure Sub where
  id : Nat
  least : Nat
  first : Nat
  last : Nat
  seq : Nat
  lost : Nat
  queue : List Record
  deriving DecidableEq, Repr

/-- A DKP session (R315, R320–R327, R336). `heard` is the highest record number seen and `window` the 64-bit replay
window below it. -/
structure Sess where
  num : Nat
  port : Nat
  client : Nat
  cred : Nat
  roles : Nat
  level : Nat
  heard : Nat
  window : Nat
  forged : Nat
  sentRecs : Nat
  recvRecs : Nat
  kuSent : Bool
  mtu : Nat
  v6 : Bool
  epoch : Nat
  idleAt : Nat
  held : Bool
  floor : Option Nat
  cache : List Cached
  admitted : List Admitted
  asm : List Asm
  refused : List (Nat × Nat)
  tx : List Tx
  sub : Option Sub
  hits : Nat
  total : Nat
  deriving DecidableEq, Repr

/-! ## The key-value store (chapter 15) -/

/-- A stored key (R357–R360): its version, value, expiry, the collection and slot of its vector, the store position
of its last write, and its record: 0 sound, 1 failing its check (R376), 2 + c unreadable on channel c (R283). -/
structure KeyEnt where
  ns : Nat
  key : Text
  ver : Nat
  val : Text
  expiry : Option Nat
  vec : Option (Nat × Nat)
  pos : Nat
  media : Nat
  deriving DecidableEq, Repr

/-- What a committed write leaves to program (R373): a key's new state, a key's removal, a field of namespace 0,
a slot record with its side-list entry (R398), or another record of namespace 0. -/
inductive Item where
  | put (e : KeyEnt)
  | del (ns : Nat) (key : Text)
  | cell (c : Cell)
  | vec (coll : Nat) (slot : Slot) (side : Side)
  | other
  deriving DecidableEq, Repr

/-- A committed write in the DIRTY region: its store position, what it holds (a BATCH holds all its sub-ops), its bytes. -/
structure Write where
  pos : Nat
  items : List Item
  bytes : Nat
  deriving DecidableEq, Repr

/-- Whose reply waits for a store position to be programmed (R373, R375). -/
structure Wait where
  pos : Nat
  route : Route
  id : Nat
  op : Nat
  verb : String
  sync : Bool
  reply : Reply
  body : Text
  deriving DecidableEq, Repr

/-- A snapshot (R369): its token, owner, namespace, position, instant, when it was used last, and the keys in it. -/
structure Snap where
  token : Nat
  owner : Route
  ns : Nat
  pos : Nat
  tai : Nat
  used : Nat
  keys : List KeyEnt
  deriving DecidableEq, Repr

/-- A data key wrapped under a KEK (R252): the 72 bytes of RFC 3394 stand for the two, which only that KEK yields again
(log entry 115). -/
structure Wrapped where
  kek : Text
  key : Text
  deriving DecidableEq, Repr

/-- The record of a namespace's data key in namespace 0 (R376): the seed slot whose KEK wrapped it (8 that of BLANK, 9 that
of RETURNED), and the key wrapped. -/
structure NsKey where
  ns : Nat
  seed : Nat
  data : Wrapped
  deriving DecidableEq, Repr

/-- The store. `keys` is in the order of R357 and holds the present state, `disk` what has been programmed.
`waf` has for each of the last 24 hours the bytes written and the bytes programmed (R381). -/
structure Kv where
  mounted : Bool
  cleared : Bool
  keys : List KeyEnt
  disk : List KeyEnt
  ns0 : List Cell
  ns0Disk : List Cell
  nsKeys : List NsKey
  pos : Nat
  diskPos : Nat
  dirty : List Write
  waits : List Wait
  snaps : List Snap
  waf : List (Nat × Nat × Nat)
  eraseMean : Nat
  eraseMax : Nat
  endurance : Nat
  deriving DecidableEq, Repr

/-! ## Search (chapter 17) -/

/-- Who asked a query (R412): a DKP SEARCH, an SRCH.NEAR, a watch, a recall job's approximate or exact sample. -/
inductive Asker where
  | dkp (sess id : Nat)
  | line (route : Route)
  | watch (n : Nat)
  | recallA (i : Nat)
  | recallX (i : Nat)
  deriving DecidableEq, Repr

/-- A query: number, asker, collection, flags, k, C, metric, tag filter, radius, vector and sketch, role mask
(none with device authority), the key it excludes, and when it was admitted. -/
structure Query where
  num : Nat
  asker : Asker
  coll : Nat
  exact : Bool
  k : Nat
  c : Nat
  metric : Nat
  tag : Option Nat
  radius : Option F32
  bySketch : Bool
  keys : Bool
  vec : Text
  sketch : Text
  roles : Option Nat
  exclude : Option (Nat × Text)
  at_ : Nat
  deriving DecidableEq, Repr

/-- A batch that forms or is ready (R418). -/
structure Forming where
  coll : Nat
  exact : Bool
  w : Nat
  openedAt : Nat
  ready : Bool
  readyAt : Nat
  queries : List Query
  deriving DecidableEq, Repr

/-- What a batch sweeps, in sweep order (R401, R417, R422): which lane reads it, its locator, tag and sketch,
and whether it stands in the main array. -/
structure Seen where
  lane : Nat
  loc : Nat
  tag : Nat
  sketch : Text
  main : Bool
  deriving DecidableEq, Repr

/-- The running batch (R419, R420), or an exact batch (R421). -/
structure Batch where
  num : Nat
  coll : Nat
  pub : Nat
  lanes : Nat
  seen : List Seen
  queries : List Query
  degraded : Bool
  startAt : Nat
  deriving DecidableEq, Repr

/-- A result entry (R433). -/
structure Hit where
  dist : Int
  float : F32
  loc : Nat
  ver : Nat
  tag : Nat
  key : Text
  deriving DecidableEq, Repr

/-- A query in re-rank (R432): the candidates still to be fetched and what those fetched gave. -/
structure Rerank where
  q : Query
  batch : Nat
  pub : Nat
  cands : List Nat
  hits : List Hit
  dropped : Nat
  replaced : Nat
  degraded : Bool
  deriving DecidableEq, Repr

/-- A watch (R436–R439). -/
structure Watch where
  n : Nat
  coll : Nat
  ns : Nat
  key : Text
  period : Nat
  thr : F32
  metric : Nat
  c : Nat
  tag : Option Nat
  novel : Bool
  degraded : Bool
  reason : Nat
  last : F32
  skips : Nat
  runs : Nat
  running : Bool
  deriving DecidableEq, Repr

/-- A recall job (R440, R441): its samples' slots, and by sample the exact distances of A and of X. -/
structure Recall where
  num : Nat
  coll : Nat
  n : Nat
  k : Nat
  c : Nat
  metric : Nat
  slots : List Nat
  a : List (Nat × List Hit × Bool)
  x : List (Nat × List Hit × Bool)
  deriving DecidableEq, Repr

/-- A finished recall job (R441). -/
structure RecallResult where
  job : Nat
  ppm : Nat
  n : Nat
  hits : Nat
  degA : Nat
  degX : Nat
  deriving DecidableEq, Repr

/-- Work of the context engine (R425, R426), in the order in which it came: an index walk, or a candidate of a query in re-rank
by its locator; the memory reads it still makes; since when it is ready to issue, none while it waits in its partition's
admission queue; whether its read is out. -/
structure Ctx where
  walk : Bool
  q : Nat
  loc : Nat
  reads : Nat
  since : Option Nat
  out : Bool
  deriving DecidableEq, Repr

/-- Search as a whole: the batches, the re-rank, the cache (collection and slot, used last first), watches
and recall; `nextWindow` is the batching window that the next boundary brings (R83). -/
structure Sweep where
  nextQuery : Nat
  batchNum : Nat
  forming : List Forming
  running : Option Batch
  exact : Option Batch
  rerank : List Rerank
  ctxs : List Ctx
  cache : List (Nat × Nat)
  watches : List Watch
  recallJob : Option Recall
  nextRecall : Nat
  results : List RecallResult
  nextWindow : Option Nat
  deriving DecidableEq, Repr

/-! ## The associative array (chapter 18) -/

/-- One entry (R446, R454–R456): what the array holds, what the shadow holds, the suspect flag, false hits and
times suspect since it was written, and the state of the shadow's code: 0 clean, 1 correctable, 2 uncorrectable. Entries that are not
listed are invalid in both. An entry of a pair in double width stands in the pair's even bank with all 320 bits. -/
structure Entry where
  bank : Nat
  idx : Nat
  aValid : Bool
  aValue : Nat
  aMask : Nat
  aWord : Nat
  valid : Bool
  value : Nat
  mask : Nat
  word : Nat
  suspect : Bool
  falseHits : Nat
  suspected : Nat
  code : Nat
  deriving DecidableEq, Repr

/-- A cursor (R459): its owner, key, banks and width, the place of the last entry returned (care count, cascade
position, index), the write count and covered set when it opened, the match count, when it was used last. -/
structure Cursor where
  num : Nat
  owner : Route
  key : Nat
  banks : Nat
  dw : Bool
  casc : Bool
  care : Nat
  pos : Nat
  idx : Nat
  opened : Nat
  frame : Nat
  covered : Nat
  count : Nat
  at_ : Nat
  deriving DecidableEq, Repr

/-- A cascade search or step of this member that waits for its slot, or whose frame runs (R471, R472). -/
structure CascReq where
  route : Route
  id : Nat
  key : Nat
  banks : Nat
  dw : Bool
  cursor : Option Nat
  open_ : Bool
  verb : String
  started : Bool
  deriving DecidableEq, Repr

/-- The associative array and this member's place in the cascade. `policy` is what namespace 0 holds of banks 0–3
(R465). `writes` has for a bank the count of its last write and the frame number then; `frame` counts header cycles without
wrapping, `size` is the N that this rotation runs with. `corr` counts false hits and shadow mismatches since the last update of the scrub
period, `corrPast` those of the nine seconds before, the latest first (Table 4.5). -/
structure Assoc where
  entries : List Entry
  policy : List Entry
  writes : List (Nat × Nat × Nat)
  writeN : Nat
  cursors : List Cursor
  policyState : Nat
  scrubDue : Bool
  scrubDueAt : Nat
  straps : Nat
  present : Nat
  withdrawn : Nat
  size : Nat
  frame : Nat
  turn : Nat
  mismatch : Bool
  reqs : List CascReq
  corr : Nat
  corrPast : List Nat
  deriving DecidableEq, Repr

/-! ## The whole -/

/-- How a command can stop the block: it cannot. Every command of the table has an effect in every state, so no
constructor stands here. -/
inductive Fault where
  deriving DecidableEq, Repr

/-- Why a command is not run. `notModelled` is raised by the dispatcher alone, for a row without a meaning: safe,
since nothing is claimed of it. -/
inductive Refusal where
  | notModelled (mnemonic : String)
  deriving DecidableEq, Repr

/-- The state of the block. `pending` is the queue of commands that wait, first in, first out. `freeCtr` counts the
free values taken (log entry 3); it is the model's own. -/
structure State where
  regs : List Cell
  pwr : Pwr
  clk : Clk
  day : Day
  line : LineCtl
  routes : List RouteSt
  evt : Evt
  loop : Loop
  bridge : Bridge
  boot : Boot
  sec : Sec
  mem : Mem
  net : Net
  sess : List Sess
  nextSess : Nat
  kv : Kv
  colls : List Coll
  collsDisk : List Coll
  sweep : Sweep
  assoc : Assoc
  out : List Output
  freeCtr : Nat
  pending : List Instr
  deriving DecidableEq, Repr

/-! ## Reset -/

def Lock.clear : Lock := { fails := 0, until_ := 0, locked := false, dur := 60 }

/-- A route as it starts: VIEW, nothing staged (R117). -/
def RouteSt.start (r : Route) (notices : Bool) (baseLevel roles : Nat) : RouteSt :=
  { route := r, level := baseLevel, nonce := none, lcNonce := none, lcParts := [], auth := false,
    lastLine := 0, notices := notices, queue := [], lost := 0, staged := [], busy := none,
    caLoad := none, certLoad := none, roles := roles,
    admin := none, lines := [], lock := Lock.clear }

def Pwr.reset : Pwr :=
  { vaon := true, vddioA := true, vddioB := true, refclk := true, resetN := true, pwrFailN := true, wakeN := true,
    held := false, on := 1, ready := 1, gating := 0, ret := 0, pd8Due := false, en := 1, pg := 0, pgSeen := 0, seq := .up 0,
    restart := .none, plpDone := false, failing := false, acceptedAt := 0, pfWait := false, pfHigh := false, belowWake := false,
    tripped := false, needCool := false, tripCount := [0, 0, 0, 0, 0, 0, 0, 0], raw := [0, 0, 0, 0, 0, 0, 0, 0], tempFresh := false, tamperRun := 0,
    causeHeld := false, waking := false, byAt := 0 }

def Clk.reset : Clk :=
  { now := 0, beat := 0, tai := 0, taiFrac := 0, valid := false, rate := 0, state := .FREE, masters := [],
    master := none, mpd := 0, good := 0, bad := 0, holdAt := 0, beatHi := [], taiHi := [], setLo := 0,
    overrun := false, syncAt := none, debugBeatHi := none, debugTaiHi := none, cascLock := false, cascLockAt := 0, refSub := 0, refCount := 0,
    delayGap := 0, delayAt := none }

def Day.reset : Day :=
  { mode := .M0, target := .M0, abortTo := none, drainFrom := 0, upTicks := 0, downTicks := 0, idleTicks := 0,
    underTicks := 0, overTicks := 0, capTicks := 0, capRaised := false, pinTold := false, limit := 0, tempHi := false, base := .M4, t := 0, hostWrites := false, quietSecs := 0,
    gcHeld := false, queue := [], nextJob := 1, commits := [] }

def LineCtl.reset : LineCtl :=
  { cls := .undecided, raw := [], text := [], count := 0, tail := [], badCol := none, framed := false, ctrlC := false,
    spaceSeen := false, sentRaw := 0, hold := false, holdAt := 0, lastCR := false, held := [], fwdOpen := false, fwdCR := false, own := [],
    hush := false, hushed := [], lastVerb := "", typed := false, typedBusy := false, ready := [], upstream := none, loss := false, lossAt := 0,
    dup := false, switchTo := none, prevRate := none, pin := none, tlsConns := [], nextConn := 0,
    ringLock := Lock.clear, tlsLock := Lock.clear }

def Evt.reset : Evt :=
  { cells := [], late := [], staged := [], log := [], nextSeq := 1, oldSeq := 1, rateAt := 0, rateN := 0,
    suppress := [], gpio := 0, gpioHold := 0, gpioOn := false }

def Factory.reset : Factory :=
  { ok := true, ofs := List.replicate 12 0, gain := List.replicate 12 0x3F800000, phase := List.replicate 96 0,
    excGain := 0x3F800000, curGain := 0x3F800000, lgain := 0x3F800000, lofs := 0, measGain := 0x3F800000,
    measOfs := 0, drawGain := 0x3F800000, dcGain := 0x3F800000, dcOfs := 0, oscTrim := 0, devId := 0 }

def IQ.zero : IQ := ⟨0, 0⟩
def PathSt.zero : PathSt := ⟨[], [], IQ.zero⟩

def Front.reset : Front :=
  { outN := 0, valid := 0, lastBad := false, aNow := 0, aNext := none, limited := false, excOver := false, pathE := PathSt.zero,
    pathA := PathSt.zero, pathM := PathSt.zero, pathB := PathSt.zero, faults := [], holdFail := false,
    last16 := [], meas16 := [] }

def Hart.reset : Hart :=
  { changed := 0, cold := 3, heard := 0, last48P := none, last48S := none, refusal := 0, burstBit := false,
    novelty := 0, frameAt := none, frameN := 0 }

def Bank.empty : Bank := { valid := false, works := true, seq := 0, image := [], saved := none }

def Loop.reset : Loop :=
  { visl := false, link := false, up := false, started := false, startUp := false, aux := false, loopOk := false, wp := false,
    regs := [], saved := none, bankA := { Bank.empty with valid := true }, bankB := Bank.empty, otp := Factory.reset, causes := 0,
    cause := 0, failHigh := false, told := 0, src := 0, yOk := false, y := 0x7FC00000, setF := 0x455DE000, row := 1, satLow := false,
    satHigh := false, code := 0, departed := false, offSince := none, recN := 0, seq32 := 0,
    tick := 0, buf := [], displaced := 0, resetSince := false, resetUnacked := false, latched := [], pend4 := none, pend20 := none,
    synced := true, freqOk := false, hbCount := 0, fe := Front.reset, hart := Hart.reset }

def Bridge.reset : Bridge :=
  { link := 0, upSinceDawn := false, mirror := [], units := [], anchor := none, backfill := false, asked := false, fill := [], stored := 0,
    overlap := 0, lost := 0, taiHeld := false, arrived := [], tpoints := [] }

def Boot.reset : Boot :=
  { norMib := 64, dir := [68, 88, 83, 68, 1, 26, 0, 0, 0, 0, 16, 0, 0, 0, 0, 2, 0, 0, 240, 1] ++ List.replicate 40 0 ++ [180, 235, 140, 151],
    norWrites := true, badPos := [], sector0 := [], sector1 := [], slotA := none, slotB := none,
    selected := none, handover := none, firstM4 := false, watchdog := false, handoverAt := 0,
    enteredAt := 0, lastRecLine := none, lastReject := none, lastRun := false, recov := none, upd := none,
    sram := [], started := none }

def Otp.reset : Otp :=
  { ident := { variant := 0, profileG := false, unitId := 0, mac0 := 0 }, uds := List.replicate 32 0,
    seeds := List.replicate 8 (List.replicate 32 0), fuses := 0, meshFuses := 0, bad := [],
    revoked := 0, commissioned := 0, owner := [], signers := [], signerRevoked := 0,
    debugHash := none, svnFuses := 0 }

def Sec.reset : Sec :=
  { otp := Otp.reset, vault := [], xts := [], recKeys := [], latch := 0, latchSrc := 0, srcNow := 0,
    burning := none, burnAt := 0, recordDue := false, debugOpen := false, romLocks := false,
    trngOk := true, authFails := [], identity := false, identNo := 0, chain := none }

def Mem.reset : Mem :=
  { capGib := 0, rateKept := 1, flashRateKept := 1, ceHour := [], ue := [], repair := [],
    sunrise := { stage := 0, halted := false, startAt := 0, stageAt := 0 },
    targets := [], blockBytes := 0, superblock := false, cutShort := false, ckptAt := 0,
    ckptBusy := false, ckptBytes := 0, logBytes := 0, freePermille := 0, plpOk := false,
    imageM1 := false, userGib := 0, dirtyGib := 0 }

def AddrSt.reset : AddrSt := { now_ := 0, probe := none, conflict := false, dhcp := .init, leaseEnd := none }

def Port.reset : Port :=
  { link := false, pauseUntil := 0, holds := [], pausedBeats := 0, v4 := AddrSt.reset, v6 := AddrSt.reset,
    gateway := 0, router := 0, prefix6 := none, neigh := [], reasm := [], echoAt := 0, echoN := 0, holding := false, txq := [] }

def Net.reset : Net :=
  { port0 := Port.reset, port1 := Port.reset, creds := [], psks := [], anchors := [], cookieKey := 0,
    cookiePrev := 0, tokens := 0, hs := [], nextHs := 0, tls := [] }

def Kv.reset : Kv :=
  { mounted := false, cleared := false, keys := [], disk := [], ns0 := [], ns0Disk := [], nsKeys := [],
    pos := 0, diskPos := 0, dirty := [], waits := [], snaps := [], waf := [],
    eraseMean := 0, eraseMax := 0, endurance := 0 }

def Sweep.reset : Sweep :=
  { nextQuery := 0, batchNum := 1, forming := [], running := none, exact := none, rerank := [], ctxs := [], cache := [],
    watches := [], recallJob := none, nextRecall := 1, results := [], nextWindow := none }

def Assoc.reset : Assoc :=
  { entries := [], policy := [], writes := [], writeN := 0, cursors := [], policyState := 0,
    scrubDue := false, scrubDueAt := 0, straps := 0, present := 0, withdrawn := 0, size := 1, frame := 0,
    turn := 0, mismatch := false, reqs := [], corr := 0, corrPast := [] }

/-- The block right after PD0 has left its power-on reset (R45): Midnight, every domain but PD0 off, SEQ_EN0
asserted since the first application of VAON starts the power-up sequence (Table 4.2), the ring route at VIEW. -/
def State.reset : State :=
  { regs := [], pwr := Pwr.reset, clk := Clk.reset, day := Day.reset, line := LineCtl.reset,
    routes := [RouteSt.start .ring true 0 0], evt := Evt.reset, loop := Loop.reset, bridge := Bridge.reset,
    boot := Boot.reset, sec := Sec.reset, mem := Mem.reset, net := Net.reset, sess := [], nextSess := 0,
    kv := Kv.reset, colls := [], collsDisk := [], sweep := Sweep.reset, assoc := Assoc.reset, out := [], freeCtr := 0, pending := [] }

end Sys2Proof.Machine
end

