-- ==== Sys2Proof/Machine/Ops.lean ====
section
/-! DEFINITION. The named operations over the state: registers, modes, time, free values, outputs, routes. -/

namespace Sys2Proof.Machine

/-! ## Registers -/

/-- The order of cells: by field, then by index. -/
def Cell.before (a b : Cell) : Bool :=
  a.p.rank < b.p.rank || (a.p.rank == b.p.rank && a.i < b.i)

/-- The value a list of cells gives a field, if it lists it. -/
def cellsGet (l : List Cell) (p : Param) (i : Nat) : Option Nat :=
  match l with
  | [] => none
  | c :: cs => if c.p == p && c.i == i then some c.v else cellsGet cs p i

/-- A list of cells with one more, in its place; an earlier value of the field goes. -/
def cellsPut (l : List Cell) (c : Cell) : List Cell :=
  match l with
  | [] => [c]
  | d :: ds =>
    if d.p == c.p && d.i == c.i then c :: ds
    else if c.before d then c :: d :: ds
    else d :: cellsPut ds c

/-- A list of cells without one field. -/
def cellsDel (l : List Cell) (p : Param) (i : Nat) : List Cell :=
  l.filter fun c => !(c.p == p && c.i == i)

/-- A list of cells with a field at a value; the reset value is not listed. -/
def cellsSet (l : List Cell) (reset : Nat) (p : Param) (i v : Nat) : List Cell :=
  if v == reset then cellsDel l p i else cellsPut l ⟨p, i, v⟩

/-- The value of a field after a reset that resets it (R535): the Reset column, with the entries that depend on the
profile (R6, R23) or on the index (R379; Tables 5.6 and 15.3). -/
def resetValue (profileG : Bool) (p : Param) (i : Nat) : Nat :=
  match p with
  | .LINE_STRICT => if profileG then 0 else 1
  | .KV_NS_ACT_LO => if i == 1 then 0xFFFF else 0
  | .KV_NS_ACT_HI => if i == 1 then 1 else 0
  | p => p.info.reset

def State.resetOf (s : State) (p : Param) (i : Nat) : Nat := resetValue s.sec.otp.ident.profileG p i

/-- A field of the core die. -/
def State.reg (s : State) (p : Param) (i : Nat := 0) : Nat := (cellsGet s.regs p i).getD (s.resetOf p i)

/-- The field set to a value. -/
def State.setReg (s : State) (p : Param) (v : Nat) (i : Nat := 0) : State :=
  { s with regs := cellsSet s.regs (s.resetOf p i) p i v }

/-- A counter that saturates at the width of its field. -/
def State.incReg (s : State) (p : Param) (n : Nat := 1) (i : Nat := 0) : State :=
  s.setReg p (sat (p.info.hi - p.info.lo + 1) (s.reg p i + n)) i

/-- A field of the loop die in force: its column value holds where no cell stands. -/
def Loop.reg (l : Loop) (p : Param) (i : Nat := 0) : Nat := (cellsGet l.regs p i).getD p.info.reset

def Loop.setReg (l : Loop) (p : Param) (v : Nat) (i : Nat := 0) : Loop :=
  { l with regs := cellsSet l.regs p.info.reset p i v }

/-- A field of the loop die in the core die's mirror (R532). -/
def Bridge.reg (b : Bridge) (p : Param) (i : Nat := 0) : Nat := (cellsGet b.mirror p i).getD p.info.reset

def Bridge.setReg (b : Bridge) (p : Param) (v : Nat) (i : Nat := 0) : Bridge :=
  { b with mirror := cellsSet b.mirror p.info.reset p i v }

/-! ## Modes -/

def Mode.num : Mode → Nat
  | .M0 => 0 | .M1 => 1 | .M2 => 2 | .M3 => 3 | .M4 => 4 | .M5 => 5 | .M6 => 6 | .M7 => 7 | .M8 => 8 | .M9 => 9
  | .M10 => 10 | .M11 => 11

def Mode.ofNum : Nat → Mode
  | 0 => .M0 | 1 => .M1 | 2 => .M2 | 3 => .M3 | 4 => .M4 | 5 => .M5 | 6 => .M6 | 7 => .M7 | 8 => .M8 | 9 => .M9
  | 10 => .M10 | _ => .M11

def Mode.text : Mode → String
  | .M0 => "M0" | .M1 => "M1" | .M2 => "M2" | .M3 => "M3" | .M4 => "M4" | .M5 => "M5" | .M6 => "M6" | .M7 => "M7"
  | .M8 => "M8" | .M9 => "M9" | .M10 => "M10" | .M11 => "M11"

def Mode.all : List Mode := [.M0, .M1, .M2, .M3, .M4, .M5, .M6, .M7, .M8, .M9, .M10, .M11]

def State.mode (s : State) : Mode := s.day.mode

/-- Whether the core runs: PD2 on, not held in reset by RESET_N, and not in a power-fail transition, which admits nothing
and leaves the flush alone at work (R10, R55, R56). -/
def State.coreUp (s : State) : Bool := bitAt s.pwr.on 2 && !s.pwr.held && !s.pwr.failing

/-- M4 to M9 with the core running: DKP sessions and the command port exist (R77), and the blocks do their work. -/
def State.inService (s : State) : Bool := 4 ≤ s.mode.num && s.mode.num ≤ 9 && s.coreUp

/-- M3 to M9 with the core running: firmware runs. -/
def State.firmware (s : State) : Bool := 3 ≤ s.mode.num && s.mode.num ≤ 9 && s.coreUp

/-- In a mode with the core running. -/
def State.runsIn (s : State) (m : Mode) : Bool := s.mode == m && s.coreUp

/-- The variant DX-1500N has no loop die (R4, R5). -/
def State.noLoop (s : State) : Bool := s.sec.otp.ident.variant == 2

/-! ## Time -/

/-- Beats in a millisecond, a microsecond and a second (R24: the beat is 1.5 GHz). -/
def ms (n : Nat) : Nat := n * 1500000
def us (n : Nat) : Nat := n * 1500
def sec (n : Nat) : Nat := n * 1500000000

def State.now (s : State) : Nat := s.clk.now

/-! ## Free values -/

/-- The next free value (log entry 3). -/
def State.free (s : State) : Nat := Config.freeNat s.freeCtr

def State.tick (s : State) : State := { s with freeCtr := s.freeCtr + 1 }

/-- A free value held to a range that the spec does give. -/
def clampFree (v lo hi : Nat) : Nat := lo + v % (hi - lo + 1)

/-! ## Outputs and routes -/

def State.emit (s : State) (o : Output) : State := { s with out := s.out ++ [o] }

def State.emits (s : State) (os : List Output) : State := { s with out := s.out ++ os }

/-- An Ethernet port. -/
def State.port (s : State) (p : Nat) : Port := if p == 0 then s.net.port0 else s.net.port1

def State.setPort (s : State) (p : Nat) (x : Port) : State :=
  if p == 0 then { s with net := { s.net with port0 := x } } else { s with net := { s.net with port1 := x } }

/-- What a port transmits: it leaves at once, or waits while PAUSE holds the transmitter (R301). -/
def portSend (p : Nat) (o : Output) (s : State) : State :=
  if s.now < (s.port p).pauseUntil then s.setPort p { s.port p with txq := (s.port p).txq ++ [o] } else s.emit o

/-- What waited for the end of a PAUSE leaves in its order (R301). -/
def flushPort (s : State) (p : Nat) : State :=
  let x := s.port p
  if s.now < x.pauseUntil || x.txq.isEmpty then s else (s.setPort p { x with txq := [] }).emits x.txq

/-- A record of a command connection leaves by the connection's port (R123). -/
def tlsOut (c : Nat) (o : Output) (s : State) : State :=
  match s.net.tls.find? (·.num == c) with
  | some x => portSend x.port o s
  | none => s.emit o

/-- The line controller runs while VDDIO_A and REFCLK are present (R46, R105). -/
def lineRuns (s : State) : Bool := s.pwr.vaon && s.pwr.vddioA && s.pwr.refclk

/-- A line or run of the unit's own on the ring: it waits while a forwarded line is in progress, and while the line
controller does not run (R105, R107; log entry 104); from its reply to a rate switch on the unit sends none (R116). -/
def ringSend (o : Output) (s : State) : State :=
  if s.line.hush then { s with line := { s.line with hushed := s.line.hushed ++ [o] } }
  else if s.line.fwdOpen || !lineRuns s then { s with line := { s.line with own := s.line.own ++ [o] } }
  else s.emit o

/-- What waited for the forwarded line leaves. -/
def flushOwn (s : State) : State :=
  if s.line.fwdOpen || !lineRuns s then s
  else { s with out := s.out ++ s.line.own, line := { s.line with own := [] } }

/-- The silence before a rate switch is over: what it held back leaves as the unit's own lines do. -/
def endHush (s : State) : State :=
  flushOwn { s with line := { s.line with hush := false, own := s.line.own ++ s.line.hushed, hushed := [] } }

/-- A pass-through run (R580). -/
def runOf (bytes : Text) : Output := .tx ([0x1C] ++ bytes ++ [0x1D])

/-- What a route holds; a route that is not there reads as one that has just opened at VIEW. -/
def routeGet (l : List RouteSt) (r : Route) : RouteSt :=
  match l with
  | [] => RouteSt.start r false 0 0
  | x :: xs => if x.route == r then x else routeGet xs r

def routePut (l : List RouteSt) (x : RouteSt) : List RouteSt :=
  match l with
  | [] => [x]
  | y :: ys => if y.route == x.route then x :: ys else y :: routePut ys x

def State.route (s : State) (r : Route) : RouteSt := routeGet s.routes r

def State.setRoute (s : State) (x : RouteSt) : State := { s with routes := routePut s.routes x }

def State.updRoute (s : State) (r : Route) (f : RouteSt → RouteSt) : State := s.setRoute (f (s.route r))

/-- A session by number. -/
def sessGet (l : List Sess) (n : Nat) : Option Sess := l.find? fun x => x.num == n

def sessPut (l : List Sess) (x : Sess) : List Sess := l.map fun y => if y.num == x.num then x else y

def State.session (s : State) (n : Nat) : Option Sess := sessGet s.sess n

def State.setSess (s : State) (x : Sess) : State := { s with sess := sessPut s.sess x }

/-- A collection by number. -/
def collGet (l : List Coll) (n : Nat) : Option Coll := l.find? fun x => x.num == n

/-- Collections in ascending order of number, with one put in its place. -/
def collPut (l : List Coll) (x : Coll) : List Coll :=
  match l with
  | [] => [x]
  | y :: ys => if y.num == x.num then x :: ys else if x.num < y.num then x :: y :: ys else y :: collPut ys x

def State.coll (s : State) (n : Nat) : Option Coll := collGet s.colls n

def State.setColl (s : State) (x : Coll) : State := { s with colls := collPut s.colls x }

/-- The login lock that governs a route (R121). -/
def lockOf (r : Route) (s : State) : Lock :=
  match r with
  | .ring => s.line.ringLock
  | .tls _ => s.line.tlsLock
  | .dkp _ => (s.route r).lock

/-- Whether an output is a reply line of the ring. -/
def Output.isRingReply : Output → Bool
  | .reply .ring _ _ => true
  | _ => false

/-- The command in progress on a route: one whose reply waits, or on the ring one whose reply has not left in full (R99). -/
def busyOn (r : Route) (s : State) : Option String :=
  match (s.route r).busy with
  | some v => some v
  | none =>
    if r == .ring && (s.line.own ++ s.line.hushed).any Output.isRingReply && s.line.lastVerb != "" then some s.line.lastVerb
    else none

/-- The level of a line on a route, as LINE.LEVEL numbers it (Table 5.4): VIEW while a login lock lasts (R121; log
entry 20). -/
def State.level (s : State) (r : Route) : Nat := if (lockOf r s).locked then 0 else (s.route r).level

/-- The role mask of R365. -/
def State.roles (s : State) (r : Route) : Nat :=
  match r with
  | .ring => if s.level .ring == 2 then 0xFFFF else s.reg .KV_RING_ROLES
  | r => (s.route r).roles

/-- Whether a level reaches a minimum: VENDOR grants OPERATOR and never OWNER (R117). -/
def levelOk (have_ min : Nat) : Bool :=
  match min with
  | 0 => true
  | 1 => 1 ≤ have_
  | 2 => have_ == 2
  | _ => have_ == 3

end Sys2Proof.Machine
end

