-- ==== Sys2Proof/Machine/Context.lean ====
section
/-! DEFINITION. The context engine: its two partitions, their admission queues, which context issues a memory read on a beat
(R425, R426, R429; log entry 119). -/

namespace Sys2Proof.Machine

/-- A context that is ready to issue: admitted, and not waiting for a read. -/
def Ctx.ready (c : Ctx) : Bool := c.since.isSome && !c.out

/-- The work that finds a context free, in the order in which it came: the first `walks` walks and the first `ranks`
candidates (R425). -/
def admitCtxs (walks ranks now : Nat) : List Ctx → List Ctx
  | [] => []
  | c :: cs =>
    if c.walk then
      match walks with
      | 0 => c :: admitCtxs 0 ranks now cs
      | n + 1 => { c with since := some (c.since.getD now) } :: admitCtxs n ranks now cs
    else
      match ranks with
      | 0 => c :: admitCtxs walks 0 now cs
      | n + 1 => { c with since := some (c.since.getD now) } :: admitCtxs walks n now cs

/-- The context of a partition that has been ready longest (R426). -/
def longestReady (walk : Bool) (l : List Ctx) : Option Ctx :=
  (l.filter fun c => c.ready && c.walk == walk).foldl (fun m c =>
    match m with
    | none => some c
    | some x => if c.since.getD 0 < x.since.getD 0 then some c else some x) none

/-- R426: the context that issues on a beat: of the walk partition on an even beat and of the re-rank partition on an odd one
where both hold a ready context. -/
def issuing (beat : Nat) (l : List Ctx) : Option Ctx :=
  match longestReady true l, longestReady false l with
  | some w, some r => some (if beat % 2 == 0 then w else r)
  | some w, none => some w
  | none, r => r

/-- R426: a context issues its read and yields. A candidate holds its context until its distance is known. A walk is ready
again with the next beat, or over with its last read. -/
def issueCtx (now : Nat) (x : Ctx) : List Ctx → List Ctx
  | [] => []
  | c :: cs =>
    if c != x then c :: issueCtx now x cs
    else if !c.walk then { c with out := true } :: cs
    else if c.reads ≤ 1 then cs
    else { c with reads := c.reads - 1, since := some (now + 1) } :: cs

/-- Whether a commit drains the engine: it admits to neither partition (R429). -/
def engineDrains (s : State) : Bool := s.day.commits.any (·.drain)

/-- Contexts of a partition in use. -/
def ctxsInUse (walk : Bool) (s : State) : Nat := (s.sweep.ctxs.filter fun c => c.walk == walk && c.since.isSome).length

/-- What one beat does in the engine while PD9 is on. -/
def engineBeat (s : State) : State :=
  if !s.coreUp || !bitAt s.pwr.on 9 then s
  else
    let walks := s.reg .RRK_WALK_CTX
    let l := if engineDrains s then s.sweep.ctxs else admitCtxs walks (4096 - walks) s.now s.sweep.ctxs
    let l := match issuing s.clk.beat l with | some c => issueCtx s.now c l | none => l
    { s with sweep := { s.sweep with ctxs := l } }

/-- An index walk enters the engine; how many memory reads it makes is a free value (R425; log entry 119). -/
def startWalk (s : State) : State :=
  { s.tick with sweep := { s.sweep with ctxs := s.sweep.ctxs ++ [⟨true, 0, 0, s.free + 1, none, false⟩] } }

/-- The candidates of a query enter the engine. -/
def startRanks (q : Nat) (cands : List Nat) (s : State) : State :=
  { s with sweep := { s.sweep with ctxs := s.sweep.ctxs ++ cands.map fun loc => ⟨false, q, loc, 1, none, false⟩ } }

/-- The contexts of the queries that are still in re-rank; walks stay. -/
def liveCtxs (l : List Rerank) (cs : List Ctx) : List Ctx := cs.filter fun c => c.walk || l.any fun r => r.q.num == c.q

/-- The queries in re-rank, with the contexts that they hold. -/
def State.setRerank (s : State) (l : List Rerank) : State :=
  { s with sweep := { s.sweep with rerank := l, ctxs := liveCtxs l s.sweep.ctxs } }

/-- Whether a candidate's read is on its way. -/
def fetching (q loc : Nat) (s : State) : Bool := s.sweep.ctxs.any fun c => !c.walk && c.q == q && c.loc == loc && c.out

/-- The distance of a candidate is known: its context is free (R426). -/
def freeCtx (q loc : Nat) (s : State) : State :=
  { s with sweep := { s.sweep with ctxs := s.sweep.ctxs.filter fun c => !(!c.walk && c.q == q && c.loc == loc) } }

end Sys2Proof.Machine
end

