-- ==== Sys2Proof/Machine/Float.lean ====
section
/-! DEFINITION. binary32 arithmetic on bit patterns, rounded to nearest even (R134, R167, R182, R430): an exact
result is formed on natural numbers and narrowed once. -/

namespace Sys2Proof.Machine.F

/-- The one NaN an operation answers with. -/
def nan : F32 := 0x7FC00000
def posInf : F32 := 0x7F800000
def one : F32 := 0x3F800000
def neg? (x : F32) : Bool := x / 2 ^ 31 % 2 == 1
def expo (x : F32) : Nat := x / 2 ^ 23 % 256
def frac (x : F32) : Nat := x % 2 ^ 23
def isNaN (x : F32) : Bool := expo x == 255 && frac x != 0
def isInf (x : F32) : Bool := expo x == 255 && frac x == 0
def isFinite (x : F32) : Bool := expo x != 255
def isZero (x : F32) : Bool := expo x == 0 && frac x == 0

/-- The significand of a finite number, as a multiple of 2 to the power of `scale x`. -/
def mant (x : F32) : Nat := if expo x == 0 then frac x else frac x + 2 ^ 23
def scale (x : F32) : Int := if expo x == 0 then -149 else (expo x : Int) - 150

def signBit (neg : Bool) : Nat := if neg then 2 ^ 31 else 0

/-- `m · 2^e`, with the sign given, rounded to nearest even. -/
def pack (neg : Bool) (m : Nat) (e : Int) : F32 :=
  if m == 0 then signBit neg
  else
    let top : Int := e + (Nat.log2 m : Int)
    let q : Int := if top < -126 then -149 else top - 23
    let sh : Int := q - e
    let r : Nat :=
      if sh ≤ 0 then m * 2 ^ (-sh).toNat
      else
        let d := 2 ^ sh.toNat
        let f := m / d
        let rem := m % d
        if 2 * rem > d || (2 * rem == d && f % 2 == 1) then f + 1 else f
    let bits : Nat := if top < -126 then r else (top + 126).toNat * 2 ^ 23 + r
    signBit neg + min bits posInf

/-- The exact integer of a finite number at scale 2^-149. -/
def fixed (x : F32) : Int :=
  let m : Int := (mant x * 2 ^ (scale x + 149).toNat : Nat)
  if neg? x then -m else m

def negate (x : F32) : F32 := if neg? x then x - 2 ^ 31 else x + 2 ^ 31
def abs (x : F32) : F32 := x % 2 ^ 31

def add (x y : F32) : F32 :=
  if isNaN x || isNaN y then nan
  else if isInf x then (if isInf y && neg? x != neg? y then nan else x)
  else if isInf y then y
  else
    let v := fixed x + fixed y
    if v == 0 then signBit (neg? x && neg? y)
    else pack (v < 0) v.natAbs (-149)

def sub (x y : F32) : F32 := add x (negate y)

def mul (x y : F32) : F32 :=
  let s := neg? x != neg? y
  if isNaN x || isNaN y then nan
  else if isInf x || isInf y then (if isZero x || isZero y then nan else signBit s + posInf)
  else pack s (mant x * mant y) (scale x + scale y)

def div (x y : F32) : F32 :=
  let s := neg? x != neg? y
  if isNaN x || isNaN y then nan
  else if isInf x then (if isInf y then nan else signBit s + posInf)
  else if isInf y then signBit s
  else if isZero y then (if isZero x then nan else signBit s + posInf)
  else
    let n := mant x * 2 ^ 64
    let q := n / mant y
    let sticky := if n % mant y == 0 then 0 else 1
    pack s (2 * q + sticky) (scale x - scale y - 65)

/-- Square root, rounded once. -/
def sqrt (x : F32) : F32 :=
  if isNaN x then nan
  else if isZero x then x
  else if neg? x then nan
  else if isInf x then x
  else
    let e := scale x - 64
    let (m, e) := if e % 2 == 0 then (mant x * 2 ^ 64, e) else (mant x * 2 ^ 65, e - 1)
    let r := Nat.sqrt m
    pack false (2 * r + (if r * r == m then 0 else 1)) (e / 2 - 1)

/-- Ordered less than, false where either is NaN. -/
def lt (x y : F32) : Bool :=
  if isNaN x || isNaN y then false
  else if isInf x || isInf y then
    if isInf x && isInf y then neg? x && !neg? y
    else if isInf x then neg? x else !neg? y
  else fixed x < fixed y

def le (x y : F32) : Bool :=
  if isNaN x || isNaN y then false else !(lt y x)

def eq (x y : F32) : Bool := le x y && le y x

/-- A rational number `n / d`, rounded once. -/
def ofRat (n : Int) (d : Nat) : F32 :=
  if d == 0 then nan
  else
    let k := 2 ^ 200
    let a := n.natAbs * k
    let q := a / d
    let sticky := if a % d == 0 then 0 else 1
    pack (n < 0) (2 * q + sticky) (-201)

def ofInt (n : Int) : F32 := pack (n < 0) n.natAbs 0
def ofNat (n : Nat) : F32 := pack false n 0

/-- The nearest integer, a half going away from zero (log entry 5). Zero for a NaN or an infinity. -/
def round (x : F32) : Int :=
  if !isFinite x then 0
  else
    let d : Nat := 2 ^ 149
    let a := (fixed x).natAbs
    let r := (2 * a + d) / (2 * d)
    if neg? x then -(r : Int) else r

/-- A number held to 0 … `top` after rounding. -/
def roundSat (x : F32) (top : Nat) : Nat := min (round x).toNat top

/-- The mean of a list, summed in order (R187). -/
def mean (l : List F32) : F32 := div (l.foldl add 0) (ofNat l.length)

def maxOf (l : List F32) : F32 := match l with | [] => 0 | x :: xs => xs.foldl (fun a b => if lt a b then b else a) x
def minOf (l : List F32) : F32 := match l with | [] => 0 | x :: xs => xs.foldl (fun a b => if lt b a then b else a) x

/-- The peak-to-peak range of a list (R187). -/
def range (l : List F32) : F32 := sub (maxOf l) (minOf l)

/-- The coefficient `1 - exp(-t / tau)` of R134, for times in units of one tenth of a millisecond. -/
def coeff (t tau : Nat) : F32 :=
  if tau == 0 then one else sub one (Config.f32Exp (negate (div (ofNat t) (ofNat tau))))

end Sys2Proof.Machine.F
end

