-- ==== Sys2Proof/Machine/Raise.lean ====
section
/-! DEFINITION. The event fabric (chapter 19): the severity, masks and log bit of every event, what a raise sets and
where it goes, which latches clear by themselves. -/

namespace Sys2Proof.Machine

/-- Whether n lies in a range. -/
def within (n lo hi : Nat) : Bool := lo ≤ n && n ≤ hi

/-- The class an alarm source has in ALM.CLASS: 1 A, 2 B, 3 C (R254). -/
def alarmClass (cls src : Nat) : Nat := cls / 4 ^ src % 4

/-- The severity of an event as its table defines it: 0 INFO, 1 WARN, 2 FAULT, 3 ALARM; none for a reserved
identifier (R480; Tables of R126, R179, R197, R264, R354, R383). The two families whose severity comes from the raise stand at their highest (R482). -/
def evSeverity (id : Nat) : Option Nat :=
  if id < 0x040 then
    if id < 0x00C then some (if id == 11 then 3 else if id == 10 then 2 else 0)
    else if id == 0x00C then some 1
    else if within id 0x010 0x015 || within id 0x018 0x01D then some 2
    else if id == 0x020 || id == 0x024 || id == 0x026 then some 1
    else if id == 0x021 || id == 0x025 then some 0
    else if id == 0x022 || id == 0x023 then some 2
    else none
  else if id < 0x060 then
    if id ∈ [0x041, 0x042, 0x046, 0x049, 0x04B, 0x04C, 0x04D] then some 1
    else if id == 0x043 then some 2
    else if id ∈ [0x040, 0x044, 0x045, 0x047, 0x048, 0x04A] then some 0
    else none
  else if id < 0x0C0 then
    if id ∈ [0x06A, 0x090, 0x091] || within id 0x080 0x088 then some 3
    else if id ∈ [0x069, 0x06D, 0x094] then some 2
    else if id ∈ [0x062, 0x063, 0x068] then some 1
    else if within id 0x060 0x06D || id == 0x092 then some 0
    else none
  else if id < 0x100 then
    if id == 0x0C0 || id == 0x0C8 then some 0
    else if id == 0x0C5 then some 2
    else if within id 0x0C2 0x0C7 then some 1
    else none
  else if id < 0x180 then
    let i := id % 64
    if i ∈ [0, 3, 5, 11, 12] then some 0 else if i < 14 then some 1 else none
  else if id < 0x200 then
    if id ∈ [0x180, 0x185, 0x186, 0x18A, 0x196] then some 0
    else if within id 0x181 0x189 || within id 0x190 0x195 then some 1
    else none
  else if id < 0x280 then
    if id < 0x240 then some (if id % 4 == 1 then 1 else 2)
    else if id ∈ [0x240, 0x243, 0x245, 0x250, 0x256] then some 0
    else if id ∈ [0x241, 0x244, 0x258, 0x25A] then some 2
    else if id ∈ [0x246, 0x247, 0x248, 0x24A, 0x251, 0x253, 0x254, 0x255, 0x257, 0x259] then some 1
    else none
  else if id < 0x2C0 then some (match id % 4 with | 0 => 1 | 2 => 0 | _ => 2)
  else if id < 0x300 then some 1
  else if id < 0x340 then
    if id == 0x301 then some 2
    else if id ∈ [0x300, 0x310, 0x311, 0x312, 0x315] || within id 0x320 0x327 || within id 0x330 0x337 then some 1
    else if id == 0x313 || id == 0x314 || within id 0x328 0x32F || within id 0x338 0x33F then some 0
    else none
  else if id < 0x380 then
    if id ∈ [0x342, 0x344, 0x362] then some 2
    else if id ∈ [0x341, 0x343, 0x346] || within id 0x350 0x357 then some 1
    else if id ∈ [0x340, 0x348] || within id 0x358 0x35F then some 0
    else none
  else if id < 0x3C0 then
    if id ∈ [0x383, 0x389, 0x38A, 0x3A6] || within id 0x398 0x39E then some 2
    else if id ∈ [0x381, 0x385, 0x38C, 0x38D, 0x38E, 0x392, 0x393, 0x3A1, 0x3A2, 0x3B2] then some 1
    else if within id 0x380 0x38F || id ∈ [0x390, 0x391, 0x394, 0x39F] || within id 0x3A0 0x3A7
      || within id 0x3B0 0x3B5 then some 0
    else none
  else if id < 0x3F0 then
    if id ∈ [0x3C1, 0x3C2, 0x3C4, 0x3C7, 0x3C9, 0x3CA, 0x3CD, 0x3CE, 0x3CF, 0x3D1] then some 1
    else if id ≤ 0x3D1 then some 0
    else none
  else if id < 0x400 then
    if id == 0x3F6 then some 2
    else if id ∈ [0x3F1, 0x3F5, 0x3F8, 0x3F9, 0x3FB, 0x3FD] then some 1
    else if id < 0x3FE then some 0
    else none
  else none

/-- The log bit at reset (R489). -/
def evLogReset (id sev : Nat) : Bool :=
  1 ≤ sev || id < 0x00C || id ∈ [0x040, 0x048, 0x060, 0x066, 0x3F0]

/-- Bits [5:0] of EVT.En at reset (Table 19.3). -/
def evMasksReset (id : Nat) : Nat :=
  let sev := (evSeverity id).getD 0
  (if 1 ≤ sev then 1 else 0) + 2 + (if 2 ≤ sev then 4 else 0) + (if evLogReset id sev then 32 else 0)

/-- The events whose latches and counters PD0 keeps (R487). -/
def evKept (id : Nat) : Bool := within id 0x010 0x025 || within id 0x040 0x04D || within id 0x060 0x0BF

/-- The latch a raise clears beside its own (Table 19.4). -/
def evPartner (id : Nat) : Option Nat :=
  if within id 0x338 0x33F then some (id - 8)
  else if id == 0x380 then some 0x381
  else if id == 0x384 then some 0x383
  else if id == 0x3C5 then some 0x3C4
  else if within id 0x358 0x35F then some (id - 8)
  else none

/-- The word of an event: its reset state where no cell stands. -/
def evtGet (l : List EvtCell) (id : Nat) : EvtCell :=
  match l with
  | [] => ⟨id, evMasksReset id, false, 0⟩
  | c :: cs => if c.id == id then c else evtGet cs id

/-- The cells, ascending, with one in its place. -/
def evtInsert (l : List EvtCell) (c : EvtCell) : List EvtCell :=
  match l with
  | [] => [c]
  | d :: ds => if d.id == c.id then c :: ds else if c.id < d.id then c :: d :: ds else d :: evtInsert ds c

/-- The cells with one event set; an event in its reset state is not listed. -/
def evtPut (l : List EvtCell) (c : EvtCell) : List EvtCell :=
  if c.masks == evMasksReset c.id && !c.latch && c.count == 0 then l.filter fun d => d.id != c.id else evtInsert l c

def evtClearLatch (l : List EvtCell) (id : Nat) : List EvtCell := evtPut l { evtGet l id with latch := false }

/-- Bytes a field takes in a record (Table 19.5a). -/
def fieldWidth (id : Nat) (name : String) : Nat :=
  let port := within id 0x100 0x17F
  if name == "addr" then (if port then 16 else if id == 0x026 then 4 else 1)
  else if name == "master" then (if port then 8 else 1)
  else if name == "ns" then (if id == 0x0C2 then 8 else 1)
  else if name ∈ ["loc", "offset", "verb"] then 8
  else if name ∈ ["w", "period", "holdup_ms", "cc", "ma", "set", "meas", "overlap", "outputs", "settle_ms", "hold_ms",
      "allow", "need", "sess", "idx", "mtu", "chunks", "walk", "job"] then 2
  else if name ∈ ["from", "to", "cause", "reason", "why", "what", "by", "code", "state", "level", "route", "svc", "port",
      "alert", "dir", "on", "en", "src", "wp", "forced", "point", "watch", "t", "fill", "share", "free", "temp", "pct",
      "pin_mode", "want", "mode", "class", "slot", "svn", "run", "active", "seed", "item", "signer", "stage", "ch",
      "tgt", "pos", "coll", "s", "up", "conn", "calc", "speed", "fec", "region", "cmd", "cred", "bank", "trim"] then 1
  else 4

/-- The bytes of a field's value, little-endian, at a width: a count saturates, a code stands for its word, a text
is padded with 0 (R491). -/
def fieldBytes (w : Nat) : Val → Text
  | .n v => leBytes w (if w == 4 then sat 32 v else v)
  | .i v => leBytes w (ofSigned (8 * w) v)
  | .w s => ((txt s) ++ List.replicate w 0).take w
  | .c code _ => leBytes w code
  | .x _ v => leBytes w v
  | .f b => leBytes w b
  | .b bs => (bs ++ List.replicate w 0).take w
  | .ip v6 a => (if v6 then beBytes 16 a else List.replicate 10 0 ++ [0xFF, 0xFF] ++ beBytes 4 a).take w
  | .q bs => (bs ++ List.replicate w 0).take w

/-- A record carries a distance as binary32, also one that a notice writes as a whole number (Table 19.5a; log entry 33). -/
def recordVal (name : String) : Val → Val
  | .i v => if name == "dist" then .f (F.ofInt v) else .i v
  | v => v

/-- Fields packed in order until one does not fit whole (R491, R495). -/
def packFields (room id : Nat) (fields : List (String × Val)) : Text :=
  match fields with
  | [] => List.replicate room 0
  | (n, v) :: fs =>
    let w := fieldWidth id n
    if room < w then List.replicate room 0 else fieldBytes w (recordVal n v) ++ packFields (room - w) id fs

/-- An event record (R353): 32 bytes with 8 of fields. -/
def Record.bytes (r : Record) : Text :=
  leBytes 2 r.id ++ [r.sev, (if r.latch then 1 else 0) + (if r.late then 2 else 0)] ++ leBytes 2 (min r.count 65535)
    ++ [0, 0] ++ leBytes 8 r.tai ++ leBytes 8 r.seq ++ packFields 8 r.id r.fields

/-- A queue of notices with one more: 32 at most, the oldest goes (R102). -/
def RouteSt.queueNotice (x : RouteSt) (n : Notice) : RouteSt :=
  if x.queue.length < 32 then { x with queue := x.queue ++ [n] }
  else { x with queue := x.queue.drop 1 ++ [n], lost := x.lost + 1 }

/-- A subscription's queue with one more record: 256 at most, the oldest goes (R352). -/
def Sub.queueRecord (b : Sub) (r : Record) : Sub :=
  if b.queue.length < 256 then { b with queue := b.queue ++ [r] }
  else { b with queue := b.queue.drop 1 ++ [r], lost := b.lost + 1 }

/-- Whether a subscription's filter passes a record (R351). -/
def Sub.passes (b : Sub) (r : Record) : Bool := b.first ≤ r.id && r.id ≤ b.last && b.least ≤ r.sev

def Sess.push (x : Sess) (r : Record) : Sess :=
  match x.sub with
  | some b => if b.passes r then { x with sub := some (b.queueRecord r) } else x
  | none => x

/-- The store takes log records once stage 5 of Sunrise has completed (R496). -/
def State.logReady (s : State) : Bool :=
  s.inService || (s.mode == .M3 && 6 ≤ s.mem.sunrise.stage)

/-- A record of the log, under the limit of EVT.LOG_RATE records a second (R496). -/
def logRecord (s : State) (e : Evt) (r : Record) : Evt × Nat × Bool :=
  let here := s.now / sec 1
  let n := if e.rateAt == here then e.rateN else 0
  if n < s.reg .EVT_LOG_RATE then
    let r := { r with seq := e.nextSeq }
    ({ e with staged := e.staged ++ [r], nextSeq := e.nextSeq + 1, rateAt := here, rateN := n + 1 }, r.seq, false)
  else ({ e with rateAt := here, rateN := n }, 0, true)

/-- A raise with everything it carries: severity, fields, whether it comes late and how many occurrences it stands
for (R484, R485, R488). A raise of a kept event outside M3 to M9 is delivered when stage 5 completes; every other raise
sends its notice at once and, while the store takes records, goes to the log and the subscribers (log entry 12). -/
def raiseWith (id sev : Nat) (fields : List (String × Val)) (late : Bool) (times : Nat) (s : State) : State :=
  let c := evtGet s.evt.cells id
  let c := { c with latch := true, count := min 65535 (c.count + times) }
  let cells := evtPut s.evt.cells c
  let cells := match evPartner id with | some q => evtClearLatch cells q | none => cells
  let shown := if late then fields ++ [("late", .n 1), ("count", .n times)] else fields
  let r : Record := ⟨0, id, sev, true, late, c.count, s.clk.tai, fields⟩
  let gpio := (List.range 8).foldl (fun g k =>
    if s.reg .EVT_GPIO_ON k == 1 && s.reg .EVT_GPIO_EV k == id && s.reg .EVT_GPIO_PULSE k == 1 && s.evt.gpioOn
      && bitAt c.masks 3 then setBit g k else g) s.evt.gpio
  if evKept id && !s.firmware then
    { s with evt := { s.evt with cells := cells, late := s.evt.late ++ [{ r with late := true }], gpio := gpio } }
  else
    let note : Notice := ⟨id, sev, shown⟩
    let routes :=
      if bitAt c.masks 0 then
        s.routes.map fun x =>
          match x.route with
          | .ring => if s.reg .LINE_NOTICE_RING == 1 then x.queueNotice note else x
          | .tls _ => if x.notices then x.queueNotice note else x
          | .dkp _ => x
      else s.routes
    let e := { s.evt with cells := cells, gpio := gpio }
    let (e, q, lost) :=
      if bitAt c.masks 5 then
        (if s.logReady then logRecord s e r else ({ e with late := e.late ++ [r] }, 0, false))
      else (e, 0, false)
    let sess := if bitAt c.masks 1 && s.inService then s.sess.map fun x => x.push { r with seq := q } else s.sess
    let loop :=
      if within id 0x330 0x337 && bitAt c.masks 4 && s.bridge.link == 2 && !s.noLoop then
        { s.loop with hart := { s.loop.hart with novelty := setBit s.loop.hart.novelty (id - 0x330) } }
      else s.loop
    let regs :=
      if lost then cellsSet s.regs (s.resetOf .EVT_LOG_LOST 0) .EVT_LOG_LOST 0 (sat 32 (s.reg .EVT_LOG_LOST + 1))
      else s.regs
    { s with evt := e, routes := routes, sess := sess, loop := loop, regs := regs }

/-- A raise at the event's own severity. -/
def raise (id : Nat) (fields : List (String × Val)) (s : State) : State :=
  raiseWith id ((evSeverity id).getD 0) fields false 1 s

/-- An occurrence that its rule suppresses: it counts and does nothing else (R484). -/
def suppressed (id : Nat) (s : State) : State :=
  let c := evtGet s.evt.cells id
  { s with evt := { s.evt with cells := evtPut s.evt.cells { c with count := min 65535 (c.count + 1) } } }

def limitGet (l : List (Nat × Nat × Nat)) (id : Nat) : Option (Nat × Nat) :=
  match l with
  | [] => none
  | (i, at_, n) :: xs => if i == id then some (at_, n) else limitGet xs id

def limitPut (l : List (Nat × Nat × Nat)) (id at_ n : Nat) : List (Nat × Nat × Nat) :=
  (id, at_, n) :: l.filter fun x => x.1 != id

/-- A raise of an event that its rule raises at most once per `gap` beats. `count` carries the occurrences since the
last raise, where the event has that field. -/
def raiseLimited (id gap : Nat) (fields : Nat → List (String × Val)) (s : State) : State :=
  match limitGet s.evt.suppress id with
  | some (at_, n) =>
    if s.now < at_ + gap then
      let s := suppressed id s
      { s with evt := { s.evt with suppress := limitPut s.evt.suppress id at_ (n + 1) } }
    else
      let s := raise id (fields (n + 1)) s
      { s with evt := { s.evt with suppress := limitPut s.evt.suppress id s.now 0 } }
  | none =>
    let s := raise id (fields 1) s
    { s with evt := { s.evt with suppress := limitPut s.evt.suppress id s.now 0 } }

/-- An event that reports a count, at most once per second. -/
def raiseCount (id : Nat) (pre : List (String × Val)) (s : State) : State :=
  raiseLimited id (sec 1) (fun n => pre ++ [("count", .n n)]) s

/-- Clears a latch. -/
def clearLatch (id : Nat) (s : State) : State :=
  { s with evt := { s.evt with cells := evtClearLatch s.evt.cells id } }

/-- Delivers what was latched while it could not be, in raising order (R485, R496): kept events on every open path
with their late flag; events whose notice has gone only to the log and the subscribers. -/
def deliverLate (s : State) : State :=
  let pending := s.evt.late
  let s := { s with evt := { s.evt with late := [] } }
  pending.foldl (fun s r =>
    let c := evtGet s.evt.cells r.id
    let note : Notice := ⟨r.id, r.sev, r.fields ++ [("late", .n 1), ("count", .n 1)]⟩
    let routes :=
      if r.late && bitAt c.masks 0 then
        s.routes.map fun x =>
          match x.route with
          | .ring => if s.reg .LINE_NOTICE_RING == 1 then x.queueNotice note else x
          | _ => x
      else s.routes
    let (e, _, lost) := if bitAt c.masks 5 then logRecord s s.evt r else (s.evt, 0, false)
    let s := { s with evt := e, routes := routes }
    if lost then s.incReg .EVT_LOG_LOST else s) s

/-- A pending synchronising instant is cancelled as the bridge is lost: EV 0x0C7 with its instant (R41). -/
def cancelSync (s : State) : State :=
  match s.clk.syncAt with
  | none => s
  | some t => raise 0x0C7 [("at", .n t)] { s with clk := { s.clk with syncAt := none } }

/-- The GPIO pins that stand at their active level (R493). -/
def gpioActive (s : State) : Nat :=
  (List.range 8).foldl (fun g k =>
    let id := s.reg .EVT_GPIO_EV k
    let c := evtGet s.evt.cells id
    let live := s.evt.gpioOn && s.reg .EVT_GPIO_ON k == 1 && bitAt c.masks 3
    let asleep := s.mode.num ≤ 1 && !evKept id
    let on :=
      if asleep then bitAt s.evt.gpioHold k
      else live && (if s.reg .EVT_GPIO_PULSE k == 1 then bitAt s.evt.gpio k else c.latch)
    if on then setBit g k else g) 0

end Sys2Proof.Machine
end

