-- ==== Sys2Proof/Machine/DkpCore.lean ====
section
/-! DEFINITION. Segments, the replay cache and the answering of an admitted request (R330–R338, R340). -/

namespace Sys2Proof.Machine

/-- Flag bits of a segment (Table 14.1). -/
def fRESP : Nat := 1
def fACK : Nat := 2
def fRETRY : Nat := 4
def fPUSH : Nat := 8
def fREEXEC : Nat := 16

/-- A segment: the 20-byte header and the body (R330). -/
def segment (op flags id status credit len off : Nat) (body : Text) : Text :=
  [1, op, flags, 0] ++ leBytes 4 id ++ leBytes 2 status ++ leBytes 2 credit ++ leBytes 4 len ++ leBytes 4 off ++ body

/-- a is below b in serial-number order (R336). -/
def serialBelow (a b : Nat) : Bool :=
  let d := (b + 2 ^ 32 - a % 2 ^ 32) % 2 ^ 32
  1 ≤ d && d < 2 ^ 31

/-- The largest segment body the device sends on a session (R308, R331). -/
def Sess.segBytes (x : Sess) : Nat := x.mtu - (if x.v6 then 70 else 50) - 20

/-- Free entries of the session window (Table 14.1). -/
def Sess.credit (x : Sess) : Nat := 256 - x.admitted.length

/-- The cached response with the lowest ID, in serial order (R337). -/
def lowestCached (l : List Cached) : Option Nat :=
  match l with
  | [] => none
  | c :: cs => some (cs.foldl (fun m d => if serialBelow d.id m then d.id else m) c.id)

/-- The replay cache with one more response: 256 at most; the lowest ID is evicted and becomes the floor (R336,
R337). -/
def Sess.cacheResponse (x : Sess) (c : Cached) : Sess :=
  let l := x.cache.filter (fun d => d.id != c.id) ++ [c]
  if l.length ≤ 256 then { x with cache := l }
  else
    match lowestCached l with
    | some low => { x with cache := l.filter (fun d => d.id != low), floor := some low }
    | none => x

/-- Segments of a message from an offset on, `n` at most, each of `size` body bytes. -/
def segmentsFrom (size op flags id status credit : Nat) (body : Text) (off : Nat) : Nat → List Text
  | 0 => []
  | n + 1 =>
    if body.length ≤ off && !(off == 0) then []
    else
      segment op flags id status credit body.length off ((body.drop off).take size)
        :: (if off + size < body.length then segmentsFrom size op flags id status credit body (off + size) n else [])

/-- A KeyUpdate of the device, with update_requested or without (R322). -/
def sendKeyUpdate (sess port : Nat) (requested : Bool) (s : State) : State :=
  raise 0x186 [("sess", .n sess), ("dir", .c 0 "sent")]
    (portSend port (.net port "key_update" [sess, if requested then 1 else 0]) s)

def State.setTls (s : State) (x : TlsConn) : State :=
  { s with net := { s.net with tls := s.net.tls.map fun y => if y.num == x.num then x else y } }

/-- A KeyUpdate on a command connection: its sender changes keys as soon as it is sent (R322; log entry 77). -/
def tlsKeyUpdate (c : Nat) (requested : Bool) (s : State) : State :=
  match s.net.tls.find? (·.num == c) with
  | some x => sendKeyUpdate c x.port requested (s.setTls { x with sentRecs := 0 })
  | none => s

/-- A line on a command connection is one record; the 2^23rd of an epoch brings a KeyUpdate (R263, R322; log entry 77). -/
def tlsSend (c : Nat) (o : Output) (s : State) : State :=
  let s := tlsOut c o s
  match s.net.tls.find? (·.num == c) with
  | none => s
  | some x =>
    let s := s.setTls { x with sentRecs := x.sentRecs + 1 }
    if 2 ^ 23 ≤ x.sentRecs + 1 then tlsKeyUpdate c false s else s

/-- Sends segments on a session, each as one record; while the session's link is down they are lost (R326). The
2^23rd record of an epoch brings a KeyUpdate (R322). -/
def sendSegs (sess : Nat) (segs : List Text) (s : State) : State :=
  match s.session sess with
  | none => s
  | some x =>
    let n := x.sentRecs + segs.length
    let due := 2 ^ 23 ≤ n && !x.kuSent
    let s := s.setSess { x with sentRecs := n, kuSent := x.kuSent || due }
    let s := if x.held then s else segs.foldl (fun s t => portSend x.port (.segment sess t) s) s
    if due then sendKeyUpdate sess x.port false s else s

/-- Sends a response on a session: one segment, or the first window of a longer message (R331, R334). -/
def sendResponse (sess : Nat) (op flags id status : Nat) (body : Text) (s : State) : State :=
  match s.session sess with
  | none => s
  | some x =>
    let size := max 1 x.segBytes
    let segs := segmentsFrom size op flags id status x.credit body 0 256
    let x :=
      if size < body.length then
        let t : Tx := { id := id, op := op, flags := flags, status := status, body := body,
                        sent := min body.length (256 * size), acked := 0, resends := 0, stopped := false }
        { x with tx := x.tx.filter (fun u => u.id != id) ++ [t] }
      else x
    sendSegs sess segs (s.setSess x)

/-- The final response of an admitted request: it leaves the window, its response is cached and sent (R335, R337).
A response larger than 65,536 bytes is cached as its status and version alone. A request that ran again as REEXEC is
sent with that flag and stays as it is cached. -/
def respond (sess id op status : Nat) (body : Text) (ver : Nat) (s : State) : State :=
  match s.session sess with
  | none => s
  | some x =>
    let a := x.admitted.find? fun a => a.id == id
    let again := a.elim false (·.reexec)
    let req := a.elim [] (·.body)
    let x := { x with admitted := x.admitted.filter fun a => a.id != id }
    let x :=
      if again then x
      else x.cacheResponse ⟨id, op, status, if body.length ≤ 65536 then some body else none, ver, if body.length ≤ 65536 then [] else req⟩
    let s := s.setSess x
    let s :=
      if again then s
      else { s with regs := cellsSet s.regs (s.resetOf .DKP_TOKENS 0) .DKP_TOKENS 0 (s.reg .DKP_TOKENS - 1) }
    let s := if status == 202 then s.incReg .DKP_BUSY else s
    sendResponse sess op (if again then fRESP + fREEXEC else fRESP) id status body s

/-- A response at steps 1 to 7 of Table 14.2, before admission: one segment, not cached. -/
def refuseEarly (sess id op status : Nat) (body : Text) (s : State) : State :=
  let s := if status == 202 then s.incReg .DKP_BUSY else s
  sendResponse sess op fRESP id status body s

/-! ## Detail bodies (Table 14.5) -/

def detailOffset (off : Nat) : Text := leBytes 4 off
def detailState (mode need : Nat) : Text := [mode, 0] ++ leBytes 2 need
def detailBusy (us_ bound : Nat) : Text := leBytes 4 us_ ++ [bound, 0, 0, 0]
def detailConflict (reason ver : Nat) : Text := [reason, 0, 0, 0, 0, 0, 0, 0] ++ leBytes 8 ver
def detailExhausted (res : Nat) : Text := [res, 0, 0, 0]

end Sys2Proof.Machine
end

