-- ==== Sys2Proof/Machine/Reply.lean ====
section
/-! DEFINITION. Reply lines and notices: their text (R97, R100, R102, R490, R502) and where they go. -/

namespace Sys2Proof.Machine

/-- Digits of a number in a base, at least `n` of them. -/
def digits (base n v : Nat) : List Nat :=
  match n with
  | 0 => []
  | n + 1 => digits base n (v / base) ++ [v % base]

/-- How many digits a number has, one at least. -/
def digitCount (base v : Nat) : Nat → Nat
  | 0 => 1
  | n + 1 => if v < base then 1 else 1 + digitCount base (v / base) n

def digitChar (d : Nat) : Nat := if d < 10 then 48 + d else 55 + d

def decText (v : Nat) : Text := (digits 10 (digitCount 10 v 64) v).map digitChar
def decTextN (n v : Nat) : Text := (digits 10 n v).map digitChar
def hexText (n v : Nat) : Text := (digits 16 (max n (digitCount 16 v 64)) v).map digitChar
def intText (v : Int) : Text := if v < 0 then 45 :: decText v.natAbs else decText v.natAbs

/-- Bytes as hexadecimal digits, byte 0 first (R502). -/
def bytesText (b : Text) : Text := b.flatMap fun x => [digitChar (x / 16 % 16), digitChar (x % 16)]

/-- A quoted string (R96): a byte that is not printable is written `\xHH`. -/
def quotedText (b : Text) : Text :=
  [34] ++ (b.flatMap fun x =>
    if x == 34 || x == 92 then [92, x]
    else if 32 ≤ x && x ≤ 126 then [x]
    else [92, 120, digitChar (x / 16 % 16), digitChar (x % 16)]) ++ [34]

/-- The power of ten at which a number of units of 2^-149 has nine digits before the point, and those digits. -/
def nineDigits (m : Nat) : Nat → Int → Nat × Int
  | 0, k => (0, k)
  | f + 1, k =>
    let d := 2 ^ 149
    let v := if 0 ≤ k then (2 * m * 10 ^ k.toNat + d) / (2 * d) else (2 * m + d * 10 ^ (-k).toNat) / (2 * d * 10 ^ (-k).toNat)
    if v < 10 ^ 8 then nineDigits m f (k + 1)
    else if 10 ^ 9 ≤ v then nineDigits m f (k - 1)
    else (v, k)

def trimZeros (l : Text) : Text := (l.reverse.dropWhile (· == 48)).reverse

/-- A binary32 number in decimal with up to nine significant digits (R490). -/
def floatText (x : F32) : Text :=
  let e := x / 2 ^ 23 % 256
  let sign : Text := if x / 2 ^ 31 % 2 == 1 then [45] else []
  if e == 255 then (if x % 2 ^ 23 == 0 then sign ++ txt "inf" else txt "nan")
  else
    let m := if e == 0 then x % 2 ^ 23 else (x % 2 ^ 23 + 2 ^ 23) * 2 ^ (e - 1)
    if m == 0 then sign ++ [48]
    else
      let (v, k) := nineDigits m 120 0
      let ds := (digits 10 9 v).map digitChar
      if k ≤ 0 then sign ++ ds ++ List.replicate (-k).toNat 48
      else
        let k := k.toNat
        let ds := List.replicate (k - 8) 48 ++ ds
        let whole := ds.take (ds.length - k)
        let part := trimZeros (ds.drop (ds.length - k))
        sign ++ whole ++ (if part.isEmpty then [] else 46 :: part)

/-- An IP address: an IPv4 one dotted, an IPv6 one as its eight groups between colons (R490; log entry 123). -/
def ipText (v6 : Bool) (a : Nat) : Text :=
  if v6 then List.intercalate [58] ((digits 65536 8 a).map (hexText 1))
  else List.intercalate [46] ((digits 256 4 a).map decText)

/-- A value as a reply or a notice writes it. -/
def valText : Val → Text
  | .n v => decText v
  | .i v => intText v
  | .w s => txt s
  | .c _ s => txt s
  | .x d v => txt "0x" ++ hexText d v
  | .f b => floatText b
  | .b bs => bytesText bs
  | .q bs => quotedText bs
  | .ip v6 a => ipText v6 a

/-- The mnemonic of a status code (Table 5.2). -/
def codeName : Nat → String
  | 0 => "DONE" | 1 => "ACCEPTED" | 2 => "TRUNCATED" | 3 => "DEFERRED" | 4 => "MORE" | 100 => "SYNTAX"
  | 101 => "UNKNOWN" | 102 => "BADARG" | 103 => "RANGE" | 104 => "CHECKSUM" | 105 => "TOOLONG" | 200 => "STATE"
  | 201 => "LOCKED" | 202 => "BUSY" | 203 => "NOTATOMIC" | 204 => "CONFLICT" | 205 => "ABSENT" | 206 => "DENIED"
  | 207 => "REJECTED" | 208 => "STALE" | 209 => "EXHAUSTED" | 210 => "DEGRADED" | 300 => "MEDIA"
  | 301 => "INTEGRITY" | 302 => "ALARM" | _ => "INTERNAL"

def fieldsText (kv : List (String × Val)) : Text := kv.flatMap fun (k, v) => 32 :: txt k ++ [61] ++ valText v

/-- A line with its checksum (R97). -/
def withChecksum (t : Text) : Text := t ++ [32, 42] ++ hexText 2 ((sumNat t + 32) % 256)

/-- A reply line of the unit at an address (R100). -/
def replyText (addr : Nat) (r : Reply) : Text :=
  withChecksum (decTextN 2 addr ++ [32] ++ decTextN 3 r.code ++ [32] ++ txt (codeName r.code) ++ fieldsText r.kv)

def sevName : Nat → String
  | 0 => "INFO" | 1 => "WARN" | 2 => "FAULT" | _ => "ALARM"

/-- A line as it is sent, with its end (R100). -/
def ended (t : Text) : Text := t ++ [13, 10]

/-- A reply line as it leaves. -/
def replyOut (r : Route) (x : Reply) (s : State) : Output := .reply r x (ended (replyText (s.reg .LINE_ADDR) x))

/-- A notice line (R102). -/
def Notice.text (addr : Nat) (n : Notice) : Text :=
  withChecksum ([33] ++ decTextN 2 addr ++ txt " EV 0x" ++ hexText 3 n.id ++ [32] ++ txt (sevName n.sev) ++ fieldsText n.fields)

/-- The line that tells of discarded notices (R102). -/
def lostText (addr n : Nat) : Text := withChecksum ([33] ++ decTextN 2 addr ++ txt " LOST count=" ++ decText n)

/-- The body of an ADMIN response: the lines, each with its length (Table 14.4). -/
def adminBody (addr : Nat) (rs : List Reply) : Text :=
  [rs.length % 256, 0] ++ rs.flatMap fun r => let t := replyText addr r; t.length :: t

/-- The prompt that follows the reply to a typed line (R95). -/
def prompt (addr : Nat) : Output := runOf (txt "DX@" ++ decTextN 2 addr ++ txt "> ")

/-- Sends one reply line by its route. On the ADMIN stream the lines gather, and the final one answers the request
with its code as the status (R350). -/
def reply (r : Route) (code : Nat) (kv : List (String × Val)) (s : State) : State :=
  match r with
  | .dkp n =>
    let x := s.route r
    let lines := x.lines ++ [⟨code, kv⟩]
    if code == 4 then s.setRoute { x with lines := lines }
    else
      match x.admin with
      | none => s.setRoute { x with lines := [] }
      | some id =>
        respond n id 0x0C code (adminBody (s.reg .LINE_ADDR) lines) 0
          (s.setRoute { x with lines := [], admin := none })
  | .ring =>
    let s := ringSend (replyOut .ring ⟨code, kv⟩ s) s
    if s.line.typed && code != 4 then ringSend (prompt (s.reg .LINE_ADDR)) s else s
  | .tls c => tlsSend c (replyOut (.tls c) ⟨code, kv⟩ s) s

/-- The reply 000 DONE. -/
def done (r : Route) (kv : List (String × Val)) (s : State) : State := reply r 0 kv s

/-- 004 MORE lines. -/
def more (r : Route) (rows : List (List (String × Val))) (s : State) : State :=
  rows.foldl (fun s kv => reply r 4 kv s) s

/-- A command whose reply waits keeps its route busy (R99). -/
def setBusy (r : Route) (verb : String) (s : State) : State :=
  let s := s.updRoute r fun x => { x with busy := some verb }
  if r == .ring then { s with line := { s.line with typedBusy := s.line.typed } } else s

def freeBusy (r : Route) (s : State) : State := s.updRoute r fun x => { x with busy := none }

/-- The reply of a command that waited: the route is free again. A route that has closed since receives none. -/
def lateReply (r : Route) (code : Nat) (kv : List (String × Val)) (s : State) : State :=
  if !(s.routes.any fun x => x.route == r) then s
  else
    let s := freeBusy r s
    reply r code kv (if r == .ring then { s with line := { s.line with typed := s.line.typedBusy } } else s)

end Sys2Proof.Machine
end

