-- ==== Sys2Proof/Machine/Operands.lean ====
section
/-! DEFINITION. The operand forms of command lines (R96, R98, R502): how a value is read, and the two passes in which
the arguments of a line are judged. -/

namespace Sys2Proof.Machine

def isDigit (c : Nat) : Bool := 48 ≤ c && c ≤ 57
def isAlpha (c : Nat) : Bool := (65 ≤ c && c ≤ 90) || (97 ≤ c && c ≤ 122)
def isWordChar (c : Nat) : Bool := isDigit c || isAlpha c || c == 95

/-- The value of a hexadecimal digit, in either case. -/
def hexVal (c : Nat) : Option Nat :=
  if isDigit c then some (c - 48)
  else if 65 ≤ c && c ≤ 70 then some (c - 55)
  else if 97 ≤ c && c ≤ 102 then some (c - 87)
  else none

def lowerChar (c : Nat) : Nat := if 65 ≤ c && c ≤ 90 then c + 32 else c
def upperChar (c : Nat) : Nat := if 97 ≤ c && c ≤ 122 then c - 32 else c

/-- Decimal digits alone. -/
def decVal (t : Text) : Option Nat :=
  if t.isEmpty || !t.all isDigit then none else some (t.foldl (fun a c => a * 10 + (c - 48)) 0)

/-- Hexadecimal digits alone. -/
def hexNat (t : Text) : Option Nat :=
  if t.isEmpty then none
  else t.foldl (fun a c => match a, hexVal c with | some v, some d => some (v * 16 + d) | _, _ => none) (some 0)

/-- Whether a text begins 0x, and what follows. -/
def afterHex (t : Text) : Option Text :=
  match t with
  | 48 :: 120 :: r => some r
  | _ => none

/-- An integer: decimal, optionally signed, or hexadecimal beginning 0x (R96). -/
def intVal (t : Text) : Option Int :=
  match afterHex t with
  | some r => (hexNat r).map Int.ofNat
  | none =>
    match t with
    | 45 :: r => (decVal r).map fun v => -(v : Int)
    | 43 :: r => (decVal r).map Int.ofNat
    | r => (decVal r).map Int.ofNat

/-- Pairs of hexadecimal digits, byte 0 first (R502). -/
def hexBytes : Text → Option Text
  | [] => some []
  | [_] => none
  | a :: b :: r =>
    match hexVal a, hexVal b, hexBytes r with
    | some x, some y, some z => some ((x * 16 + y) :: z)
    | _, _, _ => none

/-- A decimal number as a binary32, rounded to nearest even; with 0x the raw pattern (R502). -/
def floatVal (t : Text) : Option F32 :=
  match afterHex t with
  | some r => (hexNat r).bind fun v => if v < 2 ^ 32 then some v else none
  | none =>
    let (neg, t) := match t with | 45 :: r => (true, r) | 43 :: r => (false, r) | r => (false, r)
    let (mant, ex) := t.span fun c => lowerChar c != 101
    let (whole, frac) := mant.span (· != 46)
    let frac := frac.drop 1
    let ds := whole ++ frac
    if ds.isEmpty || !ds.all isDigit then none
    else
      let e : Option Int :=
        match ex with
        | [] => some 0
        | _ :: 45 :: r => (decVal r).map fun v => -(v : Int)
        | _ :: 43 :: r => (decVal r).map Int.ofNat
        | _ :: r => (decVal r).map Int.ofNat
      match e with
      | none => none
      | some e =>
        let m : Nat := ds.foldl (fun a c => a * 10 + (c - 48)) 0
        let e := e - frac.length
        if 60 < e then some (F.signBit neg + (if m == 0 then 0 else F.posInf))
        else if e < -400 then some (F.signBit neg)
        else
          let v := if 0 ≤ e then F.ofRat (m * 10 ^ e.toNat : Nat) 1 else F.ofRat m (10 ^ (-e).toNat)
          some (F.signBit neg + v)

/-- The form of an argument's value, with its range where it has one: an integer, a decimal one, exactly so many digits, one of a
list, text. A value outside `strict` is malformed; an address is a multiple of four; `events` is the argument ev= of R498 with the
most identifiers it may name; `keyHash` is so many bytes in hexadecimal digits; `judged` has its form judged by the field that a line
names. -/
inductive Form where
  | num (lo hi : Nat)
  | int (lo hi : Int)
  | float
  | word (ws : List String)
  | hex
  | hexExact (ns : List Nat)
  | str (lo hi : Nat)
  | token
  | signed (lo hi : Int)
  | digits (n : Nat)
  | oneOf (ns : List Nat)
  | groups (n : Nat)
  | strict (lo hi : Int)
  | address
  | events (most : Nat)
  | eventOrNone
  | keyHash (bytes : Nat)
  | judged (ok : Bool)
  deriving Repr

/-- An argument of a verb: its name, whether it must be given, its form. -/
structure ArgSpec where
  key : String
  req : Bool
  form : Form
  deriving Repr

/-- Groups of four hexadecimal digits joined by `-` (R119), as bytes. -/
def groupBytes (n : Nat) (t : Text) : Option Text :=
  let ds := t.filter (· != 45)
  let ok := t.length == 5 * n - 1 && (List.range t.length).all fun i => (t.getD i 0 == 45) == (i % 5 == 4)
  if ok then hexBytes ds else none

/-- The argument ev= (R498): one identifier, a range written in hexadecimal, or all: the first and the last identifier. -/
def evRange (t : Text) : Option (Nat × Nat) :=
  if t == txt "all" then some (0, 0x3FF)
  else
    match (afterHex t).map fun r => (r.takeWhile (· != 45), r.dropWhile (· != 45)) with
    | some (a, 45 :: b) =>
      match hexNat a, (afterHex b).bind hexNat with
      | some x, some y => some (x, y)
      | _, _ => none
    | _ => (intVal t).bind fun v => if 0 ≤ v then some (v.toNat, v.toNat) else some (0x400, 0x400)

/-- Whether a value has the form (the first pass of R98, step 8). -/
def Form.wellFormed (f : Form) (a : Arg) : Bool :=
  match f with
  | .num _ _ => !a.quoted && (intVal a.val).isSome
  | .int _ _ => !a.quoted && (intVal a.val).isSome
  | .float => !a.quoted && (floatVal a.val).isSome
  | .word ws => !a.quoted && ws.any fun w => txt w == a.val
  | .hex => (hexBytes a.val).isSome
  | .hexExact ns => ns.any (· == a.val.length) && (hexBytes a.val).isSome
  | .str _ _ => true
  | .token => true
  | .signed _ _ => !a.quoted && (afterHex a.val).isNone && (intVal a.val).isSome
  | .digits _ => a.val.all isDigit
  | .oneOf _ => !a.quoted && (intVal a.val).isSome
  | .groups n => (groupBytes n a.val).isSome
  | .strict lo hi => !a.quoted && (intVal a.val).any fun v => lo ≤ v && v ≤ hi
  | .address => !a.quoted && (intVal a.val).any fun v => v % 4 == 0
  | .events _ => !a.quoted && (evRange a.val).isSome
  | .eventOrNone => !a.quoted && (a.val == txt "none" || (intVal a.val).isSome)
  | .keyHash _ => (hexBytes a.val).isSome
  | .judged ok => !a.quoted && ok

/-- Whether a well-formed value lies in its range (the second pass). -/
def Form.inRange (f : Form) (a : Arg) : Bool :=
  match f with
  | .num lo hi => match intVal a.val with | some v => (lo : Int) ≤ v && v ≤ hi | none => true
  | .int lo hi => match intVal a.val with | some v => lo ≤ v && v ≤ hi | none => true
  | .signed lo hi => match intVal a.val with | some v => lo ≤ v && v ≤ hi | none => true
  | .digits n => a.val.length == n
  | .oneOf ns => match intVal a.val with | some v => ns.any fun n => (n : Int) == v | none => true
  | .hex => a.val.length ≤ 192
  | .str lo hi => lo ≤ a.val.length && a.val.length ≤ hi
  | .address => match intVal a.val with | some v => 0 ≤ v && v < 2 ^ 32 | none => true
  | .events most => match evRange a.val with | some (lo, hi) => lo ≤ hi && hi ≤ 0x3FF && hi + 1 - lo ≤ most | none => true
  | .eventOrNone => match intVal a.val with | some v => 0 ≤ v && v ≤ 0x3FF | none => true
  | .keyHash n => a.val.length == 2 * n
  | _ => true

def specOf (specs : List ArgSpec) (key : Text) : Option ArgSpec := specs.find? fun p => txt p.key == key

/-- The first argument in line order that is unknown, repeated or malformed. -/
def firstBad (specs : List ArgSpec) (seen : List Text) : List Arg → Option Text
  | [] => none
  | a :: as =>
    match specOf specs a.key with
    | none => some a.key
    | some p => if seen.any (· == a.key) || !p.form.wellFormed a then some a.key else firstBad specs (a.key :: seen) as

/-- R98, step 8: 102 for the first argument missing, unknown, repeated or malformed; then 103 for the first one out
of its range. -/
def checkArgs (specs : List ArgSpec) (args : List Arg) : Option (Nat × Text) :=
  match firstBad specs [] args with
  | some k => some (102, k)
  | none =>
    match specs.find? fun p => p.req && !(args.any fun a => a.key == txt p.key) with
    | some p => some (102, txt p.key)
    | none =>
      match args.find? fun a => match specOf specs a.key with | some p => !p.form.inRange a | none => false with
      | some a => some (103, a.key)
      | none => none

end Sys2Proof.Machine

namespace Sys2Proof

/-! ## Reading a checked line's arguments -/

def Line.has (l : Line) (k : String) : Bool := l.args.any fun a => a.key == txt k
def Line.raw (l : Line) (k : String) : Option Text := (l.args.find? fun a => a.key == txt k).map (·.val)
def Line.int? (l : Line) (k : String) : Option Int := (l.raw k).bind Machine.intVal
def Line.nat? (l : Line) (k : String) : Option Nat := (l.int? k).map Int.toNat
def Line.nat (l : Line) (k : String) (d : Nat := 0) : Nat := (l.nat? k).getD d
def Line.bytes (l : Line) (k : String) : Text := ((l.raw k).bind Machine.hexBytes).getD []
def Line.text (l : Line) (k : String) : Text := (l.raw k).getD []
def Line.flag (l : Line) (k : String) : Bool := l.nat k == 1
def Line.isWord (l : Line) (k w : String) : Bool := l.raw k == some (txt w)

end Sys2Proof
end

