-- ==== Sys2Proof/Machine/KvCore.lean ====
section
/-! DEFINITION. The store as data: keys in order, what is dirty, what has been programmed (R357–R359, R373, R374),
and slots and side lists as a write leaves them (R398–R400). -/

namespace Sys2Proof.Machine

/-- Unsigned bytewise order; a prefix sorts first (R357). -/
def textLt : Text → Text → Bool
  | [], [] => false
  | [], _ :: _ => true
  | _ :: _, [] => false
  | a :: as, b :: bs => a < b || (a == b && textLt as bs)

def keyLt (ns : Nat) (k : Text) (ns' : Nat) (k' : Text) : Bool := ns < ns' || (ns == ns' && textLt k k')

def keyGet (l : List KeyEnt) (ns : Nat) (k : Text) : Option KeyEnt := l.find? fun e => e.ns == ns && e.key == k

/-- Keys in order, with one put in its place. -/
def keyPut (l : List KeyEnt) (e : KeyEnt) : List KeyEnt :=
  match l with
  | [] => [e]
  | x :: xs =>
    if x.ns == e.ns && x.key == e.key then e :: xs
    else if keyLt e.ns e.key x.ns x.key then e :: x :: xs
    else x :: keyPut xs e

def keyDel (l : List KeyEnt) (ns : Nat) (k : Text) : List KeyEnt := l.filter fun e => !(e.ns == ns && e.key == k)

/-! ## Slots and side lists -/

def slotGet (l : List Slot) (i : Nat) : Option Slot := l.find? fun x => x.idx == i

/-- Slots in ascending order, with one put in its place. -/
def slotPut (l : List Slot) (x : Slot) : List Slot :=
  match l with
  | [] => [x]
  | y :: ys => if y.idx == x.idx then x :: ys else if x.idx < y.idx then x :: y :: ys else y :: slotPut ys x

/-- The fields of a locator (R391). -/
def locator (coll slot use : Nat) : Nat := coll * 2 ^ 58 + slot * 2 ^ 24 + use
def locColl (loc : Nat) : Nat := loc / 2 ^ 58
def locSlot (loc : Nat) : Nat := loc / 2 ^ 24 % 2 ^ 34

/-- The sequence after another: 32 bits, 0 is skipped (R393). -/
def nextSide (q : Nat) : Nat := if q + 1 == 2 ^ 32 then 1 else q + 1

/-- A collection with a slot record written and its side-list entry appended; the earlier unremoved entry of the
slot is superseded (R398, R400). -/
def Coll.commit (c : Coll) (x : Slot) (e : Side) : Coll :=
  { c with
    slots := slotPut c.slots x
    side := c.side.map (fun d => if locSlot d.loc == x.idx && d.sup == 0 then { d with sup := e.seq } else d) ++ [e]
    nextSeq := nextSide e.seq }

/-! ## Dirty data -/

/-- What programming one item changes on NAND. -/
def applyItem (s : State) (i : Item) : State :=
  match i with
  | .put e => { s with kv := { s.kv with disk := keyPut s.kv.disk e } }
  | .del ns k => { s with kv := { s.kv with disk := keyDel s.kv.disk ns k } }
  | .cell c => { s with kv := { s.kv with ns0Disk := cellsPut s.kv.ns0Disk c } }
  | .vec n x e => { s with collsDisk := s.collsDisk.map fun c => if c.num == n then c.commit x e else c }
  | .other => s

/-- The hours of R381 with bytes written and programmed in the present one: 24 at most. -/
def wafAdd (l : List (Nat × Nat × Nat)) (hour written programmed : Nat) : List (Nat × Nat × Nat) :=
  match l with
  | (h, w, p) :: r =>
    if h == hour then (h, w + written, p + programmed) :: r
    else ((hour, written, programmed) :: l).filter fun x => hour < x.1 + 24
  | [] => [(hour, written, programmed)]

def noteWaf (written programmed : Nat) (s : State) : State :=
  { s with kv := { s.kv with waf := wafAdd s.kv.waf (s.now / sec 3600) written programmed } }

def applyWrite (s : State) (w : Write) : State :=
  let s := noteWaf 0 w.bytes (w.items.foldl applyItem s)
  { s with kv := { s.kv with diskPos := w.pos } }

/-- Bytes of dirty data (Table 4.5). -/
def Kv.dirtyBytes (k : Kv) : Nat := sumNat (k.dirty.map (·.bytes))

/-- Sends the replies that waited for a store position that is now programmed (R373, R375). -/
def answerWaits (s : State) : State :=
  let (go, stay) := s.kv.waits.partition fun w => w.pos ≤ s.kv.diskPos
  go.foldl (fun s w =>
    match w.route with
    | .dkp n =>
      if w.op == 0x0C then
        lateReply w.route w.reply.code (if w.sync then [("pos", .n s.kv.diskPos)] else w.reply.kv) s
      else respond n w.id w.op w.reply.code w.body 0 s
    | r => lateReply r w.reply.code (if w.sync then [("pos", .n s.kv.diskPos)] else w.reply.kv) s)
    { s with kv := { s.kv with waits := stay } }

/-- Programs the oldest `n` dirty writes, in store-position order (R373). -/
def programDirty (n : Nat) (s : State) : State :=
  let s' := (s.kv.dirty.take n).foldl applyWrite s
  answerWaits { s' with kv := { s'.kv with dirty := s'.kv.dirty.drop n } }

/-- Programs every dirty write. -/
def persistAll (s : State) : State := programDirty s.kv.dirty.length s

/-- Staged log records are programmed (R496); 65,536 are held, the oldest goes (R495). -/
def programLog (s : State) : State :=
  let l := s.evt.log ++ s.evt.staged
  let l := l.drop (l.length - 65536)
  { s with evt := { s.evt with log := l, staged := [], oldSeq := (l.head?.map (·.seq)).getD s.evt.nextSeq } }

/-- NAND channels in service: those with a target in use (R284). -/
def nCh (s : State) : Nat := ((List.range 16).filter fun c => s.mem.targets.any fun t => t.ch == c && t.used).length

/-- What the store holds once dirty data is lost: every write up to the last one programmed (R58, R374).
`cut` says that a flush was due, which the next Sunrise finds. -/
def loseDirty (cut : Bool) (s : State) : State :=
  { s with
    kv := { s.kv with keys := s.kv.disk, ns0 := s.kv.ns0Disk, pos := s.kv.diskPos, dirty := [], waits := [] }
    colls := s.collsDisk
    mem := { s.mem with cutShort := s.mem.cutShort || (cut && !s.kv.dirty.isEmpty) } }

end Sys2Proof.Machine
end

