-- ==== Sys2Proof/Machine/PowerCore.lean ====
section
/-! DEFINITION. What power and resets do to the state as a whole: mode entry (R68), the core reset of Table 21.4,
Dawn, the way down to Midnight, waking. -/

namespace Sys2Proof.Machine

/-- The domains on in a mode, one bit each (Table 4.1); M7 and M8 keep what they were entered with. -/
def Mode.domains (m : Mode) (now : Nat) : Nat :=
  match m with
  | .M0 | .M1 => 0x001
  | .M2 | .M10 => 0x007
  | .M3 | .M4 => 0x67F
  | .M5 => 0x6FF
  | .M6 | .M9 => 0x7FF
  | .M7 | .M8 => now
  | .M11 => 0x067

/-- PWR.WAKE_AT; 0 in both halves disables it (R54). -/
def wakeAt (s : State) : Nat := s.reg .PWR_WAKE_AT_LO + 2 ^ 32 * s.reg .PWR_WAKE_AT_HI

/-- Whether TAI is below PWR.WAKE_AT, as it stands when that is written, when TAI is set, and on entry to M0 and M1: an
instant already reached never fires (R54). -/
def noteBelowWake (s : State) : State := { s with pwr := { s.pwr with belowWake := s.clk.tai < wakeAt s } }

/-- What entry to M0 or M1 notes: the state of PWR.WAKE_AT, and that the sensors are to be read again (R54, R62). -/
def fallAsleep (m : Mode) (s : State) : State :=
  if m == .M0 || m == .M1 then noteBelowWake { s with pwr := { s.pwr with tempFresh := false } } else s

/-- Entry to a mode: EV 0x000 + n with from= and cause= (R68). No rule gives the codes of cause=, so it is a free
value (log entry 3). -/
def enterMode (m : Mode) (s : State) : State :=
  let old := s.mode.num
  let s := fallAsleep m { s with day := { s.day with mode := m } }
  raise m.num [("from", .n old), ("cause", .n (clampFree s.free 0 255))] s.tick

/-- The domains of the mode come on and go off with it. A domain that comes on accepts work once its on-latency has
passed (R43). Retention ends as M1 is left (Table 3.1). -/
def setDomains (on : Nat) (s : State) : State :=
  { s with pwr := { s.pwr with on := on, ready := s.pwr.ready &&& on, gating := 0, ret := 0, pd8Due := false } }

/-- A group's rails are good: its power-good has been seen since its enable was asserted (R47, R50). -/
def groupGood (s : State) (g : Nat) : Bool := bitAt s.pwr.en g && bitAt s.pwr.pgSeen g

/-- Whether the rails that a domain needs are good (Tables 3.1 and 3.2). -/
def railsGood (s : State) (d : Nat) : Bool :=
  match d with
  | 0 | 1 => true
  | 4 => groupGood s 0 && groupGood s 5
  | 5 => groupGood s 0 && groupGood s 2 && groupGood s 3
  | 6 => groupGood s 0 && groupGood s 4
  | _ => groupGood s 0

/-- The domains that are on accept work where their rails are good: no rail is used before its power-good (R47). -/
def domainsReady (s : State) : State :=
  { s with pwr := { s.pwr with ready := (List.range 11).foldl (fun a d => if bitAt s.pwr.on d && railsGood s d then setBit a d else a) 0 } }

/-- Sweep domains come on. PD8 follows PD7 once that has had its on-latency, so that the two are never switched on within
20 µs of each other (R44). A domain that comes on is no longer to be gated. -/
def switchOn (d : Nat) (s : State) : State :=
  if bitAt s.pwr.on d then { s with pwr := { s.pwr with gating := clearBit s.pwr.gating d } }
  else if d == 8 && !(bitAt s.pwr.on 7 && bitAt s.pwr.ready 7) then { s with pwr := { s.pwr with pd8Due := true } }
  else { s with pwr := { s.pwr with on := setBit s.pwr.on d, ready := clearBit s.pwr.ready d, gating := clearBit s.pwr.gating d } }

/-- The gating of a domain is decided: it turns off once it is empty (R44). -/
def switchOff (d : Nat) (s : State) : State :=
  let s := if d == 8 || d == 7 then { s with pwr := { s.pwr with pd8Due := false } } else s
  if bitAt s.pwr.on d then { s with pwr := { s.pwr with gating := setBit s.pwr.gating d } } else s

/-- An update in progress is discarded, with EV 0x049 (R235); one committed to its slot leaves nothing to discard. -/
def dropUpdate (s : State) : State :=
  match s.boot.upd with
  | none => s
  | some u =>
    let s := { s with boot := { s.boot with upd := none } }
    if u.committed then s else raise 0x049 [("code", .n 0), ("reason", .c 2 "discarded")] s

/-- Loses every volatile thing of the core die and keeps what PD0, OTP, NOR, NAND and namespace 0 hold (Table 21.4,
R534, R55). The ring route starts afresh: no staged set, and neither notices queued nor a count of discarded ones (log
entry 94). -/
def coreReset (s : State) : State :=
  let s := loseDirty false (cancelSync (dropUpdate s))
  let cells := s.evt.cells.foldl (fun l c => if evKept c.id then evtPut l { c with masks := evMasksReset c.id } else l) []
  { s with
    regs := s.regs.filter fun c => c.p.info.kept
    clk := { s.clk with
      beat := 0, state := .FREE, masters := [], master := none, mpd := 0, good := 0, bad := 0, beatHi := [],
      taiHi := [], setLo := 0, debugBeatHi := none, debugTaiHi := none, cascLock := false, cascLockAt := s.clk.now, overrun := false }
    day := { Day.reset with mode := s.day.mode, queue := s.day.queue.map (fun j => { j with running := false }),
                            nextJob := s.day.nextJob }
    line := { s.line with ready := [], tlsConns := [], tlsLock := Lock.clear }
    routes := [RouteSt.start .ring true 0 0]
    evt := { s.evt with cells := cells, late := s.evt.late.filter (·.late), staged := [], suppress := [], gpio := 0, gpioHold := 0, gpioOn := false,
                        rateN := 0 }
    bridge := Bridge.reset
    boot := { s.boot with recov := none, upd := none, handover := none, firstM4 := false,
                          selected := none, lastRecLine := none, sram := [], started := none }
    sec := { s.sec with vault := [], xts := [], recKeys := [], authFails := [], debugOpen := false,
                        romLocks := false, recordDue := false }
    mem := { s.mem with capGib := 0, ceHour := [], ue := [], repair := [], ckptBusy := false, imageM1 := false,
                        sunrise := Mem.reset.sunrise }
    net := { Net.reset with creds := s.net.creds, psks := s.net.psks, anchors := s.net.anchors }
    sess := []
    kv := { s.kv with mounted := false, cleared := false, snaps := [] }
    sweep := { Sweep.reset with
      watches := s.sweep.watches.map fun w =>
        { w with novel := false, degraded := false, reason := 0, last := 0, skips := 0, runs := 0, running := false } }
    assoc := { Assoc.reset with policy := s.assoc.policy, straps := s.assoc.straps } }

/-- Each snapshot that a reset ends is told (R370, reason 2 of Table 19.5b). -/
def endSnapsTold (n : Nat) (s : State) : State :=
  (List.range n).foldl (fun s _ => raise 0x256 [("reason", .c 2 "closed")] s) s

/-- Entry to Dawn: PD0, PD1 and PD2 on, groups 0 and 1 enabled (R51), the beat counter from 0 (R24, R69); a reset that records cause 1 is told with
its by= code (R55, Table 3.5). -/
def startDawn (s : State) : State :=
  let s := { s with pwr := { s.pwr with seq := .idle, held := false, restart := .none, causeHeld := false } }
  let s := enterMode .M2 (domainsReady (setDomains (Mode.domains .M2 0) s))
  if s.pwr.byAt == 0 then s
  else
    let s' := raise 0x025 [("by", .n s.pwr.byAt)] s
    { s' with pwr := { s'.pwr with byAt := 0 } }

/-- On the way to Dawn: with the power-good of groups 0 and 1 seen the ROM starts, unless RESET_N holds it; a group that
lacks it is enabled and awaited first (R47, R48, R55). -/
def toDawn (s : State) : State :=
  let s := { s with pwr := { s.pwr with waking := false } }
  match ([0, 1].find? fun g => !groupGood s g) with
  | none => if s.pwr.held then { s with pwr := { s.pwr with seq := .idle } } else startDawn s
  | some g =>
    { s with pwr := { s.pwr with seq := .up g, en := setBit s.pwr.en g,
                                 pgSeen := if bitAt s.pwr.en g then s.pwr.pgSeen else clearBit s.pwr.pgSeen g } }

/-- A reset of PD1 to PD10 that goes to Dawn at once with the enables as they are: the cause it records, and for
cause 1 the by= code (R55, R506). -/
def resetToDawn (cause by_ : Nat) (s : State) : State :=
  let n := s.kv.snaps.length
  let s := (coreReset s).setReg .PWR_RESET_CAUSE cause
  endSnapsTold n (toDawn { s with pwr := { s.pwr with byAt := by_, failing := false } })

/-- The power-up sequence begins with SEQ_EN0; PLP_DONE falls (R48, R59). Leaving Midnight is a core reset
(Table 21.4), and the trip of R63 is judged afresh. -/
def startUp (s : State) : State :=
  let s := coreReset s
  { s with pwr := { s.pwr with seq := .up 0, en := setBit s.pwr.en 0, restart := .none, plpDone := false,
                               pgSeen := clearBit s.pwr.pgSeen 0, tripped := false, pfHigh := false,
                               tripCount := List.replicate 8 0 } }

/-- Whether the block may leave Midnight: VDDIO_A present, PWR_FAIL_N high, cool enough after a trip, RESET_N high
(R46, R54, R63). -/
def mayStart (s : State) : Bool :=
  s.mode == .M0 && s.pwr.seq == .idle && s.pwr.vaon && s.pwr.vddioA && s.pwr.pwrFailN && !s.pwr.needCool && s.pwr.resetN

/-- The level of PWR_FAIL_N as a wake finds it. Between the acceptance of an assertion and the end of the debounce time no
row tells when the input has risen, so that is a free value (log entry 95). -/
def seePwrFail (s : State) : State :=
  if s.pwr.pfWait && !s.pwr.pwrFailN then
    ({ s with pwr := { s.pwr with pwrFailN := s.free % 2 == 1 } }).tick
  else s

/-- The way out of Small Hours: groups 1, 4 and 5 are enabled in turn, each awaited as R48 states (R47, R53). -/
def resumeGroups (s : State) : State :=
  match ([1, 4, 5].find? fun g => !groupGood s g) with
  | none => { s with pwr := { s.pwr with seq := .idle } }
  | some g =>
    { s with pwr := { s.pwr with seq := .up g, en := setBit s.pwr.en g,
                                 pgSeen := if bitAt s.pwr.en g then s.pwr.pgSeen else clearBit s.pwr.pgSeen g } }

/-- A wake by a source: recorded, and from Midnight the sequence starts, from Small Hours the resume (R54). A cause
that a transition has recorded stands; otherwise PWR.RESET_CAUSE reads 6 (log entry 13). While PWR_FAIL_N is low no
source wakes. -/
def wake (src : Nat) (s : State) : State :=
  if !bitAt (s.reg .PWR_WAKE_EN) src then s
  else
  let s := if s.mode.num ≤ 1 then seePwrFail s else s
  if !s.pwr.pwrFailN then s
  else if s.mode == .M0 then
    if mayStart s then
      let s := s.setReg .PWR_WAKE_CAUSE src
      let s := if s.pwr.causeHeld then s else s.setReg .PWR_RESET_CAUSE 6
      startUp s
    else s
  else if s.mode == .M1 then
    if s.pwr.waking || s.pwr.held || !(s.pwr.seq == .idle) then s
    else
      let s := s.setReg .PWR_WAKE_CAUSE src
      resumeGroups { s with pwr := { s.pwr with waking := true } }
  else s

/-- The levels of the assigned pins are held through M0 and M1 (R493). -/
def holdPins (s : State) : State := { s with evt := { s.evt with gpioHold := gpioActive s } }

/-- The core-die end of the bridge as it stands with no firmware to run it: down, with nothing on its way (R16). -/
def Bridge.dark (b : Bridge) : Bridge := { b with link := 0, arrived := [], fill := [], asked := false, units := [] }

/-- Midnight as it is entered: every enable deasserted (R49), the loop die's end of the bridge dark, no session. -/
def enterMidnight (s : State) : State :=
  let s := holdPins (cancelSync s)
  let s := { s with pwr := { s.pwr with seq := .idle, failing := false, en := 0, pgSeen := 0, waking := false,
                                        held := !s.pwr.resetN } }
  let s := enterMode .M0 (domainsReady (setDomains 1 s))
  { s with bridge := s.bridge.dark, boot := { s.boot with watchdog := false }, sess := [], line := { s.line with tlsConns := [] } }

/-- Midnight is reached. PWR_FAIL_N that has stayed high for its debounce time meanwhile starts the sequence again at once
(R60). -/
def reachMidnight (s : State) : State :=
  let s := enterMidnight s
  if s.pwr.pfHigh then wake 3 { s with pwr := { s.pwr with pfHigh := false } } else s

/-- The highest group whose enable stands. -/
def topEnable (en : Nat) : Option Nat := ([5, 4, 3, 2, 1, 0].find? fun g => bitAt en g)

/-- The groups that a mode beyond Dawn needs come on in turn, those that stand already left alone (R48, R51). -/
def raiseGroups (s : State) : State :=
  match ([2, 3, 4, 5].find? fun g => !groupGood s g) with
  | none => { s with pwr := { s.pwr with seq := .idle } }
  | some g =>
    { s with pwr := { s.pwr with seq := .up g, en := setBit s.pwr.en g,
                                 pgSeen := if bitAt s.pwr.en g then s.pwr.pgSeen else clearBit s.pwr.pgSeen g } }

/-- The way down: the first enable in the order 5 to 0 is deasserted and the domains go off (R49). -/
def powerDown (s : State) : State :=
  let s := { s with pwr := { s.pwr with failing := false } }
  match topEnable s.pwr.en with
  | none => reachMidnight s
  | some g =>
    let en := clearBit s.pwr.en g
    let s := setDomains 1 { s with pwr := { s.pwr with en := en, seq := .down g, pgSeen := clearBit s.pwr.pgSeen g } }
    if en == 0 then reachMidnight s else s

/-- PLP_DONE rises: EV 0x021 with the status, and the time since acceptance. One that is high already does not rise again:
no event, and PWR.FLUSH_US reads 0 (R59). -/
def plpDone (s : State) : State :=
  if s.pwr.plpDone then s.setReg .PWR_FLUSH_US 0
  else
    let s := s.setReg .PWR_FLUSH_US (sat 32 ((s.now - s.pwr.acceptedAt) / us 1))
    let s := { s with pwr := { s.pwr with plpDone := true } }
    raise 0x021 [("status", .n (s.reg .PWR_PLP_STATUS))] s

/-- Every query, and every cascade search, that waits or runs goes without an answer. -/
def clearQueries (s : State) : State :=
  { s with
    sweep := { s.sweep with
      forming := [], running := none, exact := none, rerank := [], ctxs := []
      watches := s.sweep.watches.map fun w => { w with running := false } }
    assoc := { s.assoc with reqs := [] } }

/-- Sessions end with no record sent and no event, commits that wait are discarded, and requests in flight receive no
reply (R56, R323, R531). The bridge falls silent (R16). -/
def dropService (s : State) : State :=
  let s := clearQueries (cancelSync (dropUpdate s))
  { s with
    sess := []
    bridge := s.bridge.dark
    kv := { s.kv with waits := [] }
    routes := (s.routes.filter fun x => x.route == .ring).map fun x => { x with busy := none }
    line := { s.line with tlsConns := [] }
    day := { s.day with commits := [] }
    net := { s.net with hs := [], tls := [] } }

/-- A loss after which the flush cannot run: what is not programmed is lost, and the block powers down (R50, R58). -/
def collapse (s : State) : State :=
  let s := s.setReg .PWR_PLP_STATUS (if s.kv.dirty.isEmpty then 3 else 2)
  let s := s.setReg .PWR_FLUSH_US 0
  powerDown (dropService (loseDirty true s))

/-- The flush ends: PWR.PLP_STATUS reads 2 where dirty data remained, else 1 where there was some, and 3 where there was
none; PLP_DONE rises, and the block powers down (R56, R59, R61). -/
def endFlush (complete : Bool) (s : State) : State :=
  let left := !complete && !s.kv.dirty.isEmpty
  let s := if complete then persistAll (programLog s) else loseDirty true s
  let s := if !left && s.reg .PWR_PLP_STATUS == 2 then s.setReg .PWR_PLP_STATUS 1 else s
  powerDown (plpDone s)

/-- The power-fail transition of Table 3.4 begins, by PWR_FAIL_N, a trip or the loss of a power-good that the flush
does not need; `cause` is what PWR.RESET_CAUSE records (R50, R56, R63). With no NAND channel in service the flush ends short as it would start. -/
def powerFail (cause : Nat) (s : State) : State :=
  let s := s.setReg .PWR_RESET_CAUSE cause
  let s := { s with pwr := { s.pwr with acceptedAt := s.now, causeHeld := true } }
  let quick := s.pwr.held || s.mode == .M0 || s.mode == .M1 || s.mode == .M2 || s.mode == .M10
  if quick then
    let s := plpDone (s.setReg .PWR_PLP_STATUS 3)
    if s.mode == .M0 && s.pwr.seq == .idle then s else powerDown s
  else
    let s := s.setReg .PWR_PLP_STATUS (if s.kv.dirty.isEmpty then 3 else 2)
    let s := dropService (s.setReg .PWR_FLUSH_US 0)
    let s := { s with pwr := { s.pwr with failing := true, on := s.pwr.on &&& 0x067, ready := s.pwr.ready &&& 0x067,
                                          gating := 0, pd8Due := false } }
    if nCh s == 0 then endFlush false s else s

/-- Whether the block is on its way to Midnight already. -/
def goingDown (s : State) : Bool :=
  s.pwr.failing || (match s.pwr.seq with | .down _ => true | _ => false)

/-- The mode by which lines and requests are judged: while the block goes down only the set of PD0 is answered, and
while RESET_N holds the core that of the ROM (log entry 14). -/
def State.lineMode (s : State) : Mode :=
  if s.pwr.failing then .M0
  else if s.pwr.held && s.mode != .M0 then .M2
  else match s.pwr.seq with
    | .down _ => .M0
    | _ => s.mode

end Sys2Proof.Machine
end

