-- ==== Sys2Proof/Machine/Flags.lean ====
section
/-! DEFINITION. Which command is legal where (Tables 4.3, 4.4 and 20.8), and the checks 5 to 8 of R98 that every
verb passes before it does anything. -/

namespace Sys2Proof.Machine

/-- SEARCH and SRCH are legal in M4 unless GOV.MODE_MAX is 4 or the mode pin holds M4 (Table 4.3). -/
def searchModes (s : State) : List Mode :=
  let held := s.reg .GOV_MODE_MAX == 4 || (bitAt (s.reg .GOV_PIN) 0 && s.reg .GOV_PIN_MODE == 4)
  if held then [.M5, .M6, .M7, .M9] else [.M4, .M5, .M6, .M7, .M9]

def anyMode : List Mode := Mode.all
def m3to9 : List Mode := [.M3, .M4, .M5, .M6, .M7, .M8, .M9]
def m4to9 : List Mode := [.M4, .M5, .M6, .M7, .M8, .M9]
def m4to7 : List Mode := [.M4, .M5, .M6, .M7]
def m4to7and9 : List Mode := [.M4, .M5, .M6, .M7, .M9]
def m3to9and11 : List Mode := m3to9 ++ [.M11]
def m4to9and11 : List Mode := m4to9 ++ [.M11]

/-- A verb as its row lists it (R500, R501): name, modes, least level, whether it changes state (S), whether it acts on
the loop die (R5), and its arguments. -/
structure Verb where
  name : String
  modes : List Mode
  level : Nat
  changes : Bool
  loop : Bool
  args : List ArgSpec
  deriving Repr

def levelName : Nat → String
  | 0 => "VIEW" | 1 => "OPERATOR" | 2 => "OWNER" | _ => "VENDOR"

/-- The comma-separated list of modes of need= (R75). -/
def modesText (ms : List Mode) : String := String.intercalate "," (ms.map Mode.text)

/-- The 12-bit need mask of DKP (R75, Table 14.5). -/
def modesMask (ms : List Mode) : Nat := ms.foldl (fun a m => setBit a m.num) 0

/-- What a line wants of its route beside the ring: no other address (R123, R124). The spec does not place this check among those
of R98; the model makes it before that of the mode (log entry 103). -/
def wrongAddress (s : State) (l : Line) : Bool :=
  match l.route, l.addr with
  | .ring, _ => false
  | _, .unit n => n != s.reg .LINE_ADDR
  | _, _ => false

/-- Whether STRICT refuses a line (R122). In Night every state-changing line needs a checksum, and a REC verb does
whatever LINE.STRICT holds (R233, R261). -/
def strictRefuses (s : State) (v : Verb) (l : Line) : Bool :=
  l.route == .ring && v.changes && !l.csum &&
    (s.reg .LINE_STRICT == 1 || s.lineMode == .M11 || v.modes == [.M10])

/-- A verb of the LOGIN family, and one that the listener of M10 does not serve (R233). -/
def isLogin (v : Verb) : Bool := (txt v.name).take 6 == txt "LOGIN."
def refusedInM10 (v : Verb) (s : State) : Bool :=
  s.lineMode == .M10 && (v.name == "LOGIN.PIN" || v.name == "LOGIN.VENDOR")

/-- A consumed line restarts the idle time of its route (R120); one of the LOGIN or REC family holds Nightfall
(R230). -/
def noteLine (v : Verb) (l : Line) (s : State) : State :=
  let r := l.route
  let s := s.setRoute { s.route r with lastLine := s.now }
  if r == .ring then
    { s with
      line := { s.line with typed := !l.csum && l.addr != .all, lastVerb := if (busyOn .ring s).isSome then s.line.lastVerb else v.name }
      boot := if s.lineMode == .M10 && (isLogin v || v.modes == [.M10]) then { s.boot with lastRecLine := some s.now } else s.boot }
  else s

def Route.isDkp : Route → Bool
  | .dkp _ => true
  | _ => false

/-- R99, R123 and steps 5 to 8 of R98, in their order: the first that fails decides the reply; where none fails the
verb runs. The ADMIN stream has no LOGIN (R124). `low` is what a refusal for want of the level leaves beside its reply. -/
def gateWith (v : Verb) (l : Line) (low run : State → State) (s : State) : State :=
  let r := l.route
  let busy := busyOn r s
  let s := noteLine v l s
  match busy with
  | some p => reply r 202 [("pending", .w p)] s
  | none =>
    if wrongAddress s l then reply r 102 [("arg", .w "address")] s
    else if refusedInM10 v s then reply r 206 [("need", .w "OWNER")] s
    else if !(v.modes.any (· == s.lineMode)) then
      wake 1 (reply r 200 [("mode", .w s.lineMode.text), ("need", .w (modesText v.modes))] s)
    else if strictRefuses s v l then
      raise 0x3CF [("verb", .w v.name)] (reply r 104 [("need", .w "checksum")] s)
    else if isLogin v && Route.isDkp r then reply r 206 [] s
    else if !levelOk (s.level r) v.level then low (reply r 206 [("need", .w (levelName v.level))] s)
    else if v.loop && s.noLoop then reply r 205 [] s
    else
      match checkArgs v.args l.args with
      | some (code, k) => reply r code [("arg", .w (String.ofList (k.map Char.ofNat)))] s
      | none => run s

/-- The checks of a verb whose refusal for want of the level leaves its reply alone. -/
def gate (v : Verb) (l : Line) (run : State → State) (s : State) : State := gateWith v l id run s

/-- A verb without arguments that only reports. -/
def showVerb (name : String) (modes : List Mode) : Verb :=
  { name := name, modes := modes, level := 0, changes := false, loop := false, args := [] }

/-- The why= codes of R523. -/
inductive Why where
  | level | mode | link | absent | class_ | readOnly
  deriving DecidableEq, Repr

def Why.code : Why → Nat
  | .level => 1 | .mode => 2 | .link => 3 | .absent => 4 | .class_ => 5 | .readOnly => 6

/-- The words of route= (Table 19.5b). -/
def byWord (n : Nat) : String := ["ring", "tls", "dkp", "debug"].getD n ""

/-- What a refused access of a register window leaves: the count, the address, EV 0x026 (R523). `by_` is the route
byte, or 3 for the debug port. -/
def denied (by_ addr : Nat) (why : Why) (s : State) : State :=
  let s := (s.incReg .SYS_DENIED).setReg .SYS_DENIED_ADDR addr
  raiseLimited 0x026 (sec 1) (fun _ => [("route", .c by_ (byWord by_)), ("addr", .x 8 addr), ("why", .n why.code)]) s

/-- A write of one register that has a row of its own: the checks that REG.WRITE makes before the value (R522): mode,
level, then the write. A refusal for the mode wakes as that of any line does (R74). -/
def writeGate (r : Route) (level addr : Nat) (modes : List Mode) (run : State → State) (s : State) : State :=
  if !(modes.any (· == s.lineMode)) then
    wake 1 (reply r 200 [("mode", .w s.lineMode.text), ("need", .w (modesText modes))] s)
  else if !levelOk (s.level r) level then
    reply r 206 [("need", .w (levelName level))] (denied r.byte addr .level s)
  else run s

end Sys2Proof.Machine
end

