-- ==== Sys2Proof/Machine/Power.lean ====
section
/-! DEFINITION. The commands of the supplies, the sequencer, wake and reset pins, the power-fail transition,
temperature and power (chapter 3). -/

namespace Sys2Proof.Machine

abbrev Out := Host.Outcome State Fault Refusal

/-- R45: PD0 leaves power-on reset with every kept field at its power-on value, and the first application of VAON
starts the power-up sequence; RESET_N low then holds the core before Dawn (R55). What OTP, NOR, NAND, namespace 0 and the
loop die hold stands. -/
def powerOn (s : State) : State :=
  let s := loseDirty true s
  let r := State.reset
  { r with
    pwr := { Pwr.reset with vddioA := s.pwr.vddioA, vddioB := s.pwr.vddioB, refclk := s.pwr.refclk,
                            resetN := s.pwr.resetN, pwrFailN := s.pwr.pwrFailN, wakeN := s.pwr.wakeN,
                            held := !s.pwr.resetN,
                            seq := if s.pwr.vddioA then .up 0 else .idle, en := if s.pwr.vddioA then 1 else 0,
                            restart := if s.pwr.vddioA then .none else .vddioA }
    clk := { Clk.reset with now := s.clk.now }
    line := { LineCtl.reset with pin := s.line.pin }
    day := { Day.reset with queue := s.day.queue.map (fun j => { j with running := false }), nextJob := s.day.nextJob }
    evt := { Evt.reset with log := s.evt.log, nextSeq := s.evt.nextSeq, oldSeq := s.evt.oldSeq }
    loop := s.loop
    boot := { Boot.reset with norMib := s.boot.norMib, dir := s.boot.dir, norWrites := s.boot.norWrites, badPos := s.boot.badPos,
                              sector0 := s.boot.sector0, sector1 := s.boot.sector1, slotA := s.boot.slotA,
                              slotB := s.boot.slotB }
    sec := { Sec.reset with otp := s.sec.otp, srcNow := s.sec.srcNow, identity := s.sec.identity,
                            identNo := s.sec.identNo, chain := s.sec.chain }
    mem := { s.mem with rateKept := 1, flashRateKept := 1, ceHour := [], imageM1 := false,
                        sunrise := Mem.reset.sunrise }
    net := { Net.reset with creds := s.net.creds, psks := s.net.psks, anchors := s.net.anchors }
    kv := { s.kv with mounted := false, cleared := false, snaps := [] }
    colls := s.colls
    collsDisk := s.collsDisk
    sweep := { Sweep.reset with watches := s.sweep.watches.map fun w =>
      { w with novel := false, degraded := false, reason := 0, last := 0, skips := 0, runs := 0, running := false } }
    assoc := { Assoc.reset with policy := s.assoc.policy, straps := s.assoc.straps }
    out := s.out
    freeCtr := s.freeCtr
    pending := s.pending }

def execVaonPowerOnReset (s : State) : Out := .next (powerOn s)

/-- R29: TAI, the servo rate, the latches and every kept field of PD0 are lost with VAON. The block is dark until
VAON rises again. -/
def execVaonLoss (s : State) : Out :=
  .next
    (let d := powerOn s
     { d with pwr := { d.pwr with vaon := false, on := 0, ready := 0, en := 0, seq := .idle, restart := .none } })

/-- R46: the absence of VDDIO_A. With an enable asserted it is a loss of group 0 (R50): every sequenced rail turns off, and
PD2 with them, so the event is latched in PD0 (R65). -/
def execVddioAAbsent (s : State) : Out :=
  .next
    (if !s.pwr.vddioA then s
     else
       let s := { s with pwr := { s.pwr with vddioA := false } }
       if s.pwr.en == 0 then s
       else
         let s := raise 0x018 [] (setDomains 1 (s.incReg .PWR_PG_FAILS))
         let s := s.setReg .PWR_RESET_CAUSE 5
         let s := { s with pwr := { s.pwr with causeHeld := true, en := 0 } }
         let s := collapse s
         { s with pwr := { s.pwr with restart := .vddioA } })

/-- R46: 1 s after VDDIO_A has returned the sequence starts again where its absence had stopped it. -/
def execVddioAReturnRestart (s : State) : Out :=
  .next
    (let s := flushOwn { s with pwr := { s.pwr with vddioA := true } }
     if s.pwr.restart == .vddioA && mayStart s then startUp s else s)

/-- R48: the power-good of a group goes high. The sequence goes on to the next group, to Dawn after group 1, and ends
after group 5; on the way out of Small Hours the groups are 1, 4 and 5 (R53). -/
def execSeqPgHigh (g : Nat) (s : State) : Out :=
  .next
    (if 5 < g || !s.pwr.vddioA then s
     else
       let s := { s with pwr := { s.pwr with pg := setBit s.pwr.pg g, pgSeen := if bitAt s.pwr.en g then setBit s.pwr.pgSeen g else s.pwr.pgSeen } }
       if s.pwr.seq == .up g then
         if s.pwr.waking then resumeGroups s
         else if g ≤ 1 then toDawn s
         else raiseGroups s
       else s)

/-- R48: the wait for a group runs out: EV 0x010 + g, a count, and back to Midnight, to start again 1 s later. -/
def execPgTimeout (s : State) : Out :=
  .next
    (match s.pwr.seq with
     | .up g =>
       let s := raise (0x010 + g) [] (s.incReg .PWR_PG_FAILS)
       let s := { s with pwr := { s.pwr with restart := .pgFault } }
       powerDown (dropService (loseDirty true s))
     | _ => s)

/-- R50: a power-good once seen high is lost. Groups 0, 2, 3 and 4 carry what the flush needs; groups 1 and 5 do
not. With VCORE goes PD2, so that the event of group 0 is latched in PD0 (R65). On a way down that has begun, the loss is
told and recorded, and the way goes on. SEQ_PG is not read while VDDIO_A is absent (R46). -/
def execPowerGoodLoss (g : Nat) (s : State) : Out :=
  .next
    (if !s.pwr.vddioA || 5 < g then s
     else if groupGood s g then
       let s := s.incReg .PWR_PG_FAILS
       let s := raise (0x018 + g) [] (if g == 0 then setDomains 1 s else s)
       let s := { s with pwr := { s.pwr with pg := clearBit s.pwr.pg g, pgSeen := clearBit s.pwr.pgSeen g,
                                             restart := .pgFault, causeHeld := true } }
       if (g == 1 || g == 5) && !goingDown s then powerFail 5 s
       else if goingDown s && (!s.pwr.failing || g == 1 || g == 5) then s.setReg .PWR_RESET_CAUSE 5
       else collapse (s.setReg .PWR_RESET_CAUSE 5)
     else { s with pwr := { s.pwr with pg := clearBit s.pwr.pg g } })

/-- R49: the next enable in the order 5 to 0 is deasserted; with the last one Midnight is reached. -/
def execPowerDownEnableStep (s : State) : Out :=
  .next (match s.pwr.seq with | .down g => powerDown { s with pwr := { s.pwr with pg := clearBit s.pwr.pg g } } | _ => s)

/-- R48, R50: 1 s after Midnight was reached from a power-good fault the sequence starts again. -/
def execSequenceRestart (s : State) : Out :=
  .next (if s.pwr.restart == .pgFault && mayStart s then startUp s else s)

/-- R54, source 0. -/
def execWakeNFall (s : State) : Out := .next (wake 0 { s with pwr := { s.pwr with wakeN := false } })

/-- R54, source 2: TAI has gone from below PWR.WAKE_AT to it or beyond. One that finds PWR_FAIL_N low is not remembered. -/
def execTaiWake (s : State) : Out :=
  .next
    (if wakeAt s == 0 || s.clk.tai < wakeAt s || !s.pwr.belowWake then s
     else wake 2 { s with pwr := { s.pwr with belowWake := false } })

/-- R55, R61: RESET_N is low. PD1 to PD10 reset and are held, with the enables as they are; the wait for a group that Dawn
needs goes on. A power-fail transition ends where it stands, and a way down goes on to Midnight. -/
def execResetNAssert (s : State) : Out :=
  .next
    (let s := { s with pwr := { s.pwr with resetN := false } }
     if s.pwr.failing then endFlush false s
     else if s.pwr.en == 0 || goingDown s then s
     else
       let n := s.kv.snaps.length
       let s := endSnapsTold n (coreReset s)
       let up := match s.pwr.seq with
         | .up g => if g ≤ 1 then Seq.up g else .idle
         | _ => .idle
       let s := { s with pwr := { s.pwr with held := true, seq := up, waking := false } }
       domainsReady (setDomains (if s.mode == .M0 then 1 else 7) s))

/-- R55: RESET_N is high again: Dawn, cause 1, EV 0x025 with by=1. A release in Midnight does the same once Midnight may be
left, also where the cause of an earlier transition stands; one while the enables still fall changes nothing (log entry
96). -/
def execResetNRelease (s : State) : Out :=
  .next
    (if s.pwr.resetN then s
     else
       let s := { s with pwr := { s.pwr with resetN := true, held := false } }
       if goingDown s then s
       else
         let s := (coreReset s).setReg .PWR_RESET_CAUSE 1
         let s := { s with pwr := { s.pwr with byAt := 1, causeHeld := true } }
         if s.pwr.en != 0 then toDawn s
         else if mayStart s then startUp s
         else s)

/-- R56: an assertion of PWR_FAIL_N is accepted, in every mode with EV 0x020, also one that follows another within the
debounce time; a transition or a way down that has begun goes on unchanged. -/
def execPwrFailNAccepted (s : State) : Out :=
  .next
    (if !s.pwr.vaon || !s.pwr.vddioA then s
     else
       let s := raise 0x020 [] { s with pwr := { s.pwr with pwrFailN := false, pfWait := true, pfHigh := false } }
       if goingDown s then s else powerFail 3 s)

/-- R56, R59: the flush ends. Complete, every dirty write is programmed; short, what is left is lost. -/
def execPlpFlushComplete (complete : Bool) (s : State) : Out :=
  .next (if s.pwr.failing then endFlush complete s else s)

/-- R60: PWR_FAIL_N has stayed high for PWR.PF_DEBOUNCE_MS. Where the transition still runs, the sequence starts as Midnight is
reached. -/
def execPfDebounceExpiry (s : State) : Out :=
  .next
    (if !s.pwr.pfWait then { s with pwr := { s.pwr with pwrFailN := true } }
     else
       let s := { s with pwr := { s.pwr with pwrFailN := true, pfWait := false } }
       if goingDown s then { s with pwr := { s.pwr with pfHigh := true } } else wake 3 s)

/-- Whether a domain holds no work: PD7 and PD8 the batch that runs on their lanes, and in M8 the queries that still wait for
them; PD9 the queries in re-rank (R44, R67). -/
def domainIdle (d : Nat) (s : State) : Bool :=
  let waits := s.mode == .M8 && !s.sweep.forming.isEmpty
  match d with
  | 7 => s.sweep.running.isNone && !waits
  | 8 => s.sweep.running.elim true (·.lanes ≤ 8) && !waits
  | 9 => s.sweep.rerank.isEmpty && s.sweep.exact.isNone
  | _ => true

/-- Whether the gating of a domain has been decided: by the mode or the throttle, and for the sweep lanes in M8 as they
empty (Table 4.1). -/
def gatingDecided (d : Nat) (s : State) : Bool :=
  bitAt s.pwr.gating d || (s.runsIn .M8 && (d == 7 || d == 8) && bitAt s.pwr.on d)

/-- R44: a domain whose gating was decided has finished its work and turns off; with PD9 goes the vector cache
(R428). -/
def execDomainGated (d : Nat) (s : State) : Out :=
  .next
    (if d < 11 && gatingDecided d s && domainIdle d s then
       let s := { s with pwr := { s.pwr with on := clearBit s.pwr.on d, ready := clearBit s.pwr.ready d, gating := clearBit s.pwr.gating d } }
       if d == 9 then { s with sweep := { s.sweep with cache := [] } } else s
     else s)

/-- R43: the on-latency of a domain has passed and it accepts work, its rails being good. After PD7 comes PD8 where it is due
(R44). -/
def execDomainOnComplete (d : Nat) (s : State) : Out :=
  .next
    (if d < 11 && bitAt s.pwr.on d && railsGood s d then
       let s := { s with pwr := { s.pwr with ready := setBit s.pwr.ready d } }
       if d == 7 && s.pwr.pd8Due then switchOn 8 { s with pwr := { s.pwr with pd8Due := false } } else s
     else s)

end Sys2Proof.Machine
end

