-- ==== Sys2Proof/Machine/Clock.lean ====
section
/-! DEFINITION. BEAT and TAI, the PTP slave and its servo, the cascade clock, the loop die's oscillator trim
(chapter 2). -/

namespace Sys2Proof.Machine

def TimeState.num : TimeState → Nat
  | .FREE => 0 | .LOCKING => 1 | .LOCKED => 2 | .HOLDOVER => 3

/-- A move of the time state raises EV 0x0C0 (R31, R481). -/
def setTimeState (t : TimeState) (s : State) : State :=
  if s.clk.state == t then s
  else
    let old := s.clk.state
    raise 0x0C0 [("from", .n old.num), ("to", .n t.num)] { s with clk := { s.clk with state := t } }

/-- TAI after `n` beats: 2/3 ns each at the nominal rate, corrected by the servo in ppm; fractions are of 1/3,000,000 ns
(R29). -/
def taiBeats (n : Nat) (c : Clk) : Clk :=
  let f := c.taiFrac + n * (2000000 + 2 * c.rate).toNat
  { c with tai := (c.tai + f / 3000000) % 2 ^ 64, taiFrac := f % 3000000 }

/-- The beat stopped: PD0 counts REFCLK cycles of 60 beats each, and TAI advances with that count (R25, R27, R29). -/
def refclkTick (c : Clk) : Clk :=
  if c.refSub + 1 < 60 then { c with refSub := c.refSub + 1 }
  else { taiBeats 60 c with refSub := 0, refCount := c.refCount + 1 }

/-- Beats over which R36 judges the phase of CASC_CLK, and for which the lock stands before a member rejoins. -/
def cascWindow : Nat := 2 ^ 20

/-- CASC_CLK agrees with the beat again once its phase has not moved for the window of R36 (log entry 97). -/
def cascLockTick (member : Bool) (c : Clk) : Clk :=
  if member && !c.cascLock && c.cascLockAt + cascWindow ≤ c.now then { c with cascLock := true, cascLockAt := c.now } else c

/-- What one beat does to the clocks: BEAT counts while PD2 runs, TAI while REFCLK is present, by beats or, while the
beat is stopped, by REFCLK cycles (R27, R29). -/
def clockTick (s : State) : State :=
  let c := { s.clk with now := s.clk.now + 1 }
  let member := s.coreUp && bitAt s.pwr.on 10 && s.assoc.straps != 0
  { s with clk :=
      if !s.pwr.refclk || !s.pwr.vaon then c
      else if bitAt s.pwr.on 2 then
        let c := cascLockTick member (taiBeats 1 c)
        if s.pwr.held then c else { c with beat := (c.beat + 1) % 2 ^ 64 }
      else refclkTick c }

/-- One beat: the context engine's, that of the clocks, and what a port sends at the end of a PAUSE. -/
def beatTick (s : State) : State := [0, 1].foldl flushPort (clockTick (engineBeat s))

/-- TAI stops being valid: the state is FREE and no master is selected (R29, R31, R35). -/
def taiInvalid (s : State) : State :=
  setTimeState .FREE { s with clk := { s.clk with valid := false, master := none, good := 0, bad := 0, overrun := false } }

/-- TAI set to a value; a sync that was pending for an instant it passes fires by its own command (R41), and so does the
wake of R54. -/
def setTai (v : Nat) (s : State) : State :=
  { s with
    clk := { s.clk with tai := v % 2 ^ 64, taiFrac := 0 }
    pwr := { s.pwr with belowWake := s.pwr.belowWake || v % 2 ^ 64 < wakeAt s } }

/-- The state rules of R31 on one offset: 16 in a row within 1 µs lock, 4 in a row beyond 10 µs unlock. -/
def judgeOffset (o : Int) (s : State) : State :=
  let good := if o.natAbs ≤ 1000 then s.clk.good + 1 else 0
  let bad := if 10000 < o.natAbs then s.clk.bad + 1 else 0
  let s := { s with clk := { s.clk with good := min good 16, bad := min bad 4 } }
  match s.clk.state with
  | .LOCKING => if 16 ≤ good then setTimeState .LOCKED s else s
  | .LOCKED => if 4 ≤ bad then setTimeState .LOCKING { s with clk := { s.clk with good := 0 } } else s
  | _ => s

/-- The servo on one offset, the master ahead counting positive (R33). How fast it slews within the clamp is a free
value (log entry 3); its direction reduces the offset. -/
def servo (o : Int) (s : State) : State :=
  let lim : Int := s.reg .CLK_STEP_LIM * 1000000
  let slew := s.reg .CLK_SLEW_MAX
  if !s.clk.valid then
    let s := setTai (s.clk.tai + o).toNat s
    { s with clk := { s.clk with valid := true, overrun := false } }
  else if lim < o then
    let s := setTai (s.clk.tai + o).toNat { s with clk := { s.clk with overrun := false } }
    raise 0x0C2 [("ns", .i o)] s
  else if o < -lim then
    let first := !s.clk.overrun
    let s := { s with clk := { s.clk with rate := -(slew : Int), overrun := true } }
    if first then raise 0x0C3 [("offset", .i o)] s else s
  else
    let v := clampFree s.free 0 slew
    let rate : Int := if 0 < o then v else if o < 0 then -v else s.clk.rate
    ({ s with clk := { s.clk with rate := rate, overrun := false } }).tick

/-- R33: a Sync of the selected master. `offset` is the time of its sending, with corrections, less the time of its
arrival; the path delay is added and CLK.ASYM_NS subtracted (R32, Table 2.3, log 39). A Sync at an interval
other than 2^-7 to 2 s is counted (R324); every other Sync is ignored. -/
def execPtpSync (port : Nat) (offset : Int) (master : SyncFrom) (s : State) : Out :=
  .next
    (let hears := s.reg .CLK_PTP_EN == 1 && s.firmware && port < 2 && s.reg .NET_P_PTP port != 0
     match s.clk.master with
     | some m =>
       if hears && (master.interval < -7 || 1 < master.interval) then s.incReg .NET_PTP_BAD
       else if s.reg .CLK_PTP_EN == 1 && s.firmware && s.pwr.refclk && m.port == port && m.ident == master.ident then
         let o := offset + s.clk.mpd - toSigned 32 (s.reg .CLK_ASYM_NS)
         let cl : Int := max (-(2 ^ 31)) (min (2 ^ 31 - 1) o)
         judgeOffset o (servo o (s.setReg .CLK_OFFSET_NS (ofSigned 32 cl)))
       else s
     | none => if hears && (master.interval < -7 || 1 < master.interval) then s.incReg .NET_PTP_BAD else s)

/-- The better of two masters: the lower rank, then the lower identity, then the lower port (R32). The spec leaves open
which port is the slave port where both hear one master at one rank: the lower, whichever announced last (log entry 98). -/
def Master.better (a b : Master) : Bool :=
  a.prio < b.prio || (a.prio == b.prio && (a.ident < b.ident || (a.ident == b.ident && a.port < b.port)))

def bestMaster (l : List Master) : Option Master :=
  match l with
  | [] => none
  | m :: ms => some (ms.foldl (fun a b => if b.better a then b else a) m)

/-- The selected master is lost: HOLDOVER, the master deselected, the port told (R31, Table 13.5). A change of domain loses it
too: no master of another domain is followed (R32). -/
def dropMaster (s : State) : State :=
  match s.clk.master with
  | none => s
  | some m =>
    let s := { s with clk := { s.clk with master := none, good := 0, bad := 0, holdAt := s.now } }
    let s := if m.port < 2 then raise (0x100 + 64 * m.port + 13) [("master", .x 16 m.ident)] s else s
    setTimeState .HOLDOVER s

/-- R32: an Announce, and what the best master clock algorithm then selects. `prio` is the rank its data sets give
the master; `interval` is in ms and must lie in 125 to 16,000 (R324). -/
def execPtpAnnounce (port ident prio domain interval utc : Nat) (s : State) : Out :=
  .next
    (if !(s.firmware && s.reg .CLK_PTP_EN == 1 && port < 2 && s.reg .NET_P_PTP port != 0) then s
     else if interval < 125 || 16000 < interval then s.incReg .NET_PTP_BAD
     else if domain != s.reg .CLK_PTP_DOMAIN then s
     else
       let m : Master := ⟨port, ident, prio, interval⟩
       let ms := m :: s.clk.masters.filter fun x => !(x.port == port && x.ident == ident)
       let s := { s with clk := { s.clk with masters := ms } }
       let s := match bestMaster ms with
         | none => s
         | some b =>
           if s.clk.master == some b then s
           else
             let was := s.clk.master
             let s := { s with clk := { s.clk with master := some b } }
             let s := if was.elim true (·.port != b.port) then raise (0x100 + 64 * b.port + 12) [("master", .x 16 b.ident)] s else s
             match s.clk.state with
             | .FREE | .HOLDOVER => setTimeState .LOCKING s
             | _ => s
       if s.clk.master.elim false (·.ident == ident) then s.setReg .NET_UTC_OFS_S (utc % 2 ^ 16) else s)

/-- Beats in an interval that PTP gives as the logarithm of its seconds. -/
def logBeats (l : Int) : Nat := if 0 ≤ l then sec (2 ^ l.toNat) else sec 1 / 2 ^ l.natAbs

/-- R32: the mean path delay from a Delay_Resp of the selected master, and the interval of the next requests (R324). -/
def execPtpDelayResp (port : Nat) (delay logInterval : Int) (s : State) : Out :=
  .next
    (match s.clk.master with
     | some m =>
       if s.reg .CLK_PTP_EN == 1 && s.firmware && m.port == port then
         { s with clk := { s.clk with mpd := delay, delayGap := logBeats logInterval } }
       else s
     | none => s)

/-- R324: the Delay_Req of the interval that Delay_Resp set, but at most 16 a second, to the multicast address of the port's
transport. -/
def execPtpDelayReqSend (s : State) : Out :=
  .next
    (match s.clk.master with
     | some m =>
       if s.reg .CLK_PTP_EN == 1 && s.firmware && s.clk.delayAt.elim true (· + max s.clk.delayGap (sec 1 / 16) ≤ s.now) then
         portSend m.port (.net m.port "delay_req" [s.reg .NET_P_PTP m.port])
           { s with clk := { s.clk with delayAt := some s.now } }
       else s
     | none => s)

/-- R31: no Announce of the selected master for three intervals. A master still heard on the other port is taken at its next Announce. -/
def execAnnounceTimeout (s : State) : Out :=
  .next
    (match s.clk.master with
     | none => s
     | some m =>
       let ms := s.clk.masters.filter fun x => !(x.port == m.port && x.ident == m.ident)
       dropMaster { s with clk := { s.clk with masters := ms } })

/-- R34: why TAI cannot be set to a value, judged in the order of the rule. -/
def taiSetRefusal (v : Nat) (s : State) : Option (Nat × List (String × Val)) :=
  if s.reg .CLK_PTP_EN == 1 && (s.clk.state == .LOCKING || s.clk.state == .LOCKED) then some (204, [])
  else if s.clk.valid && v < s.clk.tai then some (103, [("arg", .w "value")])
  else none

/-- TAI set by a write: it is valid from then on. -/
def taiSetNow (v : Nat) (s : State) : State := setTai v { s with clk := { s.clk with valid := true } }

/-- R34: the write that sets TAI. -/
def taiSet (r : Route) (v : Nat) (s : State) : State :=
  match taiSetRefusal v s with
  | some (code, kv) => reply r code kv s
  | none => done r [("value", .n v)] (taiSetNow v s)

def execTaiSet (route : Route) (lo hi : Nat) (s : State) : Out :=
  .next (writeGate route 1 0x2002C m4to9 (taiSet route (lo % 2 ^ 32 + hi % 2 ^ 32 * 2 ^ 32)) s)

/-- R35: legal in Dusk alone. -/
def taiInvalidateRefusal (v : Nat) (s : State) : Option (Nat × List (String × Val)) :=
  if s.lineMode != .M9 then some (200, [("mode", .w s.lineMode.text), ("need", .w "M9")])
  else if 1 < v then some (103, [("arg", .w "value")])
  else none

def taiInvalidateNow (v : Nat) (s : State) : State := if v == 0 then s else raise 0x0C4 [] (taiInvalid s)

def taiInvalidate (r : Route) (v : Nat) (s : State) : State :=
  match taiInvalidateRefusal v s with
  | some (code, kv) => reply r code kv s
  | none => done r [("value", .n v)] (taiInvalidateNow v s)

def execTaiInvalidate (route : Route) (v : Nat) (s : State) : Out :=
  .next (writeGate route 1 0x20030 m4to9 (taiInvalidate route v) s)

/-! ## The loop die's oscillator (R37) -/

/-- R37: after 64 heartbeats. `cycles` is what the window counted, `cumulative` the count since the last ISL.SYNC
less 4,096 for each heartbeat. The trim moves one step at most. -/
def execOscTrimWindow (cycles : Nat) (cumulative : Int) (s : State) : Out :=
  .next
    (if s.bridge.link != 2 || !s.loop.started then s
     else
       let err : Int := (cycles : Int) - 262144
       let trim := toSigned 8 (s.loop.reg .ISL_OSC_TRIM)
       let off := 13 < err.natAbs
       let want : Int :=
         if off then (if 0 < err then trim - 1 else trim + 1)
         else if s.loop.synced && 16 < cumulative.natAbs then (if 0 < cumulative then trim - 1 else trim + 1)
         else trim
       let new : Int := max (-128) (min 127 want)
       let l := s.loop.setReg .ISL_OSC_TRIM (ofSigned 8 new)
       let l := { l with freqOk := !off, hbCount := 0 }
       let l := if !off && l.synced then l.setReg .ISL_PHASE_LOCK 1 else l
       let s := { s with loop := l }
       if off && new != want then raise 0x0C6 [("trim", .i new)] s else s)

end Sys2Proof.Machine
end

