-- ==== Sys2Proof/Machine/Store.lean ====
section
/-! DEFINITION. The dirty limit, and how a write is admitted to the store (R85–R87, R289, R373); how fields of
namespace 0 are kept (R521); how a session or a route closes (R323, R349, R370). -/

namespace Sys2Proof.Machine

/-! ## The dirty limit -/

/-- b of R86, in bytes per µs. -/
def plpBw (s : State) : Nat := 192 * nCh s

/-- The rule of R86 on its inputs: hold-up in ms, b, the ceiling in MiB and the payload of the DIRTY region. -/
def dirtyLimit (holdup b maxMib payload : Nat) : Nat :=
  let avail := holdup * 1000 - 200
  let lim := avail * b * 3 / 4
  let lim := min (min lim (maxMib * 1048576)) payload
  if lim < 1048576 then 0 else lim

/-- GOV.DIRTY_MAX_MIB, held to the reserve that exists while it is short (R289). -/
def dirtyMaxMib (s : State) : Nat :=
  let m := s.reg .GOV_DIRTY_MAX_MIB
  if s.mem.plpOk then m else min m (s.reg .FLASH_PLP_MIB)

def limitNow (s : State) : Nat :=
  dirtyLimit (s.reg .FLASH_HOLDUP_MS) (plpBw s) (dirtyMaxMib s) (s.reg .DRAM_DIRTY_GIB * 1073741824 * 15 / 16)

/-- The limit in force, in bytes. -/
def limitBytes (s : State) : Nat := s.day.limit

/-- The limit is computed again (R86): a change raises EV 0x3F7, a limit of 0 raises EV 0x3F8. The register shows
whole KiB; lim= is R86's lim, in bytes (log entry 89). -/
def recomputeLimit (s : State) : State :=
  let lim := limitNow s
  let old := s.day.limit
  let s := (s.setReg .GOV_DIRTY_LIMIT_KIB (lim / 1024)).setReg .GOV_PLP_BW (plpBw s)
  let s := { s with day := { s.day with limit := lim } }
  let s := if lim == old then s else raiseLimited 0x3F7 (ms 100) (fun _ => [("lim", .n lim)]) s
  if lim == 0 then raise 0x3F8 [("holdup_ms", .n (s.reg .FLASH_HOLDUP_MS))] s else s

/-! ## Admission of a write -/

/-- A refusal by the store: the status code, its fields on a line, its detail body in DKP. -/
structure Refused where
  code : Nat
  kv : List (String × Val)
  body : Text
  deriving DecidableEq, Repr

def busyFor (retry bound : Nat) : Refused := ⟨202, [("retry_us", .n retry)], detailBusy retry bound⟩

/-- Whether the store refuses a write of some bytes (R85, R87). The estimate at the free-block floor is a free
value in the range the rule gives (log entry 3). Where the floor holds writes and the other rules would refuse too, the floor
is judged first: 202 with bound 7 before 300 and before bound 6 (log entry 89). -/
def writeRefusal (size : Nat) (s : State) : Option Refused :=
  let lim := limitBytes s
  let dirty := s.kv.dirtyBytes
  if s.day.gcHeld then some (busyFor (clampFree s.free 100 1000000) 7)
  else if lim == 0 then (if nCh s == 0 then some ⟨300, [], []⟩ else none)
  else if lim < dirty + size then
    let b := plpBw s
    let need := dirty + size - lim
    some (busyFor (max 100 ((need + b - 1) / max b 1)) 6)
  else none

/-- What a refusal raises (R87). -/
def refusalEvent (size : Nat) (s : State) : State :=
  if s.day.gcHeld then s.tick
  else if (writeRefusal size s).isSome then
    raiseLimited 0x3F9 (ms 100)
      (fun _ => [("dirty", .n s.kv.dirtyBytes), ("lim", .n (limitBytes s))]) s
  else s

/-- Whether a write of a namespace is acknowledged only once it is programmed (R373). -/
def writeThrough (ns : Nat) (s : State) : Bool := limitBytes s == 0 || s.reg .KV_NS_ATTR ns == 1

/-- A write takes the next store position and is dirty until it is programmed. -/
def commitStore (items : List Item) (bytes : Nat) (s : State) : State :=
  let pos := s.kv.pos + 1
  noteWaf bytes 0 { s with kv := { s.kv with pos := pos, dirty := s.kv.dirty ++ [⟨pos, items, bytes⟩] } }

/-- Bytes of a record of one field of namespace 0 (log entry 15). -/
def cellBytes : Nat := 64

/-- Writes fields of namespace 0 under R373 before the reply (R521): refused as the store refuses, or committed; in
write-through they are programmed at once. -/
def ns0Write (cells : List Cell) (s : State) : State × Option Refused :=
  if cells.isEmpty then (s, none)
  else
    let size := cellBytes * cells.length
    match writeRefusal size s with
    | some x => (refusalEvent size s, some x)
    | none =>
      let s := { s with kv := { s.kv with ns0 := cells.foldl cellsPut s.kv.ns0 } }
      let s := commitStore (cells.map .cell) size s
      (if limitBytes s == 0 then persistAll s else s, none)

/-- Another record of namespace 0 (a credential, a definition, a policy entry, a job): with it everything committed
before it is programmed at once (log entry 29). -/
def ns0Record (s : State) : State × Option Refused :=
  match writeRefusal cellBytes s with
  | some x => (refusalEvent cellBytes s, some x)
  | none => (persistAll (commitStore [.other] cellBytes s), none)

/-- The free-block figure the store reads (Table 4.5), in thousandths: the floor of R85 holds writes below 1% and
lets them go at GOV.GC_LO_PCT. -/
def noteFree (permille : Nat) (s : State) : State :=
  let s := { s with mem := { s.mem with freePermille := permille } }
  if permille < 10 && !s.day.gcHeld then
    raise 0x3F5 [("free", .n (permille / 10))] { s with day := { s.day with gcHeld := true } }
  else if s.reg .GOV_GC_LO_PCT * 10 ≤ permille then { s with day := { s.day with gcHeld := false } }
  else s

/-! ## Closing -/

/-- Ends snapshots of a route and closes its cursors; the ring alone stays a route (R349, R370, R508). -/
def closeRoute (r : Route) (s : State) : State :=
  let gone := (s.kv.snaps.filter fun x => x.owner == r).length
  let s := { s with
    kv := { s.kv with snaps := s.kv.snaps.filter fun x => x.owner != r }
    assoc := { s.assoc with cursors := s.assoc.cursors.filter fun x => x.owner != r }
    routes := s.routes.filter fun x => x.route != r || x.route == .ring }
  endSnapsTold gone s

/-- The words of reason= in EV 0x185 (R323). -/
def closeReasons : List String := ["idle", "cred", "mode", "link", "peer", "forgery", "rekey"]

/-- A DKP session closes, with the reason by its place in the list of R323: its subscription ends, its tokens are
free. -/
def closeSession (reason : Nat) (n : Nat) (s : State) : State :=
  match s.session n with
  | none => s
  | some x =>
    let s := if x.sub.isSome then raise 0x196 [("sess", .n n), ("on", .n 0)] s else s
    let s := s.setReg .DKP_TOKENS (s.reg .DKP_TOKENS - (x.admitted.filter fun a => !a.reexec).length)
    let s := { s with sess := s.sess.filter fun y => y.num != n }
    let s := closeRoute (.dkp n) (portSend x.port (.net x.port "close_notify" [n]) s)
    raise 0x185 [("sess", .n n), ("reason", .c reason (closeReasons.getD (reason - 1) ""))] s

/-- A command connection closes (R120, EV 0x3CC). -/
def closeTls (c : Nat) (s : State) : State :=
  if !(s.line.tlsConns.any (· == c)) then s
  else
    let s := tlsOut c (.alert c 0) s
    let s := { s with
      line := { s.line with tlsConns := s.line.tlsConns.filter (· != c) }
      net := { s.net with tls := s.net.tls.filter fun x => x.num != c } }
    raise 0x3CC [("conn", .n c)] (closeRoute (.tls c) s)

/-- Every session and command connection closes with reason=mode (R77). -/
def closeAll (s : State) : State :=
  let s := dropUpdate s
  let s := (s.sess.map (·.num)).foldl (fun s n => closeSession 3 n s) s
  let s := s.line.tlsConns.foldl (fun s c => closeTls c s) s
  { s with net := { s.net with hs := [], tls := [] } }

end Sys2Proof.Machine
end

