-- ==== Sys2Proof/Machine/AssocCore.lean ====
section
/-! DEFINITION. The associative array: entries, searches with their verification, suspect entries, classification, and
the writing of one entry (R20–R22, R446–R466). -/

namespace Sys2Proof.Machine

/-- The count of 1 bits below bit 320 (R446, R447). -/
def careCount (m : Nat) : Nat := ((List.range 320).filter fun i => bitAt m i).length

/-- The global index of an entry (R446). -/
def Entry.global (e : Entry) : Nat := 4096 * e.bank + e.idx

/-- An entry in its reset state: invalid in the array and in the shadow. -/
def Entry.blank (bank idx : Nat) : Entry :=
  { bank := bank, idx := idx, aValid := false, aValue := 0, aMask := 0, aWord := 0, valid := false, value := 0,
    mask := 0, word := 0, suspect := false, falseHits := 0, suspected := 0, code := 0 }

def entryGet (l : List Entry) (bank idx : Nat) : Entry :=
  match l with
  | [] => Entry.blank bank idx
  | e :: es => if e.bank == bank && e.idx == idx then e else entryGet es bank idx

/-- Entries in ascending global index, with one put in its place. -/
def entryPut (l : List Entry) (x : Entry) : List Entry :=
  match l with
  | [] => [x]
  | e :: es =>
    if e.global == x.global then x :: es
    else if x.global < e.global then x :: e :: es
    else e :: entryPut es x

/-- Whether a bank belongs to a pair in double width (R447). The field of ASSOC.DW starts at bit 2. -/
def dwPair (s : State) (b : Nat) : Bool := 4 ≤ b && bitAt (s.reg .ASSOC_DW) (b / 2 - 2)

/-- Whether a bank has power (R449). -/
def bankOn (s : State) (b : Nat) : Bool := b < 4 || bitAt (s.reg .ASSOC_BANK_ON) b

/-- The banks of a mask. -/
def maskBanks (m : Nat) : List Nat := (List.range 16).filter fun b => bitAt m b

/-- The mask with both banks of every pair it names. -/
def pairMask (m : Nat) : Nat :=
  (List.range 16).foldl (fun a b => if bitAt m b || bitAt m (2 * (b / 2) + (1 - b % 2)) then setBit a b else a) 0

/-- R450: what the array holds under its mask agrees with the key, and the entry is valid and not suspect. -/
def Entry.hits (e : Entry) (key : Nat) : Bool :=
  e.aValid && !e.suspect && Nat.land (Nat.xor key e.aValue) e.aMask == 0

/-- Whether an entry follows a place in the local order: care count descending, then global index ascending (R460). -/
def Entry.follows (e : Entry) (place : Nat × Nat) : Bool :=
  let c := careCount e.aMask
  c < place.1 || (c == place.1 && place.2 < e.global)

/-- The matching entries of the banks of a mask, those after a place where one is given. -/
def matchesOf (es : List Entry) (key banks : Nat) (after : Option (Nat × Nat)) : List Entry :=
  es.filter fun e => bitAt banks e.bank && e.hits key && (match after with | some p => e.follows p | none => true)

/-- The winner: the highest care count, then the lower global index. -/
def winner : List Entry → Option Entry
  | [] => none
  | e :: es =>
    match winner es with
    | none => some e
    | some f => if careCount e.aMask < careCount f.aMask then some f else some e

/-- R455: the shadow copy confirms a winner. -/
def Entry.confirmed (e : Entry) (key : Nat) : Bool :=
  e.valid && !e.suspect && Nat.land (Nat.xor key e.value) e.mask == 0 && e.word == e.aWord

/-- The array's copy from the shadow. -/
def Entry.repaired (e : Entry) : Entry :=
  { e with aValid := e.valid && !e.suspect, aValue := e.value, aMask := e.mask, aWord := e.word }

def State.setEntry (s : State) (e : Entry) : State :=
  { s with assoc := { s.assoc with entries := entryPut s.assoc.entries e } }

/-- Notes that an entry of a bank was written, invalidated or made suspect (R461, R474). -/
def markWrite (b : Nat) (s : State) : State :=
  let n := s.assoc.writeN + 1
  let bs := if dwPair s b then [2 * (b / 2), 2 * (b / 2) + 1] else [b]
  { s with assoc := { s.assoc with
    writeN := n
    writes := bs.map (fun b => (b, n, s.assoc.frame)) ++ s.assoc.writes.filter fun x => !bs.any (· == x.1) } }

/-- Whether a bank of a mask was written after a write count. -/
def writtenSince (s : State) (banks n : Nat) : Bool := s.assoc.writes.any fun x => bitAt banks x.1 && n < x.2.1

/-- Whether a policy bank takes part in classification (R463). -/
def activePolicy (s : State) (b : Nat) : Bool := b < 4 && bitAt (s.reg .ASSOC_POLICY_BANKS) b

/-- R466: what a suspect entry of an active policy bank leads to: a reload, or, where the entry has been suspect
before since it was written, failing closed. -/
def policySuspect (e : Entry) (s : State) : State :=
  if s.assoc.policyState == 2 || !activePolicy s e.bank then s
  else if 2 ≤ e.suspected then
    raise 0x344 [("bank", .n e.bank), ("idx", .n e.idx)] { s with assoc := { s.assoc with policyState := 2 } }
  else { s with assoc := { s.assoc with policyState := 1 } }

/-- R456: an entry becomes suspect. -/
def makeSuspect (e : Entry) (s : State) : State :=
  let e := { e with aValid := false, suspect := true, suspected := e.suspected + 1, code := 0 }
  let s := markWrite e.bank (s.setEntry e)
  policySuspect e (raise 0x342 [("bank", .n e.bank), ("idx", .n e.idx)] s)

/-- R455, R456: a false hit is counted and told; the entry is rewritten from the shadow, or becomes suspect the second
time since it was written. -/
def falseHit (e : Entry) (s : State) : State :=
  let s := s.incReg .ASSOC_FALSE_HITS
  let s := raise 0x341 [("bank", .n e.bank), ("idx", .n e.idx)] { s with assoc := { s.assoc with corr := s.assoc.corr + 1 } }
  if 1 ≤ e.falseHits then makeSuspect { e with falseHits := e.falseHits + 1 } s
  else s.setEntry { e.repaired with falseHits := e.falseHits + 1 }

/-- R454: a shadow code that could be corrected. -/
def correctShadow (e : Entry) (s : State) : State := (s.incReg .ASSOC_SHADOW_CE).setEntry { e with code := 0 }

/-- R453–R456: a search is issued until its winner is confirmed: the winner and the number of matches of the last
issue. An uncorrectable shadow error makes the winner suspect. -/
def resolve (key banks : Nat) (after : Option (Nat × Nat)) : Nat → State → State × Option Entry × Nat
  | 0, s => (s, none, 0)
  | n + 1, s =>
    let l := matchesOf s.assoc.entries key banks after
    match winner l with
    | none => (s, none, 0)
    | some e =>
      if e.code == 2 then resolve key banks after n (makeSuspect e s)
      else
        let s := if e.code == 1 then correctShadow e s else s
        let e := { e with code := 0 }
        if e.confirmed key then (s, some e, l.length) else resolve key banks after n (falseHit e s)

/-- A search of the array. Each entry fails at most twice before it is suspect. -/
def searchArray (key banks : Nat) (after : Option (Nat × Nat)) (s : State) : State × Option Entry × Nat :=
  resolve key banks after (2 * s.assoc.entries.length + 1) s

/-! ## Classification -/

/-- The policy search key (R20). -/
def policyKey (ns : Nat) (key : Text) : Nat := ns % 256 + 256 * leNat (key.take 19)

/-- The action word of R466 in state 2: no roles, no feed, deny-scan set. -/
def failClosed : Nat := 0x0010000000000000

/-- The fields of an action word (R21, R464). -/
def readRoles (w : Nat) : Nat := bitsOf w 15 0
def writeRoles (w : Nat) : Nat := bitsOf w 31 16
def classTag (w : Nat) : Nat := bitsOf w 47 32
def retClass (w : Nat) : Nat := bitsOf w 50 48
def feeds (w : Nat) : Bool := bitAt w 51
def denyScan (w : Nat) : Bool := bitAt w 52

/-- The namespace default (R362). -/
def nsAction (s : State) (ns : Nat) : Nat := s.reg .KV_NS_ACT_LO ns + 2 ^ 32 * s.reg .KV_NS_ACT_HI ns

/-- R463: the action word of a key; none while the policy banks reload (R466). -/
def classify (ns : Nat) (key : Text) (s : State) : State × Option Nat :=
  if s.assoc.policyState == 2 then (s.incReg .ASSOC_CLASSIFY, some failClosed)
  else if s.assoc.policyState == 1 then (s, none)
  else
    let banks := s.reg .ASSOC_POLICY_BANKS
    let (s, e, _) := searchArray (policyKey ns key) banks none (s.incReg .ASSOC_CLASSIFY)
    if s.assoc.policyState == 2 then (s, some failClosed)
    else if s.assoc.policyState == 1 then (s, none)
    else match e with
      | some e => (s, some e.aWord)
      | none => (s, some (nsAction s ns))

/-- Whether a role mask meets the roles of a test (R363). -/
def roleMeets (roles want : Nat) : Bool := Nat.land roles want != 0

/-! ## Writing and loading -/

/-- R462: one entry is set, or its valid bit cleared, in the shadow and in the array; the write clears the suspect
flag and what verification had counted. -/
def putEntry (bank idx value mask word : Nat) (inv : Bool) (s : State) : State :=
  let old := entryGet s.assoc.entries bank idx
  let e : Entry :=
    if inv then { old with valid := false, suspect := false, falseHits := 0, suspected := 0, code := 0 }
    else { old with valid := true, value := Nat.land value mask, mask := mask, word := word, suspect := false,
                    falseHits := 0, suspected := 0, code := 0 }
  let s := markWrite bank (s.setEntry e.repaired)
  if bank < 4 then
    { s with assoc := { s.assoc with
      policy := entryPut s.assoc.policy { e.repaired with falseHits := 0, suspected := 0 } } }
  else s

/-- The policy banks from namespace 0 (R465, R466): what verification had counted of an entry stays. -/
def loadPolicy (s : State) : State :=
  let user := s.assoc.entries.filter fun e => 4 ≤ e.bank
  let banks := s.assoc.policy.map fun p =>
    let old := entryGet s.assoc.entries p.bank p.idx
    { p with falseHits := old.falseHits, suspected := old.suspected }
  { s with assoc := { s.assoc with entries := banks ++ user } }

/-- The open cursors that name a bank. -/
def cursorNames (s : State) (b : Nat) : Bool := s.assoc.cursors.any fun c => bitAt c.banks b

/-- A cell fault of the array or of the shadow. It is no write: nothing sees it but a search, a read and the scrub
(R455–R458; log entry 122). -/
def applyUpset (s : State) (u : Upset) : State :=
  if bankOn s u.bank then
    s.setEntry { entryGet s.assoc.entries u.bank u.idx with
      aValid := u.valid, aValue := Nat.land u.value u.mask, aMask := u.mask, aWord := u.word, code := u.code }
  else s

end Sys2Proof.Machine
end

