-- ==== Sys2Proof/Machine/CollCore.lean ====
section
/-! DEFINITION. Collections as data: sizes, sketches, slots, side lists (R385–R400, R409), and the lifecycle
event. -/

namespace Sys2Proof.Machine

/-! ## Sizes -/

/-- W in bits (Table 16.5). -/
def Coll.w (c : Coll) : Nat := 64 * 2 ^ c.wcode

/-- V, the bytes of a vector (R394). -/
def vecBytes (fmt d : Nat) : Nat := match fmt with | 0 => d | 1 => 2 * d | _ => d / 8
def Coll.v (c : Coll) : Nat := vecBytes c.fmt c.d

/-- E of Table 16.2. -/
def slotsPerChunk (wcode : Nat) (tagged : Bool) : Nat :=
  match wcode, tagged with
  | 0, false => 8388608
  | 1, false => 4194304
  | 2, false => 2097152
  | _, false => 1048576
  | 0, true => 6710880
  | 1, true => 3728256
  | 2, true => 1973760
  | _, true => 1016800
def Coll.e (c : Coll) : Nat := slotsPerChunk c.wcode c.tagged

/-- The record stride (R394). -/
def Coll.stride (c : Coll) : Nat := (288 + c.w / 8 + c.v + 63) / 64 * 64

/-- META and NAND that a collection holds (R409), in bytes. -/
def Coll.metaBytes (c : Coll) : Nat := 16777216 * (24 + c.w / 8) + c.maxChunks * c.e / 8 + 4096
def Coll.nandBytes (c : Coll) : Nat := c.maxChunks * (67108864 + c.e * (c.stride - c.v))

/-- Payload of a region (R273). -/
def payload (gib : Nat) (ecc : Bool) : Nat := if ecc then gib * 1073741824 * 15 / 16 else gib * 1073741824

/-! ## Stripes (R271, R276, R279) -/

/-- The first GiB of a region, by its place in Table 12.2 (R271). -/
def regionStart (s : State) (region : Nat) : Nat :=
  let sizes := [1, s.reg .DRAM_DIRTY_GIB, s.reg .DRAM_INDEX_GIB, s.reg .DRAM_META_GIB, s.reg .DRAM_SKETCH_GIB]
  sumNat (sizes.take (region - 1))

/-- The channel of a stripe of a region (R276): stripe k lies on channel (k + b) mod 16, b being the region's first 64 MiB unit
number; within SKETCH stripe s of chunk j, 262,144 stripes a chunk, on channel (s + j) mod 16. -/
def stripeChannel (s : State) (region stripe : Nat) : Nat :=
  if region == 5 then (stripe % 262144 + stripe / 262144) % 16 else (stripe + 16 * regionStart s region) % 16

def errChannel (s : State) (e : DramErr) : Nat := stripeChannel s e.region e.stripe

/-- Where the sketch of slot p of a chunk lies, and its tag in a tagged chunk: offset and length in bytes (R390). -/
def Coll.spans (c : Coll) (p : Nat) : List (Nat × Nat) :=
  if c.tagged then
    let slab := p / 32 * (4 * c.w + 64)
    [(slab + p % 32 * (c.w / 8), c.w / 8), (slab + 4 * c.w + 2 * (p % 32), 2)]
  else [(p * (c.w / 8), c.w / 8)]

/-- Whether a 32-byte block of a chunk, by its stripe and its place in it, holds a part of slot p's sketch or tag (R279). -/
def Coll.inBlock (c : Coll) (e : DramErr) (p : Nat) : Bool :=
  let o := e.stripe % 262144 * 256 + e.block * 32
  (c.spans p).any fun x => x.1 < o + 32 && o < x.1 + x.2

/-- Chunks the SKETCH region holds. -/
def sketchChunks (s : State) : Nat := payload (s.reg .DRAM_SKETCH_GIB) (s.reg .DRAM_ECC_SKETCH == 1) / 67108864

/-- Collections that stand, a dropping one among them. -/
def chunksReserved (l : List Coll) : Nat := sumNat (l.map (·.maxChunks))
def nandReserved (l : List Coll) : Nat := sumNat (l.map (·.nandBytes))
def metaReserved (l : List Coll) : Nat := sumNat (l.map (·.metaBytes))

/-! ## Sketches (R395) -/

def mix (z : Nat) : Nat :=
  let z := Nat.xor z (z / 2 ^ 30) * 0xBF58476D1CE4E5B9 % 2 ^ 64
  let z := Nat.xor z (z / 2 ^ 27) * 0x94D049BB133111EB % 2 ^ 64
  Nat.xor z (z / 2 ^ 31)

/-- A binary16 as the binary32 of the same value; an infinity or a NaN as the like. -/
def halfToF32 (h : Nat) : F32 :=
  let s := F.signBit (bitAt h 15)
  let e := bitsOf h 14 10
  let m := bitsOf h 9 0
  if e == 31 then s + F.posInf + m * 2 ^ 13
  else if e == 0 then s + F.pack false m (-24)
  else s + F.pack false (m + 1024) ((e : Int) - 25)

/-- Element d of a vector in FP16. -/
def halfAt (x : Text) (d : Nat) : F32 := halfToF32 (x.getD (2 * d) 0 + 256 * x.getD (2 * d + 1) 0)

/-- Element d of a vector in INT8 or BIN (R395). -/
def intAt (fmt : Nat) (x : Text) (d : Nat) : Int :=
  if fmt == 0 then toSigned 8 (x.getD d 0) else if bitAt (x.getD (d / 8) 0) (d % 8) then 1 else -1

/-- The word that signs the elements of a group of 64 for one bit of the sketch. -/
def signWord (seed b d : Nat) : Nat := mix ((seed + 0x9E3779B97F4A7C15 * (1 + b * 32 + d / 64)) % 2 ^ 64)

/-- The accumulator of one bit over the elements, for INT8 and BIN. -/
def accInt (fmt seed b : Nat) (x : Text) (n : Nat) : Int :=
  (List.range n).foldl (fun acc d =>
    if bitAt (signWord seed b d) (d % 64) then acc + intAt fmt x d else acc - intAt fmt x d) 0

/-- The accumulator of one bit over the elements, for FP16: each step rounds. -/
def accFloat (seed b : Nat) (x : Text) (n : Nat) : F32 :=
  (List.range n).foldl (fun acc d =>
    if bitAt (signWord seed b d) (d % 64) then F.add acc (halfAt x d) else F.sub acc (halfAt x d)) 0

def sketchBit (fmt seed d : Nat) (x : Text) (b : Nat) : Bool :=
  if fmt == 1 then F.lt 0 (accFloat seed b x d) else 0 < accInt fmt seed b x d

/-- Bits as bytes, bit b being bit (b mod 8) of byte b/8 (R390). -/
def packBits (f : Nat → Bool) (w : Nat) : Text :=
  (List.range (w / 8)).map fun j => (List.range 8).foldl (fun a i => if f (8 * j + i) then a + 2 ^ i else a) 0

/-- The sketch of a vector. -/
def sketchOf (fmt d w seed : Nat) (x : Text) : Text := packBits (sketchBit fmt seed d x) w

/-- The first element of an FP16 vector that is a NaN or an infinity. -/
def badHalf (d : Nat) (x : Text) : Option Nat := (List.range d).find? fun i => !F.isFinite (halfAt x i)

/-! ## Slots and side lists -/

/-- a is below b in serial-number order (R393). -/
def seqLt (a b : Nat) : Bool := let d := (b + 2 ^ 32 - a % 2 ^ 32) % 2 ^ 32; 1 ≤ d && d < 2 ^ 31

/-- The side list holds as many entries as it can (R397). -/
def Coll.full (c : Coll) : Bool := 16777216 ≤ c.side.length

/-- The lowest slot that has never been used: slots are listed in ascending order. -/
def lowestUnused (l : List Slot) : Nat := l.foldl (fun n x => if x.idx == n then n + 1 else n) 0

/-- Slots that may be assigned again (R391, R402). -/
def Coll.freed (c : Coll) : List Slot := c.slots.filter fun x => x.free && !x.live && x.use < 16777215

/-- R398: the slot and the use count of a vector that needs a slot. Which freed slot is taken is a free value (log
entry 3). -/
def Coll.assign (c : Coll) (free : Nat) : Option (Nat × Nat) :=
  match c.freed with
  | [] =>
    let i := lowestUnused c.slots
    if i < c.maxChunks * c.e then some (i, 1) else none
  | l =>
    let x := l.getD (free % l.length) (l.headD ⟨0, 0, false, 0, [], 0, 0, [], [], 0, false, true⟩)
    some (x.idx, x.use + 1)

/-- The retired slot record and the delete entry of a slot (R399). -/
def Coll.retire (c : Coll) (x : Slot) : Slot × Side :=
  ({ x with live := false, key := [], vec := [], sketch := List.replicate (c.w / 8) 0, seq := c.nextSeq, free := false },
   { loc := locator c.num x.idx x.use, seq := c.nextSeq, sup := 0, absorbed := 0, tag := x.tag, kind := 3,
     sketch := List.replicate (c.w / 8) 0 })

/-- R84: a collection whose fill reaches 50% is queued for merge. -/
def Coll.queueFull (c : Coll) : Coll :=
  if 8388608 ≤ c.side.length && c.state == 1 && c.merge.isNone then { c with queued := true } else c

/-- Places a slot and its entry: the item that programs them and the collection with them. -/
def placeVec (c : Coll) (x : Slot) (e : Side) (s : State) : State × Item :=
  (s.setColl (c.commit x e).queueFull, .vec c.num x e)

/-- The events of R410: what= by its place in the rule's list. -/
def collEvent (c : Coll) (what : Nat) (s : State) : State :=
  let words := ["created", "dropped", "merge", "merged", "rebuilt", "slots"]
  let f := [("what", Val.c what (words.getD (what - 1) "")), ("gen", .n c.gen)]
  if what == 6 then raiseLimited (0x2C0 + c.num) (sec 1) (fun _ => f) s
  else raiseWith (0x2C0 + c.num) 0 f false 1 s

/-! ## Merges (R402–R405) -/

/-- A change of a collection that is no write: it holds at once, and on NAND with it. -/
def State.bothColls (s : State) (n : Nat) (f : Coll → Coll) : State :=
  let g := fun (c : Coll) => if c.num == n then f c else c
  { s with colls := s.colls.map g, collsDisk := s.collsDisk.map g }

/-- a is b or below it in serial-number order. -/
def seqLe (a b : Nat) : Bool := a == b || seqLt a b

/-- The chunk of a locator's slot. -/
def Coll.chunkOf (c : Coll) (loc : Nat) : Nat := locSlot loc / c.e

/-- Merges that run. -/
def mergesRunning (s : State) : Nat :=
  (s.colls.filter fun c => match c.merge with | some m => !m.stopped | none => false).length

/-- A merge that holds a spare chunk. -/
def Merge.holds (m : Merge) : Bool := !m.stopped && !m.waiting && !(m.chosen.isEmpty && m.built.isEmpty)

/-- Spare chunks that no merge holds, of the 4 (R386, R409). -/
def sparesFree (s : State) : Nat :=
  4 - (s.colls.filter fun c => match c.merge with | some m => m.holds | none => false).length

/-- A chunk whose generation trails the collection's by 2^30 or more (R402, R405). -/
def Coll.trails (c : Coll) (k : Chunk) : Bool :=
  2 ^ 30 ≤ (c.gen + 2 ^ 32 - k.gen % 2 ^ 32) % 2 ^ 32 && seqLt k.gen c.gen

/-- The chunks that a merge up to M rewrites, ascending (R402, step 2). -/
def Coll.mergeChunks (c : Coll) (m : Nat) : List Nat :=
  (List.range (max c.maxChunks c.chunks.length)).filter fun j =>
    (c.side.any fun e => seqLe e.seq m && c.chunkOf e.loc == j) || (c.chunks.any fun k => k.num == j && c.trails k)

def chunkSlotPut (l : List ChunkSlot) (x : ChunkSlot) : List ChunkSlot :=
  match l with
  | [] => [x]
  | y :: ys => if y.place == x.place then x :: ys else if x.place < y.place then x :: y :: ys else y :: chunkSlotPut ys x

def chunkPut (l : List Chunk) (x : Chunk) : List Chunk :=
  match l with
  | [] => [x]
  | y :: ys => if y.num == x.num then x :: ys else if x.num < y.num then x :: y :: ys else y :: chunkPut ys x

def chunkGet (l : List Chunk) (j : Nat) : Option Chunk := l.find? fun k => k.num == j

/-- The new content of a chunk: for each slot the latest entry with sequence up to M; a delete frees the slot (R402,
step 3). -/
def Coll.buildChunk (c : Coll) (g m j : Nat) : Chunk :=
  let old := ((chunkGet c.chunks j).map (·.slots)).getD []
  let slots := (c.side.filter fun e => seqLe e.seq m && c.chunkOf e.loc == j).foldl (fun l e =>
    let p := locSlot e.loc % c.e
    if e.kind == 3 then l.filter fun x => x.place != p else chunkSlotPut l ⟨p, e.loc, e.tag, e.sketch⟩) old
  { num := j, gen := g, loaded := true, slots := slots }

/-- R402, step 4: the last chunk has switched: slots whose vectors are gone may be assigned again. A side list that reached
50% meanwhile is queued (R84). -/
def Coll.finishMerge (c : Coll) (m : Merge) : Coll :=
  Coll.queueFull { c with
    gen := m.g, state := 1, merge := none
    slots := c.slots.map fun x => if !x.live && seqLe x.seq m.m then { x with free := true } else x }

/-- R403: the chunks that were built switch; the entries they were built from are absorbed and leave the side list. -/
def Coll.switch (c : Coll) : Coll :=
  match c.merge with
  | none => c
  | some m =>
    let c' := { c with
      chunks := m.built.foldl chunkPut c.chunks
      side := c.side.filter fun e => !(seqLe e.seq m.m && m.built.any fun k => k.num == c.chunkOf e.loc) }
    let m := { m with built := [], done := m.done + m.built.length }
    if m.chosen.isEmpty then c'.finishMerge m else { c' with merge := some m }

/-- A merge stopped where it stands: what had not switched is built again (R404). -/
def Coll.abandonMerge (c : Coll) : Coll :=
  match c.merge with
  | none => c
  | some m =>
    let again := (List.range (max c.maxChunks c.chunks.length)).filter fun j =>
      m.chosen.any (· == j) || m.built.any fun k => k.num == j
    { c with
      state := if c.state == 2 then 1 else c.state
      merge := some { m with chosen := again, built := [], waiting := false, stopped := true } }

def abandonMerges (s : State) : State :=
  { s with colls := s.colls.map Coll.abandonMerge, collsDisk := s.collsDisk.map Coll.abandonMerge }

/-- A merge takes a spare chunk, or waits for one, which is told once (R404). -/
def takeSpare (n : Nat) (m : Merge) (s : State) : State :=
  let none_ := sparesFree s == 0
  let s := s.bothColls n fun c => { c with merge := some { m with waiting := none_ } }
  if none_ then raise 0x300 [("coll", .n n)] s else s

/-- R402: a merge starts, where a published entry or a trailing chunk gives it work. -/
def startMerge (n : Nat) (s : State) : State :=
  match s.coll n with
  | none => s
  | some c =>
    let upTo := if c.pub == 1 then 2 ^ 32 - 1 else (c.pub + 2 ^ 32 - 1) % 2 ^ 32
    let chosen := c.mergeChunks upTo
    if c.state != 1 || c.merge.isSome || chosen.isEmpty then s
    else
      let m : Merge := { g := nextSide c.gen, m := upTo, chosen := chosen, built := [], done := 0, total := chosen.length,
                         waiting := true, stopped := false }
      let s := s.bothColls n fun c => { c with state := 2, queued := false, merge := some m }
      takeSpare n m (collEvent c 3 s)

/-- Merges that were stopped go on: at entry to M4 or M9, and after a Sunrise (R404). -/
def resumeMerges (s : State) : State :=
  s.colls.foldl (fun s c =>
    match c.merge with
    | some m =>
      if m.stopped && c.state == 1 then
        let m := { m with stopped := false, waiting := true }
        takeSpare c.num m (s.bothColls c.num fun c => { c with state := 2, merge := some m })
      else s
    | none => s) s

/-- After the switches of one collection: the merge is over, stops in Evening, or takes its next spare chunk (R404). -/
def afterSwitch (c : Coll) (s : State) : State :=
  match (s.coll c.num).bind (·.merge) with
  | none => match s.coll c.num with | some c => collEvent c 4 s | none => s
  | some m =>
    if s.mode == .M8 then s.bothColls c.num fun c => { c with state := 1, merge := some { m with stopped := true } }
    else
      let m := { m with waiting := true }
      takeSpare c.num m (s.bothColls c.num fun c => { c with merge := some m })

/-- A merge that waits goes on once a spare chunk is free; in Evening it stops. -/
def wakeWaiting (s : State) : State :=
  s.colls.foldl (fun s c =>
    match c.merge with
    | some m =>
      if !m.waiting || m.stopped then s
      else if s.mode == .M8 then s.bothColls c.num fun c => { c with state := 1, merge := some { m with stopped := true, waiting := false } }
      else if 0 < sparesFree s then s.bothColls c.num fun c => { c with merge := some { m with waiting := false } }
      else s
    | none => s) s

/-- R403: every chunk switch that waits takes effect. -/
def switchChunks (s : State) : State :=
  wakeWaiting (s.colls.foldl (fun s c =>
    match c.merge with
    | some m =>
      if m.built.isEmpty || m.stopped then s
      else afterSwitch c (s.bothColls c.num Coll.switch)
    | none => s) s)

/-! ## A rebuild (R407, R408) -/

/-- The record of a slot as a chunk holds it. -/
def Slot.entry (c : Coll) (x : Slot) : ChunkSlot := ⟨x.idx % c.e, locator c.num x.idx x.use, x.tag, x.sketch⟩

/-- Assigned slots reach below a number (R407). -/
def Coll.topSlot (c : Coll) : Nat := c.slots.foldl (fun n x => max n (x.idx + 1)) 0

/-- The main array written anew from the slot records, the whole side list absorbed. -/
def Coll.rewritten (c : Coll) (g : Nat) : Coll :=
  let n := (c.topSlot + c.e - 1) / c.e
  { c with
    gen := g, state := 1, merge := none, queued := false, side := []
    slots := c.slots.map fun x => if x.live then x else { x with free := true }
    chunks := (List.range n).map fun j =>
      { num := j, gen := g, loaded := true, slots := (c.slots.filter fun x => x.live && x.idx / c.e == j).map (Slot.entry c) } }

/-- A slot re-sketched for the collection's width and seed (R395). -/
def Coll.resketch (c : Coll) (x : Slot) : Slot :=
  if x.live then { x with sketch := sketchOf c.fmt c.d c.w c.seed x.vec } else x

end Sys2Proof.Machine
end

