-- ==== Sys2Proof/Machine/LoopCore.lean ====
section
/-! DEFINITION. The loop die as the other parts see it: its configuration in force, what it derives from it, each of
its fields as it reads (chapters 6 to 9), its events while the bridge is down, the watch novelty bits. -/

namespace Sys2Proof.Machine

/-- Whether a field belongs to the loop die (R144, R178, R198, R212): a field of ISL, FE, CAL or HART that its table
does not mark core. -/
def Param.onLoop (p : Param) : Bool :=
  (p.info.blk == .ISL || p.info.blk == .FE || p.info.blk == .CAL || p.info.blk == .HART) && !p.info.core

/-- Whether a field is held in MTP (R153, R178). -/
def Param.isMtp (p : Param) : Bool := p.onLoop && (p.info.mtp || (p.info.blk == .FE && p.info.acc == .RW))

/-! ## The configuration in force -/

/-- t_out in tenths of a millisecond (Table 7.3). -/
def outTenths (rate : Nat) : Nat := [1000, 500, 200, 100, 50, 25].getD rate 25

/-- Outputs per second (Table 7.3). -/
def outRate (rate : Nat) : Nat := [10, 20, 50, 100, 200, 400].getD rate 400

/-- The excitation frequency in Hz (Table 7.1). -/
def excHz (code : Nat) : Nat := 256 * 2 ^ code

/-- Suppressed outputs S (Table 7.3). -/
def suppressed_ (filt iirMs rate : Nat) : Nat :=
  match filt with
  | 0 => 3
  | 1 => 5
  | _ => 5 + (6908 * iirMs + 100 * outTenths rate - 1) / (100 * outTenths rate)

def Loop.tOut (l : Loop) : Nat := outTenths (l.reg .FE_RATE)
def Loop.supp (l : Loop) : Nat := suppressed_ (l.reg .FE_FILT) (l.reg .FE_IIR_MS) (l.reg .FE_RATE)

/-- T_settle in ms, rounded up (R171). -/
def Loop.settleMs (l : Loop) : Nat := ((l.supp + 1) * l.tOut + 9) / 10

def Loop.isLvdt (l : Loop) : Bool := l.reg .FE_PV_MODE == 1

/-- Whether path B measures an auxiliary input (R165). -/
def Loop.auxOn (l : Loop) : Bool := !l.isLvdt && l.reg .FE_AUX_EN == 1

/-- A quantity as a field of `w` bits reads it; beyond its width the spec states no value (log entry 3). -/
def narrowed (w v : Nat) : Nat := if v < 2 ^ w then v else Config.unstated 0 v % 2 ^ w

/-! ## Faults and causes -/

/-- Whether a fault is a PV fault (R177): one of path A, path E or, in LVDT mode, path B. -/
def Loop.isPvFault (l : Loop) (f : FaultSt) : Bool :=
  match f.code with
  | 4 | 5 => f.ch == l.reg .FE_PV_CH || (l.isLvdt && f.ch == l.reg .FE_PV_CH + 1) || f.ch == 4
  | 6 => f.ch == 8 || f.ch == 9 || (l.isLvdt && f.ch == 11)
  | _ => true

def Loop.faultsActive (l : Loop) : List FaultSt := l.fe.faults.filter (·.active)
def Loop.pvFaults (l : Loop) : List FaultSt := l.faultsActive.filter l.isPvFault
def Loop.pvFault (l : Loop) : Bool := !l.pvFaults.isEmpty

/-- Whether a PV fault holds the PV (R177, HOLD). -/
def Loop.holding (l : Loop) : Bool := l.pvFault && l.reg .FE_FAULT_ACT == 1

/-- Whether a PV fault acts as FAIL (R177). -/
def Loop.faultFails (l : Loop) : Bool :=
  l.pvFault && (l.reg .FE_FAULT_ACT == 2 || (l.reg .FE_FAULT_ACT == 1 && l.fe.holdFail))

/-- The active causes of Table 6.4. Cause 5 is the source MAIN's, and waits while the other source acts (log entry 22). -/
def Loop.activeCauses (l : Loop) : List Nat :=
  (if l.started && !l.otp.ok then [1] else []) ++ (if bitAt l.causes 2 then [2] else [])
    ++ (if l.faultFails then [3] else []) ++ (if bitAt l.causes 4 then [4] else [])
    ++ (if l.src == 1 && bitAt l.causes 5 then [5] else [])

/-- What ends start-up (R138): the first valid PV, a failed check, or the timeout of the source. -/
def Loop.startEnds (l : Loop) : Bool :=
  l.yOk || !l.otp.ok || bitAt l.causes 2 || (l.src == 0 && bitAt l.causes 4) || (l.src == 1 && bitAt l.causes 5)

/-- Whether the outputs are not valid (R168, R171). -/
def Loop.stale (l : Loop) : Bool := l.fe.valid == 0 || l.fe.lastBad

/-- The flags of ISL.PV_STATUS (Table 6.5). BACKFILL is set on a stored sample alone. -/
def Loop.status (l : Loop) : Nat :=
  l.stale.toNat + 2 * l.pvFault.toNat + 4 * (l.row == 4).toNat + 8 * l.satLow.toNat + 16 * l.satHigh.toNat
    + 32 * (l.reg .ISL_FIX_UA != 0).toNat + 64 * (l.reg .ISL_LOOP_CUR_EN == 0).toNat
    + 128 * (l.src == 1).toNat + 256 * l.fe.limited.toNat + 512 * (l.reg .CAL_FORCED != 0).toNat
    + 1024 * (l.reg .ISL_PHASE_LOCK == 1).toNat + 4096 * l.aux.toNat

/-- FE.STATUS (Table 7.6). -/
def Loop.feStatus (l : Loop) : Nat :=
  (List.range 7).foldl (fun v k => if l.faultsActive.any (·.code == k + 1) then setBit v (8 + k) else v)
    (l.stale.toNat + 2 * l.fe.limited.toNat)

/-- The factory offset and gain of a mode and gain code (Table 8.1): BRIDGE 0, LVDT 1, ACV 2. -/
def Loop.fOfs (l : Loop) (mode gain : Nat) : F32 := l.otp.ofs.getD (4 * mode + gain) 0
def Loop.fGain (l : Loop) (mode gain : Nat) : F32 := l.otp.gain.getD (4 * mode + gain) F.one

/-! ## The fields as they read -/

/-- A field of the loop die as it stands there. -/
def Loop.get (l : Loop) (p : Param) (i : Nat := 0) : Nat :=
  match p with
  | .ISL_SUPPLY => l.aux.toNat
  | .ISL_LOOP_OK => l.loopOk.toNat
  | .ISL_WP => l.wp.toNat
  | .ISL_CFG_VALID => (!bitAt l.causes 2).toNat
  | .ISL_FAIL_ACTIVE => (l.cause != 0).toNat
  | .ISL_FAIL_CAUSE => l.cause
  | .ISL_LOOP_SET_UA => F.roundSat l.setF 65535
  | .ISL_PV => l.y
  | .ISL_PV_STATUS => l.status
  | .ISL_BUF_FILL => l.buf.length
  | .ISL_SEQ => if l.seq32 == 0 then 0 else (l.seq32 - 1) % 2 ^ 32
  | .FE_STATUS => l.feStatus
  | .FE_EXC_NOW_MV => l.fe.aNow
  | .FE_S => narrowed 8 l.supp
  | .FE_SETTLE_MS => narrowed 16 l.settleMs
  | .FE_AUX_RESULT | .CAL_R_AUX => if l.isLvdt then F.nan else l.reg p
  | .CAL_SAVED => l.saved.isSome.toNat
  | .CAL_F_VALID => l.otp.ok.toNat
  | .CAL_LOOP_M4_UA => (l.pend4.map (·.1)).getD 0
  | .CAL_LOOP_M20_UA => (l.pend20.map (·.1)).getD 0
  | .CAL_F_OFS => l.fOfs (l.reg .FE_PV_MODE) (l.reg .FE_PV_GAIN)
  | .CAL_F_GAIN => l.fGain (l.reg .FE_PV_MODE) (l.reg .FE_PV_GAIN)
  | .CAL_F_LGAIN => l.otp.lgain
  | .CAL_F_LOFS => l.otp.lofs
  | .CAL_SC_TABLE => if i / 2 < l.reg .CAL_SC_N then l.reg .CAL_SC_TABLE i else 0
  | .HART_DEV_ID => l.otp.devId
  | .HART_NOVELTY => l.hart.novelty
  | .HART_MASTERS => l.hart.heard
  | p => l.reg p i

/-- How many instances and words a field has. -/
def Param.span (p : Param) : Nat := p.info.count * p.info.words

/-- The fields of the loop die as they stand, those at their reset value left out. -/
def Loop.snapshot (l : Loop) : List Cell :=
  ([Block.ISL, .FE, .CAL, .HART].flatMap Block.params).foldl (fun cells p =>
    if p.onLoop then
      (List.range p.span).foldl (fun cells i => cellsSet cells p.info.reset p i (l.get p i)) cells
    else cells) []

/-! ## Events of the loop die -/

/-- An event latched in the loop die, with a counter that saturates at 255 (R146). -/
def latchLd (l : List LdEvent) (id : Nat) (fields : List (String × Val)) : List LdEvent :=
  match l with
  | [] => [⟨id, 1, fields⟩]
  | e :: es => if e.id == id then ⟨id, min 255 (e.count + 1), fields⟩ :: es else e :: latchLd es id fields

/-- A raise by the loop die: at once while the bridge is UP, else latched there (R146). -/
def ldRaise (id : Nat) (fields : List (String × Val)) (s : State) : State :=
  if s.noLoop then s
  else if s.bridge.link == 2 then raise id fields s
  else { s with loop := { s.loop with latched := latchLd s.loop.latched id fields } }

def State.setHart (s : State) (h : Hart) : State := { s with loop := { s.loop with hart := h } }

/-- The words of why= of EV 0x3B5: watch, mask, link (R213). -/
def noveltyWhy : Nat → Val
  | 1 => .c 1 "watch"
  | 2 => .c 2 "mask"
  | _ => .c 3 "link"

/-- A novelty bit is cleared, with EV 0x3B5 where it was set (R210, R213). -/
def clearNovelty (w why : Nat) (s : State) : State :=
  if bitAt s.loop.hart.novelty w then
    ldRaise 0x3B5 [("watch", .n w), ("why", noveltyWhy why)]
      (s.setHart { s.loop.hart with novelty := clearBit s.loop.hart.novelty w })
  else s

/-- The core die asks over the bridge for a bit to clear; while the bridge is not UP there is none to clear (R202,
R210). -/
def clearNoveltyOver (w why : Nat) (s : State) : State := if s.bridge.link == 2 then clearNovelty w why s else s

/-- A watch raises its novelty event; a bit that it newly sets is told (R210, R213). -/
def raiseNovelty (w : Nat) (fields : List (String × Val)) (s : State) : State :=
  let was := bitAt s.loop.hart.novelty w
  let s := raise (0x330 + w) fields s
  if bitAt s.loop.hart.novelty w && !was then ldRaise 0x3B4 [("watch", .n w)] s else s

/-! ## The bridge going down -/

/-- The answer to a unit; the debug port receives none. -/
def answerUnit (r : Option Route) (code : Nat) (kv : List (String × Val)) (s : State) : State :=
  match r with
  | some r => lateReply r code kv s
  | none => s

/-- Writes that wait for their acknowledgement fail (R144). -/
def failUnits (s : State) : State :=
  let units := s.bridge.units
  units.foldl (fun s u => answerUnit u.route 303 [("link", .w "lost")] s)
    { s with bridge := { s.bridge with units := [] } }

/-- The bridge is down at the core-die end: what waits fails, and a pending sync is cancelled (R41, R144). -/
def coreEndDown (s : State) : State :=
  cancelSync (failUnits { s with bridge := { s.bridge with link := 0, arrived := [], fill := [], asked := false } })

end Sys2Proof.Machine
end

