-- ==== Sys2Proof/Machine/SweepCore.lean ====
section
/-! DEFINITION. Watches and recall jobs as other chapters touch them (R388, R436, R439, R442). -/

namespace Sys2Proof.Machine

def watchGet (s : State) (n : Nat) : Option Watch := s.sweep.watches.find? fun w => w.n == n

def watchPut (l : List Watch) (x : Watch) : List Watch :=
  match l with
  | [] => [x]
  | y :: ys => if y.n == x.n then x :: ys else if x.n < y.n then x :: y :: ys else y :: watchPut ys x

def State.setWatch (s : State) (w : Watch) : State := { s with sweep := { s.sweep with watches := watchPut s.sweep.watches w } }

/-- The queries of some askers leave wherever they wait or run. -/
def dropAskers (gone : Asker → Bool) (s : State) : State :=
  let keep := fun (q : Query) => !gone q.asker
  let s := s.setRerank (s.sweep.rerank.filter fun r => keep r.q)
  { s with sweep := { s.sweep with
      forming := s.sweep.forming.filterMap fun f =>
        let l := f.queries.filter keep
        if l.isEmpty then none else some { f with queries := l }
      running := s.sweep.running.map fun b => { b with queries := b.queries.filter keep }
      exact := s.sweep.exact.map fun b => { b with queries := b.queries.filter keep } } }

/-- The words of what= of EV 0x328 + n. -/
def watchWhat : Nat → Val
  | 1 => .c 1 "defined"
  | 2 => .c 2 "changed"
  | _ => .c 3 "removed"

/-- A watch's novelty goes with its definition: the latch of its event, the pin and the HART bit (R439, R210, Table
19.4). -/
def forgetNovelty (n : Nat) (s : State) : State := clearNoveltyOver n 1 (clearLatch (0x330 + n) s)

/-- A watch is removed (R436). -/
def removeWatch (n : Nat) (s : State) : State :=
  match watchGet s n with
  | none => s
  | some _ =>
    let s := dropAskers (fun a => a == .watch n) { s with sweep := { s.sweep with watches := s.sweep.watches.filter fun w => w.n != n } }
    raise (0x328 + n) [("what", watchWhat 3)] (forgetNovelty n s)

/-- The watches of a collection go with it (R388). -/
def dropWatches (coll : Nat) (s : State) : State :=
  (s.sweep.watches.filter fun w => w.coll == coll).foldl (fun s w => removeWatch w.n s) s

def isRecall : Asker → Bool
  | .recallA _ => true
  | .recallX _ => true
  | _ => false

/-- A recall job stops, with its reason: 1 mode, 2 dropped, 3 rebuilding (R442). -/
def stopRecall (reason : Nat) (s : State) : State :=
  match s.sweep.recallJob with
  | none => s
  | some j =>
    let words := ["mode", "dropped", "rebuilding"]
    let s := dropAskers isRecall { s with sweep := { s.sweep with recallJob := none } }
    raise 0x315 [("job", .n j.num), ("reason", .c reason (words.getD (reason - 1) ""))] s

def stopRecallOf (coll reason : Nat) (s : State) : State :=
  if (s.sweep.recallJob.map (·.coll)) == some coll then stopRecall reason s else s

end Sys2Proof.Machine
end

