-- ==== Sys2Proof/Machine/Day.lean ====
section
/-! DEFINITION. Moving between modes, the drain, the Dusk queue, Small Hours, and the Almanac (chapter 4; R52,
R53). -/

namespace Sys2Proof.Machine

/-! ## Entering the modes of service -/

/-- Whether search work waits for the lanes or runs on them. -/
def searchWork (s : State) : Bool := !s.sweep.forming.isEmpty || s.sweep.running.isSome

/-- A sweep domain as a mode wants it: switched on, or its gating decided (R44). -/
def wantDomain (d : Nat) (on : Bool) (s : State) : State := if on then switchOn d s else switchOff d s

/-- The domains of a service mode (Table 4.1). Those of M4 stay on through M4 to M9; the sweep lanes come on, or are gated as
they empty. In M7 PD7 is on while search work exists, and PD8 stays as it is until the throttle decides (log entry 99); M8
keeps what it finds. -/
def serviceDomains (m : Mode) (s : State) : State :=
  match m with
  | .M8 => s
  | .M7 => wantDomain 7 (searchWork s) s
  | m =>
    let s := { s with pwr := { s.pwr with on := [0, 1, 2, 3, 4, 5, 6, 9, 10].foldl setBit s.pwr.on, gating := clearBit s.pwr.gating 9 } }
    wantDomain 8 (bitAt (m.domains 0) 8 && s.day.t < 8) (wantDomain 7 (bitAt (m.domains 0) 7) s)

/-- A backfill is due (R149, R151): what the loop die still holds goes into namespace 1 before any later sample. -/
def dueBackfill (s : State) : State :=
  { s with bridge := { s.bridge with backfill := true, asked := false, fill := [], stored := 0, overlap := 0 } }

/-- Entry to a mode of service. At M4 the dirty limit is computed (R86). The three ticks of demand of R80 count on across the
moves that the Almanac makes. -/
def enterService (m : Mode) (s : State) : State :=
  let was := s.mode
  let stay := m4to7.any (· == was)
  let s := enterMode m s
  let s := { s with day := { s.day with upTicks := if stay then s.day.upTicks else 0, downTicks := 0, capTicks := 0,
                                        t := if m == .M7 then s.day.t else 0 } }
  let s := serviceDomains m s
  let s := if m4to7.any (· == m) && !stay then dueBackfill s else s
  if m == .M4 then resumeMerges (stopRecall 1 (recomputeLimit s)) else s

/-! ## MODE verbs (R70–R73) -/

def vModeShow : Verb := showVerb "MODE.SHOW" anyMode

/-- R504. -/
def doModeShow (l : Line) (s : State) : State :=
  gate vModeShow l (fun s =>
    done l.route [("mode", .w s.mode.text), ("target", .w s.day.target.text), ("t", .n s.day.t),
      ("reason", .n (s.reg .GOV_LAST_REASON)), ("pin", .n (s.reg .GOV_PIN))] s) s

def execModeShow (l : Line) (s : State) : Out := .next (doModeShow l s)

/-- The target a word of MODE.SET names, with the level it needs (R70). -/
def modeTarget (w : Text) : Option (Mode × Nat) :=
  if w == txt "morning" then some (.M4, 1)
  else if w == txt "evening" then some (.M8, 1)
  else if w == txt "dusk" then some (.M9, 1)
  else if w == txt "small-hours" then some (.M1, 2)
  else if w == txt "midnight" then some (.M0, 2)
  else none

def vModeSet (l : Line) : Verb :=
  { name := "MODE.SET", modes := m4to9, level := ((modeTarget (l.text "mode")).map (·.2)).getD 1, changes := true,
    loop := false,
    args := [⟨"mode", true, .word ["morning", "evening", "dusk", "small-hours", "midnight"]⟩, ⟨"abort", false, .num 0 1⟩] }

/-- The number of the job that runs in Dusk. -/
def runningJob (s : State) : Option Nat := (s.day.queue.find? (·.running)).map (·.num)

/-- The drain begins: M8 with its target (R71). The spec does not say what becomes of the throttle level: `t` stays as it is
through M8, and goes on from there in M9 (log entry 100). -/
def startDrain (target : Mode) (s : State) : State :=
  stopRecall 1 (enterMode .M8 { s with day := { s.day with target := target, drainFrom := s.now, abortTo := none } })

/-- What an accepted MODE.SET does (R70, R71, R73). From M5 to M7 the Almanac makes the move to Morning, so the
block is there already (log entry 16). -/
def modeSet (l : Line) (target : Mode) (s : State) : State :=
  let r := l.route
  let m := s.mode
  let kv := [("mode", Val.w m.text), ("target", Val.w target.text)]
  if target == m || (target == .M4 && (m == .M5 || m == .M6 || m == .M7)) then done r kv s
  else if m == .M8 then
    let s := reply r 1 kv s
    if target == .M4 then enterService .M4 { s with day := { s.day with target := .M4 } }
    else { s with day := { s.day with target := target } }
  else if m == .M9 then
    match runningJob s with
    | some j =>
      if l.flag "abort" then
        { reply r 1 kv s with day := { (reply r 1 kv s).day with abortTo := some target } }
      else (reply r 202 [("job", .n j), ("ms", .n s.free)] s).tick
    | none =>
      let s := reply r 1 kv s
      if target == .M4 then enterService .M4 { s with day := { s.day with target := .M4 } } else startDrain target s
  else startDrain target (reply r 1 kv s)

def doModeSet (l : Line) (s : State) : State :=
  gate (vModeSet l) l (fun s => match modeTarget (l.text "mode") with | some (t, _) => modeSet l t s | none => s) s

/-- R70. -/
def execModeSet (l : Line) (s : State) : Out := .next (doModeSet l s)

/-! ## Small Hours (R52, R53) -/

/-- Commits that wait are discarded as the block leaves M4 to M9; their routes receive no reply (R531). -/
def dropCommits (s : State) : State :=
  let waits := (s.day.commits.filter fun c => !c.drain).map (·.route)
  let s := waits.foldl (fun s r => if s.routes.any (fun x => x.route == r) then freeBusy r s else s) s
  { s with day := { s.day with commits := [] } }

/-- What the loss of the core, its port power and the array's key inputs empties on the way to M1 (R43, R52). -/
def coreEmptied (s : State) : State :=
  { s with
    mem := { s.mem with imageM1 := true }
    sweep := { s.sweep with cache := [] }
    net := { s.net with port0 := Port.reset, port1 := Port.reset }
    assoc := { s.assoc with withdrawn := setBit s.assoc.withdrawn s.assoc.straps } }

/-- The domains of M1 as they stand once it is entered, with groups 0, 2 and 3 enabled; PD0 counts REFCLK from here on (R27,
R43, R51, R52). -/
def smallHoursPower (s : State) : State :=
  { s with
    pwr := { s.pwr with on := 1, ready := 1, gating := 0, ret := 0x026, pd8Due := false, en := 0x0D,
                        pgSeen := s.pwr.pgSeen &&& 0x0D, waking := false }
    clk := { s.clk with refSub := 0, refCount := 0 } }

/-- The way into M1: everything dirty is programmed, the array's image is in DRAM, sessions close, the domains are
gated or retained, and the block withdraws from the cascade. -/
def enterSmallHours (s : State) : State :=
  smallHoursPower (enterMode .M1 (coreEndDown (coreEmptied (holdPins (dropCommits (abandonMerges (closeAll (persistAll s))))))))

/-- Nothing that the drain waits for is left: no admitted request, no query, no cascade search (R71). -/
def drained (s : State) : Bool :=
  s.sess.all (fun x => x.admitted.isEmpty) && s.sweep.forming.isEmpty && s.sweep.running.isNone &&
    s.sweep.exact.isNone && s.sweep.rerank.isEmpty && s.assoc.reqs.isEmpty

/-- The move to the target once the drain is complete (R49, R69, R71). -/
def leaveEvening (s : State) : State :=
  match s.day.target with
  | .M1 => enterSmallHours s
  | .M0 =>
    let s := dropCommits (closeAll s)
    powerDown { s with pwr := { s.pwr with causeHeld := false } }
  | .M9 =>
    let s := enterMode .M9 s
    resumeMerges (serviceDomains .M9 { s with day := { s.day with capTicks := 0, capRaised := false } })
  | _ => s

/-- Whether the drain of M8 runs: an alarm or a power-fail transition ends it (R72). -/
def draining (s : State) : Bool := s.runsIn .M8 && !s.sec.recordDue

/-- R71: admitted work is complete; dirty data is persisted; the block moves on. -/
def execDrainComplete (s : State) : Out :=
  .next (if draining s && drained s then leaveEvening (persistAll s) else s)

/-- Entry to M1 once the drain toward it is complete. -/
def execSmallHoursEntry (s : State) : Out :=
  .next (if draining s && s.day.target == .M1 && drained s then enterSmallHours s else s)

/-- The retry time of a request cut off by the drain limit: the time to the scheduled wake, or 0 where none is scheduled: toward
M9, or with wake bit 2 clear (R54, R71). -/
def drainRetry (s : State) : Nat :=
  let scheduled := (s.day.target == .M0 || s.day.target == .M1) && bitAt (s.reg .PWR_WAKE_EN) 2
  if !scheduled || wakeAt s ≤ s.clk.tai || !s.clk.valid then 0 else sat 32 ((wakeAt s - s.clk.tai) / 1000)

/-- Answers every admitted request of the sessions with 202 (R71). -/
def answerAllBusy (retry : Nat) (s : State) : State :=
  (s.sess.flatMap fun x => x.admitted.map fun a => (x.num, a.id, a.op)).foldl
    (fun s (n, id, op) => respond n id op 202 (detailBusy retry 0) 0 s) s

/-- Routes whose SRCH.NEAR or cascade search still runs. -/
def waitingLines (s : State) : List Route :=
  let qs := s.sweep.forming.flatMap (·.queries) ++ (s.sweep.running.elim [] (·.queries)) ++
    (s.sweep.exact.elim [] (·.queries)) ++ s.sweep.rerank.map (·.q)
  (qs.filterMap fun q => match q.asker with | .line r => some r | _ => none)
    ++ (s.assoc.reqs.filter fun x => x.verb != "").map (·.route)

/-- R71: the drain limit passes: 202 to everything unanswered, EV 0x00C, the persistence goes on. -/
def execDrainTimeout (s : State) : Out :=
  .next
    (if !draining s then s
     else
       let retry := drainRetry s
       let s := (waitingLines s).foldl (fun s r => lateReply r 202 [("retry_us", .n retry)] s) s
       let s := answerAllBusy retry s
       raise 0x00C [] (persistAll (clearQueries s)))

/-- R53: a wake in M1 has brought every group back, and the domains follow. BEAT goes on from its stored value by 60 for each
REFCLK cycle counted (R27). With a good image the array is back; without one the policy banks are reloaded, the user banks
are invalid and EV 0x346 is raised (R52, R469). -/
def execSmallHoursResume (imageOk : Bool) (s : State) : Out :=
  .next
    (if s.mode != .M1 || !s.pwr.waking || s.pwr.held || s.pwr.seq != .idle || !((List.range 6).all (groupGood s)) then s
     else
       let s := { s with pwr := { s.pwr with waking := false }, day := { s.day with target := .M4 }
                         clk := { s.clk with beat := (s.clk.beat + 60 * s.clk.refCount) % 2 ^ 64, refSub := 0, refCount := 0 } }
       let s := enterService .M4 s
       let s := domainsReady (setDomains (Mode.domains .M4 0) s)
       if imageOk && s.mem.imageM1 then s
       else
         raise 0x346 [] { s with assoc := { s.assoc with entries := s.assoc.policy, policyState := 1, cursors := [] } })

/-! ## The Dusk queue (R73) -/

/-- A job at the end of the queue; it answers the job's number (R73). -/
def queueJob (k : JobKind) (coll : Nat) (set : List Staged) (s : State) : State × Nat :=
  let n := s.day.nextJob
  ({ s with day := { s.day with queue := s.day.queue ++ [⟨n, k, coll, set, false, 0⟩], nextJob := n + 1 } }, n)

def dropJob (n : Nat) (s : State) : State :=
  { s with day := { s.day with queue := s.day.queue.filter fun j => j.num != n } }

/-! ## The Almanac (R79–R89) -/

/-- Queries that wait for a batch (Table 4.5). -/
def queueDepth (s : State) : Nat := sumNat (s.sweep.forming.map fun f => f.queries.length)

def tempNow (s : State) : Int := toSigned 8 (s.reg .PWR_TEMP_MAX_C)
def overCap (s : State) : Bool := s.reg .GOV_PCAP_MW < s.reg .PWR_P_CORE_MW

/-- `over` and `under` of R80. No temperature is read before the sensors have been, after M0 or M1 (R62). -/
def tempHot (s : State) : Bool := s.pwr.tempFresh && (s.reg .GOV_TEMP_HI_C : Int) ≤ tempNow s
def isOver (s : State) : Bool := overCap s || tempHot s
def isUnder (s : State) : Bool :=
  s.reg .PWR_P_AVG_MW ≤ s.reg .GOV_PCAP_MW * 95 / 100 && s.pwr.tempFresh &&
    tempNow s ≤ (s.reg .GOV_TEMP_HI_C : Int) - 10

/-- A move of the Almanac: EV 0x3F0 and its reason (R89). -/
def almanacMove (m : Mode) (reason : Nat) (s : State) : State :=
  if m == s.mode then s
  else
    let from_ := s.mode.num
    let s := enterService m s
    raise 0x3F0 [("from", .n from_), ("to", .n m.num), ("reason", .c reason (String.ofList (decText reason |>.map Char.ofNat)))]
      (s.setReg .GOV_LAST_REASON reason)

/-- Throttle level set; 16 is told as it is reached. PD8 is gated from level 8 on, and comes back below it in M9 and where M7 was
entered from M6 (R81, R82; log entry 99). -/
def setThrottle (t : Nat) (s : State) : State :=
  let was := s.day.t
  let s := { s with day := { s.day with t := t } }
  let s :=
    if 8 ≤ t && was < 8 then switchOff 8 s
    else if t < 8 && 8 ≤ was && (s.mode == .M9 || s.day.base == .M6) then switchOn 8 s
    else s
  if 16 ≤ t && was < 16 then raise 0x3F1 [("t", .n t)] s else s

/-- The mode demand, dwell, pin and bounds select from a mode, with the reason (R80). `up` and `down` are the ticks
for which a condition has held, this one included. -/
def wantMode (m due util : Nat) (s : State) : Nat × Nat × Nat × Nat :=
  let queue := queueDepth s
  let due := if (searchModes s).any (· == .M4) then due else 0
  let upQ := s.reg .GOV_UP_QDEPTH
  let dwell := s.reg .GOV_DWELL_MS / 10
  let upCond := upQ ≤ queue || 90 ≤ util
  let up := if upCond then s.day.upTicks + 1 else 0
  let downCond := (m == 6 && util < s.reg .GOV_DOWN_UTIL_PCT && queue < upQ / 4) || (m == 5 && queue + due == 0)
  let down := if downCond then s.day.downTicks + 1 else 0
  let (want, reason) :=
    if 3 ≤ up then (6, if upQ ≤ queue then 3 else 4)
    else if 0 < queue + due && m == 4 then (5, 1)
    else if m == 6 && downCond && dwell ≤ down then (5, 2)
    else if m == 5 && downCond && dwell ≤ down then (4, 2)
    else (m, 0)
  let (want, reason) :=
    if bitAt (s.reg .GOV_PIN) 0 && s.reg .GOV_PIN_MODE != want then (s.reg .GOV_PIN_MODE, 9) else (want, reason)
  let clamped := max (s.reg .GOV_MODE_MIN) (min (s.reg .GOV_MODE_MAX) want)
  (clamped, if clamped == want then reason else 8, up, down)

/-- The mode that the rule of R80 moves to from mode `m` where it wants `want`: a step up needs headroom, and one refused for want
of it raises EV 0x3FC. Work that is left in re-rank holds off Morning (R13; log entry 101). -/
def grantMode (m want : Nat) (s : State) : State × Nat :=
  if m < want && s.reg .GOV_PCAP_MW < s.reg .PWR_P_AVG_MW + 12000 * (want - m) then
    (raiseLimited 0x3FC (ms 100) (fun _ => [("want", .n want), ("p_avg", .n (s.reg .PWR_P_AVG_MW))]) s, m)
  else if want == 4 && !(s.sweep.rerank.isEmpty && s.sweep.exact.isNone) then (s, max m 5)
  else (s, want)

/-- The move of R80 outside M7. -/
def chooseMode (want reason : Nat) (s : State) : State :=
  let (s, got) := grantMode s.mode.num want s
  if got == s.mode.num then s else almanacMove (Mode.ofNum got) reason s

/-- One more tick over: 100 in a row with a mode pin override the pin, told once; 100 at t = 20 are told once per stay in M7 or
M9 (R81, R82). `full` says that the tick found t at 20. -/
def longOver (full : Bool) (s : State) : State :=
  let s := { s with day := { s.day with overTicks := min (s.day.overTicks + 1) 100, capTicks := if full then min (s.day.capTicks + 1) 100 else 0 } }
  let s :=
    if s.day.overTicks == 100 && bitAt (s.reg .GOV_PIN) 0 && !s.day.pinTold then
      raise 0x3FB [("pin_mode", .n (s.reg .GOV_PIN_MODE))] { s with day := { s.day with pinTold := true } }
    else s
  if s.day.capTicks == 100 && !s.day.capRaised then
    raise 0x3F6 [("p_core", .n (s.reg .PWR_P_CORE_MW)), ("temp", .i (tempNow s))] { s with day := { s.day with capRaised := true } }
  else s

/-- A tick that is not over ends the runs of ticks over. -/
def notOver (s : State) : State := { s with day := { s.day with overTicks := 0, capTicks := 0, pinTold := false } }

/-- Whether a sweep domain is on. -/
def lanesActive (s : State) : Bool := bitAt s.pwr.on 7 || bitAt s.pwr.on 8

/-- One tick of M7 that is not over: t falls while under; once it is 0 and 100 ticks under have passed, the block leaves M7. The
spec does not say which mode the rule starts from there: from the one that M7 was entered from (log entry 102). -/
def afternoonTick (under : Bool) (want : Nat) (s : State) : State :=
  let s := notOver s
  if !under then { s with day := { s.day with underTicks := 0 } }
  else if 0 < s.day.t then setThrottle (s.day.t - 1) s
  else
    let s := { s with day := { s.day with underTicks := min (s.day.underTicks + 1) 100 } }
    if s.day.underTicks == 100 then
      let (s, got) := grantMode s.day.base.num want s
      almanacMove (Mode.ofNum got) 7 s
    else s

/-- One tick of R80 and R82. The ticks of demand are counted in M7 too, since the rule is applied as M7 is left. -/
def throttleTick (due util : Nat) (s : State) : State :=
  let hot := isOver s
  let under := isUnder s
  let m := s.mode
  let (want, reason, up, down) := wantMode (if m == .M7 then s.day.base.num else m.num) due util s
  let s := { s with day := { s.day with upTicks := up, downTicks := down } }
  if m == .M4 || m == .M5 || m == .M6 then
    if hot then
      let t := if lanesActive s then 1 else 16
      let s := { s with day := { s.day with base := m, underTicks := 0, capRaised := false } }
      longOver false (setThrottle t (almanacMove .M7 (if overCap s then 5 else 6) s))
    else chooseMode want reason (notOver s)
  else if m == .M7 then
    let s := serviceDomains .M7 s
    if hot then
      let full := s.day.t == 20
      let s := setThrottle (min (s.day.t + 1) 20) { s with day := { s.day with underTicks := 0 } }
      longOver full s
    else afternoonTick under want s
  else if m == .M9 then
    if hot then
      let full := s.day.t == 20
      longOver full (setThrottle (if s.day.t == 0 then (if lanesActive s then 1 else 16) else min (s.day.t + 1) 20) s)
    else
      let s := notOver s
      if under && 0 < s.day.t then setThrottle (s.day.t - 1) s else s
  else s

/-- The share of R85 from the free figure in thousandths. -/
def gcShare (pinned hostWrites : Bool) (pin lo hi free : Nat) : Nat :=
  if pinned then pin
  else if hi * 10 ≤ free then (if hostWrites then 0 else 25)
  else if lo * 10 < free then 10 + 80 * (hi * 10 - free) / ((hi - lo) * 10)
  else 90

/-- R85: a change of ten points or more raises EV 0x3F4. -/
def gcTick (hostWrites : Bool) (s : State) : State :=
  let share := gcShare (bitAt (s.reg .GOV_PIN) 2) hostWrites (s.reg .GOV_PIN_GC_PCT) (s.reg .GOV_GC_LO_PCT)
    (s.reg .GOV_GC_HI_PCT) s.mem.freePermille
  let old := s.reg .GOV_GC_SHARE_PCT
  let s := s.setReg .GOV_GC_SHARE_PCT share
  if 10 ≤ max share old - min share old then
    raiseLimited 0x3F4 (ms 100) (fun _ => [("share", .n share), ("free", .n (s.mem.freePermille / 10))]) s
  else s

/-- EV 0x3FD as the temperature reaches GOV.TEMP_HI_C. -/
def tempTick (s : State) : State :=
  let hot := tempHot s
  let was := s.day.tempHi
  let s := { s with day := { s.day with tempHi := hot } }
  if hot && !was then raise 0x3FD [("temp", .i (tempNow s))] s else s

/-- R79–R85: one tick of 10 ms. `due` counts watches due within 100 ms, `util` is in %, `free` in thousandths,
`hostWrites` says whether the last tick saw one. -/
def execAlmanacTick (due util free : Nat) (hostWrites : Bool) (s : State) : Out :=
  .next
    (if !s.inService then s
     else
       let quiet := util < s.reg .GOV_MERGE_IDLE_PCT
       let s := { s with day := { s.day with idleTicks := if quiet then s.day.idleTicks + 1 else 0, hostWrites := hostWrites } }
       let s := noteFree free (s.setReg .SWEEP_UTIL_PCT (min util 255))
       gcTick hostWrites (throttleTick due util (tempTick s)))

/-- Associative false hits and shadow mismatches of the last 10 s (Table 4.5). -/
def corrNow (s : State) : Nat := s.assoc.corr + sumNat s.assoc.corrPast

/-- R88: once per second. The period halves while there are false hits or shadow mismatches in the last 10 s, and doubles
after 60 s without one. -/
def execScrubPeriodUpdate (s : State) : Out :=
  .next
    (if !s.inService then s
     else
       let corr := corrNow s
       let old := s.reg .GOV_SCRUB_MS
       let quiet := if corr == 0 then s.day.quietSecs + 1 else 0
       let (new, quiet) :=
         if bitAt (s.reg .GOV_PIN) 3 then (s.reg .GOV_PIN_SCRUB_MS, quiet)
         else if 0 < corr then (max (s.reg .GOV_SCRUB_MIN_MS) (old / 2), 0)
         else if 60 ≤ quiet then (min (s.reg .GOV_SCRUB_MAX_MS) (old * 2), 0)
         else (old, quiet)
       let s := { s with day := { s.day with quietSecs := quiet }
                         assoc := { s.assoc with corr := 0, corrPast := (s.assoc.corr :: s.assoc.corrPast).take 9 } }
       if new == old then s
       else raiseLimited 0x3FA (ms 100) (fun _ => [("period", .n new)]) (s.setReg .GOV_SCRUB_MS new))

/-! ## The writes that move the dirty limit -/

/-- R287: FLASH.HOLDUP_MS is kept in namespace 0 and recomputes the limit at once. -/
def holdupWrite (r : Route) (v : Nat) (s : State) : State :=
  if 200 < v then reply r 103 [("arg", .w "value")] s
  else
    match ns0Write [⟨.FLASH_HOLDUP_MS, 0, v⟩] s with
    | (s, some x) => reply r x.code x.kv s
    | (s, none) => done r [("value", .n v)] (recomputeLimit (s.setReg .FLASH_HOLDUP_MS v))

def execFlashHoldupWrite (route : Route) (v : Nat) (s : State) : Out :=
  .next (writeGate route 1 0xD0000 m4to9 (holdupWrite route v) s)

/-- R275: the limit moves at once; a different number of GiB queues one repartition job, which replaces one that is
queued. -/
def dirtyMaxMoved (s : State) : State :=
  let s := recomputeLimit s
  let gib := max 1 ((s.reg .GOV_DIRTY_MAX_MIB + 1023) / 1024)
  let s := { s with day := { s.day with queue := s.day.queue.filter fun j => j.kind != .repartition || j.running } }
  if gib == s.reg .DRAM_DIRTY_GIB then s else (queueJob .repartition 0 [] s).1

def dirtyMaxWrite (r : Route) (v : Nat) (s : State) : State :=
  if 4096 < v then reply r 103 [("arg", .w "value")] s
  else
    done r [("value", .n v)] (dirtyMaxMoved (s.setReg .GOV_DIRTY_MAX_MIB v))

def execDirtyMaxWrite (route : Route) (v : Nat) (s : State) : Out :=
  .next (writeGate route 1 0x170028 m4to9 (dirtyMaxWrite route v) s)

end Sys2Proof.Machine
end

