-- ==== Sys2Proof/Machine/Secure.lean ====
section
/-! DEFINITION. Life cycle, seeds and vault as data, and what an alarm does (R239–R260): the operations that the
ROM, the logins and the handshakes share. -/

namespace Sys2Proof.Machine

/-! ## Life cycle and seeds -/

/-- The state named by the highest burned fuse of L0 to L3: 0 BLANK to 4 SCRAPPED (R239). -/
def lifeCycle (s : State) : Nat :=
  let f := s.sec.otp.fuses
  if bitAt f 3 then 4 else if bitAt f 2 then 3 else if bitAt f 1 then 2 else if bitAt f 0 then 1 else 0

def lcName : Nat → String
  | 0 => "BLANK" | 1 => "PROVISIONED" | 2 => "DEPLOYED" | 3 => "RETURNED" | _ => "SCRAPPED"

/-- The lowest seed slot that is not revoked (R258). -/
def activeSeed (s : State) : Option Nat := (List.range 8).find? fun n => !bitAt s.sec.otp.revoked n

/-- Seed slots not revoked. -/
def seedsLeft (s : State) : Nat := ((List.range 8).filter fun n => !bitAt s.sec.otp.revoked n).length

/-- The ERASE latch is held, by PD0 or by what the fuses say (R250, R258, R260). -/
def eraseHeld (s : State) : Bool :=
  s.sec.latch == 1 ||
    (lifeCycle s != 0 && lifeCycle s != 3 &&
      match activeSeed s with | none => true | some n => !bitAt s.sec.otp.commissioned n)

/-- The owner entry of a seed slot. -/
def ownerEntry (s : State) (n : Nat) : Option Text := (s.sec.otp.owner.find? fun e => e.1 == n).map (·.2)

/-! ## The vault -/

/-- HKDF-SHA-256 with a 32-byte output (R250, RFC 5869): one block of the expand step. -/
def hkdf (ikm salt info : Text) : Text := Config.hmacSha256 (Config.hmacSha256 salt ikm) (info ++ [1])

/-- The bytewise XOR of two texts (R250, R251). -/
def xorText (a b : Text) : Text := List.zipWith (· ^^^ ·) a b

def zero32 : Text := List.replicate 32 0

/-- What seed slot `n` hides the owner line key with (R250, R251). -/
def ownerMask (o : Otp) (n : Nat) : Text := hkdf o.uds (o.seeds.getD n []) (txt "DX OLK" ++ [n])

/-- The KEK of seed slot `n`; 8 is that of BLANK, 9 that of RETURNED (R250). -/
def kekOf (o : Otp) (n : Nat) : Text :=
  match n with
  | 8 => hkdf o.uds zero32 (txt "DX KEK BLANK")
  | 9 => hkdf o.uds zero32 (txt "DX KEK RETURNED")
  | n => hkdf o.uds (o.seeds.getD n []) (txt "DX KEK" ++ [n])

def logKey (o : Otp) : Text := hkdf o.uds zero32 (txt "DX LOG")

/-- The contents of a loaded slot. -/
def Sec.slotKey (x : Sec) (n : Nat) : Option Text := (x.vault.find? fun e => e.slot == n).map (·.key)

/-- The key-encryption key and the owner line key, where loaded (Table 11.4). -/
def Sec.kek (x : Sec) : Option Text := x.slotKey 0
def Sec.olk (x : Sec) : Option Text := x.slotKey 2

/-- Type and uses of a slot once it is loaded (R247, Table 11.4). Slots 6 to 13 are of the HMAC type (log entry
17). -/
def slotAttr (slot : Nat) : Nat :=
  let rom := 0x8000
  match slot with
  | 0 => 0x1000 + rom + 0x030 + 1
  | 1 => 0x1000 + rom + 0x100 + 4
  | 2 => 0x1000 + rom + 0x080 + 2
  | 3 => 0x1000 + 0x040 + 3
  | 4 => 0x1000 + 0x040 + 3
  | 5 => 0x1000 + 0x080 + 2
  | 14 => 0x1000 + rom + 0xC00 + 1
  | _ => 0x1000 + 0x200 + 2

def loadSlot (slot : Nat) (key : Text) (s : State) : State :=
  { s with sec := { s.sec with vault := ⟨slot, slotAttr slot, key⟩ :: s.sec.vault.filter fun e => e.slot != slot } }

/-- The identity key in slots 3 and 4 (Table 11.4): its 48 bytes take the whole of one and half of the other. -/
def loadIdentity (s : State) : State :=
  let k := Config.identityPriv s.sec.identNo
  loadSlot 4 (k.drop 32) (loadSlot 3 (k.take 32) s)

/-- A wrapped key under a KEK: none where its integrity check fails (R252). -/
def unwrapKey (kek : Option Text) (w : Wrapped) : Option Text := if kek == some w.kek then some w.key else none

/-- Whether an operation of the device on a slot is locked. The locks that the ROM sets on slots 0, 1, 2 and 14 bind
firmware to the uses of Table 10.7, not those uses themselves (log entry 18). -/
def useLocked (s : State) (slot : Nat) : Bool := bitAt (s.reg .VAULT_LOCK_USE) slot && !(slot ∈ [0, 1, 2, 14])
def changeLocked (s : State) (slot : Nat) : Bool := bitAt (s.reg .VAULT_LOCK_CHANGE) slot && !(slot ∈ [0, 1, 2, 14])

/-- Zeroisation: the three stores, but for the persistent-log key (R248). -/
def zeroise (s : State) : State :=
  { s with sec := { s.sec with vault := s.sec.vault.filter (fun e => e.slot == 14), xts := [], recKeys := [] } }

/-! ## The debug port (R242) -/

/-- 0 CLOSED, 1 AUTH, 2 OPEN, as handover or entry to Night sets it; CLOSED until then. -/
def debugState (s : State) : Nat :=
  if !s.sec.romLocks then 0
  else match lifeCycle s with
    | 0 => 2
    | 1 => 1
    | 2 => if s.sec.otp.ident.profileG then 1 else 0
    | 3 => 2
    | _ => 0

/-- Whether the port answers. -/
def debugLive (s : State) : Bool := debugState s == 2 || (debugState s == 1 && s.sec.debugOpen)

/-! ## Alarms -/

def classLetter : Nat → String
  | 1 => "A" | 2 => "B" | _ => "C"

def sourceName : Nat → String
  | 0 => "MESH0" | 1 => "MESH1" | 2 => "CASE" | 3 => "VCORE" | 4 => "VAON" | 5 => "CLOCK" | 6 => "TEMP" | 7 => "AUTH"
  | _ => "PROBE"

/-- The meshes in force: the register in BLANK and PROVISIONED, the fuses from then on (R254). -/
def meshEn (s : State) : Nat := if lifeCycle s ≤ 1 then s.reg .ALM_MESH_EN else s.sec.otp.meshFuses

/-- Classes that Table 11.5 permits for a source. -/
def classPermitted (s : State) (src c : Nat) : Bool :=
  if src ≤ 1 then (if !s.sec.otp.ident.profileG && lifeCycle s == 2 then c == 1 else c == 1 || c == 2)
  else if src == 5 || src == 7 then c == 2 || c == 3
  else c == 1 || c == 2 || c == 3

/-- The class in which a source acts (R254). A mesh on profile S in DEPLOYED is of class A whatever the register
holds. -/
def classInForce (s : State) (src : Nat) : Nat :=
  if lifeCycle s == 0 || lifeCycle s == 3 then 3
  else if src ≤ 1 && !s.sec.otp.ident.profileG && lifeCycle s == 2 then 1
  else alarmClass (s.reg .ALM_CLASS) src

/-- The severity that EVT.En shows (R482): that of the class in force for an alarm source. -/
def evSeverityNow (s : State) (id : Nat) : Nat :=
  if within id 0x080 0x088 then (if classInForce s (id - 0x080) == 3 then 1 else 3) else (evSeverity id).getD 0

/-- Whether the masks decide ALERT_N (R492): in M4 to M9, and in M3 from the end of stage 6. -/
def alertMasked (s : State) : Bool :=
  bitAt s.pwr.on 2 && !s.pwr.held && ((4 ≤ s.mode.num && s.mode.num ≤ 9) || (s.mode == .M3 && 7 ≤ s.mem.sunrise.stage))

/-- The lowest event that holds ALERT_N low, by its mask or by PD0's rule (R492). -/
def alertFirst (s : State) : Option Nat :=
  (s.evt.cells.find? fun c =>
    c.latch && (if alertMasked s then bitAt c.masks 2 else evKept c.id && 2 ≤ evSeverityNow s c.id)).map (·.id)

/-- Whether a source is armed (R253). -/
def armed (s : State) (src : Nat) : Bool :=
  s.pwr.vaon &&
    (if src ≤ 1 then bitAt (meshEn s) src
     else if src == 3 then bitAt s.pwr.en 0 && bitAt s.pwr.pg 0
     else if src == 8 then debugState s == 0 || (debugState s == 1 && !s.sec.debugOpen)
     else true)

/-- Whether a source detects now. The absence of VDDIO_B is a fault of both meshes (R46). -/
def detectsNow (s : State) (src : Nat) : Bool := bitAt s.sec.srcNow src || (src ≤ 1 && !s.pwr.vddioB)

/-- A source of class A (or of A or B) that still detects. -/
def detecting (s : State) (upTo : Nat) : Option Nat :=
  (List.range 9).find? fun n => detectsNow s n && armed s n && classInForce s n ≤ upTo

/-- Entry to Night: the locks, the debug port, the mode (R242, R257). -/
def enterNight (s : State) : State :=
  let s := raiseGroups (domainsReady (setDomains (Mode.domains .M11 0) (enterMode .M11 s)))
  let lock := 0x4007
  let s := (s.setReg .VAULT_LOCK_USE (s.reg .VAULT_LOCK_USE ||| lock)).setReg .VAULT_LOCK_CHANGE
    (s.reg .VAULT_LOCK_CHANGE ||| lock)
  { s with
    sec := { s.sec with romLocks := true, debugOpen := false }
    boot := { s.boot with recov := none, handover := none, watchdog := false } }

/-- The commands that an alarm cuts short: the ring's is answered 302, sessions close with no reply, commits that wait
are discarded (R257, R531). -/
def alarmCuts (s : State) : State :=
  let s := if (s.route .ring).busy.isSome then lateReply .ring 302 [] s else s
  let s := clearQueries (closeAll s)
  { s with day := { s.day with commits := [] } }

/-- How an alarm of class A or B leads to Night from the present mode (R257). During a power-fail transition the flush ends
where it stands, and the transition goes on from PLP_DONE (R61). -/
def alarmPath (s : State) : State :=
  if s.pwr.failing then endFlush false s
  else if s.pwr.held then s
  else match s.pwr.seq, s.mode with
    | .down _, _ => s
    | _, .M0 => s
    | _, .M11 => s
    | _, .M1 => resetToDawn 1 5 s
    | _, .M2 => enterNight s
    | _, .M10 => enterNight s
    | _, _ => let s := alarmCuts s
           { s with sec := { s.sec with recordDue := true } }

/-- What an armed source does as it detects (R255). The revoke fuse reads burned as soon as its burn has started
(R246). An ERASE alarm leaves no PIN set (R118). -/
def fireAlarm (src : Nat) (s : State) : State :=
  let c := classInForce s src
  let fields := [("class", Val.c c (classLetter c)), ("mode", Val.n s.mode.num)]
  if c == 3 then raiseWith (0x080 + src) 1 fields false 1 s
  else
    let held := eraseHeld s
    let s := raiseWith (0x080 + src) 3 fields false 1 (zeroise s)
    if c == 1 then
      let s :=
        if held then s
        else match activeSeed s with
          | none => s
          | some n =>
            { s with sec := { s.sec with burning := some n, burnAt := s.now,
                                         otp := { s.sec.otp with revoked := setBit s.sec.otp.revoked n } } }
      let s := { s with line := { s.line with pin := none } }
      alarmPath { s with sec := { s.sec with latch := 1, latchSrc := if s.sec.latch == 1 then s.sec.latchSrc else src } }
    else
      let s := if s.sec.latch == 0 then { s with sec := { s.sec with latch := 2, latchSrc := src } } else s
      alarmPath (raise 0x091 [] s)

/-- A source detects: where it is armed its class acts (R253, R255). -/
def detectSource (src : Nat) (s : State) : State :=
  if 8 < src || !armed s src then s
  else fireAlarm src { s with sec := { s.sec with srcNow := setBit s.sec.srcNow src } }

/-- A source stops detecting (R253). -/
def quietSource (src : Nat) (s : State) : State :=
  { s with sec := { s.sec with srcNow := clearBit s.sec.srcNow src } }

/-- One authentication failure on any route: the flood source counts those of its window, and starts again as it
fires (Table 11.5; log entry 19). -/
def authFailure (s : State) : State :=
  let since := s.now - sec (s.reg .ALM_AUTH_WIN_S)
  let l := (s.sec.authFails.filter fun t => since < t || s.now < sec (s.reg .ALM_AUTH_WIN_S)) ++ [s.now]
  if s.reg .ALM_AUTH_N ≤ l.length && armed s 7 then
    fireAlarm 7 { s with sec := { s.sec with authFails := [] } }
  else { s with sec := { s.sec with authFails := l } }

/-! ## Proofs of a route (R119, R243) -/

/-- Fresh random bytes: free values (log entry 3). -/
def randomBytes (s : State) : Nat → Text
  | 0 => []
  | n + 1 => randomBytes s n ++ [Config.freeNat (s.freeCtr + n) % 256]

def tickN (n : Nat) (s : State) : State := { s with freeCtr := s.freeCtr + n }

/-- Bytes in groups of four hex digits joined by `-` (R119). -/
def groupsText (b : Text) : Text :=
  match b with
  | x :: y :: z :: r => bytesText [x, y] ++ [45] ++ groupsText (z :: r)
  | l => bytesText l

/-- LINE.UNIT_ID as 8 bytes little-endian. -/
def unitIdBytes (s : State) : Text := leBytes 8 s.sec.otp.ident.unitId

end Sys2Proof.Machine
end

