-- ==== Sys2Proof/Machine/Pins.lean ====
section
/-! DEFINITION. The balls that the block drives: their names and places (chapter 23) and the level at which each output stands
(R563–R566). Signals inside an interface's own transfers are `active`: the standard they keep stands outside this specification. -/

namespace Sys2Proof.Machine

/-! ## Names of balls (R560, R565, R566) -/

/-- Table 23.1: the designator of a row by its index. -/
def rowName (i : Nat) : String :=
  let l := ["A", "B", "C", "D", "E", "F", "G", "H", "J", "K", "L", "M", "N", "P", "T", "U", "V", "W", "Y"]
  if i ≤ 19 then l.getD (i - 1) "" else if i ≤ 38 then "A" ++ l.getD (i - 20) "" else "B" ++ l.getD (i - 39) ""

/-- A ball is named by its row letters followed by its column number (R559). -/
def ballName (p : Nat × Nat) : String := rowName p.1 ++ toString p.2

/-- R565: row index and column of depth `d`, position `w` of LP5X channel `c`. -/
def dramBall (c d w : Nat) : Nat × Nat :=
  if c ≤ 7 then (1 + d, 3 + 6 * c + w)
  else if c ≤ 11 then (10 + 6 * (c - 8) + w, 1 + d)
  else (51 - d, 10 + 6 * (c - 12) + w)

/-- R566: row index and column of row `a`, column `b` of the block of ONFI channel `n`. -/
def nandBall (n a b : Nat) : Nat × Nat := (10 + 4 * (n / 4) + a, 10 + 8 * (n % 4) + b)

/-- R561: the depopulated sites of the moat. -/
def inMoat (row col : Nat) : Bool :=
  (within row 40 43 && within col 40 51) || (within row 44 51 && within col 40 43)

/-! ## Levels -/

/-- How an output stands: `active` while its interface is in use. An open-drain output that is released, and an output with its
rail or domain off, is undriven. -/
inductive Level where
  | low | high | undriven | active
  deriving DecidableEq, Repr

def Level.of (b : Bool) : Level := if b then .high else .low

/-- The outputs of VDDIO_A in PD0 drive nothing without their rails (R46, R543). -/
def ioDriven (s : State) : Bool := s.pwr.vaon && s.pwr.vddioA

/-- Whether PD`d` is on and out of reset, so that its balls have left their reset states (R55, R563). -/
def domainRuns (d : Nat) (s : State) : Bool := bitAt s.pwr.on 2 && !s.pwr.held && bitAt s.pwr.on d

/-- SEQ_ENg (R46, R47, Table 23.3). -/
def seqEnPin (g : Nat) (s : State) : Level := if ioDriven s then .of (bitAt s.pwr.en g) else .undriven

/-- PLP_DONE (R59). -/
def plpDonePin (s : State) : Level := if ioDriven s then .of s.pwr.plpDone else .undriven

/-- ALERT_N, open drain (R492). -/
def alertPin (s : State) : Level := if ioDriven s && (alertFirst s).isSome then .low else .undriven

/-- LINE_TXD rests idle, high, where the line controller does not run (R104, R105). -/
def lineTxdPin (s : State) : Level :=
  if !ioDriven s then .undriven else if lineRuns s then .active else .high

/-- GPIOk: an output while it is assigned, active high unless EVT.GPIOk_LOW says low (R493). -/
def gpioPin (k : Nat) (s : State) : Level :=
  if !ioDriven s || s.reg .EVT_GPIO_ON k == 0 then .undriven
  else .of (bitAt (gpioActive s) k != (s.reg .EVT_GPIO_LOW k == 1))

/-- MESH_On: the pattern while the mesh is armed, low otherwise (R253, Table 23.3). -/
def meshPin (n : Nat) (s : State) : Level :=
  if !s.pwr.vaon || !s.pwr.vddioB then .undriven else if armed s n then .active else .low

/-- DBG_TDO is undriven until the debug port is opened (Table 23.3). -/
def dbgTdoPin (s : State) : Level := if ioDriven s && (debugState s == 1 && s.sec.debugOpen) then .active else .undriven

/-- Whether Sunrise has begun to train the LP5X channels since the last reset; in M1 they keep what they were trained to
(R43, R270, R291). -/
def trainingBegun (s : State) : Bool :=
  bitAt s.pwr.ret 5 || (domainRuns 5 s && within s.mode.num 3 9 && s.mem.sunrise.stage != 1)

/-- Whether NAND discovery, stage 3 of Sunrise, has begun since the last reset (R282, R291). -/
def discoveryBegun (s : State) : Bool :=
  domainRuns 6 s && within s.mode.num 3 9 && s.mem.sunrise.stage != 1 && s.mem.sunrise.stage != 2

/-- DRAM_RESET_Nk: low from reset until the DRAM stage drives it (Table 23.3; R266). -/
def dramResetPin (s : State) : Level :=
  if !bitAt s.pwr.on 5 && !bitAt s.pwr.ret 5 then .undriven else .of (trainingBegun s)

/-- CK_t, CK_c, CS0 and CS1 of an LP5X channel: undriven while PD5 is off, low from the enable of group 3 until training
starts, which is stage 2 of Sunrise (R565, R288). -/
def dramClockPin (s : State) : Level :=
  if (!bitAt s.pwr.on 5 && !bitAt s.pwr.ret 5) || !bitAt s.pwr.en 3 then .undriven
  else if trainingBegun s then .active else .low

/-- CE_N0 to CE_N7 of an ONFI channel: undriven while PD6 is off, high from the power-good of group 4 until discovery (R566). -/
def nandCePin (s : State) : Level :=
  if !bitAt s.pwr.on 6 || !bitAt s.pwr.pg 4 then .undriven else if discoveryBegun s then .active else .high

/-- WP_N of an ONFI channel, low over the same time (R566). -/
def nandWpPin (s : State) : Level :=
  if !bitAt s.pwr.on 6 || !bitAt s.pwr.pg 4 then .undriven else if discoveryBegun s then .active else .low

/-- XSPI_RESET_N: low, and high from the start of each Dawn (Table 23.4). -/
def xspiResetPin (s : State) : Level :=
  if !bitAt s.pwr.on 2 || !bitAt s.pwr.en 1 then .undriven else .of (domainRuns 2 s)

/-- XSPI_CS_N and XSPI_CLK stand high and low until the boot flash port is used (Table 23.4). -/
def xspiCsPin (s : State) : Level :=
  if !bitAt s.pwr.on 2 || !bitAt s.pwr.en 1 then .undriven else if domainRuns 2 s then .active else .high

def xspiClkPin (s : State) : Level :=
  if !bitAt s.pwr.on 2 || !bitAt s.pwr.en 1 then .undriven else if domainRuns 2 s then .active else .low

/-- ETHp_TX: no signal while PD4 is off or the port is not enabled (Table 23.4, R299). -/
def ethTxPin (p : Nat) (s : State) : Level :=
  if domainRuns 4 s && s.reg .NET_P_EN p == 1 then .active else .undriven

/-- The cascade's outputs: undriven while PD10 is off or in reset, or the array is not in a cascade (R470, R547, Table 23.4).
Position 0 drives CASC_CLK. -/
def cascPin (s : State) : Level := if domainRuns 10 s && 1 < s.assoc.size then .active else .undriven

def cascClkPin (s : State) : Level := if s.assoc.straps == 0 then cascPin s else .undriven

/-! ## The straps (R570, R571) -/

/-- The start of a Dawn samples CASC_POS[2:0]. -/
def sampleStraps (pos : Nat) (s : State) : State := { s with assoc := { s.assoc with straps := pos % 8 } }

end Sys2Proof.Machine
end

