-- ==== Sys2Proof/Machine/Boot.lean ====
section
/-! DEFINITION. Dawn, handover, Nightfall (chapter 10; R239–R250 as the ROM applies them), image checks, flag
records. -/

namespace Sys2Proof.Machine

/-! ## The trace -/

def slotNum (b : Bool) : Nat := if b then 1 else 0
/-- A rejection code of Table 10.5. -/
def codeVal (code : Nat) : Val := .c code (String.ofList ((txt "0x" ++ hexText 2 code).map Char.ofNat))

def slotVal (b : Bool) : Val := .c (slotNum b) (if b then "b" else "a")

/-- One entry of the boot trace (R229); `slot` 15 is none. -/
def trace (code slot detail : Nat) (s : State) : State :=
  let i := s.reg .BOOT_TRACE_IDX
  (s.setReg .BOOT_TRACE (code * 2 ^ 24 + slot * 2 ^ 20 + detail % 2 ^ 20) i).setReg .BOOT_TRACE_IDX ((i + 1) % 32)

/-! ## Images (R220–R223) -/

/-- A little-endian field of an image's header. -/
def Image.field (img : Image) (off n : Nat) : Nat := leNat ((img.bytes.drop off).take n)
def Image.part (img : Image) (off n : Nat) : Text := (img.bytes.drop off).take n
def Image.bodySize (img : Image) : Nat := img.field 0x008 4
def Image.svn (img : Image) : Nat := img.field 0x018 1
def Image.version (img : Image) : Nat := img.field 0x010 8
def Image.body (img : Image) : Text := (img.bytes.drop 512).take img.bodySize

/-- An image as it has been assembled and programmed: every byte reads. -/
def Image.ofBytes (b : Text) : Image := ⟨b, true, true⟩

/-- Whether a signer hash, 0 to 3 Alhogal's and 4, 5 the OEM's, reads invalid (R246). -/
def signerBad (o : Otp) (n : Nat) : Bool := o.bad.any (· == (if n < 4 then 64 + n else 80 + n - 4))

/-- A key matches a provisioned signer hash of a range that is neither revoked nor invalid (R221, R246). -/
def signerMatches (s : State) (lo hi : Nat) (key : Text) : Bool :=
  let h := Config.sha384 key
  s.sec.otp.signers.any fun e =>
    lo ≤ e.1 && e.1 ≤ hi && e.2 == h && !bitAt s.sec.otp.signerRevoked e.1 && !signerBad s.sec.otp e.1

/-- An OEM signer hash has been provisioned, revoked since or not; an invalid one counts (R223, R246). -/
def oemProvisioned (s : State) : Bool :=
  s.sec.otp.signers.any (fun e => 4 ≤ e.1) || s.sec.otp.bad.any fun n => n == 80 || n == 81

/-- The countersignature rule (R223): none where it passes. -/
def countersign (s : State) (img : Image) : Option Nat :=
  let key := img.part 0x0E0 96
  if key.any (· != 0) then
    if !signerMatches s 4 5 key then some 0x18
    else if !Config.ecdsaP384 key (img.part 0x1A0 96) (img.part 0 0x1A0) then some 0x19
    else none
  else if s.sec.otp.ident.profileG || !oemProvisioned s then none
  else some 0x17

/-! ## The NOR's layout (R214–R216) -/

/-- CRC-32 of R216, bit by bit. -/
def crcStep (c : Nat) : Nat → Nat
  | 0 => c
  | n + 1 => crcStep (if c % 2 == 1 then (c / 2) ^^^ 0xEDB88320 else c / 2) n

def crc32 (bytes : Text) : Nat := (bytes.foldl (fun c b => crcStep (c ^^^ (b % 256)) 8) 0xFFFFFFFF) ^^^ 0xFFFFFFFF

/-- Where the flag-record sectors and the slots lie, and the size of a slot (Table 10.1), for the capacity the part reports. -/
def norBytes (s : State) : Nat := s.boot.norMib * 1048576
def sectorOffset (sector1 : Bool) : Nat := if sector1 then 0x20000 else 0x10000
def slotOffset (s : State) (slotB : Bool) : Nat := if slotB then norBytes s / 2 else 0x100000
def slotSize (s : State) : Nat := norBytes s / 2 - 0x100000

/-- Whether the slot directory is valid and agrees with Table 10.1 (R215, Table 10.2). -/
def dirOk (s : State) : Bool :=
  let d := s.boot.dir
  let at_ (o n : Nat) : Nat := leNat ((d.drop o).take n)
  d.length == 64 && d.take 5 == [0x44, 0x58, 0x53, 0x44, 1] && at_ 60 4 == crc32 (d.take 60) &&
    norBytes s == 2 ^ at_ 5 1 && at_ 8 4 == slotOffset s false && at_ 12 4 == slotOffset s true && at_ 16 4 == slotSize s

/-- The fields of the header as steps 2 to 6 of Table 10.5 judge them. -/
def headerCheck (s : State) (img : Image) : Option Nat :=
  let size := img.bodySize
  let entry := img.field 0x00C 4
  let mask := 2 ^ (if s.sec.otp.ident.profileG then 1 else 0)
  if img.part 0 4 != [0x44, 0x58, 0x49, 0x4D] || img.field 4 2 != 1 || img.field 6 2 != 0x200 || entry % 4 != 0
    || size ≤ entry then some 0x10
  else if img.field 0x01C 4 != 0 || (img.part 0x058 40).any (· != 0) || 4 ≤ img.field 0x01A 1 || 16 ≤ img.field 0x01B 1 then
    some 0x14
  else if img.field 0x019 1 != 0xB1 || img.field 0x01A 1 / mask % 2 == 0 || 4 ≤ lifeCycle s
    || !bitAt (img.field 0x01B 1) (lifeCycle s) then some 0x11
  else if img.field 0x050 8 != 0 && img.field 0x050 8 != s.sec.otp.ident.unitId then some 0x12
  else if size < 16 || 3145728 < size || size % 16 != 0 || slotSize s < 512 + size then some 0x13
  else none

/-- The checks of Table 10.5 in their order: the code of the first that fails. -/
def imageCheck (s : State) (img : Image) : Option Nat :=
  let key := img.part 0x080 96
  if !img.headerOk then some 0x1C
  else match headerCheck s img with
    | some c => some c
    | none =>
      if !signerMatches s 0 3 key then some 0x15
      else if !Config.ecdsaP384 key (img.part 0x140 96) (img.part 0 0x140) then some 0x16
      else match countersign s img with
        | some c => some c
        | none =>
          if img.svn < s.sec.otp.svnFuses || 64 < img.svn then some 0x1A
          else if !img.bodyOk then some 0x1C
          else if Config.sha384 img.body != img.part 0x020 48 then some 0x1B
          else none

/-- What a slot holds; a slot without an image fails at its header's magic. -/
def slotImage (s : State) (b : Bool) : Image :=
  ((if b then s.boot.slotB else s.boot.slotA)).getD ⟨[], true, true⟩

/-! ## Flag records (R217–R219) -/

/-- A position that nothing has been written to (R217). -/
def emptyPos : Text := List.replicate 64 0xFF

/-- What a position holds whose programming did not succeed or was cut short: no valid record, and not empty (R219; log
entry 112). -/
def tornPos : Text := List.replicate 64 0

/-- A flag record (Table 10.3). -/
def recordBytes (slotB : Bool) (writer seq tai version svn : Nat) (hash : Text) : Text :=
  let b := [0x44, 0x58, 0x46, 0x52, 1, if slotB then 1 else 0, writer, 0] ++ leBytes 4 seq ++ leBytes 8 tai ++ leBytes 8 version
    ++ [svn, 0, 0, 0] ++ (hash ++ List.replicate 16 0).take 16 ++ List.replicate 12 0
  b ++ leBytes 4 (crc32 b)

/-- Sequence and slot of a position that holds a valid record (R218). -/
def posRecord (p : Text) : Option (Nat × Bool) :=
  let seq := leNat ((p.drop 8).take 4)
  if p.length == 64 && p.take 5 == [0x44, 0x58, 0x46, 0x52, 1] && leNat (p.drop 60) == crc32 (p.take 60)
      && p.getD 5 2 ≤ 1 && seq != 2 ^ 32 - 1 then some (seq, p.getD 5 2 == 1)
  else none

/-- The valid records of a sector with their places. -/
def recordsOf (sector : Bool) (l : List Text) : List (Nat × Bool × Bool × Nat) :=
  (l.zip (List.range l.length)).filterMap fun (p, i) => (posRecord p).map fun (seq, b) => (seq, b, sector, i)

/-- The valid record with the highest sequence, that of sector 0 where both have it (R218). -/
def selectFlag (s : State) : Option (Nat × Bool × Bool × Nat) :=
  let all := recordsOf false s.boot.sector0 ++ recordsOf true s.boot.sector1
  match all with
  | [] => none
  | x :: xs => some (xs.foldl (fun m y => if m.1 < y.1 then y else m) x)

def activeSlot (s : State) : Bool := (s.boot.selected.map (·.2.1)).getD false

/-- The first empty place of a sector from one on. -/
def emptyFrom (l : List Text) (i : Nat) : Option Nat :=
  (List.range 1024).find? fun k => i ≤ k && (l.getD k emptyPos) == emptyPos

def sectorPut (l : List Text) (i : Nat) (p : Text) : List Text :=
  (List.range (max l.length (i + 1))).map fun k => if k == i then p else l.getD k emptyPos

def Boot.sector (x : Boot) (sector1 : Bool) : List Text := if sector1 then x.sector1 else x.sector0
def Boot.setSector (x : Boot) (sector1 : Bool) (l : List Text) : Boot :=
  if sector1 then { x with sector1 := l } else { x with sector0 := l }

/-- The first empty place from one on; where the sector has none left the other is erased and its first place taken (R219). -/
def flagPlace (x : Boot) (sector1 : Bool) (after : Nat) : Bool × Nat × Boot :=
  match emptyFrom (x.sector sector1) after with
  | some i => (sector1, i, x)
  | none => (!sector1, 0, x.setSector (!sector1) [])

/-- Programs a record and reads it back; one that fails moves to the next position, and is tried `tries` times in all (R219). -/
def placeFlag : Nat → Bool → Nat → Text → Boot → Boot × Option (Bool × Nat)
  | 0, _, _, _, x => (x, none)
  | n + 1, sector1, after, p, x =>
    let (sec1, i, x) := flagPlace x sector1 after
    if x.badPos.any (· == (sec1, i)) then placeFlag n sec1 (i + 1) p (x.setSector sec1 (sectorPut (x.sector sec1) i tornPos))
    else (x.setSector sec1 (sectorPut (x.sector sec1) i p), some (sec1, i))

/-- Where the search for an empty place starts: after the selected record (R219). -/
def flagAfter (sel : Option (Nat × Bool × Bool × Nat)) : Bool × Nat :=
  match sel with | some x => (x.2.2.1, x.2.2.2 + 1) | none => (false, 0)

/-- BOOT.ACTIVE and BOOT.FLAG_SEQ follow the selected record. -/
def showFlag (s : State) : State :=
  let (seq, b) := match s.boot.selected with | some x => (x.1, x.2.1) | none => (2 ^ 32 - 1, false)
  (s.setReg .BOOT_FLAG_SEQ seq).setReg .BOOT_ACTIVE (slotNum b)

/-- Writes a flag record that names a slot active (R219): the new sequence, or 209 or 300. -/
def writeFlag (writer : Nat) (b : Bool) (img : Image) (s : State) : State × Except Nat Nat :=
  let seq := match s.boot.selected with | some x => x.1 + 1 | none => 0
  if seq == 2 ^ 32 - 1 then (s, .error 209)
  else if !s.boot.norWrites || s.reg .BOOT_XSPI_MODE == 0 then (s, .error 300)
  else
    let tai := if s.clk.valid then s.clk.tai else 0
    let p := recordBytes b writer seq tai img.version img.svn (img.part 0x020 16)
    let (sector1, after) := flagAfter s.boot.selected
    match placeFlag 2 sector1 after p s.boot with
    | (x, none) => ({ s with boot := x }, .error 300)
    | (x, some (sec1, i)) => (showFlag { s with boot := { x with selected := some (seq, b, sec1, i) } }, .ok seq)

/-- What a loss of power has left of what was under way (R219, R224, R236; log entry 113): a slot half programmed, a position
with a record cut short, or a part of the anti-rollback fuses burned. -/
def cutShort (c : Cut) (s : State) : State :=
  match c with
  | .none => s
  | .slot b => { s with boot := if b then { s.boot with slotB := none } else { s.boot with slotA := none } }
  | .record =>
    let (sector1, after) := flagAfter (selectFlag s)
    let (sec1, i, x) := flagPlace s.boot sector1 after
    { s with boot := x.setSector sec1 (sectorPut (x.sector sec1) i tornPos) }
  | .fuses n =>
    if s.sec.otp.svnFuses < n && n ≤ 64 then { s with sec := { s.sec with otp := { s.sec.otp with svnFuses := n } } } else s

/-- Erases and programs a slot and reads it back (step 6 of REC.COMMIT): false leaves the slot invalid. -/
def programSlot (b : Bool) (bytes : Text) (s : State) : State × Bool :=
  let ok := s.boot.norWrites && s.reg .BOOT_XSPI_MODE != 0
  let img := if ok then some (Image.ofBytes bytes) else none
  ({ s with boot := if b then { s.boot with slotB := img } else { s.boot with slotA := img } }, ok)

/-! ## Dawn (R225) -/

/-- The name of an invalid item in a notice (Table 19.5b). -/
def itemName (n : Nat) : String :=
  let i := toString (n % 16)
  match n / 16 with
  | 1 => "uds" | 2 => "seed" ++ i | 3 => "owner" ++ i | 4 => "a" ++ i | 5 => "o" ++ i | _ => "debug"

/-- Reads the OTP (R246): every invalid item is told; an invalid seed that is not revoked is revoked. -/
def readOtp (s : State) : State :=
  s.sec.otp.bad.foldl (fun s n =>
    let s := raise 0x068 [("item", .c n (itemName n))] s
    if n / 16 == 2 && !bitAt s.sec.otp.revoked (n % 16) then
      raise 0x069 [("seed", .n (n % 16))]
        { s with sec := { s.sec with otp := { s.sec.otp with revoked := setBit s.sec.otp.revoked (n % 16) } } }
    else s) s

def udsBad (s : State) : Bool := s.sec.otp.bad.any fun n => n / 16 == 1

/-- The RETURNED entry actions (R241). An ERASE latch ends with them: the unit is in RETURNED (R260; log entry 116). -/
def returnedActions (s : State) : State :=
  let o := s.sec.otp
  let revoked := (List.range 8).foldl (fun r n => if bitAt o.commissioned n then setBit r n else r) o.revoked
  let s := { s with sec := { s.sec with otp := { o with revoked := revoked, fuses := setBit o.fuses 4 },
                                        vault := [], xts := [], recKeys := [], latch := if s.sec.latch == 1 then 0 else s.sec.latch } }
  trace 0x04 15 0 (raise 0x067 [] s)

/-- The keys that the ROM derives and loads (R250): KEK, boot keys, owner line key, persistent-log key. -/
def deriveKeys (s : State) : State :=
  let o := s.sec.otp
  let s := loadSlot 14 (logKey o) (loadSlot 1 [] s)
  let withKek := fun (k : Nat) (s : State) => loadSlot 0 (kekOf o k) s
  match lifeCycle s with
  | 0 => withKek 8 s
  | 3 => withKek 9 s
  | _ =>
    if eraseHeld s then { s with sec := { s.sec with latch := 1, latchSrc := if s.sec.latch == 1 then s.sec.latchSrc else 15 } }
    else match activeSeed s with
      | none => s
      | some n =>
        let s := withKek n s
        match ownerEntry s n, s.sec.otp.bad.any (· == 48 + n) with
        | some k, false => loadSlot 2 (xorText k (ownerMask o n)) s
        | _, _ => s

/-- Entry to Nightfall (R230). -/
def enterNightfall (s : State) : State :=
  let n := min 65535 (s.reg .BOOT_ATTEMPTS + 1)
  let s := s.setReg .BOOT_ATTEMPTS n
  let s := domainsReady (setDomains (Mode.domains .M10 0) (enterMode .M10 s))
  trace 0x30 15 n { s with boot := { s.boot with enteredAt := s.now, lastRecLine := none, recov := none } }

/-- Tries the slots in their order (R225): the first that passes is accepted, each that fails is told. -/
def trySlots : List Bool → State → State
  | [], s => enterNightfall s
  | b :: bs, s =>
    let img := slotImage s b
    match imageCheck s img with
    | none => trace 0x20 (slotNum b) img.svn { s with boot := { s.boot with handover := some b, sram := img.body } }
    | some code =>
      let s := trace code (slotNum b) 0 s
      let old := s.reg .BOOT_SLOT_CODE
      let s := s.setReg .BOOT_SLOT_CODE (if b then putBits old 15 8 code else putBits old 7 0 code)
      let s := { s with boot := { s.boot with lastReject := some (code, b) } }
      trySlots bs (raise 0x041 [("slot", slotVal b), ("code", codeVal code)] s)

/-- The order in which slots are tried. -/
def slotOrder (s : State) : List Bool :=
  let act := activeSlot s
  let g := s.sec.otp.ident.profileG
  let order := if g then [act, !act] else [act]
  if s.reg .BOOT_LAST_END == 2 then
    let rest := order.filter (· != s.boot.lastRun)
    if g then rest ++ [s.boot.lastRun] else rest
  else order

/-- From the start of the xSPI port on. The trace of the flag record is written whether or not one was selected, with
BOOT.FLAG_SEQ as it then reads (R225; log entry 114). -/
def dawnBoot (nor : NorFound) (s : State) : State :=
  match nor with
  | .none => enterNightfall (trace 0x07 15 0 (s.setReg .BOOT_XSPI_MODE 0))
  | found =>
    let s := s.setReg .BOOT_NOR_MIB s.boot.norMib
    let s := if found == .single then raise 0x04B [] (trace 0x06 15 0 (s.setReg .BOOT_XSPI_MODE 1)) else s.setReg .BOOT_XSPI_MODE 2
    let s := if dirOk s then s else raise 0x04C [] (trace 0x08 15 0 s)
    let s := { s with boot := { s.boot with selected := selectFlag s } }
    let s := if s.boot.selected.isSome then s else raise 0x04D [] (trace 0x0A 15 0 s)
    let s := showFlag s
    let s := trace 0x09 15 (s.reg .BOOT_FLAG_SEQ) s
    trySlots (slotOrder s) s

def dawn (nor : NorFound) (s : State) : State :=
  let s := trace 0x01 15 (s.reg .PWR_RESET_CAUSE) s
  let lc := lifeCycle s
  let s := readOtp (trace 0x02 15 lc s)
  if lc == 4 then enterNight (trace 0x03 15 0 s)
  else
    let s := if lc == 3 && !bitAt s.sec.otp.fuses 4 then returnedActions s else s
    if udsBad s then enterNight (raise 0x06A [] s)
    else
      let s := deriveKeys s
      if s.sec.latch != 0 then enterNight (trace 0x03 15 0 s) else dawnBoot nor s

/-- R225: the ROM runs, in Dawn and once, on what the last loss of power has left; CASC_POS[2:0] is sampled as it starts (R571). -/
def execDawn (found : DawnFound) (s : State) : Out :=
  .next
    (if s.runsIn .M2 && s.pwr.seq == .idle && s.boot.handover.isNone then
       dawn found.nor (cutShort found.cut (sampleStraps found.straps s))
     else s)

/-! ## Handover (R231, R232) -/

/-- R231: the locks of Table 10.7, the watchdog, EV 0x040, and Sunrise. -/
def handOver (b : Bool) (s : State) : State :=
  let img := slotImage s b
  let lock := 0x4007
  let s := (s.setReg .VAULT_LOCK_USE (s.reg .VAULT_LOCK_USE ||| lock)).setReg .VAULT_LOCK_CHANGE
    (s.reg .VAULT_LOCK_CHANGE ||| lock)
  let s := trace 0x21 (slotNum b) (img.bodySize / 16) (s.setReg .BOOT_ATTEMPTS 0)
  let s := ((s.setReg .BOOT_RUN_SLOT (slotNum b)).setReg .BOOT_RUN_SVN img.svn).setReg .BOOT_RUN_VER_LO (img.version % 2 ^ 32)
  let s := s.setReg .BOOT_RUN_VER_HI (img.version / 2 ^ 32 % 2 ^ 32)
  let s := { s with
    sec := { s.sec with romLocks := true }
    boot := { s.boot with handover := none, watchdog := true, handoverAt := s.now, firstM4 := true, lastRun := b,
                          started := some (img.field 0x00C 4) } }
  let s := raise 0x040 [("slot", slotVal b), ("svn", .n img.svn)] s
  let s := if b == activeSlot s then s else raise 0x042 [("run", slotVal b), ("active", slotVal (activeSlot s))] s
  let s := enterMode .M3 s
  let s := raiseGroups (domainsReady (setDomains (Mode.domains .M3 0) s))
  { s with mem := { s.mem with sunrise := { Mem.reset.sunrise with stage := 1, startAt := s.now, stageAt := s.now } } }

def execHandover (s : State) : Out :=
  .next (match s.boot.handover with | some b => if s.runsIn .M2 && s.pwr.seq == .idle then handOver b s else s | none => s)

/-- The first entry to M4 after a handover: the watchdog ends, the start is confirmed, the anti-rollback count rises
where the active slot runs (R224, R232). -/
def confirmStart (s : State) : State :=
  if !s.boot.firstM4 then s
  else
    let s := trace 0x23 15 ((s.now - s.boot.handoverAt) / sec 1) (s.setReg .BOOT_LAST_END 0)
    let s := { s with boot := { s.boot with watchdog := false, firstM4 := false } }
    let old := s.sec.otp.svnFuses
    let svn := s.reg .BOOT_RUN_SVN
    if s.boot.lastRun == activeSlot s && old < svn then
      raise 0x04A [("from", .n old), ("to", .n svn)] { s with sec := { s.sec with otp := { s.sec.otp with svnFuses := svn } } }
    else s

/-- R232: 600 s without an entry to M4, M0 or M11 (log 93: a core reset does not end the watchdog). -/
def execHandoverWatchdog (s : State) : Out :=
  .next
    (if !s.boot.watchdog || !s.coreUp then s
     else
       let b := s.boot.lastRun
       let s := resetToDawn 1 3 s
       raise 0x043 [("slot", slotVal b)] (trace 0x22 (slotNum b) 0 ({ s with boot := { s.boot with watchdog := false } }.setReg .BOOT_LAST_END 2)))

/-! ## Nightfall (R230) -/

/-- A Nightfall retry: 0 at the end of the hold-off, 1 by REC.BOOT. -/
def nightfallRetry (d : Nat) (s : State) : State :=
  trace 0x34 15 d ((resetToDawn 2 0 s).setReg .BOOT_LAST_END (if d == 0 then 1 else 3))

/-- Whether the hold-off has ended: after its time from the entry to M10, and 60 s after the last REC or LOGIN line
that the unit consumed. -/
def holdoffOver (s : State) : Bool :=
  s.boot.enteredAt + sec (if s.sec.otp.ident.profileG then 2 else 30) ≤ s.now &&
    (match s.boot.lastRecLine with | none => true | some t => t + sec 60 ≤ s.now)

def execNightfallHoldoffExpiry (s : State) : Out :=
  .next (if s.runsIn .M10 && s.pwr.seq == .idle && holdoffOver s then nightfallRetry 0 s else s)

end Sys2Proof.Machine
end

