-- ==== Sys2Proof/Machine/LineParse.lean ====
section
/-! DEFINITION. The grammar of command lines (R96, R97): a line's checksum, address, verb and arguments, with the first
column in error. -/

namespace Sys2Proof.Machine

/-- Whether a text ends in a checksum: a space, `*` and two hexadecimal digits. -/
def endsInChecksum (t : Text) : Bool :=
  match t.drop (t.length - 4) with
  | [32, 42, a, b] => (hexVal a).isSome && (hexVal b).isSome
  | _ => false

/-- The text before the checksum, and the checksum a line carries. -/
def splitChecksum (t : Text) : Text × Option Nat :=
  if endsInChecksum t then (t.take (t.length - 4), hexNat (t.drop (t.length - 2))) else (t, none)

/-- The checksum the device computes: the bytes before `*`, among them the space before it (R97). -/
def checksumOf (body : Text) : Nat := (sumNat body + 32) % 256

/-- A command line in its form. -/
structure Parsed where
  addr : Addressing
  verb : Text
  args : List Arg
  deriving DecidableEq, Repr

/-- The address field and where the verb begins; an error gives the column. -/
def parseAddr (b : Text) : Except Nat (Addressing × Nat) :=
  match b with
  | 64 :: 42 :: [] => .error 3
  | 64 :: 42 :: c :: _ => if c == 32 then .ok (.all, 3) else .error 3
  | 64 :: r =>
    let ds := r.takeWhile isDigit
    let v := (decVal ds).getD 0
    let next := 1 + ds.length
    if ds.isEmpty || (1 < ds.length && ds.head? == some 48) || 62 < v then .error 2
    else if b.getD next 0 == 32 then .ok (.unit v, next + 1)
    else .error (next + 1)
  | _ => .ok (.bare, 0)

/-- A word at an index: it starts with a letter; the answer is the index after it. -/
def parseWord (b : Text) (i : Nat) : Except Nat Nat :=
  let r := b.drop i
  if isAlpha (r.headD 0) then .ok (i + (r.takeWhile isWordChar).length) else .error (i + 1)

/-- VERB.NOUN at an index. -/
def parseVerb (b : Text) (i : Nat) : Except Nat Nat :=
  match parseWord b i with
  | .error c => .error c
  | .ok j =>
    if b.getD j 0 != 46 then .error (j + 1)
    else match parseWord b (j + 1) with
      | .error c => .error c
      | .ok k => if k == b.length || b.getD k 0 == 32 then .ok k else .error (k + 1)

/-- A quoted string from the byte after its opening quote: the bytes it stands for and the index after the closing
quote. -/
def parseQuoted (b : Text) (i : Nat) (got : Text) : Nat → Except Nat (Text × Nat)
  | 0 => .error (b.length + 1)
  | n + 1 =>
    match b.drop i with
    | [] => .error (b.length + 1)
    | 34 :: _ => .ok (got, i + 1)
    | 92 :: 34 :: _ => parseQuoted b (i + 2) (got ++ [34]) n
    | 92 :: 92 :: _ => parseQuoted b (i + 2) (got ++ [92]) n
    | 92 :: 120 :: x :: y :: _ =>
      match hexVal x, hexVal y with
      | some p, some q => parseQuoted b (i + 4) (got ++ [p * 16 + q]) n
      | _, _ => .error (i + 1)
    | 92 :: _ => .error (i + 1)
    | c :: _ => parseQuoted b (i + 1) (got ++ [c]) n

/-- The value of an argument at an index. -/
def parseValue (b : Text) (i : Nat) : Except Nat (Text × Bool × Nat) :=
  if b.getD i 0 == 34 then
    match parseQuoted b (i + 1) [] b.length with
    | .error c => .error c
    | .ok (t, j) => if j == b.length || b.getD j 0 == 32 then .ok (t, true, j) else .error (j + 1)
  else
    let t := (b.drop i).takeWhile fun c => c != 32 && c != 34 && c != 42
    let j := i + t.length
    if t.isEmpty then .error (i + 1)
    else if j == b.length || b.getD j 0 == 32 then .ok (t, false, j)
    else .error (j + 1)

/-- Arguments from the index of the space before the first one. -/
def parseArgs (b : Text) (i : Nat) (got : List Arg) : Nat → Except Nat (List Arg)
  | 0 => .ok got
  | n + 1 =>
    if b.length ≤ i then .ok got
    else
      let k := i + 1
      if b.length ≤ k then .error (i + 1)
      else
        let name := (b.drop k).takeWhile isWordChar
        let e := k + name.length
        if name.isEmpty || b.getD e 0 != 61 then .error (e + 1)
        else match parseValue b (e + 1) with
          | .error c => .error c
          | .ok (v, q, j) => parseArgs b j (got ++ [⟨name.map lowerChar, v, q⟩]) n

/-- A line's text before its checksum (R96). -/
def parseLine (b : Text) : Except Nat Parsed :=
  if b.isEmpty then .error 1
  else match parseAddr b with
    | .error c => .error c
    | .ok (a, i) =>
      match parseVerb b i with
      | .error c => .error c
      | .ok j =>
        match parseArgs b j [] b.length with
        | .error c => .error c
        | .ok args => .ok ⟨a, ((b.drop i).take (j - i)).map upperChar, args⟩

/-! ## The lines that a unit rewrites (R110, R114) -/

/-- The verb of a broadcast line's text, in upper case, once it is known: the word after `@* `. -/
def bcastVerb (t : Text) (ended : Bool) : Option Text :=
  match t with
  | 64 :: 42 :: 32 :: r =>
    let w := r.takeWhile (· != 32)
    if w.length < r.length || ended then some (w.map upperChar) else none
  | 64 :: 42 :: _ :: _ => some []
  | _ => if ended then some [] else none

def isRewritten (v : Text) : Bool := v == txt "ADDR.CHAIN" || v == txt "RING.PROBE"

/-- The tokens of a body, parted by single spaces outside quoted strings; `w` is the token so far. -/
def tokens : Text → Bool → Text → List Text
  | [], _, w => [w]
  | 92 :: c :: cs, true, w => tokens cs true (w ++ [92, c])
  | 34 :: cs, q, w => tokens cs (!q) (w ++ [34])
  | 32 :: cs, false, w => w :: tokens cs false []
  | c :: cs, q, w => tokens cs q (w ++ [c])

/-- Whether a text ends within a quoted string. -/
def inQuotes : Text → Bool → Bool
  | [], q => q
  | 92 :: _ :: cs, true => inQuotes cs true
  | 34 :: cs, q => inQuotes cs (!q)
  | _ :: cs, q => inQuotes cs q

def joinTokens : List Text → Text
  | [] => []
  | [w] => w
  | w :: ws => w ++ [32] ++ joinTokens ws

/-- Whether a token is an argument of a name, and its value. -/
def argIn (name : String) (w : Text) : Option Text :=
  let n := name.length + 1
  if (w.take n).map lowerChar == txt name ++ [61] then some (w.drop n) else none

/-- The value of `start=` in a token, where it is a decimal integer (R110). -/
def startOf (w : Text) : Option Int :=
  match argIn "start" w with
  | some v => if (afterHex v).isSome then none else intVal v
  | none => none

/-- The body of ADDR.CHAIN with start=n+1; none where no decimal integer stands there. -/
def chainBody (body : Text) : Option Text :=
  let ts := tokens body false []
  if ts.any fun w => (startOf w).isSome then
    some (joinTokens (ts.map fun w => match startOf w with | some n => w.take 6 ++ intText (n + 1) | none => w))
  else none

/-- The body of RING.PROBE with this unit's address appended to path=. -/
def probeBody (addr : Nat) (body : Text) : Text :=
  let ts := tokens body false []
  if ts.any fun w => (argIn "path" w).isSome then
    joinTokens (ts.map fun w => if (argIn "path" w).isSome then w ++ [44] ++ decText addr else w)
  else body ++ txt " path=" ++ decText addr

/-- A broadcast line as it leaves: rewritten, its checksum recomputed where it carried one. -/
def rewritten (addr : Nat) (v t : Text) : Option Text :=
  let (body, cs) := splitChecksum t
  let new := if v == txt "ADDR.CHAIN" then chainBody body else some (probeBody addr body)
  new.map fun b => if cs.isSome then withChecksum b else b

/-- Whether the last character of a broadcast line's text may be the first that the rewrite changes: the first of the value of
start=, the end of path=, the `*` of a checksum (R107, R110, R114). -/
def rewriteStarts (t : Text) : Bool :=
  match bcastVerb t false with
  | none => false
  | some v =>
    let last := (tokens t false []).getLast?.getD []
    let c := t.getLast?.getD 0
    if v == txt "ADDR.CHAIN" then (argIn "start" last).any (·.length == 1)
    else if v == txt "RING.PROBE" then
      !inQuotes t false &&
        (last == [42] || (c == 32 && ((tokens t.dropLast false []).getLast?.getD [] |> argIn "path").isSome))
    else false

end Sys2Proof.Machine
end

