-- ==== Sys2Proof/Machine/LineRx.lean ====
section
/-! DEFINITION. Bytes, breaks and timers of the ring (R91–R95, R106–R116, R580), notices on their way out (R102). -/

namespace Sys2Proof.Machine

/-! ## The edited line (Table 5.1, R92) -/

/-- How a byte that is no terminator changes the line. A damaged byte, or one at or above 0x80, is part of the line and fails it;
no rule takes the failure back where an erase or Ctrl-U removes that byte, so it stands (R91; log entry 105). Past 250
characters nothing more is kept or erased; `echo` says that the line's characters wait to be echoed. -/
def LineCtl.edit (l : LineCtl) (b : Nat) (damaged echo : Bool) : LineCtl :=
  let l := { l with raw := l.raw ++ [b] }
  let over_ := decide (250 < l.count)
  let bad := damaged || decide (0x80 ≤ b)
  if bad || (0x20 ≤ b && b ≤ 0x7E) then
    let l := { l with tail := l.tail ++ [b], spaceSeen := l.spaceSeen || b == 0x20, framed := l.framed || damaged
                      badCol := if bad then some (l.badCol.getD (l.text.length + 1)) else l.badCol }
    if l.ctrlC then l
    else if l.count < 250 then
      { l with text := l.text ++ [b], count := l.count + 1, held := if echo then l.held ++ [b] else l.held }
    else { l with count := l.count + 1 }
  else if b == 0x03 then { l with ctrlC := true }
  else if b == 0x08 || b == 0x7F then
    let l := { l with tail := l.tail.dropLast }
    if l.ctrlC || over_ || l.text.isEmpty then l
    else { l with text := l.text.dropLast, count := l.count - 1, held := if echo then l.held ++ [8, 32, 8] else l.held }
  else if b == 0x15 then
    let l := { l with tail := [] }
    if l.ctrlC || over_ then l
    else
      { l with text := [], count := 0,
               held := if echo then l.held ++ (l.text.flatMap fun _ => [8, 32, 8]) else l.held }
  else l

/-- Whether the line that ends was typed: no checksum stands at the end of its edited characters, kept or not (R92, R93). -/
def LineCtl.isTyped (l : LineCtl) : Bool := !endsInChecksum l.tail

/-- The line controller at the start of a line. -/
def LineCtl.fresh (l : LineCtl) : LineCtl :=
  { l with cls := .undecided, raw := [], text := [], count := 0, tail := [], badCol := none, framed := false,
           ctrlC := false, spaceSeen := false, sentRaw := 0, hold := false, holdAt := 0, held := [] }

/-- What a line's first characters make of it (Table 5.3); `ended` says that no more come. -/
def LineCtl.classify (addr : Nat) (l : LineCtl) (ended : Bool) : RxClass :=
  match l.text with
  | [] => if ended then .consume else .undecided
  | [64] => if ended then .consume else .undecided
  | 64 :: 42 :: _ => .both
  | 64 :: r =>
    let ds := r.takeWhile isDigit
    if ds.isEmpty then .consume
    else if ds.length == r.length && !ended then .undecided
    else if decVal ds == some addr then .consume else .forward
  | c :: _ => if isDigit c || c == 33 then .forward else .consume

/-! ## The forwarder (R107) -/

def forwardBytes (bs : Text) (s : State) : State :=
  if bs.isEmpty then s
  else { s with out := s.out ++ [.tx bs], line := { s.line with fwdOpen := true } }

/-- A forwarded line or run ends; what waited for it leaves. -/
def endForward (s : State) : State := flushOwn { s with line := { s.line with fwdOpen := false, fwdCR := false } }

/-- The bytes of the line that have not been forwarded leave as they were received. -/
def forwardRest (s : State) : State :=
  let l := s.line
  forwardBytes (l.raw.drop l.sentRaw) { s with line := { l with sentRaw := l.raw.length } }

/-- What is left of a broadcast line at its terminator: as received, or rewritten from its edited text from the first
character on that the rewrite may change (R107, R110, R114). -/
def LineCtl.leaves (l : LineCtl) (addr : Nat) : Text :=
  let rest := l.raw.drop l.sentRaw
  if l.ctrlC || l.badCol.isSome || 250 < l.count then rest
  else match bcastVerb l.text true with
    | none => rest
    | some v =>
      if !isRewritten v then rest
      else ((rewritten addr v l.text).map (·.drop (if l.hold then l.holdAt else l.text.length))).getD rest

/-! ## Receiving -/

def isEdit (b : Nat) : Bool := b == 0x08 || b == 0x7F || b == 0x15 || b == 0x03

/-- R112: a reply or notice that carries this unit's own nonzero address, as its second digit arrives. -/
def checkDuplicate (s : State) : State :=
  let t := s.line.text
  let own := s.reg .LINE_ADDR
  let ds := match t with
    | 33 :: r => if r.length == 2 then r else []
    | c :: _ => if isDigit c && t.length == 2 then t else []
    | [] => []
  if own != 0 && decVal ds == some own then
    raise 0x3D1 [("addr", .n own)] { s with line := { s.line with dup := true } }
  else s

/-- A byte of a broadcast line leaves as it comes, up to the first character that a rewrite may change; from there on the rest is
held. An edit that reaches back beyond what is held is forwarded in its place, and the line goes on as it comes (R107, R110,
R114). -/
def bcastByte (before : Text) (s : State) : State :=
  let l := s.line
  if l.hold then
    if l.text.length < l.holdAt then forwardRest { s with line := { l with hold := false, sentRaw := l.raw.length - 1 } } else s
  else if before.length < l.text.length && rewriteStarts l.text then
    { s with line := { l with hold := true, holdAt := l.text.length - 1 } }
  else forwardRest s

/-- A byte within a line. An erase, Ctrl-U or Ctrl-C before the first space makes every unit discard the line and
forward it (R108). -/
def lineByte (b : Nat) (damaged : Bool) (s : State) : State :=
  let l := s.line
  if !damaged && isEdit b && !l.spaceSeen && l.cls != .discard && l.cls != .forward then
    forwardRest { s with line := { l with cls := .discard, held := [], raw := l.raw ++ [b] } }
  else
    let before := l.text
    let own := l.cls == .consume || l.cls == .undecided
    let l := l.edit b damaged (s.reg .LINE_ECHO == 1 && own)
    let s := { s with line := l }
    match l.cls with
    | .undecided =>
      match l.classify (s.reg .LINE_ADDR) false with
      | .forward => forwardRest { s with line := { l with cls := .forward, held := [] } }
      | .consume => { s with line := { l with cls := .consume } }
      | .both => forwardRest { s with line := { l with cls := .both, held := [] } }
      | _ => s
    | .forward =>
      let s := forwardRest s
      if 0x20 ≤ b && b ≤ 0x7E && !damaged then checkDuplicate s else s
    | .discard => forwardRest s
    | .both => bcastByte before s
    | _ => s

/-- The line received, as it waits for the checks of R98. -/
def LineCtl.take (l : LineCtl) (bcast : Bool) : RxLine :=
  { text := l.text, tooLong := if 250 < l.count then some l.count else none, badCol := l.badCol,
    typed := l.isTyped, bcast := bcast }

/-- The terminator of a consumed line: echo, prompt after an empty or abandoned one, or a line to check (R91–R94). -/
def consumeEnd (s : State) : State :=
  let l := s.line
  let s := if s.reg .LINE_ECHO == 1 && l.isTyped then ringSend (runOf (l.held ++ [13, 10])) s else s
  if l.ctrlC || (l.count == 0 && l.badCol.isNone) then
    (if l.isTyped then ringSend (prompt (s.reg .LINE_ADDR)) s else s)
  else { s with line := { s.line with ready := s.line.ready ++ [l.take false] } }

/-- The terminator of a broadcast line: what is left of it leaves, then it waits to be executed; a probe is not (R114). -/
def bcastEnd (b : Nat) (s : State) : State :=
  let l := s.line
  let s := forwardBytes (l.leaves (s.reg .LINE_ADDR) ++ [b]) s
  if l.ctrlC || bcastVerb l.text true == some (txt "RING.PROBE") then s
  else { s with line := { s.line with ready := s.line.ready ++ [l.take true] } }

/-- A terminator: CR or LF. A complete line without framing errors ends the revert guard (R116); a terminator with nothing before it
is taken as no line (log entry 106). -/
def lineEnd (b : Nat) (s : State) : State :=
  let l := s.line
  let s := if !l.raw.isEmpty && !l.framed then { s with line := { s.line with prevRate := none } } else s
  let s := if l.cls == .undecided then
      match l.classify (s.reg .LINE_ADDR) true with
      | .forward => forwardRest { s with line := { s.line with cls := .forward } }
      | c => { s with line := { s.line with cls := c } }
    else s
  let cls := s.line.cls
  let s := match cls with
    | .consume => consumeEnd s
    | .both => bcastEnd b s
    | _ => forwardBytes [b] s
  let s := { s with line := { s.line.fresh with lastCR := b == 13 } }
  if cls == .consume then s
  else if b == 10 then endForward s
  else { s with line := { s.line with fwdCR := true } }

/-- A byte of a pass-through run goes on unchanged, up to its end or a framing error (R580). -/
def runByte (b : Nat) (damaged : Bool) (s : State) : State :=
  let s := forwardBytes [b] s
  if damaged || b == 0x1D then endForward { s with line := s.line.fresh } else s

/-- A received character; a damaged one counts and stands for 0xFF (R91). -/
def receiveByte (b : Nat) (damaged : Bool) (s : State) : State :=
  let b := if damaged then 0xFF else b % 256
  let s := if damaged then raiseCount 0x3C9 [] (s.incReg .LINE_RX_ERRORS) else s
  if s.line.cls == .run then runByte b damaged s
  else if s.line.lastCR && b == 10 then
    let s := { s with line := { s.line with lastCR := false } }
    if s.line.fwdCR then endForward (forwardBytes [10] s) else s
  else
    let s := if s.line.fwdCR then endForward s else s
    let s := { s with line := { s.line with lastCR := false } }
    if s.line.cls == .undecided && s.line.raw.isEmpty && b == 0x1C then
      forwardBytes [b] { s with line := { s.line with cls := .run } }
    else if b == 13 || b == 10 then lineEnd b s
    else lineByte b damaged s

def execIbianByteReceived (b : Nat) (damaged : Bool) (s : State) : Out :=
  .next (if lineRuns s && !s.line.loss then receiveByte b damaged s else s)

/-- R94: two character times have passed without a further one. -/
def execEchoRelease (s : State) : Out :=
  .next
    (if lineRuns s && s.line.cls == .consume && !s.line.held.isEmpty && s.reg .LINE_ECHO == 1 then
       ringSend (runOf s.line.held) { s with line := { s.line with held := [] } }
     else s)

/-- R580: three character times without a byte end a run. -/
def execPassThroughRunTimeout (s : State) : Out :=
  .next (if lineRuns s && s.line.cls == .run then endForward { s with line := s.line.fresh } else s)

/-- R107: one character time after a forwarded CR; an LF that still follows is forwarded. -/
def execForwardedCrEnd (s : State) : Out :=
  .next (if lineRuns s && s.line.fwdCR then flushOwn { s with line := { s.line with fwdOpen := false } } else s)

/-! ## Breaks and receive loss (R113) -/

/-- What a break does: 115,200 baud, a break downstream, EV 0x3C8; a pending switch, a revert guard and a line partly
received are gone. -/
def breakActs (s : State) : State :=
  let s := s.setReg .LINE_BAUD 115200
  let s := { s with line := { s.line.fresh with switchTo := none, prevRate := none, fwdOpen := false, fwdCR := false,
                                                lastCR := false } }
  raise 0x3C8 [] (endHush (s.emit (.brk 500)))

def execBreakReceived (s : State) : Out := .next (if lineRuns s && !s.line.loss then breakActs s else s)

def lossEvent (s : State) : State := raise 0x3C4 [("up", .n (s.line.upstream.getD 0))] s

def execReceiveLoss (s : State) : Out :=
  .next (if lineRuns s && !s.line.loss then lossEvent { s with line := { s.line with loss := true, lossAt := s.now } } else s)

def execReceiveLossRepeat (s : State) : Out := .next (if lineRuns s && s.line.loss then lossEvent s else s)

/-- The loss was declared after 1,000 ms. -/
def execReceiveRestored (s : State) : Out :=
  .next
    (if lineRuns s && s.line.loss then
       let lost := 1000 + (s.now - s.line.lossAt) / ms 1
       breakActs (raise 0x3C5 [("lost_ms", .n lost)] { s with line := { s.line with loss := false } })
     else s)

/-! ## Rate changes (R116) -/

def execLineRateSwitch (s : State) : Out :=
  .next
    (match s.line.switchTo with
     | none => s
     | some b =>
       if !lineRuns s then s
       else
         let old := s.reg .LINE_BAUD
         let s := s.setReg .LINE_BAUD b
         let s := { s with line := { s.line with switchTo := none, prevRate := some old } }
         raise 0x3C6 [("baud", .n b)] (endHush s))

def execRateRevert (s : State) : Out :=
  .next
    (match s.line.prevRate with
     | none => s
     | some b =>
       if !lineRuns s then s
       else raise 0x3C7 [("baud", .n b)] { s.setReg .LINE_BAUD b with line := { (s.setReg .LINE_BAUD b).line with prevRate := none } })

/-! ## Notices (R102) -/

/-- R102: the oldest notice of a queue, with the LOST line before it where notices were discarded. -/
def sendNotice (r : Route) (s : State) : State :=
  let x := s.route r
  match x.queue with
  | [] => s
  | n :: rest =>
    let s := s.setRoute { x with queue := rest, lost := 0 }
    let send := fun (o : Output) (s : State) => match r with | .tls c => tlsSend c o s | _ => ringSend o s
    let addr := s.reg .LINE_ADDR
    let s := if x.lost == 0 then s else send (.lost r x.lost (ended (lostText addr x.lost))) s
    let s := send (.notice r n (ended (n.text addr))) s
    if x.lost == 0 then s else raise 0x3CA [("count", .n x.lost)] s

def execNoticeSend (dest : Route) (s : State) : Out :=
  .next
    (match dest with
     | .ring => if lineRuns s then sendNotice .ring s else s
     | .tls c => if s.line.tlsConns.any (· == c) then sendNotice (.tls c) s else s
     | .dkp _ => s)

end Sys2Proof.Machine
end

