-- ==== Sys2Proof/Machine/LineVerbs.lean ====
section
/-! DEFINITION. The verbs of the ADDR, RING, LINE, LOGIN and SYS families (R110–R121, R233, R244, R504–R506, R517). -/

namespace Sys2Proof.Machine

def yesNo (b : Bool) : Nat := if b then 1 else 0

/-! ## Addresses and the ring -/

/-- Sets the unit's address (R110, R111); a change is told. -/
def setAddr (n : Nat) (s : State) : State :=
  if s.reg .LINE_ADDR == n then s else raise 0x3C3 [("addr", .n n)] (s.setReg .LINE_ADDR n)

/-- Whether a ring verb was sent as it must be: on the ring, to every unit. -/
def asBroadcast (l : Line) : Bool := l.route == .ring && l.addr == .all

/-- The text of a line, from its parts. -/
def lineText (verb : String) (l : Line) : Text :=
  let a := match l.addr with
    | .bare => []
    | .unit n => [64] ++ decText n ++ [32]
    | .all => [64, 42, 32]
  let body := a ++ txt verb ++ l.args.flatMap fun x => [32] ++ x.key ++ [61] ++ (if x.quoted then quotedText x.val else x.val)
  if l.csum then withChecksum body else body

/-- A ring verb that reaches the unit as a whole line goes on, rewritten (R110, R114). -/
def forwardRewritten (verb : String) (l : Line) (s : State) : State :=
  if !asBroadcast l then s
  else
    let t := lineText verb l
    if lineRuns s then s.emit (.tx ((rewritten (s.reg .LINE_ADDR) (txt verb) t).getD t ++ [13])) else s

def vAddrChain : Verb :=
  { name := "ADDR.CHAIN", modes := anyMode, level := 0, changes := true, loop := false, args := [⟨"start", false, .signed (-(2 ^ 200)) (2 ^ 200)⟩] }

/-- R110. A start= below 0 is out of the range of addresses; it leaves the address as it is (log entry 107). -/
def doAddrChain (l : Line) (s : State) : State :=
  let r := l.route
  gate vAddrChain l (fun s =>
    if !asBroadcast l then reply r 102 [("arg", .w "address")] s
    else match l.int? "start" with
      | none => reply r 102 [("arg", .w "start")] s
      | some (.negSucc _) => reply r 103 [("arg", .w "start")] s
      | some (.ofNat n) =>
        if s.reg .LINE_ADDR_LOCK == 1 then reply r 201 [("addr", .n (s.reg .LINE_ADDR))] s
        else if 62 < n then reply r 103 [("arg", .w "start")] (setAddr 0 s)
        else
          let s := setAddr n s
          done r [("addr", .n n)] { s with line := { s.line with upstream := if n == 0 then none else some (n - 1) } }) s

def execAddrChain (l : Line) (s : State) : Out := .next (doAddrChain l (forwardRewritten "ADDR.CHAIN" l s))

def vAddrSet : Verb :=
  { name := "ADDR.SET", modes := anyMode, level := 0, changes := true, loop := false, args := [⟨"addr", true, .num 0 62⟩] }

/-- R111. -/
def doAddrSet (l : Line) (s : State) : State :=
  gate vAddrSet l (fun s =>
    if s.reg .LINE_ADDR_LOCK == 1 then reply l.route 201 [("addr", .n (s.reg .LINE_ADDR))] s
    else done l.route [("addr", .n (l.nat "addr"))] (setAddr (l.nat "addr") s)) s

def execAddrSet (l : Line) (s : State) : Out := .next (doAddrSet l s)

def vRingProbe : Verb :=
  { name := "RING.PROBE", modes := anyMode, level := 0, changes := false, loop := false, args := [⟨"path", false, .token⟩] }

/-- R114: a probe goes round and no unit answers it; in any other form it is an ordinary line. -/
def doRingProbe (l : Line) (s : State) : State :=
  if asBroadcast l then s
  else gate vRingProbe l (fun s => reply l.route 102 [("arg", .w "address")] s) s

def execRingProbe (l : Line) (s : State) : Out := .next (doRingProbe l (forwardRewritten "RING.PROBE" l s))

/-! ## LINE -/

def lineRates : List Nat :=
  [9600, 19200, 38400, 57600, 115200, 230400, 460800, 921600, 1500000, 3000000]

def vLineRate : Verb :=
  { name := "LINE.RATE", modes := anyMode, level := 0, changes := true, loop := false,
    args := [⟨"baud", true, .oneOf lineRates⟩, ⟨"after", false, .num 100 10000⟩] }

/-- R115, R116: the reply, then silence until the switch. -/
def doLineRate (l : Line) (s : State) : State :=
  gate vLineRate l (fun s =>
    let b := l.nat "baud"
    let s := done l.route [("baud", .n b), ("after", .n (l.nat "after" 500))] s
    { s with line := { s.line with switchTo := some b, hush := true } }) s

def execLineRate (l : Line) (s : State) : Out := .next (doLineRate l s)

def vLineSetpin : Verb :=
  { name := "LINE.SETPIN", modes := m4to9, level := 2, changes := true, loop := false, args := [⟨"pin", true, .digits 8⟩] }

/-- R118: the PIN is kept with the secrets of namespace 0, its verifier key in slot 5. -/
def doLineSetpin (l : Line) (s : State) : State :=
  let r := l.route
  gate vLineSetpin l (fun s =>
    let p := l.text "pin"
    if changeLocked s 5 then reply r 201 [] s
    else match ns0Record s with
      | (s, some x) => reply r x.code x.kv s
      | (s, none) =>
        let s := loadSlot 5 Config.pinKey s
        done r [] { s with line := { s.line with pin := some p } }) s

def execLineSetpin (l : Line) (s : State) : Out := .next (doLineSetpin l s)

def vLineNotices : Verb :=
  { name := "LINE.NOTICES", modes := m4to9, level := 0, changes := false, loop := false, args := [⟨"on", true, .num 0 1⟩] }

/-- R102. -/
def doLineNotices (l : Line) (s : State) : State :=
  gate vLineNotices l (fun s =>
    match l.route with
    | .tls c => done l.route [("on", .n (l.nat "on"))] (s.updRoute (.tls c) fun x => { x with notices := l.flag "on" })
    | r => reply r 102 [("arg", .w "route")] s) s

def execLineNotices (l : Line) (s : State) : Out := .next (doLineNotices l s)

def setLock (r : Route) (k : Lock) (s : State) : State :=
  match r with
  | .ring => { s with line := { s.line with ringLock := k } }
  | .tls _ => { s with line := { s.line with tlsLock := k } }
  | r => s.updRoute r fun x => { x with lock := k }

/-- Seconds left of a lock. -/
def lockLeft (k : Lock) (s : State) : Nat := if k.locked then (k.until_ - s.now + sec 1 - 1) / sec 1 else 0

def vLineShow : Verb := showVerb "LINE.SHOW" anyMode

def doLineShow (l : Line) (s : State) : State :=
  gate vLineShow l (fun s =>
    let k := lockOf l.route s
    done l.route [("addr", .n (s.reg .LINE_ADDR)), ("baud", .n (s.reg .LINE_BAUD)),
      ("level", .c (s.level l.route) (levelName (s.level l.route))), ("strict", .n (s.reg .LINE_STRICT)),
      ("echo", .n (s.reg .LINE_ECHO)), ("fails", .n k.fails), ("lock_s", .n (lockLeft k s)),
      ("up", .n (s.line.upstream.getD 0)), ("unit", .x 16 s.sec.otp.ident.unitId)] s) s

def execLineShow (l : Line) (s : State) : Out := .next (doLineShow l s)

/-! ## Logins (R117–R121) -/

def routeVal (r : Route) : Val := .c r.byte (match r with | .ring => "ring" | .tls _ => "tls" | .dkp _ => "dkp")

/-- A failed login or a failed proof of authority (R121, R243): the fifth in a row locks, for twice as long each
time. -/
def loginFailed (r : Route) (s : State) : State :=
  let s := raise 0x3C1 [("route", routeVal r)] s
  let k := lockOf r s
  let s :=
    if k.fails + 1 < 5 then setLock r { k with fails := k.fails + 1 } s
    else
      raise 0x3C2 [("route", routeVal r), ("wait_s", .n k.dur)]
        (setLock r { fails := 0, until_ := s.now + sec k.dur, locked := true, dur := min 61440 (2 * k.dur) } s)
  authFailure s

/-- The level a login leaves: one that already grants OPERATOR stays over a PIN (log entry 20). -/
def raisedLevel (old new : Nat) : Nat := if new == 1 && old != 0 then old else new

def loginDone (r : Route) (new : Nat) (s : State) : State :=
  let lvl := raisedLevel (s.level r) new
  let s := setLock r Lock.clear (s.updRoute r fun x => { x with level := lvl })
  done r [("level", .c lvl (levelName lvl))]
    (raise 0x3C0 [("level", .c lvl (levelName lvl)), ("route", routeVal r)] s)

/-- The LOGIN verbs answer 201 while the lock of their route lasts. -/
def whileLocked (r : Route) (run : State → State) (s : State) : State :=
  let k := lockOf r s
  if k.locked then reply r 201 [("wait_s", .n (lockLeft k s))] s else run s

/-- The LOGIN verbs, also those of the ROM listener and of Night (R125, R233). -/
def loginModes : List Mode := m3to9 ++ [.M10, .M11]

def vLoginPin : Verb :=
  { name := "LOGIN.PIN", modes := m4to9, level := 0, changes := false, loop := false, args := [⟨"pin", true, .token⟩] }

/-- R118. -/
def doLoginPin (l : Line) (s : State) : State :=
  let r := l.route
  gate vLoginPin l (whileLocked r fun s =>
    match s.line.pin with
    | none => reply r 205 [] s
    | some p =>
      if useLocked s 5 then reply r 201 [] s
      else if l.text "pin" == p then loginDone r 1 s
      else loginFailed r (reply r 207 [] s)) s

def execLoginPin (l : Line) (s : State) : Out := .next (doLoginPin l s)

def vLoginChallenge : Verb :=
  { name := "LOGIN.CHALLENGE", modes := loginModes, level := 0, changes := false, loop := false, args := [] }

/-- R119, R233, R252: a fresh nonce for one LOGIN.OWNER of this route. -/
def doLoginChallenge (l : Line) (s : State) : State :=
  let r := l.route
  gate vLoginChallenge l (whileLocked r fun s =>
    if s.sec.olk.isNone then reply r 205 [] s
    else if !s.sec.trngOk then reply r 303 [] s
    else
      let n := randomBytes s 8
      let s := s.updRoute r fun x => { x with nonce := some ⟨n, s.now⟩ }
      tickN 8 (done r [("n", .w (String.ofList ((groupsText n).map Char.ofNat)))] s)) s

def execLoginChallenge (l : Line) (s : State) : Out := .next (doLoginChallenge l s)

def vLoginOwner : Verb :=
  { name := "LOGIN.OWNER", modes := loginModes, level := 0, changes := false, loop := false,
    args := [⟨"resp", true, .groups 8⟩] }

/-- The response that R119 expects on a route. -/
def ownerResponse (key nonce : Text) (r : Route) (s : State) : Text :=
  (Config.hmacSha256 key (nonce ++ unitIdBytes s ++ [r.byte])).take 16

/-- R119: the nonce serves one try within 60 s. -/
def doLoginOwner (l : Line) (s : State) : State :=
  let r := l.route
  gate vLoginOwner l (whileLocked r fun s =>
    match (s.route r).nonce with
    | none => reply r 208 [] s
    | some n =>
      let s := s.updRoute r fun x => { x with nonce := none }
      if n.at_ + sec 60 < s.now then reply r 208 [] s
      else
        let ok := match s.sec.olk, groupBytes 8 (l.text "resp") with
          | some k, some b => b == ownerResponse k n.bytes r s
          | _, _ => false
        if ok then loginDone r 2 s else loginFailed r (reply r 207 [] s)) s

def execLoginOwner (l : Line) (s : State) : Out := .next (doLoginOwner l s)

def vLoginVendor : Verb :=
  { name := "LOGIN.VENDOR", modes := m3to9and11, level := 0, changes := false, loop := false, args := [] }

/-- R244. -/
def doLoginVendor (l : Line) (s : State) : State :=
  let r := l.route
  gate vLoginVendor l (whileLocked r fun s =>
    if debugState s == 2 || (debugState s == 1 && (s.route r).auth) then loginDone r 3 s
    else reply r 206 [] s) s

def execLoginVendor (l : Line) (s : State) : Out := .next (doLoginVendor l s)

def vLoginOut : Verb :=
  { name := "LOGIN.OUT", modes := loginModes, level := 0, changes := false, loop := false, args := [] }

/-- A route falls back to VIEW and gives up its authority (R120, R243). -/
def fallBack (r : Route) (s : State) : State :=
  s.updRoute r fun x => { x with level := 0, auth := false, lcParts := [] }

def doLoginOut (l : Line) (s : State) : State :=
  gate vLoginOut l (whileLocked l.route fun s =>
    done l.route [("level", .c 0 "VIEW")] (fallBack l.route s)) s

def execLoginOut (l : Line) (s : State) : Out := .next (doLoginOut l s)

/-- R120: LINE.IDLE_S without a consumed line. The level of an ADMIN stream is its session's (R124), so that only its authority
ends (R243). -/
def execLoginIdleFallback (route : Route) (s : State) : Out :=
  .next
    (match route with
     | .dkp n => if (s.route (.dkp n)).auth then s.updRoute (.dkp n) fun x => { x with auth := false, lcParts := [] } else s
     | r =>
       if (s.route r).level == 0 && !(s.route r).auth then s else raise 0x3D0 [] (fallBack r s))

/-- R121: a lock ends. -/
def execLoginLockExpiry (route : Route) (s : State) : Out :=
  .next (if (lockOf route s).locked then setLock route { lockOf route s with locked := false } s else s)

/-! ## SYS (R505, R506, R517) -/

def latchName (s : State) : String :=
  match s.sec.latch with
  | 0 => "none" | 1 => "A" | _ => "B"

/-- SYS.VARIANT (R3). -/
def variantName (s : State) : String :=
  match s.sec.otp.ident.variant with
  | 0 => "DX-1500S" | 1 => "DX-1500G" | _ => "DX-1500N"

/-- SYS.PROFILE (R3). -/
def profileName (s : State) : String := if s.sec.otp.ident.profileG then "G" else "S"

def vSysStatus : Verb := showVerb "SYS.STATUS" anyMode

/-- The fields of R505. -/
def statusFields (s : State) : List (String × Val) :=
  let m := s.lineMode
  let base := [("mode", Val.w m.text), ("addr", .n (s.reg .LINE_ADDR)), ("unit", .x 16 s.sec.otp.ident.unitId),
    ("latch", .w (latchName s))]
  let more_ := [("variant", Val.w (variantName s)), ("profile", .w (profileName s)), ("rev", .w "B1"),
    ("lc", .w (lcName (lifeCycle s)))]
  if m.num ≤ 2 then base
  else if m == .M10 || m == .M11 then base ++ more_
  else base ++ more_ ++ [("t", .n s.day.t), ("temp", .i (tempNow s)), ("alert", .n (yesNo (alertFirst s).isSome))]

def doSysStatus (l : Line) (s : State) : State :=
  gate vSysStatus l (fun s => done l.route (statusFields s) s) s

def execSysStatus (l : Line) (s : State) : Out := .next (doSysStatus l s)

def vSysReset : Verb :=
  { name := "SYS.RESET", modes := [.M3, .M9], level := 2, changes := true, loop := false, args := [] }

/-- R506. -/
def doSysReset (l : Line) (s : State) : State :=
  gate vSysReset l (fun s => resetToDawn 1 2 (done l.route [] s)) s

def execSysReset (l : Line) (s : State) : Out := .next (doSysReset l s)

def vSysDiag : Verb :=
  { name := "SYS.DIAG", modes := m3to9, level := 3, changes := false, loop := false, args := [] }

/-- R517: it changes nothing, and its fields are unspecified: one free value stands for them (log entry 3). -/
def doSysDiag (l : Line) (s : State) : State :=
  gate vSysDiag l (fun s => (done l.route [("diag", .n s.free)] s).tick) s

def execSysDiag (l : Line) (s : State) : Out := .next (doSysDiag l s)

end Sys2Proof.Machine
end

