-- ==== Sys2Proof/Machine/Events.lean ====
section
/-! DEFINITION. The EVT verbs, the clearing of latches, pulses on pins, the persistent log (R482–R498, R516, R517). -/

namespace Sys2Proof.Machine

/-! ## Words of events -/

/-- The configuration word of an event (Table 19.3). On the DX-1500N bit 4 reads 0 (R483). -/
def evtWord (s : State) (id : Nat) : Nat :=
  let c := evtGet s.evt.cells id
  let m := if s.noLoop then clearBit c.masks 4 else c.masks
  m + evSeverityNow s id * 64 + (if c.latch then 256 else 0) + c.count * 65536

/-- Why masks cannot be set on an event (R483). -/
def maskRefusal (s : State) (id masks : Nat) : Option (Nat × List (String × Val)) :=
  if !bitAt masks 4 then none
  else if s.noLoop then some (205, [])
  else if within id 0x330 0x337 then none
  else some (102, [("arg", .w "hart")])

/-- Masks as written; closing the HART mask of a novelty event clears its bit (R210). -/
def setMasks (ids : List Nat) (masks : Nat) (s : State) : State :=
  let s := { s with evt := { s.evt with
      cells := ids.foldl (fun l id => evtPut l { evtGet l id with masks := masks % 64 }) s.evt.cells } }
  if bitAt masks 4 then s
  else ids.foldl (fun s id => if within id 0x330 0x337 then clearNoveltyOver (id - 0x330) 2 s else s) s

/-- Masks written, kept in namespace 0 before the reply (R482, R521). -/
def writeMasks (ids : List Nat) (masks : Nat) (s : State) : State × Option (Nat × List (String × Val)) :=
  match ids.findSome? fun id => maskRefusal s id masks with
  | some x => (s, some x)
  | none =>
    match ns0Write (ids.map fun id => ⟨.EVT_E, id, masks % 64⟩) s with
    | (s, some x) => (s, some (x.code, x.kv))
    | (s, none) => (setMasks ids masks s, none)

/-- The latch of EV 0x38E follows its condition (R487). -/
def latchHeld (s : State) (id : Nat) : Bool := id == 0x38E && s.loop.departed

/-- Clears latches, and counters with `counters` (R486); it says whether EV 0x38E was kept. -/
def clearEvents (ids : List Nat) (counters : Bool) (s : State) : State × Bool :=
  let cells := ids.foldl (fun l id =>
    let c := evtGet l id
    evtPut l { c with latch := c.latch && latchHeld s id, count := if counters then 0 else c.count }) s.evt.cells
  ({ s with evt := { s.evt with cells := cells } },
   ids.any fun id => latchHeld s id && (evtGet s.evt.cells id).latch)

/-! ## The argument ev= (R498) -/

def evIds (lo hi : Nat) : List Nat := (List.range (hi + 1 - lo)).map (lo + ·)

/-- The identifiers of ev=: in M11 those that PD0 keeps alone (R261). -/
def lineEvents (l : Line) (s : State) : List Nat :=
  ((evRange (l.text "ev")).elim [] fun r => evIds r.1 r.2).filter fun id => s.lineMode != .M11 || evKept id

/-- Whether ev= names an event whose clearing takes OWNER (R486). -/
def namesAlarm (l : Line) : Bool :=
  match evRange (l.text "ev") with
  | some (lo, hi) => lo ≤ 0x0BF && 0x080 ≤ hi
  | none => false

/-! ## Verbs (Table 19.6) -/

def vEvtShow : Verb :=
  { name := "EVT.SHOW", modes := m3to9and11, level := 0, changes := false, loop := false, args := [⟨"ev", true, .events 255⟩] }

def evtRow (s : State) (id : Nat) : List (String × Val) :=
  let c := evtGet s.evt.cells id
  [("ev", .x 3 id), ("sev", .w (sevName (evSeverityNow s id))), ("latch", .n (yesNo c.latch)), ("count", .n c.count),
   ("mask", .x 2 (evtWord s id % 32)), ("log", .n (c.masks / 32 % 2))]

def doEvtShow (l : Line) (s : State) : State :=
  gate vEvtShow l (fun s => done l.route [] (more l.route ((lineEvents l s).map (evtRow s)) s)) s

def execEvtShow (l : Line) (s : State) : Out := .next (doEvtShow l s)

def vEvtList : Verb := showVerb "EVT.LIST" m3to9and11

/-- R516: at most 255 latches. -/
def doEvtList (l : Line) (s : State) : State :=
  gate vEvtList l (fun s =>
    let ids := (s.evt.cells.filter fun c => c.latch && (s.lineMode != .M11 || evKept c.id)).map (·.id)
    let shown := ids.take 255
    let s := more l.route (shown.map fun id => [("ev", .x 3 id)]) s
    if shown.length < ids.length then reply l.route 2 [("last", .x 3 (shown.getLastD 0))] s else done l.route [] s) s

def execEvtList (l : Line) (s : State) : Out := .next (doEvtList l s)

def vEvtSet : Verb :=
  { name := "EVT.SET", modes := m3to9, level := 1, changes := true, loop := false,
    args := [⟨"ev", true, .events 1024⟩, ⟨"mask", true, .num 0 31⟩, ⟨"log", true, .num 0 1⟩] }

def doEvtSet (l : Line) (s : State) : State :=
  gate vEvtSet l (fun s =>
    match writeMasks (lineEvents l s) (l.nat "mask" + 32 * l.nat "log") s with
    | (s, some (code, kv)) => reply l.route code kv s
    | (s, none) => done l.route [] s) s

def execEvtSet (l : Line) (s : State) : Out := .next (doEvtSet l s)

def vEvtClear (l : Line) : Verb :=
  { name := "EVT.CLEAR", modes := m3to9and11, level := if namesAlarm l then 2 else 1, changes := true, loop := false,
    args := [⟨"ev", true, .events 1024⟩, ⟨"counters", false, .num 0 1⟩] }

def keptField (kept : Bool) : List (String × Val) := if kept then [("kept", .x 3 0x38E)] else []

def doEvtClear (l : Line) (s : State) : State :=
  gate (vEvtClear l) l (fun s =>
    let (s, kept) := clearEvents (lineEvents l s) (l.flag "counters") s
    done l.route (keptField kept) s) s

def execEvtClear (l : Line) (s : State) : Out := .next (doEvtClear l s)

def vEvtGpio : Verb :=
  { name := "EVT.GPIO", modes := m3to9, level := 1, changes := true, loop := false,
    args := [⟨"k", true, .num 0 7⟩, ⟨"ev", true, .eventOrNone⟩, ⟨"mode", false, .word ["level", "pulse", "0", "1"]⟩,
             ⟨"pol", false, .word ["high", "low", "0", "1"]⟩, ⟨"pulse_ms", false, .num 1 1000⟩] }

/-- The five fields of EVT.GPIOk. -/
structure GpioWord where
  ev : Nat
  on : Nat
  low : Nat
  pulse : Nat
  ms : Nat
  deriving DecidableEq, Repr

def gpioGet (s : State) (k : Nat) : GpioWord :=
  ⟨s.reg .EVT_GPIO_EV k, s.reg .EVT_GPIO_ON k, s.reg .EVT_GPIO_LOW k, s.reg .EVT_GPIO_PULSE k, s.reg .EVT_GPIO_MS k⟩

/-- Writes EVT.GPIOk whole, kept in namespace 0 (R493); a new assignment starts no pulse. -/
def gpioPut (k : Nat) (w : GpioWord) (s : State) : State × Option Refused :=
  let cells : List Cell :=
    [⟨.EVT_GPIO_EV, k, w.ev⟩, ⟨.EVT_GPIO_ON, k, w.on⟩, ⟨.EVT_GPIO_LOW, k, w.low⟩, ⟨.EVT_GPIO_PULSE, k, w.pulse⟩,
     ⟨.EVT_GPIO_MS, k, w.ms⟩]
  match ns0Write cells s with
  | (s, some x) => (s, some x)
  | (s, none) =>
    let s := cells.foldl (fun s c => s.setReg c.p c.v c.i) s
    ({ s with evt := { s.evt with gpio := clearBit s.evt.gpio k, gpioOn := true } }, none)

/-- The word an EVT.GPIO line asks for; what it does not name stays (log entry 21). -/
def gpioAsked (l : Line) (w : GpioWord) (ev : Option Nat) : GpioWord :=
  let pulse := if l.isWord "mode" "pulse" || l.isWord "mode" "1" then 1 else if l.has "mode" then 0 else w.pulse
  let low := if l.isWord "pol" "low" || l.isWord "pol" "1" then 1 else if l.has "pol" then 0 else w.low
  { ev := ev.getD w.ev, on := if ev.isSome then 1 else 0, low := low, pulse := pulse, ms := l.nat "pulse_ms" w.ms }

def doEvtGpio (l : Line) (s : State) : State :=
  let r := l.route
  gate vEvtGpio l (fun s =>
    let k := l.nat "k"
    let put := fun (ev : Option Nat) =>
      match gpioPut k (gpioAsked l (gpioGet s k) ev) s with
      | (s, some x) => reply r x.code x.kv s
      | (s, none) => done r [] s
    put (if l.isWord "ev" "none" then none else some (l.nat "ev"))) s

def execEvtGpio (l : Line) (s : State) : Out := .next (doEvtGpio l s)

/-! ## The log (R495–R497) -/

/-- Records held, oldest first. -/
def logHeld (s : State) : List Record := s.evt.log ++ s.evt.staged

def execLogProgram (s : State) : Out := .next (if s.logReady then programLog s else s)

/-- Records from a sequence on, `n` at most. -/
def logFrom (s : State) (seq n : Nat) : List Record := ((logHeld s).filter fun r => seq ≤ r.seq).take n

def recordRow (r : Record) : List (String × Val) :=
  [("seq", .n r.seq), ("tai", .n r.tai), ("ev", .x 3 r.id), ("sev", .w (sevName r.sev))] ++ r.fields

def vEvtLog : Verb :=
  { name := "EVT.LOG", modes := m3to9and11, level := 0, changes := false, loop := false,
    args := [⟨"from", true, .num 0 18446744073709551615⟩, ⟨"n", false, .num 1 16⟩] }

/-- R497. In Night the records are those that PD0 holds (R261). -/
def doEvtLog (l : Line) (s : State) : State :=
  gate vEvtLog l (fun s =>
    let n := l.nat "n" 16
    let rows := if s.lineMode == .M11 then s.evt.late.take n else logFrom s (l.nat "from") n
    done l.route [] (more l.route (rows.map recordRow) s)) s

def execEvtLog (l : Line) (s : State) : Out := .next (doEvtLog l s)

def vEvtInject : Verb :=
  { name := "EVT.INJECT", modes := m3to9, level := 3, changes := true, loop := false, args := [⟨"ev", true, .num 0 0x3FF⟩] }

/-- R517: every open path but HART. -/
def doEvtInject (l : Line) (s : State) : State :=
  gate vEvtInject l (fun s =>
    let id := l.nat "ev"
    if within id 0x060 0x0BF then reply l.route 102 [("arg", .w "ev")] s
    else match evSeverity id with
      | none => reply l.route 205 [] s
      | some _ => done l.route [] { raise id [("test", .n 1)] s with loop := s.loop }) s

def execEvtInject (l : Line) (s : State) : Out := .next (doEvtInject l s)

/-- R486: a write of 1 to bit 8 of EVT.En. -/
def latchClearWrite (r : Route) (id : Nat) (s : State) : State :=
  let (s, kept) := clearEvents [id] false s
  done r ([("value", .x 8 (evtWord s id))] ++ keptField kept) s

def execEventLatchClearWrite (route : Route) (id : Nat) (s : State) : Out :=
  .next
    (if 0x3FF < id then s
     else writeGate route (if within id 0x080 0x0BF then 2 else 1) (0x71000 + 4 * id) m4to9 (latchClearWrite route id) s)

/-- R493: the pulse of a pin ends. -/
def execGpioPulseEnd (k : Nat) (s : State) : Out :=
  .next { s with evt := { s.evt with gpio := clearBit s.evt.gpio k } }

end Sys2Proof.Machine
end

