-- ==== Sys2Proof/Machine/KvOps.lean ====
section
/-! DEFINITION. What one operation on keys does, whoever asks (R342–R346, R356–R373, R397–R399): reads, writes,
batches, vectors, snapshots and scans. -/

namespace Sys2Proof.Machine

/-! ## Refusals -/

/-- A refused argument: its name on a line, its offset in a DKP body (R340). -/
def argRefused (code : Nat) (arg : String) (off : Nat) : Refused := ⟨code, [("arg", .w arg)], detailOffset off⟩

def denied206 : Refused := ⟨206, [], []⟩
def absent205 : Refused := ⟨205, [], []⟩

/-- 204 CONFLICT with its reason and the present version (Table 14.5). -/
def conflict (reason ver : Nat) : Refused := ⟨204, [("reason", .n reason), ("ver", .n ver)], detailConflict reason ver⟩

/-- 209 EXHAUSTED: the resource code of Table 14.5 and its word. -/
def exhausted (res : Nat) (word : String) : Refused := ⟨209, [("res", .w word)], detailExhausted res⟩

/-- 202 BUSY with an estimate in the range of R339, which is a free value (log entry 3). -/
def busyEstimate (bound : Nat) (s : State) : State × Refused := (s.tick, busyFor (clampFree s.free 100 1000000) bound)

/-! ## Keys -/

/-- The bytes a vector of a key takes (R409). -/
def vecLen (s : State) (vec : Option (Nat × Nat)) : Nat :=
  match vec with
  | some (c, _) => match s.coll c with | some c => c.v | none => 0
  | none => 0

/-- The stored size of a key (R358). -/
def storedSize (s : State) (e : KeyEnt) : Nat := e.key.length + e.val.length + vecLen s e.vec + 48

def userBytes (s : State) : Nat := sumNat (s.kv.keys.map (storedSize s))

/-- INDEX capacity in keys (R273), at most 2^32 (R358). -/
def indexKeys (s : State) : Nat := min (2 ^ 32) (s.reg .DRAM_INDEX_GIB * 1073741824 * 15 / 16 / 14)

/-- From its expiry instant a key is absent (R360). -/
def KeyEnt.expired (e : KeyEnt) (tai : Nat) : Bool := match e.expiry with | some x => x ≤ tai | none => false

/-- The entry of a key as operations see it. -/
def visible (s : State) (ns : Nat) (key : Text) : Option KeyEnt :=
  match keyGet s.kv.keys ns key with
  | some e => if e.expired s.clk.tai then none else some e
  | none => none

/-- Seconds left, rounded down; all ones where there is no expiry (R360, Table 14.4). -/
def KeyEnt.ttlLeft (e : KeyEnt) (tai : Nat) : Nat :=
  match e.expiry with | some x => (x - tai) / 1000000000 | none => 0xFFFFFFFF

/-- Version 2^64 − 1: the key is frozen (R359). -/
def frozenVer : Nat := 2 ^ 64 - 1

/-- Reading the index or META: an uncorrectable error there fails the request that meets it, and while the structure
is rebuilt requests that need it wait (R279). `region` is 3 or 4. -/
def structureRefusal (region : Nat) (s : State) : State × Option Refused :=
  if s.mem.repair.any (· == region) then
    let (s, r) := busyEstimate 9 s
    (s, some r)
  else
    match s.mem.ue.find? fun x => x.region == region with
    | some e =>
      let ch := errChannel s e
      let s := { s with mem := { s.mem with ue := s.mem.ue.filter fun x => x != e, repair := s.mem.repair ++ [region] } }
      let word := if region == 3 then "INDEX" else "META"
      (raise (0x280 + 4 * ch + 1) [("ch", .n ch), ("region", .c region word)] (s.incReg .DRAM_UE_COUNT), some ⟨300, [], []⟩)
    | none => (s, none)

/-- Reading a key's record: its check, which fails as well where the record-key table holds no key for the namespace (R248,
R376; log entry 118), and an unreadable page (R283). -/
def recordRefusal (e : KeyEnt) (s : State) : State × Option Refused :=
  match (if s.sec.recKeys.any fun k => k.1 == e.ns then e.media else 1) with
  | 0 => (s, none)
  | 1 => (raise 0x25A [("ns", .n e.ns)] s, some ⟨301, [], []⟩)
  | n + 2 => (raise (0x200 + 4 * (n / 8)) [("ch", .n (n / 8)), ("tgt", .n (n % 8))] s, some ⟨300, [], []⟩)

/-- A key read with device authority (R362): its entry, or why not. The index walk runs on the context engine (R13). -/
def readKey (ns : Nat) (key : Text) (s : State) : State × Except Refused KeyEnt :=
  match structureRefusal 3 (startWalk s) with
  | (s, some r) => (s, .error r)
  | (s, none) =>
    match visible s ns key with
    | none => (s, .error absent205)
    | some e =>
      match recordRefusal e s with
      | (s, some r) => (s, .error r)
      | (s, none) => (s, .ok e)

/-- R356, R362, R363: a key classified and its read test: the action word, or why not. -/
def readTest (ns : Nat) (key : Text) (roles : Nat) (s : State) : State × Except Refused Nat :=
  if ns == 0 then (s, .error denied206)
  else
    match classify ns key s with
    | (s, none) => let (s, r) := busyEstimate 10 s; (s, .error r)
    | (s, some w) => if roleMeets roles (readRoles w) then (s, .ok w) else (s, .error denied206)

/-- What GET reads (R342, R366): the entry and the class tag of the key's present classification. -/
def getKey (ns : Nat) (key : Text) (roles : Nat) (s : State) : State × Except Refused (KeyEnt × Nat) :=
  match readTest ns key roles s with
  | (s, .error r) => (s, .error r)
  | (s, .ok w) =>
    if key.isEmpty then (s, .error (argRefused 103 "key" 2)) else
    match readKey ns key s with
    | (s, .error r) => (s, .error r)
    | (s, .ok e) => (s, .ok (e, classTag w))

/-- The bytes of a range and whether they end before it does (R342). -/
def valueRange (val : Text) (off len : Nat) : Text × Bool :=
  if val.length ≤ off then ([], true)
  else if len == 0xFFFFFFFF then (val.drop off, false)
  else ((val.drop off).take len, val.length < off + len)

/-! ## Writes -/

/-- The writing operations (Table 14.4). -/
inductive WOp where
  | put | del | cas | casDel | vput | vdel
  deriving DecidableEq, Repr

/-- One write as it is judged: `absent` for only-if-absent, `expect` the version a CAS expects, `coll` with the
vector and a supplied sketch for VPUT, `coll` and `keep` for VDEL; where its parts stand in a DKP body. -/
structure SubOp where
  op : WOp
  key : Text
  val : Text
  ttl : Option Nat
  absent : Bool
  expect : Nat
  coll : Nat
  fmt : Nat
  d : Nat
  vec : Text
  sketch : Option Text
  keep : Bool
  ttlAt : Nat
  keyAt : Nat
  valAt : Nat
  vecAt : Nat
  subAt : Nat
  deriving DecidableEq, Repr

/-- What a write answers: the version shown, the locator stored or retired. -/
structure Wrote where
  ver : Nat
  loc : Nat
  deriving DecidableEq, Repr

/-- What has been judged so far of one request: the items to commit and their bytes, what is answered. -/
structure Plan where
  items : List Item
  bytes : Nat
  wrote : List Wrote
  frozen : Bool
  deriving DecidableEq, Repr

def WOp.needsRead : WOp → Bool → Bool
  | .put, absent => absent
  | .vput, absent => absent
  | .cas, _ => true
  | .casDel, _ => true
  | _, _ => false

/-- The smaller of the nonzero ones of the given TTL and the retention TTL (R360, R361); 0 where there is none. -/
def effectiveTtl (given retention : Nat) : Nat :=
  if given == 0 then retention else if retention == 0 then given else min given retention

/-- Where a collection's state keeps a vector operation out (R387, R388, R397). -/
def collRefusal (c : Coll) (s : State) : State × Option Refused :=
  if c.state == 3 then let (s, r) := busyEstimate 9 s; (s, some r) else (s, none)

def sideRefusal (c : Coll) (s : State) : State × Option Refused :=
  if c.full then let (s, r) := busyEstimate 9 s; (s, some r) else (s, none)

/-- A collection that ops and verbs can name: not absent, not dropping (R387, R388). -/
def State.liveColl (s : State) (n : Nat) : Option Coll :=
  match s.coll n with
  | some c => if c.state == 4 then none else some c
  | none => none

/-- Retires the vector of an entry (R399): its slot record and delete entry, and the locator. -/
def dropVec (e : KeyEnt) (s : State) : State × Except Refused (List Item × Nat) :=
  match e.vec with
  | none => (s, .ok ([], 0))
  | some (n, i) =>
    match s.coll n with
    | none => (s, .ok ([], 0))
    | some c =>
      match structureRefusal 4 s with
      | (s, some r) => (s, .error r)
      | (s, none) =>
        match sideRefusal c s with
        | (s, some r) => (s, .error r)
        | (s, none) =>
          match slotGet c.slots i with
          | none => (s, .ok ([], 0))
          | some x =>
            let (x', d) := c.retire x
            let (s, item) := placeVec c x' d s
            (s, .ok ([item], locator c.num x.idx x.use))

/-- The argument checks of R346 and R397 on a VPUT: the collection, format, D, sketch, namespace, feed flag, elements. -/
def vputArgs (ns word : Nat) (o : SubOp) (s : State) : Except Refused Coll :=
  if 63 < o.coll then .error (argRefused 103 "coll" (o.subAt + 1))
  else if 2 < o.fmt then .error (argRefused 103 "fmt" 3)
  else match s.liveColl o.coll with
  | none => .error absent205
  | some c =>
    if o.fmt != c.fmt then .error (argRefused 102 "fmt" 3)
    else if o.d != c.d then .error (argRefused 102 "d" 4)
    else if c.client != o.sketch.isSome then .error (argRefused 102 "sketch" 6)
    else if (match o.sketch with | some k => k.length != c.w / 8 | none => false) then
      .error (argRefused 102 "sketch" (o.vecAt + c.v))
    else if ns != c.ns then .error (argRefused 102 "ns" 0)
    else if !feeds word then .error denied206
    else if c.fmt == 1 then
      match badHalf c.d o.vec with
      | some i => .error (argRefused 102 "vec" (o.vecAt + 2 * i))
      | none => .ok c
    else .ok c

/-- A key that holds a vector in another collection (R397). `shown` is the version that the reply may show (R364). -/
def otherVector (c : Coll) (cur : Option KeyEnt) (shown : Nat) : Option Refused :=
  match cur.bind (·.vec) with
  | some (n, _) => if n == c.num then none else some (conflict 3 shown)
  | none => none

/-- The slot, entry kind and locator of an accepted vector (R397, R398). -/
def vectorSlot (c : Coll) (cur : Option KeyEnt) (s : State) : State × Except Refused (Nat × Nat × Nat) :=
  match cur.bind (·.vec) with
  | some (_, i) => (s, .ok (i, ((slotGet c.slots i).map (·.use)).getD 1, 2))
  | none =>
    match c.assign s.free with
    | some (i, u) => (s.tick, .ok (i, u, 1))
    | none => (collEvent c 6 s, .error (exhausted 5 "slots"))

/-- Stores a vector (R398): its slot record and one side-list entry, after the checks of R397 in their order. -/
def storeVec (o : SubOp) (ns ver tag : Nat) (rd : Bool) (cur : Option KeyEnt) (c : Coll) (s : State) :
    State × Except Refused (Item × Nat × (Nat × Nat)) :=
  match otherVector c cur (if rd then (cur.map (·.ver)).getD 0 else 0), collRefusal c s with
  | some r, _ => (s, .error r)
  | none, (s, some r) => (s, .error r)
  | none, (s, none) =>
    match structureRefusal 4 s with
    | (s, some r) => (s, .error r)
    | (s, none) =>
      match sideRefusal c s with
      | (s, some r) => (s, .error r)
      | (s, none) =>
        match vectorSlot c cur s with
        | (s, .error r) => (s, .error r)
        | (s, .ok (i, u, kind)) =>
          let k := match o.sketch with | some k => k | none => sketchOf c.fmt c.d c.w c.seed o.vec
          let x : Slot := { idx := i, use := u, live := true, ns := ns, key := o.key, ver := ver, tag := tag, sketch := k,
                            vec := o.vec, seq := c.nextSeq, free := false, ok := true }
          let d : Side := { loc := locator c.num i u, seq := c.nextSeq, sup := 0, absorbed := 0, tag := tag, kind := kind,
                            sketch := k }
          let (s, item) := placeVec c x d s
          (s, .ok (item, locator c.num i u, (c.num, i)))

/-- Bytes of the side-list tail that a change of a vector leaves (Table 16.3). -/
def tailBytes (s : State) (vec : Option (Nat × Nat)) : Nat :=
  match vec with
  | some (n, _) => match s.coll n with | some c => 24 + c.w / 8 | none => 0
  | none => 0

/-- R358: the limits that a stored key meets. `old` is the record it replaces. -/
def limitRefusal (old : Option KeyEnt) (e : KeyEnt) (s : State) : State × Option Refused :=
  let keys := s.kv.keys.length
  if old.isNone && indexKeys s ≤ keys then
    (raiseLimited 0x254 (sec 1) (fun _ => [("keys", .n keys)]) s, some (exhausted 2 "index"))
  else
    let was := match old with | some x => storedSize s x | none => 0
    let now := storedSize s e
    let total := userBytes s + nandReserved s.colls
    let cap := s.reg .FLASH_USER_GIB * 1073741824
    if was < now && cap < total - was + now then
      (raiseLimited 0x253 (sec 1) (fun _ => [("mib", .n (userBytes s / 1048576)), ("cap", .n (cap / 1048576))]) s,
       some (exhausted 5 "space"))
    else (s, none)

/-- A write that stores a key: its TTL, its vector, the limits, the new record (R358–R361, R398). -/
def storeKey (ns word : Nat) (rd : Bool) (o : SubOp) (old cur : Option KeyEnt) (c : Option Coll) (p : Plan) (s : State) :
    State × Except Refused Plan :=
  let r := retClass word
  let eff := effectiveTtl (o.ttl.getD 0) (if r == 0 then 0 else s.reg .KV_RET_S (r - 1))
  if eff != 0 && !s.clk.valid then (raiseCount 0x259 [] s, .error ⟨208, [], []⟩)
  else
    let ver := match cur with | some e => e.ver + 1 | none => 1
    let gone : State × Except Refused (List Item × Nat) :=
      match cur, old with
      | none, some e => dropVec e s
      | _, _ => (s, .ok ([], 0))
    match gone with
    | (s, .error r) => (s, .error r)
    | (s, .ok (freed, _)) =>
      let placed : State × Except Refused (List Item × Nat × Option (Nat × Nat)) :=
        match c with
        | some c =>
          let c := (s.coll c.num).getD c
          match storeVec o ns ver (classTag word) rd cur c s with
          | (s, .error r) => (s, .error r)
          | (s, .ok (i, loc, at_)) => (s, .ok ([i], loc, some at_))
        | none => (s, .ok ([], 0, cur.bind (·.vec)))
      match placed with
      | (s, .error r) => (s, .error r)
      | (s, .ok (items, loc, vec)) =>
        let e : KeyEnt :=
          { ns := ns, key := o.key, ver := ver, val := o.val,
            expiry := if eff == 0 then none else some (s.clk.tai + eff * 1000000000), vec := vec, pos := s.kv.pos + 1, media := 0 }
        match limitRefusal old e s with
        | (s, some r) => (s, .error r)
        | (s, none) =>
          let s := { s with kv := { s.kv with keys := keyPut s.kv.keys e } }
          let tail := match c with | some c => 24 + c.w / 8 | none => 0
          (s, .ok { items := p.items ++ freed ++ items ++ [.put e], bytes := p.bytes + storedSize s e + tail,
                    wrote := p.wrote ++ [⟨if rd then ver else 0, loc⟩], frozen := p.frozen || ver == frozenVer })

/-- A write that removes a key with its vector (R343, R364, R399). -/
def removeKey (ns : Nat) (rd : Bool) (o : SubOp) (cur : Option KeyEnt) (p : Plan) (s : State) : State × Except Refused Plan :=
  match cur with
  | none =>
    if o.op == .del && !rd then (s, .ok { p with wrote := p.wrote ++ [⟨0, 0⟩] }) else (s, .error absent205)
  | some e =>
    match dropVec e s with
    | (s, .error r) => (s, .error r)
    | (s, .ok (items, loc)) =>
      let s := { s with kv := { s.kv with keys := keyDel s.kv.keys ns o.key } }
      (s, .ok { items := p.items ++ items ++ [.del ns o.key], bytes := p.bytes + o.key.length + 48 + tailBytes s e.vec,
                wrote := p.wrote ++ [⟨if rd then e.ver else 0, if rd then loc else 0⟩], frozen := p.frozen })

/-- VDEL that keeps the value (R346): a write of the key like any other, so its expiry is set afresh (R360). -/
def keepKey (ns word : Nat) (rd : Bool) (e : KeyEnt) (p : Plan) (s : State) : State × Except Refused Plan :=
  let eff := if retClass word == 0 then 0 else s.reg .KV_RET_S (retClass word - 1)
  if eff != 0 && !s.clk.valid then (raiseCount 0x259 [] s, .error ⟨208, [], []⟩)
  else
    match dropVec e s with
    | (s, .error r) => (s, .error r)
    | (s, .ok (items, loc)) =>
      let x : KeyEnt :=
        { e with ns := ns, ver := e.ver + 1, vec := none, pos := s.kv.pos + 1, media := 0,
                 expiry := if eff == 0 then none else some (s.clk.tai + eff * 1000000000) }
      let s := { s with kv := { s.kv with keys := keyPut s.kv.keys x } }
      (s, .ok { items := p.items ++ items ++ [.put x], bytes := p.bytes + storedSize s x + tailBytes s e.vec,
                wrote := p.wrote ++ [⟨if rd then x.ver else 0, if rd then loc else 0⟩], frozen := p.frozen || x.ver == frozenVer })

/-- The collection of a VDEL (R346, R388). -/
def vdelRefusal (o : SubOp) (s : State) : Option Refused :=
  if 63 < o.coll then some (argRefused 103 "coll" 1)
  else if (s.liveColl o.coll).isNone then some absent205 else none

/-- Whether a key holds a vector in a collection. -/
def holdsVector (n : Nat) (cur : Option KeyEnt) : Bool := cur.any fun e => e.vec.any fun v => v.1 == n

/-- VDEL of a key without a vector in the collection: 205, but where nothing of the key may be revealed the reply of a write that
removed one (R364; log entry 120). -/
def noVector (rd : Bool) (p : Plan) (s : State) : State × Except Refused Plan :=
  if rd then (s, .error absent205) else (s, .ok { p with wrote := p.wrote ++ [⟨0, 0⟩] })

/-- Execution of one write whose tests have passed (R343, R346, R359). -/
def runSub (ns word : Nat) (rd : Bool) (o : SubOp) (p : Plan) (s : State) : State × Except Refused Plan :=
  match structureRefusal 3 (startWalk s) with
  | (s, some r) => (s, .error r)
  | (s, none) =>
    let old := keyGet s.kv.keys ns o.key
    let cur := visible s ns o.key
    let ver := (cur.map (·.ver)).getD 0
    if cur.isSome && ver == frozenVer then (s, .error (exhausted 1 "version"))
    else if o.absent && cur.isSome then (s, .error (conflict 1 ver))
    else if (o.op == .cas || o.op == .casDel) && o.expect != ver then (s, .error (conflict 1 ver))
    else
      match o.op with
      | .del => removeKey ns rd o cur p s
      | .casDel => removeKey ns rd o cur p s
      | .vdel =>
        match vdelRefusal o s, cur with
        | some r, _ => (s, .error r)
        | none, some e =>
          if !holdsVector o.coll cur then noVector rd p s
          else if o.keep then keepKey ns word rd e p s else removeKey ns rd o cur p s
        | none, none => noVector rd p s
      | .vput =>
        match s.coll o.coll with
        | none => (s, .error absent205)
        | some c => storeKey ns word rd o old cur (some c) p s
      | _ => storeKey ns word rd o old cur none p s

/-- Steps 10 to 12 of Table 14.2 for one write. Device authority has no roles. -/
def judgeSub (ns : Nat) (roles : Option Nat) (o : SubOp) (p : Plan) (s : State) : State × Except Refused Plan :=
  if ns == 0 || (ns == 1 && roles.isSome && o.op != .del && o.op != .vdel) then (s, .error denied206)
  else
    match classify ns o.key s with
    | (s, none) => let (s, r) := busyEstimate 10 s; (s, .error r)
    | (s, some w) =>
      let rd := match roles with | some m => roleMeets m (readRoles w) | none => true
      let wr := match roles with | some m => roleMeets m (writeRoles w) | none => true
      if !wr || (o.op.needsRead o.absent && !rd) then (s, .error denied206)
      else if o.key.isEmpty then (s, .error (argRefused 103 "key" o.keyAt))
      else if o.ttl == some 0 || (o.ttl.getD 1) == 0xFFFFFFFF then (s, .error (argRefused 103 "ttl" o.ttlAt))
      else if 2097152 < o.val.length then (s, .error (argRefused 103 "val" o.valAt))
      else if o.op == .vput then
        match vputArgs ns w o s with
        | .error r => (s, .error r)
        | .ok _ => runSub ns w rd o p s
      else runSub ns w rd o p s

/-- The writes of a request in turn; the first that fails decides, with its place. -/
def judgeSubs (ns : Nat) (roles : Option Nat) : List SubOp → Nat → List Text → Plan → State → State × Except (Nat × Refused) Plan
  | [], _, _, p, s => (s, .ok p)
  | o :: os, i, seen, p, s =>
    if seen.any (· == o.key) then (s, .error (i, argRefused 102 "key" o.subAt))
    else
      match judgeSub ns roles o p s with
      | (s, .error r) => (s, .error (i, r))
      | (s, .ok p) => judgeSubs ns roles os (i + 1) (o.key :: seen) p s

/-- What a committed request leaves: what each write answers, the store position, whether the answer waits for it
(R373). -/
structure Committed where
  wrote : List Wrote
  pos : Nat
  through : Bool
  deriving DecidableEq, Repr

/-- R345, R367, R368, R373: a request's writes, all or none, at one instant and one store position. -/
def kvWrite (ns : Nat) (roles : Option Nat) (subs : List SubOp) (s : State) : State × Except (Nat × Refused) Committed :=
  let undo (s' : State) : State := { s' with kv := { s'.kv with keys := s.kv.keys }, colls := s.colls }
  match judgeSubs ns roles subs 0 [] ⟨[], 0, [], false⟩ s with
  | (s', .error e) => (undo s', .error e)
  | (s', .ok p) =>
    if p.items.isEmpty then (s', .ok ⟨p.wrote, s'.kv.pos, false⟩)
    else
      match writeRefusal p.bytes s' with
      | some r => (refusalEvent p.bytes (undo s'), .error (0, r))
      | none =>
        let s' := commitStore p.items p.bytes s'
        let s' := if p.frozen then raise 0x255 [("ns", .n ns)] s' else s'
        (s', .ok ⟨p.wrote, s'.kv.pos, writeThrough ns s'⟩)

/-- A plain write of a value. -/
def SubOp.plain (op : WOp) (key val : Text) (ttl : Option Nat) (absent : Bool) (expect : Nat) : SubOp :=
  { op := op, key := key, val := val, ttl := ttl, absent := absent, expect := expect, coll := 0, fmt := 0, d := 0,
    vec := [], sketch := none, keep := false, ttlAt := 0, keyAt := 0, valAt := 0, vecAt := 0, subAt := 0 }

/-! ## Snapshots and scans -/

/-- A token that no open snapshot has, at or above a nonzero free value (R369; log entry 3). -/
def freshToken (l : List Snap) (free : Nat) : Nat :=
  let t := clampFree free 1 (2 ^ 64 - 1)
  if l.any fun x => x.token == t then l.foldl (fun m x => max m x.token) 0 + 1 else t

/-- The snapshot used least recently. -/
def oldestUsed : List Snap → Option Snap
  | [] => none
  | x :: xs => match oldestUsed xs with | none => some x | some y => if y.used < x.used then some y else some x

/-- A snapshot ends early, with its reason (R370, Table 19.5b). -/
def endSnap (token reason : Nat) (s : State) : State :=
  let words := ["idle", "closed", "limit", "space"]
  raise 0x256 [("reason", .c reason (words.getD (reason - 1) ""))]
    { s with kv := { s.kv with snaps := s.kv.snaps.filter fun x => x.token != token } }

/-- R369, R370: a snapshot of a namespace for a route. -/
def openSnap (owner : Route) (ns : Nat) (s : State) : State × Snap :=
  let s := if 64 ≤ s.kv.snaps.length then (match oldestUsed s.kv.snaps with | some x => endSnap x.token 3 s | none => s) else s
  let x : Snap :=
    { token := freshToken s.kv.snaps s.free, owner := owner, ns := ns, pos := s.kv.pos, tai := s.clk.tai, used := s.now,
      keys := s.kv.keys.filter fun e => e.ns == ns && !e.expired s.clk.tai }
  ({ s.tick with kv := { s.kv with snaps := s.kv.snaps ++ [x] } }, x)

/-- How a scan stopped (Table 14.4) and what it returned. -/
structure Scanned where
  entries : List (KeyEnt × Bool)
  stop : Nat
  token : Nat
  deriving DecidableEq, Repr

/-- Bytes of a SCAN entry, without its value where that is left out (R341). -/
def entrySize (keysOnly : Bool) (e : KeyEnt) : Nat := 13 + e.key.length + (if keysOnly then 0 else e.val.length)

/-- R344, R371: entries in order from a list of keys, while they fit `room` bytes with the header and the last key,
each key reached being classified. An entry with `false` is returned without its value. -/
def scanKeys (roles : Nat) (keysOnly : Bool) (room : Nat) :
    List KeyEnt → Nat → Nat → List (KeyEnt × Bool) → State → State × Except Refused (List (KeyEnt × Bool) × Nat)
  | [], _, _, got, s => (s, .ok (got, 0))
  | _ :: _, 0, _, got, s => (s, .ok (got, 1))
  | e :: es, n + 1, used, got, s =>
    match classify e.ns e.key s with
    | (s, none) => let (s, r) := busyEstimate 10 s; (s, .error r)
    | (s, some w) =>
      if !roleMeets roles (readRoles w) || denyScan w then (s, .ok (got, 3))
      else if room < 16 + e.key.length + used + entrySize keysOnly e then
        (s, .ok (if got.isEmpty then ([(e, false)], 2) else (got, 2)))
      else
        match (if keysOnly then (s, none) else recordRefusal e s) with
        | (s, some r) => (s, .error r)
        | (s, none) => scanKeys roles keysOnly room es n (used + entrySize keysOnly e) (got ++ [(e, true)]) s

/-- R344, R369: a scan on a route, of a new snapshot or of one it holds. `start` is inclusive, `stop` exclusive;
an empty one does not bound. -/
def scan (owner : Route) (roles ns : Nat) (start stop : Text) (n : Nat) (keysOnly : Bool) (token room : Nat) (s : State) :
    State × Except Refused Scanned :=
  match structureRefusal 4 s with
  | (s, some r) => (s, .error r)
  | (s, none) =>
    let opened : State × Except Refused Snap :=
      if token == 0 then let (s, x) := openSnap owner ns s; (s, .ok x)
      else
        match s.kv.snaps.find? fun x => x.token == token && x.owner == owner with
        | none => (s, .error ⟨208, [], []⟩)
        | some x =>
          if x.ns != ns then (s, .error (argRefused 102 "token" 8))
          else
            let x := { x with used := s.now }
            ({ s with kv := { s.kv with snaps := s.kv.snaps.map fun y => if y.token == x.token then x else y } }, .ok x)
    match opened with
    | (s, .error r) => (s, .error r)
    | (s, .ok x) =>
      let keys := x.keys.filter fun e => !textLt e.key start && (stop.isEmpty || textLt e.key stop)
      match scanKeys roles keysOnly room keys n 0 [] s with
      | (s, .error r) => (s, .error r)
      | (s, .ok (got, stop)) => (s, .ok ⟨got, stop, x.token⟩)

/-! ## What time and the NAND do -/

/-- R360, R399: an expired key is removed; one whose vector's side list is full waits. -/
def execKeyExpiryRemoval (ns : Nat) (key : Text) (s : State) : Host.Outcome State Fault Refusal :=
  .next
    (if !s.inService then s
     else
       match keyGet s.kv.keys ns key with
       | none => s
       | some e =>
         if !e.expired s.clk.tai then s
         else
           match dropVec e s with
           | (s', .error _) => s'
           | (s', .ok (items, _)) =>
             let s' := { s' with kv := { s'.kv with keys := keyDel s'.kv.keys ns key } }
             (commitStore (items ++ [.del ns key]) (key.length + 48) s').incReg .KV_EXPIRED)

/-- R370: a snapshot ends because it was not used for KV.SNAP_S; for want of free blocks, the oldest one does. -/
def execSnapshotEnd (token : Nat) (space : Bool) (s : State) : Host.Outcome State Fault Refusal :=
  .next
    (if space then
       match s.kv.snaps with
       | x :: _ => if s.mem.freePermille < s.reg .GOV_GC_LO_PCT * 10 then endSnap x.token 4 s else s
       | [] => s
     else if s.kv.snaps.any fun x => x.token == token && x.used + sec (s.reg .KV_SNAP_S) ≤ s.now then endSnap token 1 s
     else s)

/-- R373, R375: the oldest dirty writes are programmed, and the replies that waited for them go out. -/
def execDirtyDataProgrammed (n : Nat) (s : State) : Host.Outcome State Fault Refusal :=
  .next (if nCh s == 0 || !(s.firmware || s.pwr.failing) then s else programDirty n s)

/-- R380, R381, R85: live data moved to release blocks, and the free blocks in thousandths afterwards. -/
def execGarbageCollection (moved free : Nat) (s : State) : Host.Outcome State Fault Refusal :=
  .next (if s.firmware then noteFree free (noteWaf 0 moved s) else s)

end Sys2Proof.Machine
end

