-- ==== Sys2Proof/Machine/KvVerbs.lean ====
section
/-! DEFINITION. The KV verbs (R365, R375, R384, R511): the store's operations on a line. -/

namespace Sys2Proof.Machine

/-! ## Replies that wait for the NAND -/

/-- A reply waits until a store position is programmed (R373, R375). -/
def waitFor (w : Wait) (s : State) : State :=
  let s := { s with kv := { s.kv with waits := s.kv.waits ++ [w] } }
  if w.op == 0x0C || !Route.isDkp w.route then setBusy w.route w.verb s else s

/-- The reply of a write verb: at once, or once it is programmed with persisted=1. A write that changes nothing on
NAND reads persisted=1 (R373). -/
def replyWrite (r : Route) (verb : String) (c : Committed) (f : Nat → List (String × Val)) (s : State) : State :=
  if c.through && s.kv.diskPos < c.pos then
    waitFor { pos := c.pos, route := r, id := 0, op := 0x0C, verb := verb, sync := false, reply := ⟨0, f 1⟩, body := [] } s
  else done r (f (if c.pos ≤ s.kv.diskPos then 1 else 0)) s

def refuse (r : Route) (x : Refused) (s : State) : State := reply r x.code x.kv s

def nsArg : ArgSpec := ⟨"ns", true, .num 0 255⟩
def keyArg : ArgSpec := ⟨"key", true, .str 1 255⟩
def kvReadModes : List Mode := m4to9
def kvWriteModes : List Mode := m4to7

/-! ## Reads -/

def vKvGet : Verb :=
  { name := "KV.GET", modes := kvReadModes, level := 0, changes := false, loop := false,
    args := [nsArg, keyArg, ⟨"off", false, .num 0 4294967295⟩, ⟨"len", false, .num 0 4294967295⟩] }

/-- The 004 MORE lines of a run of bytes, 96 a line (R511). -/
def byteLines (off : Nat) (b : Text) : Nat → List (List (String × Val))
  | 0 => []
  | n + 1 => if b.isEmpty then [] else [("o", .n off), ("d", .b (b.take 96))] :: byteLines (off + 96) (b.drop 96) n

/-- R342, R511: at most 4,096 bytes of the value. -/
def doKvGet (l : Line) (s : State) : State :=
  let r := l.route
  gate vKvGet l (fun s =>
    match getKey (l.nat "ns") (l.text "key") (s.roles r) s with
    | (s, .error x) => refuse r x s
    | (s, .ok (e, tag)) =>
      let off := l.nat "off"
      let (bytes, past) := valueRange e.val off (l.nat "len" 0xFFFFFFFF)
      let cut := 4096 < bytes.length
      let kv := [("ver", Val.n e.ver), ("len", .n e.val.length), ("ttl", .n (e.ttlLeft s.clk.tai)), ("tag", .x 4 tag)]
      let s := more r (byteLines off (bytes.take 4096) 43) s
      if cut then reply r 2 (kv ++ [("next", .n (off + 4096))]) s
      else if past then reply r 2 kv s
      else done r kv s) s

def execKvGet (l : Line) (s : State) : Host.Outcome State Fault Refusal := .next (doKvGet l s)

def vKvScan : Verb :=
  { name := "KV.SCAN", modes := kvReadModes, level := 0, changes := false, loop := false,
    args := [nsArg, ⟨"start", false, .str 0 255⟩, ⟨"end", false, .str 0 255⟩, ⟨"n", false, .num 1 16⟩,
      ⟨"token", false, .num 0 18446744073709551615⟩] }

/-- The entries of a scan that lines of 250 characters can carry, and whether one could not (R100). -/
def lineEntries (addr token : Nat) : List (KeyEnt × Bool) → List KeyEnt × Bool
  | [] => ([], false)
  | (e, _) :: es =>
    let row := (replyText addr ⟨4, [("key", .q e.key), ("ver", .n e.ver), ("len", .n e.val.length)]⟩).length
    let last := (replyText addr ⟨2, [("stop", .n 2), ("last", .q e.key), ("token", .x 16 token)]⟩).length
    if 250 < row || 250 < last then ([], true)
    else let (l, cut) := lineEntries addr token es; (e :: l, cut)

/-- R344, R369, R511: keys only. -/
def doKvScan (l : Line) (s : State) : State :=
  let r := l.route
  gate vKvScan l (fun s =>
    if l.nat "ns" == 0 then refuse r denied206 s
    else
      match scan r (s.roles r) (l.nat "ns") (l.text "start") (l.text "end") (l.nat "n" 16) true (l.nat "token") 65536 s with
      | (s, .error x) => refuse r x s
      | (s, .ok x) =>
        let (es, cut) := lineEntries (s.reg .LINE_ADDR) x.token x.entries
        let stop := if cut then 2 else x.stop
        let s := more r (es.map fun e => [("key", Val.q e.key), ("ver", .n e.ver), ("len", .n e.val.length)]) s
        reply r (if stop == 0 then 0 else 2)
          [("stop", .n stop), ("last", .q ((es.getLast?.map (·.key)).getD [])), ("token", .x 16 x.token)] s) s

def execKvScan (l : Line) (s : State) : Host.Outcome State Fault Refusal := .next (doKvScan l s)

/-- Keys, value bytes and vectors of a namespace (Table 14.6). -/
def nsCounts (s : State) (ns : Nat) : Nat × Nat × Nat :=
  let l := s.kv.keys.filter fun e => e.ns == ns
  (l.length, sumNat (l.map (·.val.length)), (l.filter (·.vec.isSome)).length)

def vKvStat : Verb :=
  { name := "KV.STAT", modes := kvReadModes, level := 0, changes := false, loop := false, args := [nsArg] }

/-- R356, R511. -/
def doKvStat (l : Line) (s : State) : State :=
  let r := l.route
  gate vKvStat l (fun s =>
    if l.nat "ns" == 0 then refuse r denied206 s
    else
      let (k, b, v) := nsCounts s (l.nat "ns")
      done r [("keys", .n k), ("bytes", .n b), ("vectors", .n v)] s) s

def execKvStat (l : Line) (s : State) : Host.Outcome State Fault Refusal := .next (doKvStat l s)

/-! ## Writes -/

/-- Which of the arguments that give a value is missing or one too many: exactly one is given. -/
def valueArg (l : Line) (names : List String) : Except String String :=
  match names.filter l.has with
  | [n] => .ok n
  | [] => .error "val"
  | _ :: n :: _ => .error n

/-- A write verb: its refusal, or the version once it is committed (R373). -/
def lineWrite (l : Line) (verb : String) (o : SubOp) (s : State) : State :=
  let r := l.route
  match kvWrite (l.nat "ns") (some (s.roles r)) [o] s with
  | (s, .error (_, x)) => refuse r x s
  | (s, .ok c) =>
    let ver := (c.wrote.map (·.ver)).headD 0
    replyWrite r verb c (fun p => if verb == "KV.DEL" then [("ver", .n ver)] else [("ver", .n ver), ("persisted", .n p)]) s

def ttlArg : ArgSpec := ⟨"ttl", false, .num 1 4294967294⟩

def vKvPut : Verb :=
  { name := "KV.PUT", modes := kvWriteModes, level := 0, changes := true, loop := false,
    args := [nsArg, keyArg, ⟨"val", false, .str 0 250⟩, ⟨"hex", false, .hex⟩, ttlArg, ⟨"absent", false, .num 0 1⟩] }

/-- R343, R511. -/
def doKvPut (l : Line) (s : State) : State :=
  gate vKvPut l (fun s =>
    match valueArg l ["val", "hex"] with
    | .error a => reply l.route 102 [("arg", .w a)] s
    | .ok a =>
      let v := if a == "hex" then l.bytes "hex" else l.text "val"
      lineWrite l "KV.PUT" (SubOp.plain .put (l.text "key") v (l.nat? "ttl") (l.flag "absent") 0) s) s

def execKvPut (l : Line) (s : State) : Host.Outcome State Fault Refusal := .next (doKvPut l s)

def vKvCas : Verb :=
  { name := "KV.CAS", modes := kvWriteModes, level := 0, changes := true, loop := false,
    args := [nsArg, keyArg, ⟨"ver", true, .num 0 18446744073709551615⟩, ⟨"val", false, .str 0 250⟩, ⟨"hex", false, .hex⟩,
      ⟨"del", false, .num 1 1⟩, ttlArg] }

/-- R343, R511. -/
def doKvCas (l : Line) (s : State) : State :=
  gate vKvCas l (fun s =>
    match valueArg l ["val", "hex", "del"] with
    | .error a => reply l.route 102 [("arg", .w a)] s
    | .ok a =>
      let v := if a == "hex" then l.bytes "hex" else if a == "val" then l.text "val" else []
      let op : WOp := if a == "del" then .casDel else .cas
      lineWrite l "KV.CAS" (SubOp.plain op (l.text "key") v (l.nat? "ttl") false (l.nat "ver")) s) s

def execKvCas (l : Line) (s : State) : Host.Outcome State Fault Refusal := .next (doKvCas l s)

def vKvDel : Verb :=
  { name := "KV.DEL", modes := kvWriteModes, level := 0, changes := true, loop := false, args := [nsArg, keyArg] }

/-- R343, R364, R511. -/
def doKvDel (l : Line) (s : State) : State :=
  gate vKvDel l (fun s => lineWrite l "KV.DEL" (SubOp.plain .del (l.text "key") [] none false 0) s) s

def execKvDel (l : Line) (s : State) : Host.Outcome State Fault Refusal := .next (doKvDel l s)

def vKvSync : Verb :=
  { name := "KV.SYNC", modes := kvWriteModes, level := 1, changes := false, loop := false, args := [] }

/-- R375. -/
def doKvSync (l : Line) (s : State) : State :=
  let r := l.route
  gate vKvSync l (fun s =>
    if s.kv.pos ≤ s.kv.diskPos then done r [("pos", .n s.kv.diskPos)] s
    else
      waitFor { pos := s.kv.pos, route := r, id := 0, op := 0x0C, verb := "KV.SYNC", sync := true, reply := ⟨0, []⟩, body := [] } s) s

def execKvSync (l : Line) (s : State) : Host.Outcome State Fault Refusal := .next (doKvSync l s)

/-! ## Namespace settings -/

/-- The word of a route in an event (Table 19.5b). -/
def routeWord : Route → String
  | .ring => "ring"
  | .tls _ => "tls"
  | .dkp _ => "dkp"

/-- The settings of a namespace changed (R384). -/
def nsChanged (r : Route) (ns : Nat) (s : State) : State :=
  raise 0x250 [("ns", .n ns), ("by", .c r.byte (routeWord r))] s

/-- A value given, or what stands in its place. -/
def givenOr (l : Line) (k : String) (old : Nat) : Nat := (l.nat? k).getD old

/-- The action word that KV.NS leaves of an old one (R464). -/
def nsWord (l : Line) (w : Nat) : Nat :=
  givenOr l "read" (readRoles w) + 2 ^ 16 * givenOr l "write" (writeRoles w) + 2 ^ 32 * givenOr l "tag" (classTag w)
    + 2 ^ 48 * givenOr l "ret" (retClass w) + 2 ^ 51 * givenOr l "feed" (feeds w).toNat
    + 2 ^ 52 * givenOr l "deny" (denyScan w).toNat

def vKvNs (l : Line) : Verb :=
  { name := "KV.NS", modes := m4to9, level := 2, changes := 1 < l.args.length, loop := false,
    args := [nsArg, ⟨"read", false, .num 0 65535⟩, ⟨"write", false, .num 0 65535⟩, ⟨"tag", false, .num 0 65535⟩,
      ⟨"ret", false, .num 0 7⟩, ⟨"feed", false, .num 0 1⟩, ⟨"deny", false, .num 0 1⟩, ⟨"wt", false, .num 0 1⟩] }

/-- R384, R511: reads the settings of a namespace, or writes them as one class I write. -/
def doKvNs (l : Line) (s : State) : State :=
  let r := l.route
  gate (vKvNs l) l (fun s =>
    let ns := l.nat "ns"
    let old := nsAction s ns
    let w := nsWord l old
    let wt := givenOr l "wt" (s.reg .KV_NS_ATTR ns)
    let show_ := [("act", Val.x 16 w), ("wt", .n wt)]
    if ns == 0 then refuse r denied206 s
    else if l.args.length ≤ 1 then done r show_ s
    else
      match ns0Write [⟨.KV_NS_ACT_LO, ns, w % 2 ^ 32⟩, ⟨.KV_NS_ACT_HI, ns, w / 2 ^ 32⟩, ⟨.KV_NS_ATTR, ns, wt⟩] s with
      | (s, some x) => refuse r x s
      | (s, none) =>
        let same := w == old && wt == s.reg .KV_NS_ATTR ns
        let s := ((s.setReg .KV_NS_ACT_LO (w % 2 ^ 32) ns).setReg .KV_NS_ACT_HI (w / 2 ^ 32) ns).setReg .KV_NS_ATTR wt ns
        done r show_ (if same then s else nsChanged r ns s)) s

def execKvNs (l : Line) (s : State) : Host.Outcome State Fault Refusal := .next (doKvNs l s)

end Sys2Proof.Machine
end

