-- ==== Sys2Proof/Machine/DkpOps.lean ====
section
/-! DEFINITION. The DKP ops on keys, STAT and EVENTS (R340–R353): steps 8 to 12 of Table 14.2 on a request whose body
is complete. -/

namespace Sys2Proof.Machine

/-! ## Reading a body -/

def byteAt (b : Text) (i : Nat) : Nat := b.getD i 0
def natAt (b : Text) (i n : Nat) : Nat := leNat ((b.drop i).take n)
def textAt (b : Text) (i n : Nat) : Text := (b.drop i).take n

/-- The offset of the first byte in error of a body that should have a length (R340, step 8). -/
def lengthError (b : Text) (n : Nat) : Option Nat := if b.length == n then none else some (min b.length n)

/-- Steps 8 and 9 for an admitted request of an op: the form of its body gives what steps 10 to 12 do, or the offset of
the first byte in error (R75, R335). A request that is not admitted leaves everything as it is. -/
def dkpRun (q : DkpReq) (op : Nat) (form : Except Nat (Sess → State → State)) (modes : List Mode) (s : State) : State :=
  match s.session q.sess with
  | none => s
  | some x =>
    if !(x.admitted.any fun a => a.id == q.id && a.op == op) then s
    else
      let x := { x with admitted := x.admitted.map fun a => if a.id == q.id then { a with body := q.body } else a }
      let s := s.setSess x
      match form with
      | .error off => respond q.sess q.id op 100 (detailOffset off) 0 s
      | .ok run =>
        if modes.any (· == s.mode) then run x s
        else respond q.sess q.id op 200 (detailState s.mode.num (modesMask modes)) 0 s

/-- A refusal of an op (R340). -/
def dkpRefuse (q : DkpReq) (op : Nat) (r : Refused) (s : State) : State := respond q.sess q.id op r.code r.body 0 s

/-! ## GET (R342) -/

def getBody (e : KeyEnt) (tai tag : Nat) (bytes : Text) : Text :=
  leBytes 8 e.ver ++ leBytes 4 (e.ttlLeft tai) ++ leBytes 4 e.val.length ++ leBytes 2 tag ++ [0, 0] ++ bytes

/-- The version cached with the response of a request that runs again (R337). -/
def cachedVer (x : Sess) (id : Nat) : Option Nat :=
  if x.admitted.any fun a => a.id == id && a.reexec then (x.cache.find? fun c => c.id == id).map (·.ver) else none

def doDkpGet (q : DkpReq) (s : State) : State :=
  let b := q.body
  let n := byteAt b 2
  let form : Except Nat (Sess → State → State) :=
    match lengthError b (12 + n) with
    | some o => .error o
    | none => .ok fun x s =>
      match getKey (byteAt b 0) (textAt b 12 n) x.roles s with
      | (s, .error r) => dkpRefuse q 1 r s
      | (s, .ok (e, tag)) =>
        if (cachedVer x q.id).any (· != e.ver) then respond q.sess q.id 1 208 [] 0 s
        else
          let (bytes, past) := if bitAt (byteAt b 1) 0 then ([], false) else valueRange e.val (natAt b 4 4) (natAt b 8 4)
          respond q.sess q.id 1 (if past then 2 else 0) (getBody e s.clk.tai tag bytes) e.ver s
  dkpRun q 1 form m4to9 s

def execDkpGet (q : DkpReq) (s : State) : Host.Outcome State Fault Refusal := .next (doDkpGet q s)

/-! ## Writes (R343, R345, R346) -/

/-- The response of a write: at once, or once it is programmed (R373). -/
def dkpWrote (q : DkpReq) (op : Nat) (c : Committed) (body : Nat → Text) (s : State) : State :=
  if c.through && s.kv.diskPos < c.pos then
    waitFor { pos := c.pos, route := .dkp q.sess, id := q.id, op := op, verb := "", sync := false, reply := ⟨0, []⟩,
              body := body 1 } s
  else respond q.sess q.id op 0 (body (if c.pos ≤ s.kv.diskPos then 1 else 0)) 0 s

/-- One write by a session: its refusal, or its response body from what was written and the persisted byte. -/
def dkpWrite (q : DkpReq) (op ns : Nat) (o : SubOp) (body : Wrote → Nat → Text) (x : Sess) (s : State) : State :=
  match kvWrite ns (some x.roles) [o] s with
  | (s, .error (_, r)) => dkpRefuse q op r s
  | (s, .ok c) => dkpWrote q op c (body (c.wrote.headD ⟨0, 0⟩)) s

def ttlGiven (flags ttl : Nat) : Option Nat := if bitAt flags 1 then some ttl else none

/-- The body of a PUT or CAS response. -/
def putBody (w : Wrote) (persisted : Nat) : Text := leBytes 8 w.ver ++ [persisted, 0, 0, 0]

def doDkpPut (q : DkpReq) (s : State) : State :=
  let b := q.body
  let n := byteAt b 2
  let v := natAt b 8 4
  let form : Except Nat (Sess → State → State) :=
    if b.length < 12 then .error b.length
    else match lengthError b (12 + n + v) with
    | some o => .error o
    | none => .ok (dkpWrite q 2 (byteAt b 0)
        { SubOp.plain .put (textAt b 12 n) (b.drop (12 + n)) (ttlGiven (byteAt b 1) (natAt b 4 4)) (bitAt (byteAt b 1) 0) 0 with
          ttlAt := 4, keyAt := 2, valAt := 8 } putBody)
  dkpRun q 2 form m4to7 s

def execDkpPut (q : DkpReq) (s : State) : Host.Outcome State Fault Refusal := .next (doDkpPut q s)

def doDkpDelete (q : DkpReq) (s : State) : State :=
  let b := q.body
  let n := byteAt b 2
  let form : Except Nat (Sess → State → State) :=
    match lengthError b (4 + n) with
    | some o => .error o
    | none => .ok (dkpWrite q 3 (byteAt b 0) { SubOp.plain .del (textAt b 4 n) [] none false 0 with keyAt := 2 }
        (fun w _ => leBytes 8 w.ver))
  dkpRun q 3 form m4to7 s

def execDkpDelete (q : DkpReq) (s : State) : Host.Outcome State Fault Refusal := .next (doDkpDelete q s)

def doDkpCas (q : DkpReq) (s : State) : State :=
  let b := q.body
  let n := byteAt b 2
  let v := natAt b 16 4
  let op : WOp := if bitAt (byteAt b 1) 0 then .casDel else .cas
  let form : Except Nat (Sess → State → State) :=
    if b.length < 20 then .error b.length
    else match lengthError b (20 + n + v) with
    | some o => .error o
    | none => .ok (dkpWrite q 4 (byteAt b 0)
        { SubOp.plain op (textAt b 20 n) (b.drop (20 + n)) (ttlGiven (byteAt b 1) (natAt b 12 4)) false (natAt b 4 8) with
          ttlAt := 12, keyAt := 2, valAt := 16 } putBody)
  dkpRun q 4 form m4to7 s

def execDkpCas (q : DkpReq) (s : State) : Host.Outcome State Fault Refusal := .next (doDkpCas q s)

/-- The sub-op that starts at an offset of a BATCH body, and where the next one starts (R341). -/
def batchSub (b : Text) (p : Nat) : Except Nat (SubOp × Nat) :=
  if b.length < p + 20 then .error b.length
  else
    let n := byteAt b (p + 2)
    let v := natAt b (p + 16) 4
    let flags := byteAt b (p + 1)
    let stop := p + 20 + n + v
    let key := textAt b (p + 20) n
    let val := textAt b (p + 20 + n) v
    let ttl := ttlGiven flags (natAt b (p + 12) 4)
    let at_ (o : SubOp) : SubOp := { o with ttlAt := p + 12, keyAt := p + 2, valAt := p + 16, subAt := p }
    if b.length < stop then .error b.length
    else match byteAt b p with
      | 2 => .ok (at_ (SubOp.plain .put key val ttl (bitAt flags 0) 0), stop)
      | 3 => if v == 0 then .ok (at_ (SubOp.plain .del key [] none false 0), stop) else .error (p + 16)
      | 4 => .ok (at_ (SubOp.plain (if bitAt flags 0 then .casDel else .cas) key val ttl false (natAt b (p + 4) 8)), stop)
      | _ => .error p

def batchSubs (b : Text) : Nat → Nat → Except Nat (List SubOp)
  | 0, p => match lengthError b p with | some o => .error o | none => .ok []
  | n + 1, p =>
    match batchSub b p with
    | .error o => .error o
    | .ok (o, p) => match batchSubs b n p with | .error e => .error e | .ok l => .ok (o :: l)

/-- Runs a BATCH: all its sub-ops or none (R345, R368). A count outside its range is refused at step 11. -/
def runBatch (q : DkpReq) (subs : List SubOp) (x : Sess) (s : State) : State :=
  let ns := byteAt q.body 0
  let c := byteAt q.body 1
  if ns ≤ 1 then respond q.sess q.id 6 206 [0, 0, 0, 0] 0 s
  else if c == 0 || 64 < c then dkpRefuse q 6 (argRefused 103 "count" 1) s
  else
    match kvWrite ns (some x.roles) subs s with
    | (s, .error (i, r)) => respond q.sess q.id 6 r.code ([i, 0, 0, 0] ++ r.body) 0 s
    | (s, .ok k) => dkpWrote q 6 k (fun _ => [c, 0, 0, 0] ++ k.wrote.flatMap fun w => leBytes 8 w.ver) s

def doDkpBatch (q : DkpReq) (s : State) : State :=
  let form : Except Nat (Sess → State → State) :=
    if q.body.length < 4 then .error q.body.length
    else match batchSubs q.body (byteAt q.body 1) 4 with
      | .error o => .error o
      | .ok subs => .ok (runBatch q subs)
  dkpRun q 6 form m4to7 s

def execDkpBatch (q : DkpReq) (s : State) : Host.Outcome State Fault Refusal := .next (doDkpBatch q s)

/-- The write a VPUT body spells (R341): what stands between the vector and the value is the sketch. -/
def vputForm (b : Text) : Except Nat SubOp :=
  let n := byteAt b 2
  let fmt := byteAt b 3
  let d := natAt b 4 2
  let flags := byteAt b 6
  let v := natAt b 12 4
  let vb := vecBytes fmt d
  let fixed := 16 + n + vb
  if b.length < 16 then .error b.length
  else if b.length < fixed + v then .error b.length
  else
    let k := b.length - fixed - v
    if !bitAt flags 0 && k != 0 then .error (fixed + v)
    else .ok
      { op := .vput, key := textAt b 16 n, val := b.drop (fixed + k),
        ttl := if bitAt flags 2 then some (natAt b 8 4) else none, absent := bitAt flags 1, expect := 0, coll := byteAt b 1,
        fmt := fmt, d := d, vec := textAt b (16 + n) vb, sketch := if bitAt flags 0 then some (textAt b fixed k) else none,
        keep := false, ttlAt := 8, keyAt := 2, valAt := 12, vecAt := 16 + n, subAt := 0 }

def doDkpVput (q : DkpReq) (s : State) : State :=
  let form : Except Nat (Sess → State → State) :=
    match vputForm q.body with
    | .error o => .error o
    | .ok o => .ok (dkpWrite q 7 (byteAt q.body 0) o
        (fun w p => leBytes 8 w.ver ++ leBytes 8 w.loc ++ [p, 0, 0, 0]))
  dkpRun q 7 form m4to7 s

def execDkpVput (q : DkpReq) (s : State) : Host.Outcome State Fault Refusal := .next (doDkpVput q s)

def doDkpVdel (q : DkpReq) (s : State) : State :=
  let b := q.body
  let n := byteAt b 2
  let form : Except Nat (Sess → State → State) :=
    match lengthError b (4 + n) with
    | some o => .error o
    | none => .ok (dkpWrite q 8 (byteAt b 0)
        { SubOp.plain .vdel (textAt b 4 n) [] none false 0 with coll := byteAt b 1, keep := bitAt (byteAt b 3) 0, keyAt := 2 }
        (fun w _ => leBytes 8 w.ver ++ leBytes 8 w.loc))
  dkpRun q 8 form m4to7 s

def execDkpVdel (q : DkpReq) (s : State) : Host.Outcome State Fault Refusal := .next (doDkpVdel q s)

/-! ## SCAN (R344, R369–R372) -/

def entryBytes (keysOnly : Bool) : KeyEnt × Bool → Text
  | (e, whole) =>
    [e.key.length] ++ e.key ++ leBytes 8 e.ver ++ (if whole then leBytes 4 e.val.length else [255, 255, 255, 255])
      ++ (if whole && !keysOnly then e.val else [])

def scanBody (keysOnly : Bool) (x : Scanned) : Text :=
  let last := ((x.entries.getLast?).map (·.1.key)).getD []
  leBytes 2 x.entries.length ++ [x.stop, 0] ++ leBytes 8 x.token ++ [last.length, 0, 0, 0] ++ last
    ++ x.entries.flatMap (entryBytes keysOnly)

def doDkpScan (q : DkpReq) (s : State) : State :=
  let b := q.body
  let a := byteAt b 2
  let e := byteAt b 3
  let only := bitAt (byteAt b 1) 0
  let n := natAt b 4 2
  let form : Except Nat (Sess → State → State) :=
    match lengthError b (16 + a + e) with
    | some o => .error o
    | none => .ok fun x s =>
      if byteAt b 0 == 0 then dkpRefuse q 5 denied206 s
      else if n == 0 || 4096 < n then dkpRefuse q 5 (argRefused 103 "max" 4) s
      else
        match scan (.dkp q.sess) x.roles (byteAt b 0) (textAt b 16 a) (textAt b (16 + a) e) n only (natAt b 8 8) 65536 s with
        | (s, .error r) => dkpRefuse q 5 r s
        | (s, .ok y) => respond q.sess q.id 5 (if y.stop == 0 then 0 else 2) (scanBody only y) 0 s
  dkpRun q 5 form m4to9 s

def execDkpScan (q : DkpReq) (s : State) : Host.Outcome State Fault Refusal := .next (doDkpScan q s)

/-! ## STAT (R348) -/

/-- Slots seen in the newest generation (Table 16.5). -/
def mainEntries (c : Coll) : Nat := sumNat (c.chunks.map (·.slots.length))

/-- The state of a collection as STAT numbers it (R387). -/
def statState (c : Coll) : Nat := if c.state ≤ 2 then c.state else 0

/-- The items of a scope, in order from 1 (Table 14.6). The count of the records of namespace 0 is nowhere stated (log
entry 3). -/
def statItems (scope idx : Nat) (x : Sess) (s : State) : Except Refused (List Nat) :=
  match scope with
  | 0 =>
    if idx != 0 then .error (argRefused 103 "index" 1)
    else .ok [s.mode.num, s.sess.length, s.reg .DKP_TOKENS, s.kv.keys.length, userBytes s, s.kv.dirtyBytes / 1024,
      s.clk.tai, queueDepth s]
  | 1 =>
    if idx == 0 then .ok [Config.unstated 7 s.kv.ns0.length]
    else let (k, b, v) := nsCounts s idx; .ok [k, b, v]
  | 2 =>
    if 63 < idx then .error (argRefused 103 "index" 1)
    else match s.liveColl idx with
      | none => .error absent205
      | some c => .ok [mainEntries c, c.side.length, c.gen, statState c]
  | 3 =>
    if idx != 0 then .error (argRefused 103 "index" 1)
    else .ok [x.credit, sumNat (x.admitted.map (·.len)), x.hits, x.total, x.floor.getD (2 ^ 64 - 1)]
  | _ => .error (argRefused 103 "scope" 0)

def itemBytes : Nat → List Nat → Text
  | _, [] => []
  | i, v :: vs => leBytes 2 i ++ [0, 0, 0, 0, 0, 0] ++ leBytes 8 v ++ itemBytes (i + 1) vs

def doDkpStat (q : DkpReq) (s : State) : State :=
  let form : Except Nat (Sess → State → State) :=
    match lengthError q.body 4 with
    | some o => .error o
    | none => .ok fun x s =>
      match statItems (byteAt q.body 0) (byteAt q.body 1) x s with
      | .error r => dkpRefuse q 10 r s
      | .ok l => respond q.sess q.id 10 0 (leBytes 2 l.length ++ [0, 0, 0, 0, 0, 0] ++ itemBytes 1 l) 0 s
  dkpRun q 10 form m4to9 s

def execDkpStat (q : DkpReq) (s : State) : Host.Outcome State Fault Refusal := .next (doDkpStat q s)

/-! ## EVENTS (R351–R353) -/

def eventsBody (next : Nat) (l : List Record) : Text :=
  leBytes 8 next ++ leBytes 2 l.length ++ [0, 0, 0, 0, 0, 0] ++ l.flatMap Record.bytes

/-- The subscription of a session ends, where it has one. -/
def endSub (n : Nat) (s : State) : State :=
  match s.session n with
  | none => s
  | some x => if x.sub.isNone then s else raise 0x196 [("sess", .n n), ("on", .n 0)] (s.setSess { x with sub := none })

/-- A request of one mode of EVENTS: the checks of its fields, then what the mode does. A body of another mode leaves
everything as it is. -/
def eventsOp (mode : Nat) (q : DkpReq) (run : Sess → State → State) (s : State) : State :=
  let b := q.body
  let form : Except Nat (Sess → State → State) :=
    match lengthError b 16 with
    | some o => .error o
    | none => .ok fun x s =>
      if 2 < byteAt b 0 then dkpRefuse q 11 (argRefused 103 "mode" 0) s
      else if 3 < byteAt b 1 then dkpRefuse q 11 (argRefused 103 "least" 1) s
      else if 0x3FF < natAt b 2 2 then dkpRefuse q 11 (argRefused 103 "first" 2) s
      else if 0x3FF < natAt b 4 2 then dkpRefuse q 11 (argRefused 103 "last" 4) s
      else run x s
  if byteAt b 0 != mode && byteAt b 0 ≤ 2 then s else dkpRun q 11 form m4to9 s

/-- R351: the request's ID becomes the subscription's; a new subscription replaces the old. -/
def doEventsSubscribe (q : DkpReq) (s : State) : State :=
  let b := q.body
  eventsOp 0 q (fun _ s =>
    let s := endSub q.sess s
    match s.session q.sess with
    | none => s
    | some x =>
      let sub : Sub := { id := q.id, least := byteAt b 1, first := natAt b 2 2, last := natAt b 4 2, seq := 0, lost := 0, queue := [] }
      let s := raise 0x196 [("sess", .n q.sess), ("on", .n 1)] (s.setSess { x with sub := some sub })
      respond q.sess q.id 11 0 (eventsBody s.evt.nextSeq []) 0 s) s

def execEventsSubscribe (q : DkpReq) (s : State) : Host.Outcome State Fault Refusal := .next (doEventsSubscribe q s)

/-- R353: records of the log from a sequence on, within the filter; the sequence to read from next. -/
def readLog (s : State) (least first last seq n : Nat) : List Record × Nat :=
  let held := (logHeld s).filter fun r => seq ≤ r.seq
  let l := (held.filter fun r => first ≤ r.id && r.id ≤ last && least ≤ r.sev).take n
  (l, if l.length < n then s.evt.nextSeq else match l.getLast? with | some r => r.seq + 1 | none => s.evt.nextSeq)

def doEventsReadLog (q : DkpReq) (s : State) : State :=
  let b := q.body
  eventsOp 1 q (fun _ s =>
    let n := natAt b 6 2
    if n == 0 || 2047 < n then dkpRefuse q 11 (argRefused 103 "max" 6) s
    else
      let (l, next) := readLog s (byteAt b 1) (natAt b 2 2) (natAt b 4 2) (natAt b 8 8) n
      respond q.sess q.id 11 0 (eventsBody next l) 0 s) s

def execEventsReadLog (q : DkpReq) (s : State) : Host.Outcome State Fault Refusal := .next (doEventsReadLog q s)

def doEventsEnd (q : DkpReq) (s : State) : State :=
  eventsOp 2 q (fun _ s =>
    let s := endSub q.sess s
    respond q.sess q.id 11 0 (eventsBody s.evt.nextSeq []) 0 s) s

def execEventsEnd (q : DkpReq) (s : State) : Host.Outcome State Fault Refusal := .next (doEventsEnd q s)

/-- R352: a push of the records that wait for a session, as many as fit the segment. What its queue lost is counted and
told with it. -/
def execEventPush (sess : Nat) (s : State) : Host.Outcome State Fault Refusal :=
  .next
    (match s.session sess with
     | none => s
     | some x =>
       match x.sub with
       | none => s
       | some b =>
         if b.queue.isEmpty || x.held then s
         else
           let n := (x.segBytes - 8) / 32
           let recs := b.queue.take n
           let body := leBytes 4 (b.seq % 2 ^ 32) ++ leBytes 2 (sat 16 b.lost) ++ leBytes 2 recs.length ++ recs.flatMap Record.bytes
           let x := { x with sub := some { b with seq := b.seq + 1, lost := 0, queue := b.queue.drop n } }
           let s := sendSegs sess [segment 11 (fRESP + fPUSH) b.id 0 0 body.length 0 body] (s.setSess x)
           if b.lost == 0 then s
           else
             raiseLimited 0x195 (sec 1) (fun _ => [("sess", .n sess), ("lost", .n b.lost)]) (s.incReg .DKP_EVT_LOST b.lost))

end Sys2Proof.Machine
end

