-- ==== Sys2Proof/Machine/Assoc.lean ====
section
/-! DEFINITION. The associative array in use: searches and cursors, table writes, policy flips, bank power and widths, the
scrub, and the cascade (R36, R349, R446–R479, R513). -/

namespace Sys2Proof.Machine

/-! ## What a search returns (R349, R453) -/

/-- The result of a search or step. -/
structure Found where
  hit : Bool
  count : Nat
  more : Bool
  cur : Nat
  pos : Nat
  bank : Nat
  idx : Nat
  care : Nat
  word : Nat
  deriving DecidableEq, Repr

/-- The result of a winner. -/
def foundOf (pos count : Nat) (e : Entry) : Found :=
  { hit := true, count := min 255 count, more := false, cur := 0xFF, pos := pos, bank := e.bank, idx := e.idx,
    care := careCount e.aMask, word := e.aWord }

/-- A search without a match: what its fields beside the hit flag, the count and the cursor hold is a free value (log
entry 3). -/
def notFound (count free : Nat) : Found :=
  { hit := false, count := min 255 count, more := false, cur := 0xFF, pos := free % 8, bank := free / 2 ^ 3 % 16,
    idx := free / 2 ^ 7 % 4096, care := free / 2 ^ 19 % 512, word := free / 2 ^ 28 % 2 ^ 64 }

/-- The response body (R349). -/
def Found.body (f : Found) : Text :=
  [f.hit.toNat + (if 2 ≤ f.count then 2 else 0) + (if f.more then 4 else 0), f.count, f.cur, f.pos]
    ++ leBytes 2 f.bank ++ leBytes 2 f.idx ++ leBytes 2 f.care ++ [0, 0] ++ leBytes 8 f.word

/-- The reply fields (Table 20.5). -/
def Found.fields (f : Found) (step : Bool) : List (String × Val) :=
  [("hit", .n f.hit.toNat), ("multi", .n (if 2 ≤ f.count then 1 else 0)), ("count", .n f.count), ("cur", .n f.cur),
   ("pos", .n f.pos), ("bank", .n f.bank), ("idx", .n f.idx), ("care", .n f.care), ("word", .b (leBytes 8 f.word))]
    ++ (if step then [("more", .n f.more.toNat)] else [])

/-! ## Who asks -/

/-- Who asks a search or step: a line by its verb, or a DKP request by its ID. -/
structure Seeker where
  route : Route
  id : Nat
  verb : String
  deriving DecidableEq, Repr

def Seeker.isStep (k : Seeker) : Bool := k.verb == "ASSOC.STEP"

/-- Answers a search or step at once. -/
def tellFound (k : Seeker) (code : Nat) (f : Found) (s : State) : State :=
  if k.verb == "" then
    match k.route with
    | .dkp n => respond n k.id 13 code f.body 0 s
    | _ => s
  else reply k.route code (f.fields k.isStep) s

/-- Answers one that waited for the cascade. -/
def tellLate (k : Seeker) (code : Nat) (f : Found) (s : State) : State :=
  if k.verb == "" then tellFound k code f s else lateReply k.route code (f.fields k.isStep) s

def refuseSeeker (late : Bool) (k : Seeker) (r : Refused) (s : State) : State :=
  if k.verb == "" then
    match k.route with
    | .dkp n => respond n k.id 13 r.code r.body 0 s
    | _ => s
  else if late then lateReply k.route r.code r.kv s
  else reply k.route r.code r.kv s

/-! ## Checks (R448, R449, R462, R467) -/

/-- Whether a role mask searches, or writes, a user bank. -/
def bankRole (s : State) (roles b : Nat) (write : Bool) : Bool :=
  let w := s.reg .ASSOC_B_ROLES b
  roleMeets roles (if write then w / 65536 % 65536 else w % 65536)

def bankRefused (code bank : Nat) : Refused := ⟨code, [("bank", .n bank)], if code == 204 then detailConflict 0 0 else []⟩

/-- The checks of a search, in their order: roles, the mask, the widths of its banks, their power. `owner` opens the
policy banks. -/
def searchRefusal (s : State) (roles banks : Nat) (dw owner casc : Bool) : Option Refused :=
  let bs := maskBanks banks
  if bs.any fun b => (b < 4 && !owner) || (4 ≤ b && !bankRole s roles b false) then some denied206
  else if banks == 0 then some (argRefused 102 "banks" 2)
  else if bs.any fun b => dwPair s b != dw then some (argRefused 102 "banks" 2)
  else if casc && bs.any (· < 4) then some (argRefused 102 "cascade" 1)
  else (bs.find? fun b => !bankOn s b).map (bankRefused 205)

/-! ## The cascade's members (R36, R470, R476, R477) -/

/-- N of the rotation. -/
def cascN (s : State) : Nat := s.assoc.size

/-- The covered members, one bit each. -/
def coveredSet (s : State) : Nat :=
  let here := fun (p : Nat) => bitAt s.assoc.present p
  let ps := List.range (cascN s)
  match ps.reverse.find? here with
  | none => 0
  | some h =>
    let from_ := match (List.range h).reverse.find? fun p => !here p with | some a => a + 1 | none => 0
    ps.foldl (fun m p => if from_ ≤ p && p ≤ h && here p && !bitAt s.assoc.withdrawn p then setBit m p else m) 0

def isCovered (s : State) : Bool := bitAt (coveredSet s) s.assoc.straps

/-- 000 DONE, or 210 DEGRADED where a member is missing (R477). -/
def cascCode (s : State) : Nat := if coveredSet s == 2 ^ cascN s - 1 then 0 else 210

/-! ## Cursors (R459–R461) -/

def cursorGet (s : State) (n : Nat) : Option Cursor := s.assoc.cursors.find? fun c => c.num == n

def cursorDrop (n : Nat) (s : State) : State :=
  { s with assoc := { s.assoc with cursors := s.assoc.cursors.filter fun c => c.num != n } }

def cursorPut (c : Cursor) (s : State) : State :=
  { s with assoc := { s.assoc with cursors := s.assoc.cursors.filter (fun x => x.num != c.num) ++ [c] } }

/-- The lowest cursor number that is free. -/
def freeCursor (s : State) : Option Nat := (List.range 64).find? fun n => !(s.assoc.cursors.any fun c => c.num == n)

/-- Whether whoever asked is still there to own a cursor. -/
def seekerThere (s : State) (k : Seeker) : Bool :=
  match k.route with
  | .dkp n => (s.session n).isSome
  | r => s.routes.any fun x => x.route == r

/-- Opens a cursor on a result with two matches or more (R459). -/
def openCursor (k : Seeker) (key banks : Nat) (dw casc : Bool) (f : Found) (s : State) : State × Except Refused Found :=
  if f.count < 2 || !seekerThere s k then (s, .ok f)
  else
    match freeCursor s with
    | none => let (s, r) := busyEstimate 5 s; (s, .error r)
    | some n =>
      let c : Cursor := { num := n, owner := k.route, key := key, banks := banks, dw := dw, casc := casc, care := f.care, pos := f.pos,
                          idx := 4096 * f.bank + f.idx, opened := s.assoc.writeN, frame := s.assoc.frame,
                          covered := coveredSet s, count := f.count, at_ := s.now }
      (cursorPut c s, .ok { f with cur := n, more := true })

/-- What a step returned: the cursor moves on, or closes with the last match (R460). -/
def stepCursor (c : Cursor) (f : Found) (more : Bool) (s : State) : State × Found :=
  let f := { f with count := c.count, cur := c.num, more := f.hit && more }
  if f.hit && more then (cursorPut { c with care := f.care, pos := f.pos, idx := 4096 * f.bank + f.idx, at_ := s.now } s, f)
  else (cursorDrop c.num s, f)

/-- R461: a cursor that a write, or a change of the covered set, has made stale. -/
def cursorStale (s : State) (c : Cursor) : Bool :=
  writtenSince s c.banks c.opened || (c.casc && c.covered != coveredSet s)

/-! ## Searching here (R450–R456, R460) -/

/-- A local search, with the cursor it opens. -/
def localSearch (k : Seeker) (key banks : Nat) (dw open_ casc : Bool) (s : State) : State × Except Refused Found :=
  let (s, e, n) := searchArray key banks none s
  let (s, f) := match e with
    | some e => (s, foundOf s.assoc.straps n e)
    | none => (s.tick, notFound 0 s.free)
  if open_ then openCursor k key banks dw casc f s else (s, .ok f)

/-- A local step. -/
def localStep (c : Cursor) (s : State) : State × Found :=
  let (s, e, n) := searchArray c.key c.banks (some (c.care, c.idx)) s
  match e with
  | some e => stepCursor c (foundOf s.assoc.straps n e) (2 ≤ n) s
  | none => stepCursor c (notFound 0 s.free) false s.tick

/-- A search once its checks have passed (R470, R477): here, or through a frame of the cascade. -/
def runSearch (k : Seeker) (key banks : Nat) (dw casc open_ : Bool) (s : State) : State :=
  let s := s.incReg .ASSOC_SEARCHES
  if casc && 1 < cascN s && isCovered s then
    let q : CascReq := { route := k.route, id := k.id, key := key, banks := banks, dw := dw, cursor := none, open_ := open_, verb := k.verb,
                         started := false }
    let s := { s with assoc := { s.assoc with reqs := s.assoc.reqs ++ [q] } }
    if k.verb == "" then s else setBusy k.route k.verb s
  else
    let code := if casc && 1 < cascN s then 210 else 0
    match localSearch k key banks dw open_ casc s with
    | (s, .error r) => refuseSeeker false k r s
    | (s, .ok f) => tellFound k code f s

def stale208 : Refused := ⟨208, [], []⟩

/-- A step of a cursor that a route holds (R460, R461, R467, R475). The policy banks are for the verbs at OWNER alone. -/
def runStep (k : Seeker) (roles : Nat) (n : Nat) (s : State) : State :=
  match (cursorGet s n).filter fun c => c.owner == k.route with
  | none => refuseSeeker false k absent205 s
  | some c =>
    if (maskBanks c.banks).any fun b => if b < 4 then k.verb == "" || s.level k.route != 2 else !bankRole s roles b false then
      refuseSeeker false k denied206 s
    else if cursorStale s c then refuseSeeker false k stale208 (cursorDrop n s)
    else
      let s := s.incReg .ASSOC_SEARCHES
      if c.casc && 1 < cascN s && isCovered s then
        let q : CascReq := { route := k.route, id := k.id, key := c.key, banks := c.banks, dw := c.dw, cursor := some n, open_ := false,
                             verb := k.verb, started := false }
        let s := { s with assoc := { s.assoc with reqs := s.assoc.reqs ++ [q] } }
        if k.verb == "" then s else setBusy k.route k.verb s
      else
        let (s, f) := localStep c s
        tellFound k (if c.casc && 1 < cascN s then 210 else 0) f s

/-- Closes a cursor of a route (R461); it says whether there was one. -/
def closeCursor (r : Route) (n : Nat) (s : State) : State × Bool :=
  match (cursorGet s n).filter fun c => c.owner == r with
  | none => (s, false)
  | some _ => (cursorDrop n s, true)

/-! ## Writing (R462, R464, R465) -/

/-- The checks of a table write, in their order: roles, arguments, power, the active policy bank, reserved bits. -/
def writeCheck (s : State) (roles bank idx word : Nat) (dw inv owner : Bool) (wordAt : Nat) : Option Refused :=
  if (bank < 4 && !owner) || (4 ≤ bank && !bankRole s roles bank true) then some denied206
  else if 15 < bank then some (argRefused 103 "bank" 2)
  else if 4095 < idx then some (argRefused 102 "idx" 4)
  else if dwPair s bank && bank % 2 == 1 then some (argRefused 102 "bank" 2)
  else if dwPair s bank != dw then some (argRefused 102 "dw" 1)
  else if !bankOn s bank || (dw && !bankOn s (bank + 1)) then some (bankRefused 205 bank)
  else if activePolicy s bank then some (bankRefused 204 bank)
  else if bank < 4 && !inv && word / 2 ^ 53 != 0 then some (argRefused 102 "word" wordAt)
  else none

/-- A table write: an entry of a policy bank goes to namespace 0 before its reply (R465). -/
def tableWrite (roles bank idx value mask word : Nat) (dw inv owner : Bool) (wordAt : Nat) (s : State) : State × Option Refused :=
  match writeCheck s roles bank idx word dw inv owner wordAt with
  | some r => (s, some r)
  | none =>
    if bank < 4 then
      match ns0Record s with
      | (s, some r) => (s, some r)
      | (s, none) => (putEntry bank idx value mask word inv s, none)
    else (putEntry bank idx value mask word inv s, none)

/-! ## ASSOC and CASC verbs (R468, R513) -/

def assocSearchModes : List Mode := m4to9
def assocWriteModes : List Mode := m4to7and9

def vAssoc (name : String) (level : Nat) (args : List ArgSpec) : Verb :=
  { name := name, modes := assocSearchModes, level := level, changes := false, loop := false, args := args }

def onceArg (k : String) : ArgSpec := ⟨k, false, .num 0 1⟩

/-- OWNER where banks= names a policy bank. -/
def vAssocSearch (l : Line) : Verb :=
  vAssoc "ASSOC.SEARCH" (if l.nat "banks" % 16 != 0 then 2 else 0)
    [⟨"banks", true, .num 0 65535⟩, ⟨"key", true, .hexExact [if l.flag "dw" then 80 else 40]⟩, onceArg "cascade", onceArg "cursor", onceArg "dw"]

/-- R450, R467. -/
def doAssocSearch (l : Line) (s : State) : State :=
  let r := l.route
  gate (vAssocSearch l) l (fun s =>
    let dw := l.flag "dw"
    let banks := if dw then pairMask (l.nat "banks") else l.nat "banks"
    match searchRefusal s (s.roles r) banks dw true (l.flag "cascade") with
    | some x => refuse r x s
    | none => runSearch ⟨r, 0, "ASSOC.SEARCH"⟩ (leNat (l.bytes "key")) banks dw (l.flag "cascade") (l.flag "cursor") s) s

def execAssocSearch (l : Line) (s : State) : Out := .next (doAssocSearch l s)

def curArg : ArgSpec := ⟨"cur", true, .num 0 255⟩

/-- R460. -/
def doAssocStep (l : Line) (s : State) : State :=
  gate (vAssoc "ASSOC.STEP" 0 [curArg]) l (fun s => runStep ⟨l.route, 0, "ASSOC.STEP"⟩ (s.roles l.route) (l.nat "cur") s) s

def execAssocStep (l : Line) (s : State) : Out := .next (doAssocStep l s)

/-- R461. -/
def doAssocClose (l : Line) (s : State) : State :=
  gate (vAssoc "ASSOC.CLOSE" 0 [curArg]) l (fun s =>
    match closeCursor l.route (l.nat "cur") s with
    | (s, true) => done l.route [] s
    | (s, false) => refuse l.route absent205 s) s

def execAssocClose (l : Line) (s : State) : Out := .next (doAssocClose l s)

/-- OWNER for the policy banks; with inv=1 value=, mask= and word= are not taken. -/
def vAssocWrite (l : Line) : Verb :=
  let n := if l.flag "dw" then 80 else 40
  let given : List ArgSpec :=
    if l.flag "inv" then [] else [⟨"value", true, .hexExact [n]⟩, ⟨"mask", true, .hexExact [n]⟩, ⟨"word", true, .hexExact [16]⟩]
  { name := "ASSOC.WRITE", modes := assocWriteModes, level := if l.nat "bank" < 4 && l.has "bank" then 2 else 0, changes := true,
    loop := false,
    args := [⟨"bank", true, .num 0 15⟩, ⟨"idx", true, .strict 0 4095⟩] ++ given ++ [onceArg "dw", onceArg "inv"] }

/-- R462, R467. -/
def doAssocWrite (l : Line) (s : State) : State :=
  let r := l.route
  gate (vAssocWrite l) l (fun s =>
    match tableWrite (s.roles r) (l.nat "bank") (l.nat "idx") (leNat (l.bytes "value")) (leNat (l.bytes "mask"))
        (leNat (l.bytes "word")) (l.flag "dw") (l.flag "inv") true 0 s with
    | (s, some x) => refuse r x s
    | (s, none) => done r [] s) s

def execAssocWrite (l : Line) (s : State) : Out := .next (doAssocWrite l s)

/-- Reading a shadow copy meets its code (R454): one error is corrected, two make the entry suspect. -/
def checkShadow (e : Entry) (s : State) : State :=
  match e.code with
  | 0 => s
  | 1 => correctShadow e s
  | _ => makeSuspect e s

/-- R468: the shadow copy and the suspect flag. -/
def doAssocRead (l : Line) (s : State) : State :=
  let r := l.route
  let bank := l.nat "bank"
  gate (vAssoc "ASSOC.READ" (if bank < 4 && l.has "bank" then 2 else 1) [⟨"bank", true, .num 0 15⟩, ⟨"idx", true, .strict 0 4095⟩]) l (fun s =>
    if dwPair s bank && bank % 2 == 1 then reply r 102 [("arg", .w "bank")] s
    else if !bankOn s bank then refuse r (bankRefused 205 bank) s
    else
      let s := checkShadow (entryGet s.assoc.entries bank (l.nat "idx")) s
      let e := entryGet s.assoc.entries bank (l.nat "idx")
      let n := if dwPair s bank then 40 else 20
      done r [("value", .b (leBytes n e.value)), ("mask", .b (leBytes n e.mask)), ("word", .b (leBytes 8 e.word)),
        ("valid", .n e.valid.toNat), ("suspect", .n e.suspect.toNat)] s) s

def execAssocRead (l : Line) (s : State) : Out := .next (doAssocRead l s)

/-- Valid entries of a bank; the banks of a pair in double width hold the same valid bits (R447). -/
def validCount (s : State) (b : Nat) : Nat :=
  let home := if dwPair s b then 2 * (b / 2) else b
  (s.assoc.entries.filter fun e => e.bank == home && e.valid && !e.suspect).length

/-- ASSOC.BANK_ON as it reads. -/
def banksOn (s : State) : Nat := s.reg .ASSOC_BANK_ON / 16 * 16 + 15

def validNames : List String :=
  ["v0", "v1", "v2", "v3", "v4", "v5", "v6", "v7", "v8", "v9", "v10", "v11", "v12", "v13", "v14", "v15"]

/-- R468, R513. -/
def doAssocShow (l : Line) (s : State) : State :=
  gate (vAssoc "ASSOC.SHOW" 0 []) l (fun s =>
    done l.route ([("on", .x 4 (banksOn s)), ("dw", .x 2 (s.reg .ASSOC_DW * 4)), ("policy", .x 1 (s.reg .ASSOC_POLICY_BANKS)),
      ("state", .n s.assoc.policyState)] ++ validNames.zip ((List.range 16).map fun b => Val.n (validCount s b))) s) s

def execAssocShow (l : Line) (s : State) : Out := .next (doAssocShow l s)

/-- R468, R513. -/
def doCascShow (l : Line) (s : State) : State :=
  gate (vAssoc "CASC.SHOW" 0 []) l (fun s =>
    done l.route [("pos", .n s.assoc.straps), ("size", .n (s.reg .CASC_SIZE)), ("present", .x 2 s.assoc.present),
      ("withdrawn", .x 2 s.assoc.withdrawn), ("covered", .x 2 (coveredSet s)), ("mismatch", .n s.assoc.mismatch.toNat)] s) s

def execCascShow (l : Line) (s : State) : Out := .next (doCascShow l s)

/-! ## Register writes with rows of their own -/

/-- A write of an ASSOC field kept in namespace 0, once its own checks have passed. -/
def keepAssoc (r : Route) (p : Param) (i v : Nat) (after : State → State) (s : State) : State :=
  match ns0Write [⟨p, i, v⟩] s with
  | (s, some x) => refuse r x s
  | (s, none) => done r [("value", .n v)] (after (s.setReg p v i))

/-- The policy banks flip (R463, R466). -/
def flipPolicy (old new : Nat) (s : State) : State :=
  let bad := s.assoc.entries.filter fun e => e.suspect && activePolicy s e.bank
  let s := if old == new then s else raise 0x340 [("from", .n old), ("to", .n new)] s
  if bad.isEmpty then
    (if s.assoc.policyState == 2 then { s with assoc := { s.assoc with policyState := 0 } } else s)
  else bad.foldl (fun s e => policySuspect e s) s

def policyBanks (r : Route) (v : Nat) (s : State) : State :=
  if 15 < v then reply r 103 [("arg", .w "value")] s
  else
    let old := s.reg .ASSOC_POLICY_BANKS
    keepAssoc r .ASSOC_POLICY_BANKS 0 v (flipPolicy old v) s

def execPolicyBanksWrite (route : Route) (v : Nat) (s : State) : Out :=
  .next (writeGate route 2 0x110000 m4to9 (policyBanks route v) s)

/-- The entries that a bank going off loses: its own, and those of its pair in double width. -/
def dropBank (b : Nat) (s : State) : State :=
  let gone := fun (e : Entry) => e.bank == b || (dwPair s b && e.bank / 2 == b / 2)
  markWrite b { s with assoc := { s.assoc with entries := s.assoc.entries.filter fun e => !gone e } }

/-- R449. -/
def banksOff (v : Nat) (s : State) : List Nat := (List.range 16).filter fun b => 4 ≤ b && bankOn s b && !bitAt v b

def bankPower (r : Route) (v : Nat) (s : State) : State :=
  if 65535 < v then reply r 103 [("arg", .w "value")] s
  else
    let off := banksOff v s
    match off.find? (cursorNames s) with
    | some b => refuse r (bankRefused 204 b) s
    | none => keepAssoc r .ASSOC_BANK_ON 0 (v / 16 * 16 + 15) (fun s => off.foldl (fun s b => dropBank b s) s) s

def execBankOnWrite (route : Route) (v : Nat) (s : State) : Out :=
  .next (writeGate route 1 0x110004 m4to9 (bankPower route v) s)

/-- The banks of the pairs that a value of ASSOC.DW changes. -/
def dwChanged (s : State) (v : Nat) : List Nat :=
  (List.range 16).filter fun b => 4 ≤ b && bitAt (s.reg .ASSOC_DW) (b / 2 - 2) != bitAt v (b / 2 - 2)

/-- R448. -/
def pairBusy (v : Nat) (s : State) : Option Nat := (dwChanged s v).find? fun b => 0 < validCount s b || cursorNames s b

def pairWidths (r : Route) (v : Nat) (s : State) : State :=
  if 63 < v then reply r 103 [("arg", .w "value")] s
  else
    let bs := dwChanged s v
    match pairBusy v s with
    | some b => refuse r (bankRefused 204 b) s
    | none => keepAssoc r .ASSOC_DW 0 v (fun s => bs.foldl (fun s b => dropBank b s) s) s

def execDwWrite (route : Route) (v : Nat) (s : State) : Out :=
  .next (writeGate route 1 0x110008 m4to9 (pairWidths route v) s)

/-! ## The reload, the scrub, idle cursors -/

/-- R466: banks 0–3 are loaded again. -/
def execPolicyReloadComplete (s : State) : Out :=
  .next
    (if s.assoc.policyState != 1 then s
     else
       let s := loadPolicy s
       { s with assoc := { s.assoc with policyState := 0 } })

/-- R457: a pass becomes due. -/
def execScrubPassDue (s : State) : Out :=
  .next (if s.inService then { s with assoc := { s.assoc with scrubDue := true, scrubDueAt := s.now } } else s)

/-- One entry in a scrub pass: its shadow code, then the comparison (R454, R457). -/
def scrubEntry (e : Entry) (s : State) : State :=
  if e.code == 2 then makeSuspect e s
  else
    let s := if e.code == 1 then correctShadow e s else s
    let e := { e with code := 0 }
    if e.repaired == e then s
    else
      raiseCount 0x343 []
        { (s.setEntry e.repaired).incReg .ASSOC_SCRUB_FIXES with
          assoc := { ((s.setEntry e.repaired).incReg .ASSOC_SCRUB_FIXES).assoc with corr := s.assoc.corr + 1 } }

/-- The beats that a pass takes at least: 65,536 issue slots of 2 beats (R451, R457). -/
def passBeats : Nat := 131072

/-- R457: every entry of every powered bank has been compared. -/
def execScrubPassComplete (s : State) : Out :=
  .next
    (if !s.assoc.scrubDue || !s.inService || s.now < s.assoc.scrubDueAt + passBeats then s
     else
       let s := (s.assoc.entries.filter fun e => bankOn s e.bank).foldl (fun s e => scrubEntry e s) s
       { s.incReg .ASSOC_SCRUB_PASSES with assoc := { s.assoc with scrubDue := false } })

/-- R461: a cursor has had no step for ASSOC.CURSOR_MS. -/
def execCursorIdleTimeout (cur : Nat) (s : State) : Out :=
  .next
    (match cursorGet s cur with
     | some c => if c.at_ + ms (s.reg .ASSOC_CURSOR_MS) ≤ s.now then raiseCount 0x348 [] (cursorDrop cur s) else s
     | none => s)

/-! ## DKP ASSOC (R349, R467) -/

/-- A request of one sub-op of ASSOC; another sub-op's body leaves everything as it is. -/
def assocOp (sub : Nat) (q : DkpReq) (modes : List Mode) (form : Except Nat (Sess → State → State)) (s : State) : State :=
  if byteAt q.body 0 != sub && byteAt q.body 0 ≤ 3 && !q.body.isEmpty then s
  else if q.body.isEmpty || 3 < byteAt q.body 0 then dkpRun q 13 (.error 0) modes s
  else dkpRun q 13 form modes s

def doDkpAssocSearch (q : DkpReq) (s : State) : State :=
  let b := q.body
  let flags := byteAt b 1
  let dw := bitAt flags 2
  assocOp 0 q assocSearchModes
    (match lengthError b (4 + if dw then 40 else 20) with
     | some o => .error o
     | none => .ok fun x s =>
       let banks := if dw then pairMask (natAt b 2 2) else natAt b 2 2
       match searchRefusal s x.roles banks dw false (bitAt flags 0) with
       | some r => dkpRefuse q 13 r s
       | none => runSearch ⟨.dkp q.sess, q.id, ""⟩ (leNat (b.drop 4)) banks dw (bitAt flags 0) (bitAt flags 1) s) s

def execDkpAssocSearch (q : DkpReq) (s : State) : Out := .next (doDkpAssocSearch q s)

def doDkpAssocStep (q : DkpReq) (s : State) : State :=
  assocOp 1 q assocSearchModes
    (match lengthError q.body 2 with
     | some o => .error o
     | none => .ok fun x s => runStep ⟨.dkp q.sess, q.id, ""⟩ x.roles (byteAt q.body 1) s) s

def execDkpAssocStep (q : DkpReq) (s : State) : Out := .next (doDkpAssocStep q s)

def doDkpAssocClose (q : DkpReq) (s : State) : State :=
  assocOp 2 q assocSearchModes
    (match lengthError q.body 2 with
     | some o => .error o
     | none => .ok fun _ s =>
       match closeCursor (.dkp q.sess) (byteAt q.body 1) s with
       | (s, true) => respond q.sess q.id 13 0 [] 0 s
       | (s, false) => dkpRefuse q 13 absent205 s) s

def execDkpAssocClose (q : DkpReq) (s : State) : Out := .next (doDkpAssocClose q s)

def doDkpAssocWrite (q : DkpReq) (s : State) : State :=
  let b := q.body
  let dw := bitAt (byteAt b 1) 0
  let n := if dw then 40 else 20
  assocOp 3 q assocWriteModes
    (match lengthError b (16 + 2 * n) with
     | some o => .error o
     | none => .ok fun x s =>
       match tableWrite x.roles (byteAt b 2) (natAt b 4 2) (natAt b 8 n) (natAt b (8 + n) n) (natAt b (8 + 2 * n) 8) dw
           (bitAt (byteAt b 1) 1) false (8 + 2 * n) s with
       | (s, some r) => dkpRefuse q 13 r s
       | (s, none) => respond q.sess q.id 13 0 [] 0 s) s

def execDkpAssocWrite (q : DkpReq) (s : State) : Out := .next (doDkpAssocWrite q s)

/-! ## The cascade (R470–R477) -/

/-- H0 of a header (R471). -/
def header0 (op pos n : Nat) (dw : Bool) : Nat := op + 16 * pos + (if dw then 128 else 0) + 256 * (n - 1)

/-- 16-bit words of a number, bits [15:0] first. -/
def words16 : Nat → Nat → List Nat
  | 0, _ => []
  | n + 1, v => v % 65536 :: words16 n (v / 65536)

def nat16 : List Nat → Nat
  | [] => 0
  | w :: ws => w % 65536 + 65536 * nat16 ws

/-- The words of a frame from H0 to the last key word (R472). -/
def frameWords (s : State) (q : CascReq) : List Nat :=
  let key := words16 (if q.dw then 20 else 10) q.key
  match q.cursor.bind (cursorGet s) with
  | none => [header0 2 s.assoc.straps (cascN s) q.dw, q.banks] ++ key
  | some c => [header0 3 s.assoc.straps (cascN s) q.dw, q.banks, c.frame % 65536, c.care + 512 * c.pos, c.idx % 4096] ++ key

/-- What a frame asks: its banks, key, width, and for a step the frame number and floor of its cursor. -/
structure Asked where
  banks : Nat
  key : Nat
  dw : Bool
  floor : Option (Nat × Nat × Nat × Nat)
  deriving DecidableEq, Repr

def askedOf (words : List Nat) : Asked :=
  let w := fun i => words.getD i 0
  if w 0 % 16 == 3 then
    { banks := w 1, key := nat16 (words.drop 5), dw := bitAt (w 0) 7, floor := some (w 2, w 3 % 512, w 3 / 512 % 8, w 4 % 4096) }
  else { banks := w 1, key := nat16 (words.drop 2), dw := bitAt (w 0) 7, floor := none }

/-- Whether an entry here follows a floor in the global order (R475). -/
def Entry.past (own : Nat) (e : Entry) (care pos idx : Nat) : Bool :=
  let c := careCount e.aMask
  c < care || (c == care && (pos < own || (pos == own && idx < e.idx)))

/-- The matches of a frame here. -/
def frameMatches (s : State) (a : Asked) : List Entry :=
  let l := matchesOf s.assoc.entries a.key a.banks none
  match a.floor with
  | none => l
  | some (_, care, pos, idx) => l.filter fun e => e.past s.assoc.straps care pos idx

/-- A write in the masked banks since a 16-bit frame number (R474). -/
def writtenSinceFrame (s : State) (banks frame : Nat) : Bool :=
  let at_ := s.assoc.frame - (s.assoc.frame + 65536 - frame) % 65536
  s.assoc.writes.any fun x => bitAt banks x.1 && at_ ≤ x.2.2

/-- What this member puts into the ripple (R472, R474): its verified winner, a code, or nothing. -/
inductive Ripple where
  | winner (e : Entry)
  | nothing
  | retry
  | stale
  deriving DecidableEq, Repr

/-- The member's local search in a frame: one issue. A winner that the shadow does not confirm makes the frame void (R455, R474). -/
def frameSearch (a : Asked) (s : State) : State × Ripple × Nat :=
  if a.floor.any fun f => writtenSinceFrame s a.banks f.1 then (s, .stale, 0)
  else
    let l := frameMatches s a
    match winner l with
    | none => (s, .nothing, 0)
    | some e =>
      if e.code == 2 then (makeSuspect e s, .retry, 0)
      else
        let s := if e.code == 1 then correctShadow e s else s
        let e := { e with code := 0 }
        if e.confirmed a.key then (s, .winner e, min 255 l.length) else (falseHit e s, .retry, 0)

/-- The value a member drives on: the larger of CASC_MI and its own, bit 9 saying that there is one; a tie keeps
CASC_MI. -/
def Ripple.out (r : Ripple) (mi : Nat) : Nat :=
  let own := match r with
    | .winner e => 512 + careCount e.aMask
    | .nothing => 0
    | .retry => 512 + 0x1FE
    | .stale => 512 + 0x1FF
  if bitAt own 9 && (!bitAt mi 9 || mi % 512 < own % 512) then own else mi

/-- The six result words (R472). -/
def resultWords (word idx pos count : Nat) (hit : Bool) : List Nat :=
  words16 4 word ++ [idx + 4096 * pos, min 255 count + (if hit then 256 else 0) + (if 2 ≤ count then 512 else 0)]

/-- This member in a frame (R472, R473): its ripple outputs, and the result words where it is the winner. -/
def takePart (f : CascSlot) (a : Asked) (s : State) : State :=
  let (s, r, n) := frameSearch a s
  let mo := r.out f.mi
  let s := (s.emit (.casc [mo])).emit (.casc [min 255 (f.miCount + n)])
  match r with
  | .winner e =>
    let c := careCount e.aMask
    if f.win % 512 == c && (!bitAt f.mi 9 || f.mi % 512 < c) then
      s.emit (.casc (resultWords e.aWord e.idx s.assoc.straps f.winCount true))
    else s
  | _ => s

/-- A header passes: the 16-bit frame number counts it. -/
def countHeader (s : State) : State := { s with assoc := { s.assoc with frame := s.assoc.frame + 1 } }

/-- Withdrawal from the cascade: CLK.CASC_LOCK clears; local searches go on (R36, R476). -/
def withdraw (s : State) : State :=
  { s with clk := { s.clk with cascLock := false, cascLockAt := s.now }
           assoc := { s.assoc with withdrawn := setBit s.assoc.withdrawn s.assoc.straps } }

/-- Searches and steps that wait for a frame this member cannot run are answered from here, degraded (R477). -/
def answerHere (q : CascReq) (s : State) : State :=
  let k : Seeker := ⟨q.route, q.id, q.verb⟩
  match q.cursor with
  | none =>
    match localSearch k q.key q.banks q.dw q.open_ true s with
    | (s, .error r) => refuseSeeker true k r s
    | (s, .ok f) => tellLate k 210 f s
  | some n =>
    match cursorGet s n with
    | none => refuseSeeker true k stale208 s
    | some c =>
      if cursorStale s c then refuseSeeker true k stale208 (cursorDrop n s)
      else let (s, f) := localStep c s; tellLate k 210 f s

def answerAllHere (s : State) : State :=
  let qs := s.assoc.reqs
  qs.foldl (fun s q => answerHere q s) { s with assoc := { s.assoc with reqs := [] } }

/-- R36: the phase of CASC_CLK has moved. A member without the lock stays without it for another window. -/
def execCascClkPhaseWithdraw (s : State) : Out :=
  .next
    (if s.assoc.straps == 0 then s
     else if !s.clk.cascLock then { s with clk := { s.clk with cascLockAt := s.now } }
     else answerAllHere (raise 0x0C5 [] (withdraw s)))

/-- R36: the lock has stood for 2^20 beats. A member that has seen a size mismatch stays withdrawn (R471). -/
def execCascLockRejoin (s : State) : Out :=
  .next
    (if s.assoc.mismatch || !s.inService || !s.clk.cascLock || s.now < s.clk.cascLockAt + cascWindow then s
     else { s with assoc := { s.assoc with withdrawn := clearBit s.assoc.withdrawn s.assoc.straps } })

/-- The first request that waits for its frame starts. -/
def startFirst : List CascReq → List CascReq
  | [] => []
  | q :: qs => { q with started := true } :: qs

/-- This member's own slot (R471): a frame, an idle header, or the header of a withdrawn member. -/
def ownSlot (f : CascSlot) (s : State) : State :=
  let head := fun (op : Nat) (s : State) => s.emit (.casc [header0 op s.assoc.straps (cascN s) false])
  if bitAt s.assoc.withdrawn s.assoc.straps then answerAllHere (head 4 s)
  else if !isCovered s then answerAllHere (head 1 s)
  else
    match s.assoc.reqs with
    | [] => head 1 s
    | q :: _ =>
      if q.started then head 1 s
      else
        let ws := frameWords s q
        let s := { s with assoc := { s.assoc with reqs := startFirst s.assoc.reqs } }
        takePart f (askedOf ws) ((s.emit (.casc ws)).incReg .CASC_FRAMES)

/-- A size mismatch (R471). -/
def sizeMismatch (n : Nat) (s : State) : State :=
  if s.assoc.mismatch then s
  else answerAllHere (raise 0x362 [("size", .n n)] { withdraw s with assoc := { (withdraw s).assoc with mismatch := true } })

/-- R571: a member whose sampled position does not fit the N in force withdraws. -/
def strapCheck (s : State) : State :=
  if s.firmware && 1 < cascN s && cascN s ≤ s.assoc.straps then sizeMismatch (cascN s) s else s

/-- The slot goes to the next position; a new N holds from the next rotation (R470, R471). -/
def nextTurn (s : State) : State :=
  if s.assoc.turn + 1 < cascN s then { s with assoc := { s.assoc with turn := s.assoc.turn + 1 } }
  else strapCheck { s with assoc := { s.assoc with turn := 0, size := s.reg .CASC_SIZE } }

/-- Another member's slot (R471, R472, R476). -/
def otherSlot (f : CascSlot) (s : State) : State :=
  let h := f.words.getD 0 0
  let p := s.assoc.turn
  let n := h / 256 % 8 + 1
  let s := { s with assoc := { s.assoc with withdrawn := putBit s.assoc.withdrawn p (h % 16 == 4) } }
  if n != cascN s then sizeMismatch n s
  else if h % 16 == 2 || h % 16 == 3 then
    let s := s.incReg .CASC_FRAMES
    if isCovered s then takePart f (askedOf f.words) s else s
  else s

/-- R471: a slot of the rotation. Where no member drives H0 the bus reads op 0 (R476). -/
def execCascadeSlot (f : CascSlot) (s : State) : Out :=
  .next
    (if cascN s ≤ 1 then nextTurn s
     else if !s.inService then s
     else if s.assoc.turn == s.assoc.straps then nextTurn (ownSlot f (countHeader s))
     else if f.words.getD 0 0 % 16 == 0 then nextTurn s
     else nextTurn (otherSlot f (countHeader s)))

/-- The bank of a winner: a frame names it only where one bank, or one pair, was searched; among several this member knows
its own winner's, and any other is a free value (log entry 3). -/
def winnerBank (s : State) (q : CascReq) (pos : Nat) : Nat :=
  match maskBanks q.banks with
  | [b] => b
  | b :: _ =>
    if q.dw && q.banks == pairMask (2 ^ b) then b
    else if pos == s.assoc.straps then ((winner (frameMatches s (askedOf (frameWords s q)))).map (·.bank)).getD b
    else s.free % 16
  | [] => 0

/-- What the six result words say. -/
def cascFound (q : CascReq) (r : CascResult) (s : State) : Found :=
  let w := fun i => r.words.getD i 0
  let count := w 5 % 256
  if bitAt (w 5) 8 then
    { hit := true, count := count, more := false, cur := 0xFF, pos := w 4 / 4096 % 8, bank := winnerBank s q (w 4 / 4096 % 8),
      idx := w 4 % 4096, care := r.win % 512, word := nat16 (r.words.take 4) }
  else notFound count s.free

/-- A resolved frame answers its request (R461, R473–R475). -/
def resolveFrame (q : CascReq) (r : CascResult) (s : State) : State :=
  let k : Seeker := ⟨q.route, q.id, q.verb⟩
  let f := cascFound q r s
  let s := s.tick
  match q.cursor with
  | none =>
    let opened := if q.open_ then openCursor k q.key q.banks q.dw true f s else (s, .ok f)
    match opened with
    | (s, .error x) => refuseSeeker true k x s
    | (s, .ok f) => tellLate k (cascCode s) f s
  | some n =>
    match cursorGet s n with
    | none => refuseSeeker true k absent205 s
    | some c =>
      if r.win % 512 == 0x1FF || cursorStale s c then refuseSeeker true k stale208 (cursorDrop n s)
      else
        let (s, f) := stepCursor c f (2 ≤ f.count) s
        tellLate k (cascCode s) f s

/-- R473: the frame that this member started is over. A void one is sent again in its next slot (R474). -/
def execCascadeFrameResult (r : CascResult) (s : State) : Out :=
  .next
    (match s.assoc.reqs with
     | [] => s
     | q :: qs =>
       if !q.started then s
       else if r.win % 512 == 0x1FE then
         { s.incReg .CASC_RETRIES with assoc := { s.assoc with reqs := { q with started := false } :: qs } }
       else resolveFrame q r { s with assoc := { s.assoc with reqs := qs } })

/-- R476: no header in a position's slot for 2 rotations. -/
def execCascadeMemberAbsent (p : Nat) (s : State) : Out :=
  .next
    (if !bitAt s.assoc.present p || 8 ≤ p then s
     else raise (0x350 + p) [("pos", .n p)] { s with assoc := { s.assoc with present := clearBit s.assoc.present p } })

/-- R476: 16 rotations in a row with the header of a position. -/
def execCascadeMemberPresent (p : Nat) (s : State) : Out :=
  .next
    (if bitAt s.assoc.present p || 8 ≤ p || !s.inService then s
     else raise (0x358 + p) [("pos", .n p)] { s with assoc := { s.assoc with present := setBit s.assoc.present p } })

end Sys2Proof.Machine
end

