-- ==== Sys2Proof/Machine/Night.lean ====
section
/-! DEFINITION. Alarms and Night, life cycle and vault verbs, the recovery listener (R233, R234, R240–R262). -/

namespace Sys2Proof.Machine

/-! ## Alarm sources (R253–R260) -/

/-- R255: a source detects; where it is armed its class acts. -/
def execAlarmSourceFires (src : Nat) (s : State) : Out :=
  .next (detectSource src s)

/-- R253: a source stops detecting. -/
def execAlarmSourceCleared (src : Nat) (s : State) : Out :=
  .next (quietSource src s)

/-- R255, R260: the burn of a revoke fuse completes. -/
def execEraseBurnComplete (us : Nat) (s : State) : Out :=
  .next
    (match s.sec.burning with
     | none => s
     | some n =>
       let s := { s with sec := { s.sec with burning := none } }
       let s := raise 0x090 [("seed", .n n), ("us", .n us)] (s.setReg .ALM_ERASE_US (sat 16 us))
       if (activeSeed s).isNone then raise 0x094 [] s else s)

/-- R257: the alarm record is in the log, and the reset toward Night follows. -/
def execAlarmRecordWritten (s : State) : Out :=
  .next
    (if s.sec.recordDue && s.firmware && !s.pwr.failing && !s.pwr.held then
       resetToDawn 1 5 (programLog { s with sec := { s.sec with recordDue := false } })
     else s)

/-- R252. -/
def execTrngHealthFail (s : State) : Out :=
  .next (if s.sec.trngOk then raise 0x06D [] { s with sec := { s.sec with trngOk := false } } else s)

def execTrngHealthRecovered (s : State) : Out := .next { s with sec := { s.sec with trngOk := true } }

/-! ## Life cycle (R240, R243, R245, R259) -/

def lcModes : List Mode := m4to9and11

/-- A condition that is not met (R240, R245, R251). -/
def conflictNeed (r : Route) (need : String) (s : State) : State := reply r 204 [("need", .w need)] s

/-- Authority on a route (R243). -/
def hasAuth (r : Route) (s : State) : Bool := (s.route r).auth

def seedVal (s : State) : Val := match activeSeed s with | some n => .n n | none => .c 8 "none"

def debugName : Nat → String
  | 0 => "CLOSED" | 1 => "AUTH" | _ => "OPEN"

def ownerSet (s : State) : Nat := s.sec.otp.owner.foldl (fun a e => setBit a e.1) 0

def vLcShow : Verb := showVerb "LC.SHOW" lcModes

def doLcShow (l : Line) (s : State) : State :=
  gate vLcShow l (fun s =>
    let o := s.sec.otp
    done l.route [("state", .c (lifeCycle s) (lcName (lifeCycle s))), ("debug", .c (debugState s) (debugName (debugState s))),
      ("revoked", .x 2 o.revoked), ("comm", .x 2 o.commissioned), ("active", seedVal s), ("left", .n (seedsLeft s)),
      ("owner", .x 2 (ownerSet s)), ("dbg_hash", .n (yesNo o.debugHash.isSome)), ("auth", .n (yesNo (hasAuth l.route s)))] s) s

def execLcShow (l : Line) (s : State) : Out := .next (doLcShow l s)

def vLcChallenge : Verb :=
  { name := "LC.CHALLENGE", modes := lcModes, level := 0, changes := false, loop := false, args := [] }

/-- R243, R252: a fresh nonce; the parts gathered so far go with the old one. -/
def doLcChallenge (l : Line) (s : State) : State :=
  let r := l.route
  gate vLcChallenge l (fun s =>
    if !s.sec.trngOk then reply r 303 [] s
    else
      let n := randomBytes s 8
      let s := s.updRoute r fun x => { x with lcNonce := some ⟨n, s.now⟩, lcParts := [] }
      tickN 8 (done r [("n", .w (String.ofList ((groupsText n).map Char.ofNat)))] s)) s

def execLcChallenge (l : Line) (s : State) : Out := .next (doLcChallenge l s)

def vLcAuth : Verb :=
  { name := "LC.AUTH", modes := lcModes, level := 0, changes := false, loop := false,
    args := [⟨"part", true, .word ["x", "y", "r", "s"]⟩, ⟨"d", true, .groups 24⟩, ⟨"purpose", false, .word ["debug"]⟩] }

/-- The place of a part among x, y, r, s. -/
def partIndex (t : Text) : Nat := if t == txt "x" then 0 else if t == txt "y" then 1 else if t == txt "r" then 2 else 3

def partOf (ps : List (Nat × Text)) (i : Nat) : Text := ((ps.find? fun p => p.1 == i).map (·.2)).getD []

/-- The message that authority signs (R243). -/
def authMessage (s : State) (nonce : Text) (r : Route) (debug : Bool) : Text :=
  txt "DXAU" ++ nonce ++ unitIdBytes s ++ [r.byte, if debug then 1 else 0]

/-- Whether the four parts prove authority. -/
def authProved (s : State) (nonce : Text) (r : Route) (debug : Bool) (ps : List (Nat × Text)) : Bool :=
  let key := partOf ps 0 ++ partOf ps 1
  s.sec.otp.debugHash == some (Config.sha384 key) && !(s.sec.otp.bad.any fun n => n / 16 == 6) &&
    Config.ecdsaP384 key (partOf ps 2 ++ partOf ps 3) (authMessage s nonce r debug)

/-- Authority is granted; with purpose=debug it opens a port in AUTH until the next Dawn (R242). -/
def grantAuth (r : Route) (debug : Bool) (s : State) : State :=
  let s := s.updRoute r fun x => { x with auth := true }
  let s := raise 0x061 [("route", routeVal r)] s
  if debug && debugState s == 1 && !s.sec.debugOpen then
    raise 0x063 [("route", routeVal r)] { s with sec := { s.sec with debugOpen := true } }
  else s

/-- R243: the nonce is good for 60 s and one judgement, on its own route. -/
def doLcAuth (l : Line) (s : State) : State :=
  let r := l.route
  gate vLcAuth l (fun s =>
    let x := s.route r
    match x.lcNonce with
    | none => reply r 208 [] s
    | some n =>
      if n.at_ + sec 60 < s.now then reply r 208 [] (s.setRoute { x with lcNonce := none, lcParts := [] })
      else
        let i := partIndex (l.text "part")
        let ps := (i, (groupBytes 24 (l.text "d")).getD []) :: x.lcParts.filter fun p => p.1 != i
        if ps.length < 4 then
          done r [("part", .w (String.ofList ((l.text "part").map Char.ofNat)))] (s.setRoute { x with lcParts := ps })
        else
          let s := s.setRoute { x with lcNonce := none, lcParts := [] }
          let debug := l.has "purpose"
          if authProved s n.bytes r debug ps then done r [("auth", .n 1)] (grantAuth r debug s)
          else loginFailed r (raise 0x062 [("route", routeVal r)] (reply r 207 [] s))) s

def execLcAuth (l : Line) (s : State) : Out := .next (doLcAuth l s)

/-- Burns of OTP (R246). -/
def burn (f : Otp → Otp) (s : State) : State := { s with sec := { s.sec with otp := f s.sec.otp } }

/-- The reset of R240, R259 and R262: as R55 states for RESET_N, told with by=4. -/
def lcReset (s : State) : State := resetToDawn 1 4 s

def vLcAdvance : Verb :=
  { name := "LC.ADVANCE", modes := [.M9, .M11], level := 0, changes := true, loop := false,
    args := [⟨"to", true, .word ["PROVISIONED", "DEPLOYED", "RETURNED", "SCRAPPED"]⟩] }

def lcTarget (t : Text) : Nat :=
  if t == txt "PROVISIONED" then 1 else if t == txt "DEPLOYED" then 2 else if t == txt "RETURNED" then 3 else 4

/-- A mesh that is enabled and detects. -/
def meshDetecting (s : State) : Option Nat := [0, 1].find? fun m => bitAt (meshEn s) m && detectsNow s m

/-- The condition of Table 11.1 that is not met, as a field of 204. -/
def advanceNeed (r : Route) (dst : Nat) (s : State) : Option (String × Val) :=
  match dst with
  | 1 => if s.sec.otp.debugHash.isNone then some ("need", .w "debugkey") else none
  | 2 =>
    if s.level r != 2 || ((activeSeed s).bind (ownerEntry s)).isNone then some ("need", .w "owner")
    else (meshDetecting s).map fun m => ("src", .c m (sourceName m))
  | 3 => if hasAuth r s then none else some ("need", .w "auth")
  | _ =>
    if !hasAuth r s then some ("need", .w "auth")
    else if s.lineMode != .M11 && s.level r != 2 then some ("need", .w "owner")
    else none

/-- The fuses of a move. -/
def advanceBurn (dst : Nat) (s : State) : State :=
  let mesh := s.reg .ALM_MESH_EN
  burn (fun o =>
    { o with fuses := setBit o.fuses (dst - 1)
             commissioned := if dst == 1 then setBit o.commissioned 0 else o.commissioned
             meshFuses := if dst == 2 then mesh else o.meshFuses }) s

/-- R240. -/
def doLcAdvance (l : Line) (s : State) : State :=
  let r := l.route
  gate vLcAdvance l (fun s =>
    let lc := lifeCycle s
    let dst := lcTarget (l.text "to")
    let move := (lc == 0 && dst == 1) || (lc == 1 && dst == 2) || (lc == 2 && dst == 3) || ((lc == 2 || lc == 3) && dst == 4)
    if !move then reply r 102 [("arg", .w "to")] s
    else match advanceNeed r dst s with
      | some f => reply r 204 [f] s
      | none =>
        let kv := [("from", Val.c lc (lcName lc)), ("to", .c dst (lcName dst))]
        lcReset (raise 0x060 kv (advanceBurn dst (reply r 1 kv s)))) s

def execLcAdvance (l : Line) (s : State) : Out := .next (doLcAdvance l s)

/-- 200 STATE of a verb that Night serves but the present state does not allow (R259, R262). -/
def nightState (r : Route) (s : State) : State :=
  reply r 200 [("mode", .w s.lineMode.text), ("need", .w "M11")] s

/-- An armed source of class A, or of A or B, that still detects. -/
def srcConflict (r : Route) (n : Nat) (s : State) : State := reply r 204 [("src", .c n (sourceName n))] s

def vLcRecommission : Verb :=
  { name := "LC.RECOMMISSION", modes := [.M11], level := 0, changes := true, loop := false, args := [] }

/-- R259. -/
def doLcRecommission (l : Line) (s : State) : State :=
  let r := l.route
  gate vLcRecommission l (fun s =>
    if !hasAuth r s then conflictNeed r "auth" s
    else if lifeCycle s != 2 then nightState r s
    else match activeSeed s with
      | none => reply r 209 [] s
      | some n =>
        if bitAt s.sec.otp.commissioned n then conflictNeed r "clear" s
        else match detecting s 1 with
          | some k => srcConflict r k s
          | none =>
            let s := reply r 1 [("seed", .n n)] s
            let s := burn (fun o => { o with commissioned := setBit o.commissioned n }) s
            lcReset (raise 0x066 [("seed", .n n)] { s with sec := { s.sec with latch := 0 } })) s

def execLcRecommission (l : Line) (s : State) : Out := .next (doLcRecommission l s)

def vLcDebugkey : Verb :=
  { name := "LC.DEBUGKEY", modes := m4to9, level := 0, changes := true, loop := false, args := [⟨"hash", true, .groups 24⟩] }

/-- R245: once, in BLANK. -/
def doLcDebugkey (l : Line) (s : State) : State :=
  let r := l.route
  gate vLcDebugkey l (fun s =>
    if lifeCycle s != 0 then conflictNeed r "BLANK" s
    else if s.sec.otp.debugHash.isSome then reply r 209 [] s
    else done r [] (burn (fun o => { o with debugHash := groupBytes 24 (l.text "hash") }) s)) s

def execLcDebugkey (l : Line) (s : State) : Out := .next (doLcDebugkey l s)

def signerWords : List String := ["a0", "a1", "a2", "a3", "o0", "o1"]

/-- The number of a signer hash: a0 to a3, then o0 and o1 (Table 19.5b). -/
def signerNum (t : Text) : Nat := (signerWords.takeWhile fun w => txt w != t).length
def signerVal (n : Nat) : Val := .c n (signerWords.getD n "")

def vLcSigner : Verb :=
  { name := "LC.SIGNER", modes := m4to9, level := 0, changes := true, loop := false,
    args := [⟨"idx", true, .word ["o0", "o1"]⟩, ⟨"hash", true, .groups 24⟩] }

/-- What LC.SIGNER needs in the present life cycle (R245). -/
def signerNeed (r : Route) (s : State) : Option String :=
  match lifeCycle s with
  | 0 => none
  | 1 => if s.level r == 2 then none else some "owner"
  | 2 => if s.level r != 2 then some "owner" else if hasAuth r s then none else some "auth"
  | _ => some "DEPLOYED"

def signerHeld (s : State) (n : Nat) : Bool :=
  s.sec.otp.signers.any (fun e => e.1 == n) || signerBad s.sec.otp n

/-- R245. -/
def doLcSigner (l : Line) (s : State) : State :=
  let r := l.route
  gate vLcSigner l (fun s =>
    let n := signerNum (l.text "idx")
    match signerNeed r s with
    | some w => conflictNeed r w s
    | none =>
      if signerHeld s n then reply r 209 [] s
      else
        let s := burn (fun o => { o with signers := o.signers ++ [(n, (groupBytes 24 (l.text "hash")).getD [])] }) s
        done r [("idx", signerVal n)] (raise 0x06B [("signer", signerVal n)] s)) s

def execLcSigner (l : Line) (s : State) : Out := .next (doLcSigner l s)

def vLcRevoke : Verb :=
  { name := "LC.REVOKE", modes := m4to9, level := 2, changes := true, loop := false, args := [⟨"signer", true, .word signerWords⟩] }

/-- R245: carried out as asked, whatever it leaves. -/
def doLcRevoke (l : Line) (s : State) : State :=
  let r := l.route
  gate vLcRevoke l (fun s =>
    if !hasAuth r s then conflictNeed r "auth" s
    else
      let n := signerNum (l.text "signer")
      let s := burn (fun o => { o with signerRevoked := setBit o.signerRevoked n }) s
      done r [("signer", signerVal n)] (raise 0x06C [("signer", signerVal n)] s)) s

def execLcRevoke (l : Line) (s : State) : Out := .next (doLcRevoke l s)

/-! ## The vault (R247–R252) -/

/-- The attribute word of a slot with its locks (R247). -/
def attrWord (s : State) (slot : Nat) : Nat :=
  let a := ((s.sec.vault.find? fun e => e.slot == slot).map (·.attr)).getD 0
  a + (if bitAt (s.reg .VAULT_LOCK_USE) slot then 0x2000 else 0) + (if bitAt (s.reg .VAULT_LOCK_CHANGE) slot then 0x4000 else 0)

def vVaultShow : Verb := showVerb "VAULT.SHOW" lcModes

def doVaultShow (l : Line) (s : State) : State :=
  gate vVaultShow l (fun s =>
    let rows := ((List.range 32).filter fun n => bitAt (attrWord s n) 12).map fun n =>
      let a := attrWord s n
      [("slot", Val.n n), ("type", .n (a % 16)), ("uses", .x 2 (bitsOf a 11 4)), ("locks", .n (bitsOf a 14 13))]
    done l.route [("trng", .n (yesNo s.sec.trngOk))] (more l.route rows s)) s

def execVaultShow (l : Line) (s : State) : Out := .next (doVaultShow l s)

def vVaultSetowner : Verb :=
  { name := "VAULT.SETOWNER", modes := m4to9, level := 0, changes := true, loop := false, args := [⟨"key", true, .groups 16⟩] }

/-- R251: once for each seed epoch. -/
def doVaultSetowner (l : Line) (s : State) : State :=
  let r := l.route
  gate vVaultSetowner l (fun s =>
    let lc := lifeCycle s
    if lc == 2 && !hasAuth r s then conflictNeed r "auth" s
    else if 2 < lc then conflictNeed r "DEPLOYED" s
    else match activeSeed s with
      | none => reply r 209 [] s
      | some n =>
        if (ownerEntry s n).isSome || s.sec.otp.bad.any (· == 48 + n) then reply r 209 [] s
        else
          let key := (groupBytes 16 (l.text "key")).getD []
          let s := loadSlot 2 key (burn (fun o => { o with owner := o.owner ++ [(n, xorText key (ownerMask o n))] }) s)
          done r [("seed", .n n)] (raise 0x064 [("seed", .n n)] s)) s

def execVaultSetowner (l : Line) (s : State) : Out := .next (doVaultSetowner l s)

def vVaultGenid : Verb :=
  { name := "VAULT.GENID", modes := m4to9, level := 2, changes := true, loop := false, args := [] }

/-- R252, R515: a new identity key, kept wrapped in namespace 0. -/
def doVaultGenid (l : Line) (s : State) : State :=
  let r := l.route
  gate vVaultGenid l (fun s =>
    if s.sec.chain.isSome then conflictNeed r "clear" s
    else if changeLocked s 3 || changeLocked s 4 then reply r 201 [] s
    else if !s.sec.trngOk then reply r 303 [] s
    else match ns0Record s with
      | (s, some x) => reply r x.code x.kv s
      | (s, none) =>
        let s := loadIdentity { s with sec := { s.sec with identity := true, identNo := s.sec.identNo + 1 } }
        done r [] (raise 0x065 [("seed", seedVal s)] s)) s

def execVaultGenid (l : Line) (s : State) : Out := .next (doVaultGenid l s)

/-- R249: bits are set and never cleared before the next Dawn. -/
def lockWrite (r : Route) (change : Bool) (v : Nat) (s : State) : State :=
  let p := if change then Param.VAULT_LOCK_CHANGE else .VAULT_LOCK_USE
  if 2 ^ 32 ≤ v then reply r 103 [("arg", .w "value")] s
  else
    let s := s.setReg p (s.reg p ||| v)
    done r [("value", .n (s.reg p))] s

def execVaultLockWrite (route : Route) (change : Bool) (v : Nat) (s : State) : Out :=
  .next (writeGate route 2 (if change then 0x50084 else 0x50080) m4to9 (lockWrite route change v) s)

/-! ## Alarms on the line (R262) -/

def vAlmShow : Verb := showVerb "ALM.SHOW" lcModes

def doAlmShow (l : Line) (s : State) : State :=
  gate vAlmShow l (fun s =>
    let n := s.sec.latchSrc
    let src := if s.sec.latch == 0 || 8 < n then Val.c 15 "none" else .c n (sourceName n)
    done l.route [("latch", .w (latchName s)), ("src", src), ("seed", seedVal s), ("left", .n (seedsLeft s))] s) s

def execAlmShow (l : Line) (s : State) : Out := .next (doAlmShow l s)

def vAlmClear : Verb :=
  { name := "ALM.CLEAR", modes := [.M11], level := 2, changes := true, loop := false, args := [] }

/-- R262. -/
def doAlmClear (l : Line) (s : State) : State :=
  let r := l.route
  gate vAlmClear l (fun s =>
    if eraseHeld s then conflictNeed r "recommission" s
    else match detecting s 2 with
      | some k => srcConflict r k s
      | none =>
        if lifeCycle s == 4 then nightState r s
        else lcReset (raise 0x092 [] { reply r 1 [] s with sec := { (reply r 1 [] s).sec with latch := 0 } })) s

def execAlmClear (l : Line) (s : State) : Out := .next (doAlmClear l s)

/-! ## The recovery listener (R233, R234) -/

/-- The least level of a REC verb other than REC.INFO. -/
def recLevel (s : State) : Nat := if lifeCycle s == 0 then 0 else 2

def vRec (name : String) (args : List ArgSpec) (s : State) : Verb :=
  { name := name, modes := [.M10], level := recLevel s, changes := true, loop := false, args := args }

def slotArg : ArgSpec := ⟨"slot", true, .word ["a", "b"]⟩
def sizeArg : ArgSpec := ⟨"size", true, .num 528 3146240⟩
def crcArg : ArgSpec := ⟨"crc", true, .num 0 0xFFFFFFFF⟩
def dataArgs : List ArgSpec := [⟨"o", true, .num 0 0xFFFFFFFF⟩, ⟨"d", true, .hex⟩]

def vRecInfo : Verb := showVerb "REC.INFO" [.M10]

def doRecInfo (l : Line) (s : State) : State :=
  gate vRecInfo l (fun s =>
    let seq := match s.boot.selected with | some x => Val.n x.1 | none => .w "none"
    let (code, slot) := match s.boot.lastReject with | some (c, b) => (c, slotVal b) | none => (0, .w "none")
    done l.route [("lc", .w (lcName (lifeCycle s))), ("profile", .w (profileName s)), ("active", slotVal (activeSlot s)),
      ("seq", seq), ("last", codeVal code), ("slot", slot), ("attempts", .n (s.reg .BOOT_ATTEMPTS))] s) s

def execRecInfo (l : Line) (s : State) : Out := .next (doRecInfo l s)

/-- Table 10.8. -/
def doRecOpen (l : Line) (s : State) : State :=
  let r := l.route
  gate (vRec "REC.OPEN" [slotArg, sizeArg] s) l (fun s =>
    let size := l.nat "size"
    let b := l.isWord "slot" "b"
    if size % 16 != 0 then reply r 103 [("arg", .w "size")] s
    else if s.boot.selected.elim false (·.1 == 2 ^ 32 - 2) then reply r 209 [] s
    else
      let was := s.boot.recov.isSome
      let s := trace 0x31 (slotNum b) (size / 16) { s with boot := { s.boot with recov := some ⟨b, size, [], r, false⟩ } }
      let s := raise 0x044 [("slot", slotVal b), ("size", .n size)] s
      done r ([("next", .n 0), ("max", .n 96)] ++ (if was then [("replaced", .n 1)] else [])) s) s

def execRecOpen (l : Line) (s : State) : Out := .next (doRecOpen l s)

/-- Bytes for an image in assembly (REC.DATA, BOOT.DATA): the image with them, or the refusal. -/
def appendData (l : Line) (u : Session) : Except (Nat × List (String × Val)) Session :=
  let d := l.bytes "d"
  let next := u.bytes.length
  if d.isEmpty then .error (103, [("arg", .w "d")])
  else if l.nat "o" != next then .error (204, [("next", .n next)])
  else if u.size < next + d.length then .error (103, [("arg", .w "d")])
  else .ok { u with bytes := u.bytes ++ d }

def doRecData (l : Line) (s : State) : State :=
  let r := l.route
  gate (vRec "REC.DATA" dataArgs s) l (fun s =>
    match s.boot.recov with
    | none => reply r 205 [] s
    | some u =>
      match appendData l u with
      | .error (code, kv) => reply r code kv s
      | .ok u => done r [("next", .n u.bytes.length)] { s with boot := { s.boot with recov := some u } }) s

def execRecData (l : Line) (s : State) : Out := .next (doRecData l s)

/-- Steps 2 to 5 of REC.COMMIT on an image in assembly: the refusal, with the trace detail where one is recorded and
whether the refusal is by a check of Table 10.5. -/
def commitChecks (s : State) (u : Session) (crc : Nat) : Option (Nat × List (String × Val) × Option Nat) :=
  let img := Image.ofBytes u.bytes
  if u.bytes.length < u.size then some (204, [("next", .n u.bytes.length)], none)
  else if crc32 u.bytes != crc then
    some (207, [("reason", .w "crc"), ("calc", .x 8 (crc32 u.bytes))], some 0)
  else if 64 < img.svn then some (209, [], none)
  else match imageCheck s img with
    | some c => some (207, [("code", codeVal c)], some c)
    | none => none

/-- Steps 6 to 8 of REC.COMMIT. -/
def recWrite (r : Route) (u : Session) (s : State) : State :=
  let img := Image.ofBytes u.bytes
  match programSlot u.slotB u.bytes s with
  | (s, false) => reply r 300 [] s
  | (s, true) =>
    match writeFlag 2 u.slotB img s with
    | (s, .error c) => reply r c [] s
    | (s, .ok seq) =>
      let s := trace 0x32 (slotNum u.slotB) seq { s with boot := { s.boot with recov := none } }
      let kv := [("slot", slotVal u.slotB), ("seq", Val.n seq), ("svn", .n img.svn)]
      done r kv (raise 0x045 kv s)

def doRecCommit (l : Line) (s : State) : State :=
  let r := l.route
  gate (vRec "REC.COMMIT" [crcArg] s) l (fun s =>
    match s.boot.recov with
    | none => reply r 205 [] s
    | some u =>
      match commitChecks s u (l.nat "crc") with
      | some (code, kv, tr) =>
        let s := match tr with | some d => trace 0x33 (slotNum u.slotB) d s | none => s
        let s := if (tr.getD 0) != 0 then raise 0x046 [("code", codeVal (tr.getD 0))] s else s
        reply r code kv s
      | none => recWrite r u s) s

def execRecCommit (l : Line) (s : State) : Out := .next (doRecCommit l s)

def doRecAbort (l : Line) (s : State) : State :=
  gate (vRec "REC.ABORT" [] s) l (fun s =>
    if s.boot.recov.isNone then reply l.route 205 [] s
    else done l.route [] { s with boot := { s.boot with recov := none } }) s

def execRecAbort (l : Line) (s : State) : Out := .next (doRecAbort l s)

def doRecBoot (l : Line) (s : State) : State :=
  gate (vRec "REC.BOOT" [] s) l (fun s => nightfallRetry 1 (done l.route [] s)) s

def execRecBoot (l : Line) (s : State) : Out := .next (doRecBoot l s)

end Sys2Proof.Machine
end

