-- ==== Sys2Proof/Machine/BootVerbs.lean ====
section
/-! DEFINITION. The BOOT verbs: an update of the slot that is not running (R235, R236). -/

namespace Sys2Proof.Machine

/-- BOOT.UPD_STATE: 0 none, 1 open, 2 committed. -/
def updState (s : State) : Nat :=
  match s.boot.upd with | none => 0 | some u => if u.committed then 2 else 1

/-- BOOT.UPD_NEXT: next of the open update. -/
def updNext (s : State) : Nat :=
  match s.boot.upd with | some u => if u.committed then 0 else u.bytes.length | none => 0

def vBootShow : Verb := showVerb "BOOT.SHOW" m4to7and9

def doBootShow (l : Line) (s : State) : State :=
  gate vBootShow l (fun s =>
    done l.route [("run", slotVal (s.reg .BOOT_RUN_SLOT == 1)), ("active", slotVal (activeSlot s)),
      ("seq", .n (s.reg .BOOT_FLAG_SEQ)), ("svn", .n (s.reg .BOOT_RUN_SVN)), ("fuse_svn", .n s.sec.otp.svnFuses),
      ("upd", .n (updState s)), ("next", .n (updNext s))] s) s

def execBootShow (l : Line) (s : State) : Out := .next (doBootShow l s)

def vBoot (name : String) (args : List ArgSpec) : Verb :=
  { name := name, modes := m4to7and9, level := 2, changes := true, loop := false, args := args }

/-- The open update, where the route may work on it: 205 without one, 204 where another route instance holds it
(log entry 30). -/
def openUpdate (r : Route) (s : State) : Except (Nat × List (String × Val)) Session :=
  match s.boot.upd with
  | none => .error (205, [])
  | some u =>
    if u.committed then .error (205, [])
    else if u.route != r then .error (204, [("route", routeVal u.route)])
    else .ok u

/-- R235: the update is for the slot that is not running. -/
def doBootOpen (l : Line) (s : State) : State :=
  let r := l.route
  gate (vBoot "BOOT.OPEN" [sizeArg]) l (fun s =>
    let size := l.nat "size"
    let held := match s.boot.upd with | some u => if u.committed then none else some u.route | none => none
    if size % 16 != 0 then reply r 103 [("arg", .w "size")] s
    else
      match held with
      | some q =>
        if q != r then reply r 204 [("route", routeVal q)] s else opened r size true s
      | none => opened r size false s) s
where
  opened (r : Route) (size : Nat) (was : Bool) (s : State) : State :=
    let b := s.reg .BOOT_RUN_SLOT == 0
    let s := { s with boot := { s.boot with upd := some ⟨b, size, [], r, false⟩ } }
    done r ([("slot", slotVal b), ("next", .n 0), ("max", .n 96)] ++ (if was then [("replaced", .n 1)] else [])) s

def execBootOpen (l : Line) (s : State) : Out := .next (doBootOpen l s)

def doBootData (l : Line) (s : State) : State :=
  let r := l.route
  gate (vBoot "BOOT.DATA" dataArgs) l (fun s =>
    match openUpdate r s with
    | .error (code, kv) => reply r code kv s
    | .ok u =>
      match appendData l u with
      | .error (code, kv) => reply r code kv s
      | .ok u => done r [("next", .n u.bytes.length)] { s with boot := { s.boot with upd := some u } }) s

def execBootData (l : Line) (s : State) : Out := .next (doBootData l s)

/-- R235: the whole value of a key, read with device authority. -/
def doBootFromkv (l : Line) (s : State) : State :=
  let r := l.route
  gate (vBoot "BOOT.FROMKV" [⟨"ns", true, .num 2 255⟩, keyArg]) l (fun s =>
    match openUpdate r s with
    | .error (code, kv) => reply r code kv s
    | .ok u =>
      match readKey (l.nat "ns") (l.text "key") s with
      | (s, .error x) => refuse r x s
      | (s, .ok e) =>
        if u.size < u.bytes.length + e.val.length then reply r 103 [("arg", .w "key")] s
        else
          let u := { u with bytes := u.bytes ++ e.val }
          done r [("next", .n u.bytes.length)] { s with boot := { s.boot with upd := some u } }) s

def execBootFromkv (l : Line) (s : State) : Out := .next (doBootFromkv l s)

/-- R235: steps 1 to 6 of REC.COMMIT on the staged image; a refusal by a check of Table 10.5 is told (log entry 30). -/
def doBootCommit (l : Line) (s : State) : State :=
  let r := l.route
  gate (vBoot "BOOT.COMMIT" [crcArg]) l (fun s =>
    match openUpdate r s with
    | .error (code, kv) => reply r code kv s
    | .ok u =>
      match commitChecks s u (l.nat "crc") with
      | some (code, kv, tr) =>
        let s := if (tr.getD 0) != 0 then raise 0x049 [("code", codeVal (tr.getD 0)), ("reason", .c 1 "refused")] s else s
        reply r code kv s
      | none =>
        match programSlot u.slotB u.bytes s with
        | (s, false) => reply r 300 [] s
        | (s, true) =>
          let kv := [("slot", slotVal u.slotB), ("svn", Val.n (Image.ofBytes u.bytes).svn)]
          done r kv (raise 0x047 kv { s with boot := { s.boot with upd := some { u with committed := true } } })) s

def execBootCommit (l : Line) (s : State) : Out := .next (doBootCommit l s)

/-- The slot that BOOT.ACTIVATE names: its argument, or the committed slot. -/
def activateSlot (l : Line) (s : State) : Option Bool :=
  if l.has "slot" then some (l.isWord "slot" "b")
  else match s.boot.upd with | some u => if u.committed then some u.slotB else none | none => none

/-- R235: the checks of Table 10.5 on the slot as stored, then a flag record with writer 1. -/
def doBootActivate (l : Line) (s : State) : State :=
  let r := l.route
  gate (vBoot "BOOT.ACTIVATE" [⟨"slot", false, .word ["a", "b"]⟩]) l (fun s =>
    match activateSlot l s with
    | none => reply r 205 [] s
    | some b =>
      let img := slotImage s b
      match imageCheck s img with
      | some c => reply r 207 [("code", codeVal c)] s
      | none =>
        match writeFlag 1 b img s with
        | (s, .error c) => reply r c [] s
        | (s, .ok seq) =>
          let kv := [("slot", slotVal b), ("seq", Val.n seq)]
          done r kv (raise 0x048 kv s)) s

def execBootActivate (l : Line) (s : State) : Out := .next (doBootActivate l s)

/-- R235; any route instance may abort the open update (log entry 30). -/
def doBootAbort (l : Line) (s : State) : State :=
  gate (vBoot "BOOT.ABORT" []) l (fun s =>
    if updState s != 1 then reply l.route 205 [] s
    else done l.route [] { s with boot := { s.boot with upd := none } }) s

def execBootAbort (l : Line) (s : State) : Out := .next (doBootAbort l s)

end Sys2Proof.Machine
end

