-- ==== Sys2Proof/Machine/Loop.lean ====
section
/-! DEFINITION. The loop interface and the bridge: mapping and the loop current, fail levels, start and reset of the
loop die, synchronising resets, heartbeats and the mirror (R16, R37–R41, R128–R146, R170, R172, R177). -/

namespace Sys2Proof.Machine

def State.setLoop (s : State) (l : Loop) : State := { s with loop := l }
def State.setFe (s : State) (f : Front) : State := { s with loop := { s.loop with fe := f } }

/-- What the loop die does by itself: nothing where none is fitted (R5) or where it has not started (R138). -/
def onLoop (run : State → State) (s : State) : State := if s.noLoop || !s.loop.started then s else run s

/-! ## The loop current -/

/-- The factory and user trims (R183): the commanded current in µA, then the DAC code. -/
def Loop.commanded (l : Loop) : F32 := F.add (F.mul l.setF (l.reg .CAL_LU_GAIN)) (l.reg .CAL_LU_OFS)

def dacCode (c lgain lofs : F32) : Nat :=
  let x := F.div (F.mul (F.add (F.mul c lgain) lofs) 0x47800000) 0x46BB8000
  if F.lt x 0 then 0 else if F.lt 0x477FFF00 x then 65535 else F.roundSat x 65535

/-- p of R135. -/
def pOf (pv lrv urv : F32) : F32 := F.div (F.sub pv lrv) (F.sub urv lrv)

/-- The mapped setpoint in mA with its clamps (R135): setpoint, SAT_LOW, SAT_HIGH. -/
def mapped (p : F32) : F32 × Bool × Bool :=
  let i := F.add 0x40800000 (F.mul 0x41800000 p)
  if F.lt i 0x40733333 then (0x40733333, true, false)
  else if F.lt 0x41A40000 i then (0x41A40000, false, true)
  else (i, false, false)

/-- The present mapped setpoint in µA and its clamps. With no PV yet the setpoint stays; where p is not a number the
spec states no setpoint, and it is a free value within the clamps (log entry 3). -/
def mapPv (l : Loop) (free : Nat) : F32 × Bool × Bool :=
  if F.isNaN l.y then (l.setF, l.satLow, l.satHigh)
  else
    let p := pOf l.y (l.reg .ISL_LRV) (l.reg .ISL_URV)
    if F.isNaN p then (F.ofNat (clampFree free 3800 20500), false, false)
    else
      let (i, lo, hi) := mapped p
      (F.mul i 0x447A0000, lo, hi)

/-- The level of a cause (Table 6.4): causes 1 and 2 are low always. -/
def levelHigh (l : Loop) (cause : Nat) : Bool := 3 ≤ cause && l.reg .ISL_FAIL_DIR == 1

/-- The row of Table 6.3 that holds (R136). -/
def loopRow (l : Loop) : Nat :=
  if l.startUp then 1
  else if l.reg .ISL_LOOP_CUR_EN == 0 then 2
  else if l.reg .ISL_FIX_UA != 0 then 3
  else if l.cause != 0 then 4
  else 5

/-- Whether EV 0x383 is due as the loop goes from `l` to `l'` (R137): a fail level is entered or changes its level, or a cause
comes while fixed current or multidrop keeps the current where it is (chapter 6, At the edges). -/
def failTold (l l' : Loop) : Bool :=
  l'.cause != 0 && l'.row != 1 &&
    (l.cause == 0 || l.row == 1 || l'.failHigh != l.failHigh || (l'.row == 4 && l.row != 4))

/-- The loop current from the causes, the mode and the PV as they stand (R136, R137): what EV 0x383 tells, and EV 0x384 at the
return to the mapped setpoint. -/
def evalLoop (s : State) : State :=
  let l := s.loop
  let low := l.activeCauses.headD 0
  let high := levelHigh l low
  let l1 := { l with startUp := l.startUp && !l.startEnds, cause := low, failHigh := high }
  let m := mapPv l1 s.free
  let l1 := { l1 with satLow := m.2.1, satHigh := m.2.2, row := loopRow l1 }
  let set_ : F32 := match l1.row with
    | 1 => 0x455DE000
    | 2 => F.ofNat 4000
    | 3 => F.ofNat (l1.reg .ISL_FIX_UA)
    | 4 => if high then F.ofNat 21500 else 0x455DE000
    | _ => m.1
  let l1 := { l1 with setF := set_ }
  let l1 := { l1 with code := dacCode l1.commanded l1.otp.lgain l1.otp.lofs }
  let told := if failTold l l1 then low else if l1.row == 5 then 0 else l.told
  let s := (s.setLoop { l1 with told := told }).tick
  if failTold l l1 then
    ldRaise 0x383 [("cause", .n low), ("level", .c high.toNat (if high then "high" else "low"))] s
  else if l1.row == 5 && l.told != 0 then ldRaise 0x384 [("cause", .n l.told)] s
  else s

/-- A cause of Table 6.4 becomes active. -/
def setCause (c : Nat) (s : State) : State := s.setLoop { s.loop with causes := setBit s.loop.causes c }

def clearCause (c : Nat) (s : State) : State := s.setLoop { s.loop with causes := clearBit s.loop.causes c }

/-! ## Fixed current -/

/-- The pending readings of the loop trim are discarded, each with EV 0x3A7 (R191). -/
def dropPending (s : State) : State :=
  let s := if s.loop.pend4.isSome then ldRaise 0x3A7 [("point", .n 4)] (s.setLoop { s.loop with pend4 := none }) else s
  if s.loop.pend20.isSome then ldRaise 0x3A7 [("point", .n 20)] (s.setLoop { s.loop with pend20 := none }) else s

/-- Fixed current as written (R139): entry and exit raise EV 0x386; its end discards the pending readings. -/
def setFixed (ua : Nat) (s : State) : State :=
  let old := s.loop.reg .ISL_FIX_UA
  let s := s.setLoop (s.loop.setReg .ISL_FIX_UA ua)
  if old == 0 && ua != 0 then ldRaise 0x386 [("ma", .n ua)] s
  else if old != 0 && ua == 0 then dropPending (ldRaise 0x386 [("ma", .n 0)] s)
  else s

/-- R139: ISL.FIX_TIMEOUT_S has passed since the last nonzero write. -/
def execFixTimeout (s : State) : Out :=
  .next (onLoop (fun s =>
    if s.loop.reg .ISL_FIX_UA == 0 || s.loop.reg .ISL_FIX_TIMEOUT_S == 0 then s else evalLoop (setFixed 0 s)) s)

/-! ## Synchronising resets -/

/-- The words of cause= of EV 0x390 (R170). -/
def syncWord : Nat → String
  | 1 => "sync"
  | 2 => "startup"
  | _ => "config"

/-- A synchronising reset (R170, R171): phase 0 at the target amplitude, filters and numbering from the start; the
damping restarts at the first valid output (R134). Faults keep their state. -/
def syncReset (cause : Nat) (s : State) : State :=
  let f := s.loop.fe
  let f := { f with outN := 0, valid := 0, lastBad := false, aNow := s.loop.reg .FE_EXC_MV, aNext := none,
                    pathE := PathSt.zero, pathA := PathSt.zero, pathM := PathSt.zero, pathB := PathSt.zero,
                    last16 := [] }
  let s := s.setLoop { s.loop with fe := f, yOk := false }
  ldRaise 0x390 [("cause", .c cause (syncWord cause)), ("s", .n s.loop.supp)] s

/-- A sync by ISL.SYNC or command 140 gives the trim its phase reference back, and PHASE_LOCK with it where the frequency is
within its limit (R37, R38, R40). -/
def syncNow (s : State) : State :=
  let l := if s.loop.freqOk then s.loop.setReg .ISL_PHASE_LOCK 1 else s.loop
  syncReset 1 (s.setLoop { l with synced := true })

/-- R41: the pending sync fires at its instant, or at the forward step that passes it. -/
def execScheduledSyncFire (s : State) : Out :=
  .next
    (match s.clk.syncAt with
     | none => s
     | some t =>
       if s.clk.tai < t || s.bridge.link != 2 || s.noLoop || !s.loop.started then s
       else
         let late := s.clk.tai - t
         let s := { s with clk := { s.clk with syncAt := none } }
         syncNow (raise 0x0C8 [("late", .n late)] s))

/-! ## Start and reset of the loop die -/

/-- The newer valid bank (R154), the one with the higher sequence: place 0 for A, 1 for B. -/
def newerBank (l : Loop) : Option Nat :=
  if l.bankA.valid && l.bankB.valid then (if l.bankA.seq < l.bankB.seq then some 1 else some 0)
  else if l.bankA.valid then some 0
  else if l.bankB.valid then some 1
  else none

def Loop.bank (l : Loop) (n : Nat) : Bank := if n == 0 then l.bankA else l.bankB
def Loop.setBank (l : Loop) (n : Nat) (b : Bank) : Loop := if n == 0 then { l with bankA := b } else { l with bankB := b }

/-- The bank that the next commit goes to (R154): the one without the newer image. -/
def nextBank (l : Loop) : Nat := if newerBank l == some 0 then 1 else 0

/-- A commit cut short leaves an image that fails its CRC-32 (R154). -/
def tearBank (l : Loop) : Loop := l.setBank (nextBank l) { l.bank (nextBank l) with valid := false }

/-- What outlives a loop-die reset beside the banks and OTP: the change counter and the count of commits (log entry
23). -/
def keptCells (l : Loop) : List Cell :=
  l.regs.filter fun c => c.p == .ISL_CC || c.p == .ISL_MTP_COMMITS

/-- R138: VISL has reached 2.7 V. The loop current is 3.55 mA; the factory calibration and the newer bank are loaded;
the front end starts. -/
def startLoop (otpOk : Bool) (s : State) : State :=
  let l := s.loop
  let kept := keptCells l
  let (image, saved, noImage) := match newerBank l with
    | some 0 => (l.bankA.image, l.bankA.saved, false)
    | some _ => (l.bankB.image, l.bankB.saved, false)
    | none => ([], none, true)
  let l := { l with
    visl := true, started := true, startUp := true, row := 1, setF := 0x455DE000, y := F.nan, yOk := false,
    otp := { l.otp with ok := otpOk }, regs := kept.foldl cellsPut image, saved := saved,
    causes := if noImage then 4 else 0, seq32 := 0, tick := 0, recN := 0, buf := [], displaced := 0,
    fe := Front.reset, hart := { Hart.reset with changed := l.hart.changed } }
  let l := { l.setReg .ISL_OSC_TRIM l.otp.oscTrim with src := l.reg .ISL_PV_SRC }
  let s := s.setLoop l
  let s := if otpOk then s else ldRaise 0x3A6 [] s
  evalLoop (syncReset 2 s)

/-- R138. A commit that the loss of supply cut short is found as it left its bank (R154; log entry 113). -/
def execLoopDieStart (found : LoopFound) (s : State) : Out :=
  .next (if s.noLoop || s.loop.started then s
         else startLoop found.otpOk (if found.cut then s.setLoop (tearBank s.loop) else s))

/-- R129, R139, R191: a loop-die reset. Fixed current and pending readings end, each told; everything volatile is
lost. -/
def resetLoop (s : State) : State :=
  let s := setFixed 0 s
  let l := s.loop
  let r := Loop.reset
  let l' := { r with
    aux := l.aux, loopOk := l.loopOk, wp := l.wp, bankA := l.bankA, bankB := l.bankB, otp := l.otp,
    regs := keptCells l, synced := false, latched := l.latched, resetSince := true, resetUnacked := true,
    hart := { Hart.reset with changed := l.hart.changed } }
  let s := s.setLoop l'
  if s.bridge.link == 2 then clearLatch 0x38E s else s

/-- R129: VISL has stood below 2.6 V for 10 µs; events latched in the loop die go with it. -/
def execLoopDieReset (s : State) : Out :=
  .next (onLoop (fun s =>
    let s := resetLoop s
    s.setLoop { s.loop with latched := [] }) s)

/-- R138: start-up ends without a valid PV. -/
def execStartUpTimeout (s : State) : Out :=
  .next (onLoop (fun s =>
    if !s.loop.startUp then s
    else if s.loop.src == 0 then (if s.loop.fe.valid == 0 then evalLoop (setCause 4 s) else s)
    else if F.isNaN (s.loop.reg .ISL_MAIN_PV) then evalLoop (setCause 5 s) else s) s)

/-- R172: ISL.HOLD_MAX_MS has passed since the first synchronising reset after the last valid output. -/
def execHoldMaxExpiry (s : State) : Out :=
  .next (onLoop (fun s => if s.loop.fe.valid == 0 then evalLoop (setCause 4 s) else s) s)

/-- R177: a HOLD fault has been active for ISL.HOLD_MAX_MS. -/
def execFaultHoldToFail (s : State) : Out :=
  .next (onLoop (fun s =>
    if s.loop.holding then evalLoop (s.setFe { s.loop.fe with holdFail := true }) else s) s)

/-- R141: the MAIN source is stale. -/
def execMainStale (s : State) : Out := .next (onLoop (fun s => evalLoop (setCause 5 s)) s)

/-- Whether the measured current differs from the setpoint by more than 100 µA (R133). -/
def Loop.off (l : Loop) : Bool := F.lt 0x42C80000 (F.abs (F.sub (F.ofNat (l.reg .ISL_LOOP_MEAS_UA)) l.setF))

/-- The difference as a PV output finds it (R133): since when it lasts, and its end, which ends the latch (R487). -/
def noteDeparture (s : State) : State :=
  let l := s.loop
  if l.off then s.setLoop { l with offSince := some (l.offSince.getD l.tick) }
  else
    let s := s.setLoop { l with offSince := none, departed := false }
    if l.departed && s.bridge.link == 2 then clearLatch 0x38E s else s

/-- R133: the measured current has departed from the setpoint for 100 ms, `later` tenths of a millisecond after the last output. -/
def execLoopCurrentDeparture (later : Nat) (s : State) : Out :=
  .next (onLoop (fun s =>
    if s.loop.departed || !(s.loop.offSince.any fun t => t + 1000 ≤ s.loop.tick + later) then s
    else
      ldRaise 0x38E [("set", .n (s.loop.get .ISL_LOOP_SET_UA)), ("meas", .n (s.loop.reg .ISL_LOOP_MEAS_UA))]
        (s.setLoop { s.loop with departed := true })) s)

/-- R128: AUX_ISL has crossed 1.7 V. -/
def execAuxIslSourceChange (aux : Bool) (s : State) : Out :=
  .next
    (if s.noLoop || s.loop.aux == aux then s
     else
       let s := s.setLoop { s.loop with aux := aux }
       if s.loop.started then ldRaise 0x38B [("src", .c aux.toNat (if aux then "aux" else "loop"))] s else s)

/-- R156: the LOOP_WP input. -/
def execLoopWpChange (on : Bool) (s : State) : Out :=
  .next
    (if s.noLoop || s.loop.wp == on then s
     else
       let s := s.setLoop { s.loop with wp := on }
       if s.loop.started then ldRaise 0x38F [("wp", .n on.toNat)] s else s)

/-! ## The draw and the amplitude governor -/

/-- The governor's rule (R162): the new amplitude, limited, need. With no amplitude in force the need is not stated:
a free value (log entry 3). -/
def governor (aSet aNow iExc : Nat) (allow : Int) (limited : Bool) (free : Nat) : Nat × Bool × Int :=
  let need : Int := if aNow == 0 then (clampFree free 0 65535 : Nat) else ((iExc * aSet / aNow : Nat) : Int)
  if need * 16 ≤ allow * 15 then (aSet, false, need)
  else if allow < need then ((((aSet : Int) * allow * 15) / (need * 16)).toNat, true, need)
  else (aNow, limited, need)

/-- R130, R131, R162: the draw as measured, the allowance, the governor. The new amplitude waits for its zero
crossing. -/
def drawUpdate (draw iExc : Nat) (s : State) : State :=
  let l := s.loop
  let ua := F.roundSat (F.mul (F.ofNat draw) l.otp.drawGain) 65535
  let other : Int := (ua : Int) - iExc
  let allow : Int := if l.aux then 400 else min 400 (3100 - other)
  let aSet := l.reg .FE_EXC_MV
  let (a, lim, need) := governor aSet l.fe.aNow iExc allow l.fe.limited s.free
  let was := l.fe.limited
  let fe := { l.fe with aNext := if a == l.fe.aNow then none else some a, limited := lim,
                        excOver := lim && decide (a * 4 < aSet) }
  let s := (s.setLoop { l.setReg .ISL_DRAW_UA ua with fe := fe }).tick
  if lim && !was then ldRaise 0x393 [("allow", .i allow), ("need", .i need)] s
  else if was && !lim then ldRaise 0x394 [] s
  else s

def execDrawUpdate (draw iExc : Nat) (s : State) : Out := .next (onLoop (drawUpdate draw iExc) s)

/-- R160: the positive-going zero crossing at which an amplitude takes effect. -/
def execAmplitudeChangeApply (s : State) : Out :=
  .next (onLoop (fun s =>
    match s.loop.fe.aNext with
    | some a => s.setFe { s.loop.fe with aNow := a, aNext := none }
    | none => s) s)

/-! ## The bridge -/

/-- R16, R37, R143: the heartbeats of one millisecond. The first in both directions begins SYNC. -/
def execBridgeHeartbeat (s : State) : Out :=
  .next
    (if s.noLoop || !s.loop.started || !s.firmware || s.pwr.failing then s
     else
       let s := s.setLoop { s.loop with link := true, hbCount := s.loop.hbCount + 1 }
       let s := if s.bridge.link == 0 then { s with bridge := { s.bridge with link := 1 } } else s
       s.emit (.bridge "heartbeat" []))

/-- R143, R146: the mirror is loaded. The latched events of the loop die are raised late, and a restart is told. -/
def mirrorLoaded (s : State) : State :=
  let s := { s with bridge := { s.bridge with link := 2, upSinceDawn := true, mirror := s.loop.snapshot },
                    loop := { s.loop with up := true } }
  let s := raise 0x380 [] s
  let held := s.loop.latched
  let s := s.setLoop { s.loop with latched := [] }
  let s := held.foldl (fun s e => raiseWith e.id ((evSeverity e.id).getD 0) e.fields true e.count s) s
  let s := if s.loop.departed then s else clearLatch 0x38E s
  let s :=
    if s.loop.resetSince then
      let s := s.setLoop { s.loop with resetSince := false }
      raise 0x385 [] { s with bridge := { s.bridge with anchor := none } }
    else s
  if m4to7.any (· == s.mode) && s.inService then dueBackfill s else s

def execBridgeMirrorLoaded (s : State) : Out :=
  .next (if s.bridge.link == 1 && !s.noLoop && s.loop.started then mirrorLoaded s else s)

/-- The core-die end declares the bridge lost (R41, R143, R144). -/
def coreEndLost (s : State) : State :=
  if s.bridge.link == 0 then s
  else
    let old := s.bridge.link
    let s := coreEndDown (s.incReg .ISL_LINK_LOSSES)
    raise 0x381 [("state", .c old (if old == 1 then "SYNC" else "UP"))] s

/-- The loop-die end declares the bridge lost (R38, R210): the novelty bits and the phase reference go. -/
def loopEndLost (s : State) : State :=
  if !s.loop.link then s
  else
    let s := s.setLoop { s.loop.setReg .ISL_PHASE_LOCK 0 with link := false, up := false, synced := false, freqOk := false, hbCount := 0 }
    (List.range 8).foldl (fun s w => clearNovelty w 3 s) s

/-- R16: 20 ms without receipt. -/
def execBridgeLost (s : State) : Out :=
  .next
    (if s.noLoop || (s.bridge.link == 0 && !s.loop.link) then s
     else loopEndLost (coreEndLost (s.setLoop { s.loop with synced := false, freqOk := false })))

/-- A frame fails its check (Table 6.7): it is counted, and nothing of it is taken. -/
def execBridgeFrameCheckFail (s : State) : Out :=
  .next (if s.noLoop || !s.loop.started || !s.firmware || s.pwr.failing then s else raiseCount 0x38C [] s)

/-- The loop-die field of a place in the tables. -/
def loopParam (rank : Nat) : Option Param :=
  ([Block.ISL, .FE, .CAL, .HART].flatMap Block.params).find? fun p => p.rank == rank && p.onLoop

/-- R144: a change of a mirrored field reaches the core die's copy. -/
def execMirrorChangeReport (param i : Nat) (s : State) : Out :=
  .next
    (match loopParam param with
     | some p => if s.bridge.link == 2 && !s.noLoop then { s with bridge := s.bridge.setReg p (s.loop.get p i) i } else s
     | none => s)

end Sys2Proof.Machine
end

