-- ==== Sys2Proof/Machine/FrontEnd.lean ====
section
/-! DEFINITION. The sensor front end: demodulation, filters, results, faults, validity; the LOCAL process value and its
damping at each output (R134, R161, R164–R177, R182–R185). -/

namespace Sys2Proof.Machine

/-! ## The paths -/

/-- The factory and user phase trims of a path in millidegrees (R167): the user's for the primary result alone. Paths E, A, M, B
are 0 to 3. -/
def Loop.phase (l : Loop) (path gain : Nat) : Int :=
  l.otp.phase.getD (24 * path + 4 * l.reg .FE_EXC_FREQ + gain) 0 +
    (if path == 1 then toSigned 16 (l.reg .CAL_U_PH_A)
     else if path == 3 && l.isLvdt then toSigned 16 (l.reg .CAL_U_PH_B) else 0)

/-- Samples of a path in one output period: the decimation of Table 7.3. -/
def Loop.decim (l : Loop) : Nat := 1024000 / outRate (l.reg .FE_RATE)

/-- u of R167 in degrees at the `n`-th sample of a path since the synchronising reset: the excitation phase less the path's
sampling offset in the rotation (Table 7.2, one modulator clock a path) and its phase trims. -/
def Loop.refAngle (l : Loop) (path gain n : Nat) : F32 :=
  let f := excHz (l.reg .FE_EXC_FREQ)
  let theta : Int := 4000 * 360 * (f * n % 1024000)
  let offset : Int := 1000 * 360 * (f * path)
  F.ofRat (theta - offset - 4096000 * l.phase path gain) 4096000000

/-- The demodulated sample (R167): sqrt 2 times the sample, against the cosine and the sine of the reference. -/
def demodulate (x u : F32) : IQ :=
  let y := F.mul x 0x3FB504F3
  ⟨F.mul y (Config.f32Cos u), F.mul y (Config.f32Sin u)⟩

/-- The weight of the sample `j` places back in a sinc3 decimator of ratio `r`, times the cube of `r` (R169). -/
def sincWeight (r j : Nat) : Nat :=
  let c (n : Nat) : Nat := n * (n - 1) / 2
  c (j + 2) + 3 * c (j + 2 - 2 * r) - 3 * c (j + 2 - r) - c (j + 2 - 3 * r)

/-- The sinc3 output over samples with the latest first, those before the first zero (R169). -/
def sinc3 (r : Nat) (xs : List F32) : F32 :=
  let sum := (xs.foldl (fun (a : F32 × Nat) x => (F.add a.1 (F.mul (F.ofNat (sincWeight r a.2)) x), a.2 + 1)) (0, 0)).1
  F.div sum (F.ofNat (r * r * r))

/-- The mean of the last three sinc3 outputs, zeros before the first (R169). -/
def mean3 (h : List F32) : F32 := F.div (h.foldl F.add 0) 0x40400000

/-- One output of a path through the stages that FE.FILT selects (R169): I and Q, and the state left. -/
def filterPath (filt iirMs tOut : Nat) (p : PathSt) (x : IQ) : IQ × PathSt :=
  let hist := (x :: p.hist).take 3
  if filt == 0 then (x, { p with hist := hist })
  else
    let m : IQ := ⟨mean3 (hist.map (·.i)), mean3 (hist.map (·.q))⟩
    if filt == 1 then (m, { p with hist := hist })
    else
      let a := F.coeff tOut (10 * iirMs)
      let y : IQ := ⟨F.add p.iir.i (F.mul a (F.sub m.i p.iir.i)), F.add p.iir.q (F.mul a (F.sub m.q p.iir.q))⟩
      (y, { p with hist := hist, iir := y })

/-- A path at an output: its samples demodulated, decimated and filtered (R167, R169). Each output takes as many samples, so
the output's number gives the place of the first. -/
def Loop.pathOut (l : Loop) (path gain : Nat) (p : PathSt) (xs : List F32) : IQ × PathSt :=
  let r := l.decim
  let first := l.fe.outN * r
  let new := xs.foldl (fun (a : List IQ × Nat) x => (demodulate x (l.refAngle path gain (first + a.2)) :: a.1, a.2 + 1)) ([], 0)
  let all := new.1 ++ p.taps
  let x : IQ := ⟨sinc3 r (all.map (·.i)), sinc3 r (all.map (·.q))⟩
  filterPath (l.reg .FE_FILT) (l.reg .FE_IIR_MS) l.tOut { p with taps := all.take (2 * r) } x

def IQ.mag (x : IQ) : F32 := F.sqrt (F.add (F.mul x.i x.i) (F.mul x.q x.q))
def IQ.angle (x : IQ) : F32 := Config.f32Atan2 x.q x.i

/-! ## Results -/

/-- Whether a divisor is below 0.5 mV rms (R168). -/
def tooSmall (x : F32) : Bool := F.lt (F.abs x) 0x3F000000

/-- The result and its quadrature by channel mode (Table 7.4): the path, the partner of LVDT, the excitation. -/
def primaryResult (mode : Nat) (a b e : IQ) : F32 × F32 :=
  match mode with
  | 0 =>
    if tooSmall e.i then (F.nan, F.nan)
    else (F.div (F.mul 0x447A0000 a.i) e.i, F.div (F.mul 0x447A0000 a.q) e.i)
  | 1 =>
    let d := F.add a.i b.i
    if tooSmall d then (F.nan, F.nan) else (F.div (F.sub a.i b.i) d, F.div (F.sub a.q b.q) d)
  | _ => (a.mag, a.angle)

/-- The factory correction (R182). -/
def Loop.factory (l : Loop) (mode gain : Nat) (r : F32) : F32 :=
  F.mul (F.sub r (l.fOfs mode gain)) (l.fGain mode gain)

/-- The user zero and span (R182). -/
def Loop.user (l : Loop) (rf : F32) : F32 := F.add (F.mul rf (l.reg .CAL_U_SPAN)) (l.reg .CAL_U_OFS)

/-- The points of the committed table, in order: r and pv. -/
def Loop.table (l : Loop) : List (F32 × F32) :=
  (List.range (l.reg .CAL_SC_N)).map fun k => (l.reg .CAL_SC_TABLE (2 * k), l.reg .CAL_SC_TABLE (2 * k + 1))

/-- The segment search and interpolation of R185. -/
def tablePv (ru : F32) : List (F32 × F32) → F32
  | a :: b :: c :: rest =>
    if F.le b.1 ru then tablePv ru (b :: c :: rest)
    else F.add a.2 (F.div (F.mul (F.sub ru a.1) (F.sub b.2 a.2)) (F.sub b.1 a.1))
  | [a, b] => F.add a.2 (F.div (F.mul (F.sub ru a.1) (F.sub b.2 a.2)) (F.sub b.1 a.1))
  | _ => F.nan

/-- Scaling to engineering units (R184, R185). -/
def Loop.scaled (l : Loop) (ru : F32) : F32 :=
  if l.reg .CAL_SC_MODE == 0 then F.add (F.mul ru (l.reg .CAL_SC_GAIN)) (l.reg .CAL_SC_OFS)
  else tablePv ru l.table

/-! ## Faults -/

/-- A pin as the DC monitor reads it over an output period: the mean of its conversions, after the factory trim (R174). -/
def pinMv (l : Loop) (conv : List Int) : Int :=
  F.round (F.add (F.mul (F.mean (conv.map F.ofInt)) l.otp.dcGain) l.otp.dcOfs)

/-- The DC differential and the common mode of an input in mV (R174). -/
def dcOf (l : Loop) (x : FeInput) (ch : Nat) : Option (Int × Int) :=
  (x.dc.find? (·.ch == ch)).map fun d =>
    (pinMv l d.p - pinMv l d.n, (pinMv l d.p + pinMv l d.n) / 2)

/-- The inputs that a path visits (R165, R174). -/
def Loop.visited (l : Loop) : List Nat :=
  let a := l.reg .FE_PV_CH
  if l.isLvdt then [a, a + 1] else if l.auxOn then [a, l.reg .FE_AUX_CH] else [a]

/-- Whether the common mode lies outside the window (Table 7.5, 4). -/
def cmBad (l : Loop) (x : FeInput) (ch : Nat) : Bool :=
  match dcOf l x ch with
  | some (_, c) => c < l.reg .FE_CM_LO_MV || l.reg .FE_CM_HI_MV < c
  | none => false

def openBad (l : Loop) (x : FeInput) (ch : Nat) : Bool :=
  match dcOf l x ch with
  | some (d, _) => l.reg .FE_BO_NA != 0 && l.reg .FE_BO_LIM_MV < d.natAbs
  | none => false

/-- The gain of a gain code (R164). -/
def gainOf (code : Nat) : Nat := [1, 8, 64, 128].getD code 128

/-- The gain code of path B (R164): path A's in LVDT mode. -/
def Loop.gainB (l : Loop) : Nat := if l.isLvdt then l.reg .FE_PV_GAIN else l.reg .FE_AUX_GAIN

/-- The full scale of a path in mV (Table 7.2). -/
def Loop.fullScale (l : Loop) (path : Nat) : F32 :=
  match path with
  | 0 => F.ofNat 1600
  | 1 => F.ofRat 1200 (gainOf (l.reg .FE_PV_GAIN))
  | 2 => F.ofNat 80
  | _ => F.ofRat 1200 (gainOf l.gainB)

/-- Whether a sample of a path stands at its full scale (Table 7.5, 6). -/
def overrange (l : Loop) (path : Nat) (xs : List F32) : Bool := xs.any fun v => F.le (l.fullScale path) (F.abs v)

/-- The conditions of Table 7.5 at an output: code, what it concerns, whether it is met. -/
def faultConds (l : Loop) (x : FeInput) (a b e : IQ) (excUa : Nat) : List (Nat × Nat × Bool) :=
  let sum := F.div (F.add a.i b.i) e.i
  [(1, 12, decide (excUa < l.reg .FE_EXC_IMIN_UA)), (2, 12, l.fe.excOver),
   (3, 12, x.driverMax && F.lt e.mag (F.mul 0x3F666666 (F.ofNat l.fe.aNow)))]
    ++ (l.visited ++ [4]).map (fun c => (4, c, cmBad l x c))
    ++ l.visited.map (fun c => (5, c, openBad l x c))
    ++ [(6, 8, overrange l 0 x.e), (6, 9, overrange l 1 x.a), (6, 10, overrange l 2 x.m)]
    ++ (if l.isLvdt || l.auxOn then [(6, 11, overrange l 3 x.b)] else [])
    ++ (if l.isLvdt then [(7, 12, F.lt sum (F.ofRat (l.reg .FE_LVDT_MIN_PCT) 100))] else [])

/-- ch= of a fault's event (R176): the input it concerns, or the one its path measures; 4 for the sense pair, 5 for the current
monitor. -/
def Loop.faultInput (l : Loop) (f : FaultSt) : Nat :=
  match f.ch with
  | 8 => 4
  | 9 | 12 => l.reg .FE_PV_CH
  | 10 => 5
  | 11 => if l.isLvdt then l.reg .FE_PV_CH + 1 else l.reg .FE_AUX_CH
  | c => c

/-- The event of a fault (Table 7.5). -/
def faultEvent (code : Nat) : Nat := 0x397 + code

/-- One fault after an output (R176): it changes state after FE.FAULT_N outputs in a row against it. -/
def stepFault (n : Nat) (cond : Bool) (f : FaultSt) : FaultSt :=
  if cond == f.active then { f with run := 0 }
  else if n ≤ f.run + 1 then { f with active := cond, run := 0 }
  else { f with run := f.run + 1 }

/-- The faults known and those the configuration has, each once. -/
def faultList (old : List FaultSt) (conds : List (Nat × Nat × Bool)) : List FaultSt :=
  old ++ (conds.filter fun (c, h, _) => !(old.any fun f => f.code == c && f.ch == h)).map fun (c, h, _) => ⟨c, h, false, 0⟩

/-- Every fault judged at one output; what changed is told (R176). A fault of an input no longer visited meets its
condition no more. -/
def judgeFaults (conds : List (Nat × Nat × Bool)) (s : State) : State :=
  let n := s.loop.reg .FE_FAULT_N
  let fs := (faultList s.loop.fe.faults conds).map fun f =>
    (f, stepFault n (conds.any fun (c, h, m) => c == f.code && h == f.ch && m) f)
  let s := s.setFe { s.loop.fe with faults := (fs.map (·.2)).filter fun f => f.active || f.run != 0 }
  let s := fs.foldl (fun s (old, new) =>
    if new.active && !old.active then ldRaise (faultEvent new.code) [("ch", .n (s.loop.faultInput new))] s
    else if old.active && !new.active then ldRaise 0x39F [("code", .n new.code)] s
    else s) s
  if s.loop.pvFault then s else s.setFe { s.loop.fe with holdFail := false }

/-! ## The process value -/

/-- One step of the damping (R134): it begins at the first valid x. -/
def damped (l : Loop) (x : F32) : F32 :=
  if l.yOk then F.add l.y (F.mul (F.coeff l.tOut (10 * l.reg .ISL_DAMP_MS)) (F.sub x l.y)) else x

/-- The PV of one output (R134, R141, R142, R177): LOCAL holds while an output is invalid, MAIN follows the last value written
until it is stale, and a HOLD fault holds both. -/
def pvOutput (valid : Bool) (pv : F32) (s : State) : State :=
  let l := s.loop
  let isLocal := l.src == 0
  let x := if isLocal then pv else l.reg .ISL_MAIN_PV
  let ok := !l.holding && if isLocal then valid else !F.isNaN x && !bitAt l.causes 5
  evalLoop (if ok then s.setLoop { l with y := damped l x, yOk := true } else s)

/-- The last `n` of a list with one more. -/
def lastN {α : Type} (n : Nat) (l : List α) (x : α) : List α :=
  let m := l ++ [x]
  m.drop (m.length - n)

/-- What a settled output leaves in the result fields (R168, R171, R182). -/
def Loop.report (l : Loop) (r q rf ru : F32) : Loop :=
  (((l.setReg .FE_RESULT r).setReg .FE_RESULT_Q q).setReg .CAL_R_FACT rf).setReg .CAL_R_USER ru

/-- What a settled output leaves for path B outside LVDT mode (R165, R182). -/
def Loop.reportAux (l : Loop) (b e : IQ) : Loop :=
  if l.auxOn then
    let m := l.reg .FE_AUX_MODE
    let r := (primaryResult m b b e).1
    (l.setReg .FE_AUX_RESULT r).setReg .CAL_R_AUX (if F.isNaN r then F.nan else l.factory m (l.reg .FE_AUX_GAIN) r)
  else (l.setReg .FE_AUX_RESULT F.nan).setReg .CAL_R_AUX F.nan

/-- What every output measures (R133, R161, R174). -/
def Loop.measured (l : Loop) (x : FeInput) (m : IQ) : Loop :=
  let exc := F.roundSat (F.mul (F.mul m.mag 0x41200000) l.otp.curGain) 65535
  let meas := F.roundSat (F.add (F.mul (F.ofNat x.loopUa) l.otp.measGain) l.otp.measOfs) 65535
  let (d, c) := (dcOf l x (l.reg .FE_PV_CH)).getD (0, 0)
  let l := ((l.setReg .FE_EXC_UA exc).setReg .ISL_LOOP_MEAS_UA meas).setReg .FE_DC_DIFF_MV (ofSigned 16 d)
  let l := l.setReg .FE_CM_MV (ofSigned 16 c)
  { l with loopOk := x.loopOk, fe := { l.fe with meas16 := lastN 16 l.fe.meas16 meas } }

/-- One output (R167–R177, R182, then R134–R136); the source written acts from here on (R142). -/
def feOutput (x : FeInput) (s : State) : State :=
  let l := s.loop
  let mode := l.reg .FE_PV_MODE
  let ga := l.reg .FE_PV_GAIN
  let gb := l.gainB
  let (e, pe) := l.pathOut 0 0 l.fe.pathE x.e
  let (a, pa) := l.pathOut 1 ga l.fe.pathA x.a
  let (m, pm) := l.pathOut 2 0 l.fe.pathM x.m
  let (b, pb) := l.pathOut 3 gb l.fe.pathB x.b
  let n := l.fe.outN + 1
  let fe := { l.fe with outN := n, pathE := pe, pathA := pa, pathM := pm, pathB := pb }
  let recN := if l.reg .ISL_REC_DIV == 0 then 0 else l.recN + 1
  let l := ({ l with fe := fe, tick := l.tick + x.elapsed, recN := recN, src := l.reg .ISL_PV_SRC }).measured x m
  let (r, q) := primaryResult mode a b e
  let rf := l.factory mode ga r
  let ru := l.user rf
  let pv := l.scaled ru
  let settled := l.supp < n
  let valid := settled && !F.isNaN r && !F.isNaN pv
  let first := valid && l.fe.valid == 0
  let l := if settled then (l.report r q (if F.isNaN r then F.nan else rf) (if F.isNaN r then F.nan else ru)).reportAux b e else l
  let rec_ : OutRec := { rf := rf, angA := a.angle, angB := b.angle, magA := a.mag, magB := b.mag }
  let fe := { l.fe with valid := if valid then l.fe.valid + 1 else l.fe.valid, lastBad := settled && !valid,
                        last16 := lastN 16 l.fe.last16 rec_ }
  let s := s.setLoop { l with fe := fe, causes := if valid then clearBit l.causes 4 else l.causes }
  let s := if first then ldRaise 0x391 [("outputs", .n l.supp), ("ms", .n ((n * l.tOut + 9) / 10))] s else s
  let s := judgeFaults (faultConds s.loop x a b e (s.loop.reg .FE_EXC_UA)) s
  noteDeparture (pvOutput valid pv s)

def execFeOutput (x : FeInput) (s : State) : Out := .next (onLoop (feOutput x) s)

/-! ## Recorded samples -/

/-- The sample of this moment (R147, Table 6.5). -/
def Loop.sample (l : Loop) : Sample :=
  { seq := l.seq32 % 2 ^ 32, tick := l.tick / 10, pv := l.y, setUa := l.get .ISL_LOOP_SET_UA, flags := l.status,
    units := l.reg .ISL_UNITS }

/-- R147: the sample of every ISL.REC_DIV-th output. A 513th unacknowledged one displaces the oldest; with the bridge
UP it goes to the core die. -/
def takeSample (s : State) : State :=
  let l := s.loop
  let x := l.sample
  let full := 512 ≤ l.buf.length
  let buf := (if full then l.buf.drop 1 else l.buf) ++ [x]
  let s := s.setLoop { l with recN := 0, seq32 := l.seq32 + 1, buf := buf,
                              displaced := if full then l.displaced + 1 else l.displaced }
  if s.bridge.link == 2 then { s with bridge := { s.bridge with arrived := s.bridge.arrived ++ [⟨x, none⟩] } } else s

def execRecordedSampleTaken (s : State) : Out :=
  .next (onLoop (fun s =>
    let d := s.loop.reg .ISL_REC_DIV
    if d == 0 || s.loop.recN < d then s else takeSample s) s)

end Sys2Proof.Machine
end

