-- ==== Sys2Proof/Machine/Calib.lean ====
section
/-! DEFINITION. Write units: their checks in order, the commit to MTP, what each does when it is accepted; the trims, the sets and
the scaling table (R153–R156, R166, R178, R186–R195). -/

namespace Sys2Proof.Machine

/-- How a write unit ends: a status code and its fields. -/
abbrev Verdict := Nat × List (String × Val)

/-- The name of a field without its block (R514). -/
def Param.short (p : Param) : String := String.ofList ((p.info.name.toList.dropWhile (· != '.')).drop 1)

/-! ## Commits -/

/-- The image of the configuration in force (R153, R154). -/
def Loop.image (l : Loop) : List Cell := l.regs.filter (·.p.isMtp)

/-- One attempt to commit an image to a bank; what fails its verification is not valid there (R154). -/
def writeBank (n seq : Nat) (image : List Cell) (saved : Option SavedSet) (l : Loop) : Loop × Bool :=
  let b := l.bank n
  let l := l.setReg .ISL_MTP_COMMITS (sat 32 (l.reg .ISL_MTP_COMMITS + 1))
  if b.works then (l.setBank n { b with valid := true, seq := seq, image := image, saved := saved }, true)
  else (l.setBank n { b with valid := false, seq := seq, image := image, saved := saved }, false)

def byVal : By → Val
  | .hart => .c 1 "hart"
  | .bridge => .c 2 "bridge"

/-- An accepted unit takes effect (R155): the change counter, which wraps at its 16 bits (log entry 109), the
configuration-changed bits and EV 0x388. -/
def acceptUnit (by_ : By) (new : Loop) (s : State) : State :=
  let cc := (s.loop.reg .ISL_CC + 1) % 65536
  let l := { new.setReg .ISL_CC cc with hart := { new.hart with changed := 3 } }
  ldRaise 0x388 [("by", byVal by_), ("cc", .n cc)] (s.setLoop l)

/-- Commits a changed configuration (R154, R155): into the bank without the newer image, once more in the other. Exhausted or
failed, the configuration in force stays, and the count of attempts rises (log entry 24). -/
def commitUnit (by_ : By) (new : Loop) (s : State) : State × Option Verdict :=
  let old := s.loop
  if 100000 ≤ old.reg .ISL_MTP_COMMITS then (s, some (209, []))
  else
    let first := nextBank old
    let seq := ((newerBank old).elim 0 fun n => (old.bank n).seq + 1) % 2 ^ 32
    let image := new.image
    let (l1, ok1) := writeBank first seq image new.saved old
    let (l2, ok2) := if ok1 then (l1, true) else writeBank (1 - first) seq image new.saved l1
    let n := l2.reg .ISL_MTP_COMMITS
    let worn := fun (s : State) =>
      if 100000 ≤ n && old.reg .ISL_MTP_COMMITS < 100000 then ldRaise 0x38A [] s else s
    if !ok2 then (worn (ldRaise 0x389 [("bank", .n (1 - first))] (s.setLoop l2)), some (300, []))
    else
      let l := { new with bankA := l2.bankA, bankB := l2.bankB }.setReg .ISL_MTP_COMMITS n
      (worn (acceptUnit by_ { l with causes := clearBit l.causes 2 } s), none)

/-! ## Checks of a unit that writes fields -/

def Loop.after (l : Loop) (set : List Staged) (p : Param) : Nat :=
  (set.reverse.find? fun w => w.p == p).elim (l.reg p) (·.v)

def Loop.writes (set : List Staged) (p : Param) : Bool := set.any (·.p == p)

/-- Whether a value lies in the range of its field (R158, R159, R169, R178, R198, R211). -/
def fieldInRange (w : Staged) : Bool :=
  let i := w.p.info
  let wide := i.rmin ≤ w.v && w.v ≤ i.rmax && w.v < 2 ^ (i.hi - i.lo + 1)
  match w.p with
  | .ISL_FIX_UA => w.v == 0 || (3550 ≤ w.v && w.v ≤ 21500)
  | .FE_EXC_FREQ | .FE_RATE => w.v ≤ 5
  | .FE_FILT => w.v ≤ 2
  | .FE_AUX_MODE => w.v ≤ 2
  | .HART_BURST_CMD => w.v ∈ [1, 2, 3, 9, 48, 128]
  | .CAL_NOM_SPAN | .CAL_STAB_LIM => w.v < 2 ^ 32 && F.isFinite w.v && F.lt 0 w.v
  | .CAL_SC_GAIN | .CAL_SC_OFS => w.v < 2 ^ 32 && F.isFinite w.v
  | .HART_TAG => w.v < (if w.i == 1 then 2 ^ 16 else 2 ^ 32)
  | _ => wide

/-- Whether LOOP_WP refuses a unit (R156). -/
def wpRefuses : UnitOp → Bool
  | .fields set => set.any fun w => w.p.isMtp || (w.p == .ISL_FIX_UA && w.v != 0)
  | _ => true

/-- Step 4 of R155, and R142. -/
def rangeValues (l : Loop) (set : List Staged) : Option Verdict :=
  let bad := fun p => Loop.writes set p && !F.isFinite (l.after set p)
  if bad .ISL_LRV then some (102, [("arg", .w "LRV")])
  else if bad .ISL_URV then some (102, [("arg", .w "URV")])
  else if (Loop.writes set .ISL_LRV || Loop.writes set .ISL_URV) && F.eq (l.after set .ISL_LRV) (l.after set .ISL_URV) then
    some (102, [("arg", .w (if Loop.writes set .ISL_URV then "URV" else "LRV"))])
  else if bad .ISL_MAIN_PV then some (102, [("arg", .w "MAIN_PV")])
  else none

/-- The states of R166 and the window of R178. -/
def feStates (l : Loop) (set : List Staged) : Option Verdict :=
  let v := l.after set
  let arg := fun (n : String) => some (102, [("arg", Val.w n)])
  if !(set.any fun w => w.p.info.blk == .FE) then none
  else if v .FE_PV_MODE == 1 && v .FE_PV_CH % 2 == 1 then arg "PV_CH"
  else if v .FE_AUX_EN == 1 && v .FE_AUX_CH == v .FE_PV_CH && v .FE_PV_MODE != 1 then arg "AUX_CH"
  else if v .FE_AUX_MODE == 1 then arg "AUX_MODE"
  else if excHz (v .FE_EXC_FREQ) < 5 * outRate (v .FE_RATE) then arg "EXC_FREQ"
  else if v .FE_FILT == 2 && v .FE_IIR_MS == 0 then arg "IIR_MS"
  else if v .FE_CM_HI_MV ≤ v .FE_CM_LO_MV then arg "CM_LO_MV"
  else none

/-- Steps 3 and 4 of R155 and the checks that follow them (R140, R142, R166, R178). -/
def fieldChecks (l : Loop) (set : List Staged) : Option Verdict :=
  match set.find? fun w => !fieldInRange w with
  | some w => some (103, [("arg", .w w.p.short)])
  | none =>
    match rangeValues l set with
    | some v => some v
    | none =>
      match feStates l set with
      | some v => some v
      | none =>
        if Loop.writes set .ISL_FIX_UA && l.after set .ISL_FIX_UA != 0 && l.after set .ISL_LOOP_CUR_EN == 0 then
          some (204, [("multidrop", .n 1)])
        else none

/-! ## User quantities -/

def clearZero (l : Loop) : Loop :=
  let l := ((l.setReg .CAL_U_OFS 0).setReg .CAL_U_ZERO_RAW 0).setReg .CAL_U_ZERO_PT 0
  l.setReg .CAL_FORCED (clearBit (l.reg .CAL_FORCED) 0)

def clearSpan (l : Loop) : Loop := (l.setReg .CAL_U_SPAN F.one).setReg .CAL_FORCED (clearBit (l.reg .CAL_FORCED) 1)

def clearPhase (l : Loop) : Loop :=
  ((l.setReg .CAL_U_PH_A 0).setReg .CAL_U_PH_B 0).setReg .CAL_FORCED (clearBit (l.reg .CAL_FORCED) 2)

def clearLoopTrim (l : Loop) : Loop :=
  ((l.setReg .CAL_LU_GAIN F.one).setReg .CAL_LU_OFS 0).setReg .CAL_FORCED (clearBit (l.reg .CAL_FORCED) 3)

def clearTable (l : Loop) : Loop :=
  (List.range 32).foldl (fun l i => l.setReg .CAL_SC_TABLE 0 i) (l.setReg .CAL_SC_N 0)

def clearScale (l : Loop) : Loop :=
  clearTable (((l.setReg .CAL_SC_MODE 0).setReg .CAL_SC_GAIN F.one).setReg .CAL_SC_OFS 0)

/-- The words of what= (Table 19.5b). -/
def whatWord : Nat → String
  | 1 => "zero" | 2 => "span" | 3 => "phase" | 4 => "loop" | 5 => "scale" | 6 => "all" | _ => "mode"

def whatVal (n : Nat) : Val := .c n (whatWord n)

/-- CAL.CLEAR (R194). -/
def clearWhat (n : Nat) (l : Loop) : Loop :=
  match n with
  | 1 => clearZero l
  | 2 => clearSpan l
  | 3 => clearPhase l
  | 4 => clearLoopTrim l
  | 5 => clearScale l
  | _ => clearScale (clearLoopTrim (clearPhase (clearSpan (clearZero l))))

/-- The fields of a user set (R194). -/
def setFields : List Param :=
  [.CAL_U_SPAN, .CAL_U_OFS, .CAL_U_ZERO_RAW, .CAL_U_ZERO_PT, .CAL_U_PH_A, .CAL_U_PH_B, .CAL_LU_GAIN, .CAL_LU_OFS,
   .CAL_SC_MODE, .CAL_SC_N, .CAL_SC_GAIN, .CAL_SC_OFS, .CAL_SC_TABLE, .CAL_FORCED]

def Loop.userSet (l : Loop) : SavedSet :=
  ⟨l.reg .FE_PV_MODE, l.regs.filter fun c => setFields.any (· == c.p)⟩

def Loop.useSet (l : Loop) (u : SavedSet) : Loop :=
  { l with regs := u.cells.foldl cellsPut (l.regs.filter fun c => !(setFields.any (· == c.p))) }

/-! ## Writing fields -/

/-- Whether a unit changes a field that Table 7.6 marks "resets" (R170). R178 has a write cause the reset; a write of the value
that stands causes none (log entry 108). -/
def Loop.resetsBy (l : Loop) (set : List Staged) : Bool := set.any fun w => w.p.info.resets && l.reg w.p != w.v

def applyFields (set : List Staged) (l : Loop) : Loop := set.foldl (fun l w => l.setReg w.p w.v w.i) l

/-- What an accepted write does beside the fields themselves (R139–R141, R170, R172, R195, R211). -/
def afterFields (set : List Staged) (old : Loop) (s : State) : State :=
  let now := fun (s : State) p => s.loop.reg p
  let s := if Loop.writes set .ISL_MAIN_PV then clearCause 5 s else s
  let en := now s .ISL_LOOP_CUR_EN
  let s := if old.reg .ISL_LOOP_CUR_EN == en then s else ldRaise 0x387 [("en", .n en)] s
  let s := if Loop.writes set .ISL_FIX_UA then setFixed (old.after set .ISL_FIX_UA) s else s
  let s := if old.resetsBy set then syncReset 3 s else s
  let hold := now s .ISL_HOLD_MAX_MS
  let touched := set.any fun w => w.p.info.resets || w.p == .ISL_HOLD_MAX_MS
  let s := if touched && hold * 10 < (s.loop.supp + 1) * s.loop.tOut then
    ldRaise 0x392 [("settle_ms", .n s.loop.settleMs), ("hold_ms", .n hold)] s else s
  let s := if old.reg .FE_PV_MODE == now s .FE_PV_MODE then s else ldRaise 0x3A3 [("what", whatVal 7)] s
  let on := now s .HART_BURST_EN
  let s := if old.reg .HART_BURST_EN == on then s
    else ldRaise 0x3B1 [("en", .n on), ("cmd", .n (now s .HART_BURST_CMD))] s
  evalLoop s

/-- Writes fields as one unit. A unit that writes no persistent field leaves MTP as it is (R153, R155; log entry 25). -/
def runFields (by_ : By) (set : List Staged) (s : State) : State × Verdict :=
  let old := s.loop
  match fieldChecks old set with
  | some v => (s, v)
  | none =>
    let new := applyFields (set.filter fun w => w.p != .ISL_FIX_UA) old
    let new := if new.reg .FE_PV_MODE == old.reg .FE_PV_MODE then new else clearPhase (clearSpan (clearZero new))
    if set.any (·.p.isMtp) then
      match commitUnit by_ new s with
      | (s, some v) => (s, v)
      | (s, none) => let s := afterFields set old s; (s, (0, [("cc", .n (s.loop.reg .ISL_CC))]))
    else
      let s := afterFields set old (acceptUnit by_ new s)
      (s, (0, [("cc", .n (s.loop.reg .ISL_CC))]))

/-! ## Trims -/

/-- The refusal reasons (R187, R206): 1 fault, 2 settle, 3 plaus, 4 stab, 5 limit, 6 signal. -/
def reasonWord : Nat → String
  | 1 => "fault" | 2 => "settle" | 3 => "plaus" | 4 => "stab" | 5 => "limit" | _ => "signal"

/-- 207 REJECTED: EV 0x3A1 and the refusal byte (R187, R205). -/
def reject (what reason : Nat) (kv : List (String × Val)) (s : State) : State × Verdict :=
  let s := s.setHart { s.loop.hart with refusal := reason }
  (ldRaise 0x3A1 [("what", whatVal what), ("reason", .c reason (reasonWord reason))] s,
   (207, ("reason", .w (reasonWord reason)) :: kv))

/-- Steps 6 and 7 of R187. -/
def trimReady (what : Nat) (s : State) : Option (State × Verdict) :=
  let l := s.loop
  match (l.pvFaults.map (·.code)).foldl (fun m c => match m with | some k => some (min k c) | none => some c) none with
  | some c => some (reject what 1 [("code", .n c)] s)
  | none =>
    if !l.otp.ok then some (reject what 1 [("code", .n 0)] s)
    else if l.stale || l.fe.valid < 16 then some (reject what 2 [("outputs", .n l.fe.valid)] s)
    else none

/-- A trim in progress: what it is, its measurement and spread, its point, the tolerance and the spread allowed, the new
user values, and the value that breaks its limit. -/
structure Trim where
  what : Nat
  bit : Nat
  meas : F32
  pp : F32
  point : F32
  tol : F32
  stab : F32
  ovr : Option Val
  new : Loop
  deriving DecidableEq

def forcedBit (l : Loop) (b : Nat) (force : Bool) : Loop := l.setReg .CAL_FORCED (putBit (l.reg .CAL_FORCED) b force)

/-- Steps 8 to 10 of R187, the commit and its events (R187, R193). `fields` gives the new user values of the reply,
`after_` what the commit causes beside. -/
def runTrim (by_ : By) (t : Trim) (force : Bool) (fields : Loop → List (String × Val)) (after_ : State → State)
    (s : State) : State × Verdict :=
  let mp := [("meas", Val.f t.meas), ("pp", Val.f t.pp)]
  if !force && !F.le (F.abs (F.sub t.meas t.point)) t.tol then reject t.what 3 mp s
  else if !force && !F.le t.pp t.stab then reject t.what 4 mp s
  else
    match t.ovr with
    | some v => reject t.what 5 [("value", v)] s
    | none =>
      match commitUnit by_ (forcedBit t.new t.bit force) s with
      | (s, some v) => (s, v)
      | (s, none) =>
        let s := ldRaise 0x3A0 [("what", whatVal t.what), ("by", byVal by_), ("forced", .n force.toNat)] s
        let s := if force then ldRaise 0x3A2 [("what", whatVal t.what)] s else s
        let s := evalLoop (after_ s)
        (s, (0, mp ++ fields s.loop ++ [("forced", .n force.toNat), ("cc", .n (s.loop.reg .ISL_CC))]))

def Loop.nom (l : Loop) : F32 := l.reg .CAL_NOM_SPAN

/-- R188. -/
def runZero (by_ : By) (z : F32) (force : Bool) (s : State) : State × Verdict :=
  if !F.isFinite z then (s, (103, [("arg", .w "point")]))
  else
    match trimReady 1 s with
    | some r => r
    | none =>
      let l := s.loop
      let rfs := l.fe.last16.map (·.rf)
      let meas := F.mean rfs
      let ofs := F.sub z (F.mul (l.reg .CAL_U_SPAN) meas)
      let new := ((l.setReg .CAL_U_OFS ofs).setReg .CAL_U_ZERO_RAW meas).setReg .CAL_U_ZERO_PT z
      let t : Trim := { what := 1, bit := 0, meas := meas, pp := F.range rfs, point := z,
                        tol := F.mul 0x3D4CCCCD l.nom, stab := l.reg .CAL_STAB_LIM,
                        ovr := if F.le (F.abs ofs) (F.mul 0x3F000000 l.nom) then none else some (.f ofs), new := new }
      runTrim by_ t force (fun l => [("ofs", .f (l.reg .CAL_U_OFS))]) id s

/-- R189. -/
def runSpan (by_ : By) (z : F32) (force : Bool) (s : State) : State × Verdict :=
  let l := s.loop
  let z0 := l.reg .CAL_U_ZERO_PT
  let m0 := l.reg .CAL_U_ZERO_RAW
  if !F.isFinite z then (s, (103, [("arg", .w "point")]))
  else if F.lt (F.abs (F.sub z z0)) (F.mul 0x3DCCCCCD l.nom) then (s, (102, [("arg", .w "point")]))
  else
    match trimReady 2 s with
    | some r => r
    | none =>
      let rfs := l.fe.last16.map (·.rf)
      let meas := F.mean rfs
      let span := F.div (F.sub z z0) (F.sub meas m0)
      let new := (l.setReg .CAL_U_SPAN span).setReg .CAL_U_OFS (F.sub z0 (F.mul span m0))
      let t : Trim := { what := 2, bit := 1, meas := meas, pp := F.range rfs, point := z,
                        tol := F.mul 0x3D4CCCCD l.nom, stab := l.reg .CAL_STAB_LIM,
                        ovr := if F.le 0x3F000000 span && F.le span 0x40000000 then none else some (.f span),
                        new := new }
      runTrim by_ t force (fun l => [("span", .f (l.reg .CAL_U_SPAN)), ("ofs", .f (l.reg .CAL_U_OFS))]) id s

/-- R190. -/
def runPhase (by_ : By) (pathB : Bool) (z : F32) (force : Bool) (s : State) : State × Verdict :=
  let l := s.loop
  if !F.isFinite z then (s, (103, [("arg", .w "point")]))
  else if pathB && !l.isLvdt then (s, (102, [("arg", .w "path")]))
  else
    let mags := l.fe.last16.map fun o => if pathB then o.magB else o.magA
    if tooSmall (F.mean mags) then reject 3 6 [] s
    else
      match trimReady 3 s with
      | some r => r
      | none =>
        let angs := l.fe.last16.map fun o => if pathB then o.angB else o.angA
        let meas := F.mean angs
        let p : Param := if pathB then .CAL_U_PH_B else .CAL_U_PH_A
        let ph := toSigned 16 (l.reg p) + F.round (F.mul 0x447A0000 (F.sub meas z))
        let t : Trim := { what := 3, bit := 2, meas := meas, pp := F.range angs, point := z, tol := 0x40A00000,
                          stab := 0x3DCCCCCD, ovr := if ph.natAbs ≤ 10000 then none else some (.i ph),
                          new := l.setReg p (ofSigned 16 ph) }
        runTrim by_ t force (fun l => [("ph", .i (toSigned 16 (l.reg p)))]) (syncReset 3) s

/-- The trim of two readings (R191): reading and commanded value at 4 mA, then at 20 mA. -/
def loopTrim (m4 c4 m20 c20 : F32) : F32 × F32 :=
  let k := F.div (F.sub m20 m4) (F.sub c20 c4)
  let d := F.sub m4 (F.mul k c4)
  (F.div F.one k, F.div (F.negate d) k)

/-- R191, R193. The first reading of a pair is held and commits nothing; the second computes the trim, and both are
cleared. A trim is forced where one of its readings was (log entry 110). -/
def runLoop (by_ : By) (point m : Nat) (force : Bool) (s : State) : State × Verdict :=
  let l := s.loop
  if point != 4 && point != 20 then (s, (103, [("arg", .w "point")]))
  else if m < 3000 || 22000 < m then (s, (103, [("arg", .w "meas_ua")]))
  else if !l.otp.ok then reject 4 1 [("code", .n 0)] s
  else if l.reg .ISL_FIX_UA != 1000 * point then (s, (204, [("fix", .n (l.reg .ISL_FIX_UA))]))
  else
    let ms := l.fe.meas16
    let pp := ms.foldl max 0 - ms.foldl min (ms.headD 0)
    let mp := [("meas", Val.n m), ("pp", .n pp)]
    if !force && 800 < ((m : Int) - 1000 * point).natAbs then reject 4 3 mp s
    else if !force && l.reg .CAL_LOOP_STAB_UA < pp then reject 4 4 mp s
    else
      let here := some (m, l.commanded, force)
      let p4 := if point == 4 then here else l.pend4
      let p20 := if point == 20 then here else l.pend20
      match p4, p20 with
      | some (m4, c4, f4), some (m20, c20, f20) =>
        let forced := f4 || f20
        let (g, o) := loopTrim (F.ofNat m4) c4 (F.ofNat m20) c20
        if !(F.le 0x3F733333 g && F.le g 0x3F866666) then reject 4 5 [("value", .f g)] s
        else if !F.le (F.abs o) 0x43FA0000 then reject 4 5 [("value", .f o)] s
        else
          let new := forcedBit ((l.setReg .CAL_LU_GAIN g).setReg .CAL_LU_OFS o) 3 forced
          match commitUnit by_ { new with pend4 := none, pend20 := none } s with
          | (s, some v) => (s, v)
          | (s, none) =>
            let s := ldRaise 0x3A0 [("what", whatVal 4), ("by", byVal by_), ("forced", .n forced.toNat)] s
            let s := evalLoop (if forced then ldRaise 0x3A2 [("what", whatVal 4)] s else s)
            (s, (0, mp ++ [("lu_gain", .f g), ("lu_ofs", .f o), ("forced", .n forced.toNat), ("cc", .n (s.loop.reg .ISL_CC))]))
      | _, _ =>
        (s.setLoop { l with pend4 := p4, pend20 := p20 }, (0, [("pending", .n (if point == 4 then 20 else 4))]))

/-! ## The table and the sets -/

/-- The first point, counted from 1, that is not finite or does not rise (R186). -/
def badPoint (prev : Option F32) (k : Nat) : List (F32 × F32) → Option Nat
  | [] => none
  | (r, v) :: ps =>
    if !F.isFinite r || !F.isFinite v || prev.elim false (fun q => !F.lt q r) then some k
    else badPoint (some r) (k + 1) ps

def putTable (pts : List (F32 × F32)) (l : Loop) : Loop :=
  let l := (clearTable l).setReg .CAL_SC_N pts.length
  (pts.foldl (fun (li : Loop × Nat) (p : F32 × F32) =>
    ((li.1.setReg .CAL_SC_TABLE p.1 (2 * li.2)).setReg .CAL_SC_TABLE p.2 (2 * li.2 + 1), li.2 + 1)) (l, 0)).1

def ccOf (s : State) : List (String × Val) := [("cc", .n (s.loop.reg .ISL_CC))]

/-- R186: CAL.TCOMMIT at the loop die. -/
def runTable (by_ : By) (pts : List (F32 × F32)) (s : State) : State × Verdict :=
  match badPoint none 1 pts with
  | some k => (s, (102, [("arg", .w "i"), ("i", .n k)]))
  | none =>
    match commitUnit by_ (putTable pts s.loop) s with
    | (s, some v) => (s, v)
    | (s, none) => (s, (0, ("n", .n pts.length) :: ccOf s))

/-- R194. -/
def runSave (by_ : By) (s : State) : State × Verdict :=
  match commitUnit by_ { s.loop with saved := some s.loop.userSet } s with
  | (s, some v) => (s, v)
  | (s, none) => let s := ldRaise 0x3A4 [] s; (s, (0, ccOf s))

def runRestore (by_ : By) (s : State) : State × Verdict :=
  let l := s.loop
  match l.saved with
  | none => (s, (205, []))
  | some u =>
    if u.mode != l.reg .FE_PV_MODE then (s, (204, [("mode", .n u.mode)]))
    else
      let new := l.useSet u
      match commitUnit by_ new s with
      | (s, some v) => (s, v)
      | (s, none) =>
        let s := ldRaise 0x3A5 [] s
        let moved := new.reg .CAL_U_PH_A != l.reg .CAL_U_PH_A || new.reg .CAL_U_PH_B != l.reg .CAL_U_PH_B
        let s := evalLoop (if moved then syncReset 3 s else s)
        (s, (0, ccOf s))

def runClear (by_ : By) (what : Nat) (s : State) : State × Verdict :=
  match commitUnit by_ (clearWhat what s.loop) s with
  | (s, some v) => (s, v)
  | (s, none) =>
    let s := dropPending (ldRaise 0x3A3 [("what", whatVal what)] s)
    let s := evalLoop s
    (s, (0, ccOf s))

/-! ## Units -/

/-- A write unit on the loop die (R155): write-protect, the change counter, then its own checks. -/
def runUnit (by_ : By) (cc : Option Nat) (op : UnitOp) (s : State) : State × Verdict :=
  let l := s.loop
  if l.wp && wpRefuses op then (s, (201, [("wp", .n 1)]))
  else if cc.elim false (· != l.reg .ISL_CC) then (s, (204, ccOf s))
  else
    match op with
    | .fields set => runFields by_ set s
    | .zero z f => runZero by_ z f s
    | .span z f => runSpan by_ z f s
    | .phase b z f => runPhase by_ b z f s
    | .loop p m f => runLoop by_ p m f s
    | .tcommit pts => runTable by_ pts s
    | .save => runSave by_ s
    | .restore => runRestore by_ s
    | .clear w => runClear by_ w s

/-- The first unit of the bridge that has not run. -/
def runFirst : List BridgeUnit → State → State × List BridgeUnit
  | [], s => (s, [])
  | u :: us, s =>
    match u.outcome with
    | some _ => let (s, r) := runFirst us s; (s, u :: r)
    | none =>
      let (s, (code, kv)) := runUnit .bridge u.cc u.op s
      (s, { u with outcome := some ⟨code, kv⟩ } :: us)

/-- R155: the loop die executes the next unit that came over the bridge. -/
def writeUnit (s : State) : State :=
  let (s, us) := runFirst s.bridge.units s
  { s with bridge := { s.bridge with units := us } }

def execWriteUnit (s : State) : Out := .next (onLoop writeUnit s)

/-- What the reply of a unit carries beside its verdict (Table 20.6): FE.SET tells S and T_settle. -/
def unitFields (s : State) (u : BridgeUnit) (r : Reply) : List (String × Val) :=
  if u.verb == "FE.SET" && r.code == 0 then
    r.kv ++ [("s", .n (s.bridge.reg .FE_S)), ("settle_ms", .n (s.bridge.reg .FE_SETTLE_MS))]
  else if r.code == 0 && !u.note.isEmpty then u.note
  else r.kv

/-- R144: the acknowledgement of the oldest unit that has run, with the changes it follows (log entry 26). -/
def unitAck (s : State) : State :=
  match s.bridge.units with
  | u :: us =>
    match u.outcome with
    | some r =>
      let s := { s with bridge := { s.bridge with units := us } }
      let s :=
        if r.code == 0 then
          u.core.foldl (fun s w => s.setReg w.p w.v w.i)
            { s with bridge := { s.bridge with mirror := s.loop.snapshot } }
        else s
      answerUnit u.route r.code (unitFields s u r) s
    | none => s
  | [] => s

def execMirroredWriteAck (s : State) : Out := .next (if s.bridge.link == 2 then unitAck s else s)

/-- A unit leaves for the loop die; the route waits for its acknowledgement. -/
def postUnit (r : Route) (verb : String) (cc : Option Nat) (op : UnitOp) (core : List Staged) (s : State) : State :=
  setBusy r verb { s with bridge := { s.bridge with units := s.bridge.units ++ [⟨some r, verb, cc, op, core, [], none⟩] } }

end Sys2Proof.Machine
end

