-- ==== Sys2Proof/Machine/Coll.lean ====
section
/-! DEFINITION. Collections: the COLL and MAINT verbs, merges, reloads and rebuilds
(R84, R385–R411, R512). -/

namespace Sys2Proof.Machine

/-! ## Naming a collection -/

/-- The collection that a value names, by number or by name; a number is taken as a number (R385; log entry 32). -/
def namedColl (t : Text) (s : State) : Option Coll :=
  match intVal t with
  | some v => if 0 ≤ v then s.liveColl v.toNat else none
  | none => (s.colls.find? fun c => c.name == t).bind fun c => if c.state == 4 then none else some c

def collArg : ArgSpec := ⟨"coll", true, .token⟩

def fmtNames : List String := ["INT8", "FP16", "BIN"]
def fmtName (f : Nat) : String := fmtNames.getD f ""

def collStateName : Nat → String
  | 0 => "offline" | 1 => "online" | 2 => "merging" | 3 => "rebuilding" | 4 => "dropping" | _ => "absent"

def collStateVal (c : Coll) : Val := .c c.state (collStateName c.state)

def vColl (name : String) (level : Nat) (changes : Bool) (args : List ArgSpec) : Verb :=
  { name := name, modes := m4to7and9, level := level, changes := changes, loop := false, args := args }

/-- A verb of one collection: 205 where there is none. -/
def onColl (v : Verb) (l : Line) (run : Coll → State → State) (s : State) : State :=
  gate v l (fun s =>
    match namedColl (l.text "coll") s with
    | none => reply l.route 205 [] s
    | some c => run c s) s

/-! ## COLL.CREATE, DROP and SET -/

/-- Steps 3 to 5 of R386 for a collection beside the others: the resource that is short. -/
def collShort (others : List Coll) (c : Coll) (s : State) : Option (Nat × String) :=
  if sketchChunks s < chunksReserved others + c.maxChunks + 4 then some (5, "sketch")
  else if payload (s.reg .DRAM_META_GIB) true < metaReserved others + c.metaBytes then some (3, "meta")
  else if s.reg .FLASH_USER_GIB * 1073741824 < userBytes s + nandReserved others + c.nandBytes then some (5, "space")
  else none

def nameChar (c : Nat) : Bool := isAlpha c || isDigit c || c == 45 || c == 95

def widths : List Nat := [64, 128, 256, 512]

def vCollCreate : Verb :=
  let n := Form.int (-(2 ^ 64)) (2 ^ 65)
  vColl "COLL.CREATE" 2 true
    [⟨"coll", true, n⟩, ⟨"name", true, .token⟩, ⟨"ns", true, n⟩, ⟨"fmt", true, .token⟩, ⟨"d", true, n⟩, ⟨"w", true, n⟩,
     ⟨"tagged", false, n⟩, ⟨"sketch", false, .token⟩, ⟨"seed", false, n⟩, ⟨"max_chunks", true, n⟩]

/-- The first argument outside Table 16.1. -/
def createRange (l : Line) : Option String :=
  let i := fun (k : String) (d : Int) => (l.int? k).getD d
  let inside := fun (k : String) (d lo hi : Int) => lo ≤ i k d && i k d ≤ hi
  let name := l.text "name"
  if !inside "coll" 0 0 63 then some "coll"
  else if name.isEmpty || 16 < name.length || !name.all nameChar then some "name"
  else if !inside "ns" 0 2 255 then some "ns"
  else if !(fmtNames.any fun f => txt f == l.text "fmt") then some "fmt"
  else if !inside "d" 0 8 2048 || i "d" 0 % 8 != 0 then some "d"
  else if !(widths.any fun w => (w : Int) == i "w" 0) then some "w"
  else if !inside "tagged" 0 0 1 then some "tagged"
  else if l.has "sketch" && !l.isWord "sketch" "device" && !l.isWord "sketch" "client" then some "sketch"
  else if !inside "seed" 0 0 (2 ^ 64 - 1) then some "seed"
  else if !inside "max_chunks" 0 1 1536 then some "max_chunks"
  else none

/-- The collection that the arguments define: online and empty, with generation 1. -/
def newColl (l : Line) : Coll :=
  { num := l.nat "coll", name := l.text "name", ns := l.nat "ns"
    fmt := (fmtNames.takeWhile fun f => txt f != l.text "fmt").length, d := l.nat "d"
    wcode := (widths.takeWhile fun w => w != l.nat "w").length, tagged := l.flag "tagged"
    client := l.isWord "sketch" "client", seed := l.nat "seed", maxChunks := l.nat "max_chunks", state := 1, gen := 1
    slots := [], side := [], nextSeq := 1, pub := 1, chunks := [], merge := none, queued := false, reloading := false }

/-- R386. -/
def doCollCreate (l : Line) (s : State) : State :=
  let r := l.route
  gate vCollCreate l (fun s =>
    if s.colls.any fun c => (c.num : Int) == (l.int? "coll").getD 0 then reply r 204 [("arg", .w "coll")] s
    else if s.colls.any fun c => c.name == l.text "name" then reply r 204 [("arg", .w "name")] s
    else
      match createRange l with
      | some a => reply r 103 [("arg", .w a)] s
      | none =>
        let c := newColl l
        match collShort s.colls c s with
        | some (code, w) => refuse r (exhausted code w) s
        | none =>
          match ns0Record s with
          | (s, some x) => refuse r x s
          | (s, none) =>
            let s := { s with colls := collPut s.colls c, collsDisk := collPut s.collsDisk c }
            collEvent c 1 (done r [("coll", .n c.num), ("name", .q c.name)] s)) s

def execCollCreate (l : Line) (s : State) : Out := .next (doCollCreate l s)

/-- R388: the collection is dropping at once, its merge stops, its watches go. -/
def doCollDrop (l : Line) (s : State) : State :=
  let r := l.route
  onColl (vColl "COLL.DROP" 2 true [collArg]) l (fun c s =>
    match ns0Record s with
    | (s, some x) => refuse r x s
    | (s, none) =>
      let s := s.bothColls c.num fun c => { c with state := 4, merge := none, queued := false, reloading := false }
      dropWatches c.num (stopRecallOf c.num 2 (reply r 1 [] s))) s

def execCollDrop (l : Line) (s : State) : Out := .next (doCollDrop l s)

/-- A key without its vector in a collection. -/
def KeyEnt.without (coll : Nat) (e : KeyEnt) : KeyEnt :=
  match e.vec with
  | some (n, _) => if n == coll then { e with vec := none } else e
  | none => e

/-- What a dirty item still has to program once a collection is gone. -/
def Item.without (coll : Nat) : Item → Item
  | .put e => .put (e.without coll)
  | .vec n x d => if n == coll then .other else .vec n x d
  | i => i

/-- R388: every vector is gone, and what the collection held is free. -/
def execCollDropComplete (coll : Nat) (s : State) : Out :=
  .next
    (match s.coll coll with
     | none => s
     | some c =>
       if c.state != 4 then s
       else
         let s := { s with
           kv := { s.kv with
             keys := s.kv.keys.map (KeyEnt.without coll), disk := s.kv.disk.map (KeyEnt.without coll)
             dirty := s.kv.dirty.map fun w => { w with items := w.items.map (Item.without coll) } }
           colls := s.colls.filter fun x => x.num != coll
           collsDisk := s.collsDisk.filter fun x => x.num != coll
           sweep := { s.sweep with cache := s.sweep.cache.filter fun x => x.1 != coll } }
         collEvent c 2 s)

/-- R406: a new maximum: below the chunks in use refused, a raise judged by steps 3 to 5 of R386. -/
def maxChunksRefusal (c : Coll) (n : Nat) (arg : String) (s : State) : Option Refused :=
  if n < 1 || 1536 < n || n < c.chunks.length then some (argRefused 103 arg 0)
  else if n ≤ c.maxChunks then none
  else (collShort (s.colls.filter fun x => x.num != c.num) { c with maxChunks := n } s).map fun (code, w) => exhausted code w

def setMaxChunks (c : Coll) (n : Nat) (s : State) : State := s.bothColls c.num fun c => { c with maxChunks := n }

/-- R406. -/
def doCollSet (l : Line) (s : State) : State :=
  let r := l.route
  onColl (vColl "COLL.SET" 2 true [collArg, ⟨"max_chunks", true, .num 1 1536⟩]) l (fun c s =>
    match maxChunksRefusal c (l.nat "max_chunks") "max_chunks" s with
    | some x => refuse r x s
    | none =>
      match ns0Record s with
      | (s, some x) => refuse r x s
      | (s, none) => done r [("max_chunks", .n (l.nat "max_chunks"))] (setMaxChunks c (l.nat "max_chunks") s)) s

def execCollSet (l : Line) (s : State) : Out := .next (doCollSet l s)

/-- Entries of the main array in the newest generation (COLL.Cn_MAIN). -/
def Coll.main (c : Coll) : Nat := sumNat (c.chunks.map (·.slots.length))

/-- COLL.Cn_MERGE_CHUNK: chunks switched and chunks to rewrite. -/
def Coll.mergeChunk (c : Coll) : Nat := match c.merge with | some m => m.done % 65536 + 65536 * (m.total % 65536) | none => 0

/-- R411: the fields of Table 16.5, those of the definition on a line of their own (log entry 32). -/
def doCollShow (l : Line) (s : State) : State :=
  onColl (vColl "COLL.SHOW" 0 false [collArg]) l (fun c s =>
    let s := more l.route [[("coll", .n c.num), ("name", .q c.name), ("fmt", .w (fmtName c.fmt)), ("w", .n c.w),
      ("tagged", .n c.tagged.toNat), ("src", .w (if c.client then "client" else "device")), ("ns", .n c.ns), ("d", .n c.d),
      ("seed", .x 16 c.seed), ("max_chunks", .n c.maxChunks)]] s
    done l.route [("state", collStateVal c), ("chunks", .n c.chunks.length), ("gen", .n c.gen), ("main", .n c.main),
      ("side", .n c.side.length), ("pub_seq", .n c.pub), ("merge_chunk", .x 8 c.mergeChunk)] s) s

def execCollShow (l : Line) (s : State) : Out := .next (doCollShow l s)

def doCollList (l : Line) (s : State) : State :=
  gate (vColl "COLL.LIST" 0 false []) l (fun s =>
    done l.route [] (more l.route (s.colls.map fun c => [("coll", .n c.num), ("name", .q c.name), ("state", collStateVal c)]) s)) s

def execCollList (l : Line) (s : State) : Out := .next (doCollList l s)

/-! ## Merges -/

/-- R402. A collection that is offline or being rebuilt starts no merge (R408; log entry 32). -/
def doMaintMerge (l : Line) (s : State) : State :=
  let r := l.route
  onColl (vColl "MAINT.MERGE" 1 true [collArg]) l (fun c s =>
    if c.state != 1 || c.merge.isSome || c.queued then reply r 204 [("state", collStateVal c)] s
    else if c.side.isEmpty then done r [("gen", .n c.gen)] s
    else reply r 1 [] (s.setColl { c with queued := true })) s

def execMaintMerge (l : Line) (s : State) : Out := .next (doMaintMerge l s)

/-- Whether merges may start (R84, R404). -/
def mayMerge (s : State) : Bool :=
  m4to7and9.any (· == s.mode) && s.coreUp && mergesRunning s < s.reg .GOV_MERGE_CONC

/-- R402: a queued merge starts. -/
def execMergeStart (coll : Nat) (s : State) : Out :=
  .next (if mayMerge s && (s.coll coll).any (·.queued) then startMerge coll s else s)

/-- The side-list fill of a collection in % (Table 4.5). -/
def Coll.fill (c : Coll) : Nat := c.side.length * 100 / 16777216

/-- The online collection of the highest fill not below a least one, the lowest number winning a tie. Fills are compared by
their exact counts of entries, not in whole percent: the model's choice (log entry 121). -/
def fullest (least : Nat) (l : List Coll) : Option Coll :=
  (l.filter fun c => c.state == 1 && c.merge.isNone && least * 16777216 ≤ c.side.length * 100).foldl (fun m c =>
    match m with | none => some c | some x => if x.side.length < c.side.length then some c else some x) none

/-- R84: an idle merge, while no queued merge waits and the sweep was idle for the whole second: 100 ticks. -/
def execIdleMergeCheck (util : Nat) (s : State) : Out :=
  .next
    (let quiet := util < s.reg .GOV_MERGE_IDLE_PCT && 100 ≤ s.day.idleTicks && !bitAt (s.reg .GOV_PIN) 1
     if !quiet || !s.coreUp || !([Mode.M4, .M5, .M6].any (· == s.mode)) || !mayMerge s || (s.colls.any (·.queued)) then s
     else
       match fullest (s.reg .GOV_MERGE_MIN_FILL_PCT) s.colls with
       | none => s
       | some c =>
         let s' := startMerge c.num s
         if ((s'.coll c.num).bind (·.merge)).isSome then raise 0x3F3 [("coll", .n c.num), ("fill", .n c.fill)] s' else s)

/-- R402, step 3: the next chosen chunk has been built and programmed, with every write before it (log entry 31). -/
def execChunkProgrammed (coll : Nat) (s : State) : Out :=
  .next
    (match s.coll coll with
     | none => s
     | some c =>
       match c.merge with
       | none => s
       | some m =>
         match m.chosen with
         | [] => s
         | j :: js =>
           if c.state != 2 || m.stopped || m.waiting || !m.built.isEmpty || nCh s == 0 || s.pwr.failing || !s.inService then s
           else
             let k := c.buildChunk m.g m.m j
             (noteWaf 0 67108864 (persistAll s)).bothColls coll fun c => { c with merge := some { m with chosen := js, built := [k] } })

/-! ## Reloads -/

/-- R408, R512. -/
def doMaintReload (l : Line) (s : State) : State :=
  let r := l.route
  onColl (vColl "MAINT.RELOAD" 1 true [collArg]) l (fun c s =>
    if c.state != 0 then reply r 204 [("state", collStateVal c)] s
    else reply r 1 [] (s.setColl { c with reloading := true })) s

def execMaintReload (l : Line) (s : State) : Out := .next (doMaintReload l s)

/-- R293: the reload of a collection, with the chunks that failed: online, or offline and told with the code of the first of
them. -/
def reloadColl (n : Nat) (failed : List ReloadFault) (s : State) : State :=
  match s.coll n with
  | none => s
  | some c =>
    let mine := failed.filter fun x => x.coll == n && c.chunks.any fun k => k.num == x.chunk
    let bad := fun (k : Chunk) => mine.any fun x => x.chunk == k.num
    let s := s.bothColls n fun c => Coll.queueFull { c with
      state := if mine.isEmpty then 1 else 0
      reloading := false
      chunks := c.chunks.map fun k => { k with loaded := !bad k } }
    match mine with
    | x :: _ => raise 0x244 [("coll", .n n), ("code", .n x.code)] s
    | [] => raise 0x243 [("coll", .n n), ("chunks", .n c.chunks.length)] s

/-- R408: the retried reload is over. -/
def execCollectionReloadComplete (coll : Nat) (failed : List ReloadFault) (s : State) : Out :=
  .next (if (s.coll coll).any (fun c => c.state == 0 && c.reloading) && s.inService then reloadColl coll failed s else s)

/-! ## Dusk jobs -/

def vMaintRebuild : Verb :=
  { name := "MAINT.REBUILD", modes := [.M9], level := 2, changes := true, loop := false, args := [collArg] }

/-- R408, R512. -/
def doMaintRebuild (l : Line) (s : State) : State :=
  onColl vMaintRebuild l (fun c s =>
    let (s, n) := queueJob .rebuild c.num [] s
    reply l.route 1 [("job", .n n)] s) s

def execMaintRebuild (l : Line) (s : State) : Out := .next (doMaintRebuild l s)

def jobKindName : JobKind → String
  | .commit => "commit" | .rebuild => "rebuild" | .repartition => "repartition" | .format => "format" | .merge => "merge"

/-- R512. The time left of a job is a free value (log entry 3). -/
def doMaintJobs (l : Line) (s : State) : State :=
  gate (vColl "MAINT.JOBS" 0 false []) l (fun s =>
    let rows := s.day.queue.map fun j =>
      [("job", Val.n j.num), ("kind", .w (jobKindName j.kind)), ("state", .w (if j.running then "running" else "queued")),
       ("ms", .n s.free)]
    done l.route [] (more l.route rows s).tick) s

def execMaintJobs (l : Line) (s : State) : Out := .next (doMaintJobs l s)

/-- The collection as a rebuild's set leaves its layout (R407). -/
def Coll.relaid (c : Coll) (set : List Staged) : Coll :=
  set.foldl (fun c w =>
    if w.i != c.num then c
    else match w.p with
      | .COLL_C_WCODE => { c with wcode := w.v }
      | .COLL_C_TAGGED => { c with tagged := w.v == 1 }
      | .COLL_C_SEED_LO => { c with seed := c.seed / 2 ^ 32 * 2 ^ 32 + w.v }
      | .COLL_C_SEED_HI => { c with seed := w.v * 2 ^ 32 + c.seed % 2 ^ 32 }
      | _ => c) c

/-- A collection whose rebuild is stopped: as its chunks stand. -/
def Coll.resumed (c : Coll) : Coll :=
  if c.state == 3 then { c with state := if c.chunks.all (·.loaded) then 1 else 0 } else c

/-- The slots of a collection whose records cannot be read (R408). -/
def Coll.unreadable (c : Coll) : List Slot := c.slots.filter fun x => x.live && !x.ok

/-- A collection rebuilt in a layout: unreadable slots freed, vectors sketched again where W or the seed changed. -/
def Coll.rebuilt (c : Coll) (set : List Staged) : Coll :=
  let c' := c.relaid set
  let again := (c'.wcode != c.wcode || c'.seed != c.seed) && !c.client
  let slots := c.slots.map fun x =>
    if x.live && !x.ok then { x with live := false, key := [], vec := [], free := true, ok := true }
    else if again then c'.resketch x else x
  { c' with slots := slots }.rewritten (nextSide c.gen)

/-- The keys of freed slots lose their vectors. -/
def dropVectors (coll : Nat) (gone : List Slot) (l : List KeyEnt) : List KeyEnt :=
  l.map fun e =>
    match e.vec with
    | some (n, i) => if n == coll && gone.any (fun x => x.idx == i) then { e with vec := none } else e
    | none => e

/-- R407, R408: the rebuild job writes its collection anew and returns it to service. -/
def rebuildColl (n : Nat) (set : List Staged) (s : State) : State :=
  let s := persistAll s
  match s.coll n with
  | none => s
  | some c =>
    let gone := c.unreadable
    let s := s.bothColls n fun c => c.rebuilt set
    let s := { s with
      kv := { s.kv with keys := dropVectors n gone s.kv.keys, disk := dropVectors n gone s.kv.disk }
      sweep := { s.sweep with cache := s.sweep.cache.filter fun x => x.1 != n } }
    let s := if gone.isEmpty then s else raise 0x301 [("coll", .n n), ("n", .n gone.length)] s
    match s.coll n with
    | some c => collEvent c 5 s
    | none => s

end Sys2Proof.Machine
end

