-- ==== Sys2Proof/Machine/LoopVerbs.lean ====
section
/-! DEFINITION. The ISL, FE, HART and CAL verbs, and the register writes of those blocks that have rows of their own
(R40, R141, R142, R145, R186, R192, R514, R533). -/

namespace Sys2Proof.Machine

def ofDown : List (String × Val) := [("link", .w "down")]

/-- Runs where the bridge is UP; elsewhere the reply is 205 with link=down (R145, R514). -/
def whenUp (r : Route) (run : State → State) (s : State) : State :=
  if s.bridge.link == 2 then run s else reply r 205 ofDown s

/-- Ends a SHOW that reads the mirror (R145): 000 while the bridge is UP, 210 with link=down from the last copy, 205
before the first copy since Dawn. -/
def shown (r : Route) (kv : List (String × Val)) (s : State) : State :=
  if s.bridge.link == 2 then done r kv s
  else if s.bridge.upSinceDawn then reply r 210 (kv ++ ofDown) s
  else reply r 205 [] s

def linkWord : Nat → String
  | 0 => "down"
  | 1 => "sync"
  | _ => "up"

/-! ## SHOW -/

def loopShow (name : String) : Verb := { showVerb name m3to9 with loop := true }

def vIslShow : Verb := loopShow "ISL.SHOW"

def doIslShow (l : Line) (s : State) : State :=
  gate vIslShow l (fun s =>
    let b := s.bridge
    let kv := [("pv", Val.f (b.reg .ISL_PV)), ("status", .x 4 (b.reg .ISL_PV_STATUS)),
      ("set_ua", .n (b.reg .ISL_LOOP_SET_UA)), ("meas_ua", .n (b.reg .ISL_LOOP_MEAS_UA)),
      ("fail", .n (b.reg .ISL_FAIL_CAUSE)), ("cc", .n (b.reg .ISL_CC)), ("buf", .n (b.reg .ISL_BUF_FILL)),
      ("seq", .n (b.reg .ISL_SEQ))]
    if b.link == 2 then done l.route (("link", .w (linkWord b.link)) :: kv) s
    else if b.upSinceDawn then reply l.route 210 (("link", .w "down") :: kv) s
    else reply l.route 205 [] s) s

def execIslShow (l : Line) (s : State) : Out := .next (doIslShow l s)

def vFeShow : Verb := loopShow "FE.SHOW"

def doFeShow (l : Line) (s : State) : State :=
  gate vFeShow l (fun s =>
    let b := s.bridge
    shown l.route [("result", .f (b.reg .FE_RESULT)), ("result_q", .f (b.reg .FE_RESULT_Q)),
      ("aux", .f (b.reg .FE_AUX_RESULT)), ("status", .x 4 (b.reg .FE_STATUS)), ("exc_ua", .n (b.reg .FE_EXC_UA)),
      ("exc_now_mv", .n (b.reg .FE_EXC_NOW_MV)), ("s", .n (b.reg .FE_S)), ("settle_ms", .n (b.reg .FE_SETTLE_MS))] s) s

def execFeShow (l : Line) (s : State) : Out := .next (doFeShow l s)

def vHartShow : Verb := loopShow "HART.SHOW"

def doHartShow (l : Line) (s : State) : State :=
  gate vHartShow l (fun s =>
    let b := s.bridge
    shown l.route [("dev_id", .x 6 (b.reg .HART_DEV_ID)), ("poll", .n (b.reg .ISL_POLL_ADDR)),
      ("burst", .n (b.reg .HART_BURST_EN)), ("period_ms", .n (b.reg .HART_BURST_PERIOD_MS)),
      ("novelty", .x 2 (b.reg .HART_NOVELTY)), ("masters", .n (b.reg .HART_MASTERS)),
      ("frame_errors", .n (b.reg .HART_FRAME_ERRORS))] s) s

def execHartShow (l : Line) (s : State) : Out := .next (doHartShow l s)

/-! ## SET -/

/-- Fields that hold a binary32 number (R502). -/
def Param.isFloat : Param → Bool
  | .ISL_LRV | .ISL_URV | .ISL_MAIN_PV => true
  | _ => false

/-- The bytes of a field of several words (Table 9.9). -/
def Param.textBytes : Param → Nat
  | .HART_TAG => 6
  | .HART_DESCRIPTOR => 12
  | .HART_MESSAGE => 24
  | .HART_LONG_TAG => 32
  | _ => 0

def lowerText (t : Text) : Text := t.map lowerChar

def Param.key (p : Param) : String := String.ofList ((lowerText (txt p.short)).map Char.ofNat)

/-- The form of a field in a SET verb: its range is judged by the loop die, after write-protect and cc= (R514). -/
def Param.setForm (p : Param) : Form :=
  if p.textBytes != 0 then .hexExact [2 * p.textBytes]
  else if p.isFloat then .float
  else .int (-(2 ^ 200)) (2 ^ 200)

def setParams (b : Block) : List Param := b.params.filter fun p => p.info.acc == .RW

def ccSpec : ArgSpec := ⟨"cc", false, .num 0 65535⟩

def setSpecs (b : Block) : List ArgSpec := (setParams b).map (fun p => ⟨p.key, false, p.setForm⟩) ++ [ccSpec]

/-- The little-endian words of bytes in transmission order (R212). -/
def wordsOf : Nat → Text → List Nat
  | 0, _ => []
  | n + 1, t => leNat (t.take 4) :: wordsOf n (t.drop 4)

def stageWords (p : Param) (ws : List Nat) : List Staged :=
  (List.range ws.length).map fun i => ⟨p, i, ws.getD i 0⟩

/-- What one argument of a SET verb writes; a negative number is out of every range. -/
def stagedArg (b : Block) (a : Arg) : List Staged :=
  match (setParams b).find? fun p => txt p.key == a.key with
  | none => []
  | some p =>
    if p.textBytes != 0 then stageWords p (wordsOf p.info.words ((hexBytes a.val).getD []))
    else if p.isFloat then [⟨p, 0, (floatVal a.val).getD 0⟩]
    else match intVal a.val with
      | some v => [⟨p, 0, if v < 0 then 2 ^ 64 else v.toNat⟩]
      | none => []

def stagedLine (b : Block) (l : Line) : List Staged := l.args.flatMap (stagedArg b)

/-- A SET line as one write unit; fields of the core die in it are set with the acknowledgement (R514). -/
def runSet (b : Block) (verb : String) (l : Line) (s : State) : State :=
  let set := stagedLine b l
  let core := set.filter (·.p.info.core)
  if set.isEmpty then reply l.route 102 [("arg", .w "field")] s
  else
    match core.find? fun w => !fieldInRange w with
    | some w => reply l.route 103 [("arg", .w w.p.short)] s
    | none => postUnit l.route verb (l.nat? "cc") (.fields (set.filter fun w => !w.p.info.core)) core s

def vSet (b : Block) (verb : String) (level : Nat) : Verb :=
  { name := verb, modes := m3to9, level := level, changes := true, loop := true, args := setSpecs b }

def doIslSet (l : Line) (s : State) : State :=
  gate (vSet .ISL "ISL.SET" 1) l (whenUp l.route (runSet .ISL "ISL.SET" l)) s

def execIslSet (l : Line) (s : State) : Out := .next (doIslSet l s)

def doFeSet (l : Line) (s : State) : State :=
  gate (vSet .FE "FE.SET" 1) l (whenUp l.route (runSet .FE "FE.SET" l)) s

def execFeSet (l : Line) (s : State) : Out := .next (doFeSet l s)

def doHartSet (l : Line) (s : State) : State :=
  gate (vSet .HART "HART.SET" (if l.has "owner_en" then 2 else 1)) l (whenUp l.route (runSet .HART "HART.SET" l)) s

def execHartSet (l : Line) (s : State) : Out := .next (doHartSet l s)

/-! ## ISL.SYNC (R40, R41) -/

def vIslSync : Verb :=
  { name := "ISL.SYNC", modes := m3to9, level := 1, changes := true, loop := true,
    args := [⟨"at", false, .num 0 18446744073709551615⟩] }

def settleFields (s : State) : List (String × Val) :=
  [("s", .n (s.loop.get .FE_S)), ("settle_ms", .n (s.loop.get .FE_SETTLE_MS))]

def islSync (l : Line) (s : State) : State :=
  let r := l.route
  match l.nat? "at" with
  | none =>
    let again : List (String × Val) := if s.clk.syncAt.isSome then [("replaced", .n 1)] else []
    done r (again ++ settleFields s) (syncNow { s with clk := { s.clk with syncAt := none } })
  | some t =>
    if t < s.clk.tai + 10000000 || s.clk.tai + 86400000000000 < t then reply r 103 [("arg", .w "at")] s
    else if s.clk.state == .FREE || s.clk.state == .LOCKING then reply r 208 [] s
    else
      let again : List (String × Val) := if s.clk.syncAt.isSome then [("replaced", .n 1)] else []
      done r (again ++ settleFields s) { s with clk := { s.clk with syncAt := some t } }

def doIslSync (l : Line) (s : State) : State := gate vIslSync l (whenUp l.route (islSync l)) s

def execIslSync (l : Line) (s : State) : Out := .next (doIslSync l s)

/-! ## CAL -/

def calVerb (name : String) (level : Nat) (args : List ArgSpec) : Verb :=
  { name := name, modes := m4to7and9, level := level, changes := true, loop := true, args := args }

def forceSpec : ArgSpec := ⟨"force", false, .num 0 1⟩

/-- A trim with force=1 takes OWNER (R192). -/
def trimLevel (l : Line) : Nat := if l.flag "force" then 2 else 1

def lineFloat (l : Line) (k : String) : F32 := ((l.raw k).bind floatVal).getD 0

def doCalZero (l : Line) (s : State) : State :=
  gate (calVerb "CAL.ZERO" (trimLevel l) [⟨"point", false, .float⟩, forceSpec, ccSpec]) l
    (whenUp l.route (postUnit l.route "CAL.ZERO" (l.nat? "cc") (.zero (lineFloat l "point") (l.flag "force")) [])) s

def execCalZero (l : Line) (s : State) : Out := .next (doCalZero l s)

def doCalSpan (l : Line) (s : State) : State :=
  gate (calVerb "CAL.SPAN" (trimLevel l) [⟨"point", true, .float⟩, forceSpec, ccSpec]) l
    (whenUp l.route (postUnit l.route "CAL.SPAN" (l.nat? "cc") (.span (lineFloat l "point") (l.flag "force")) [])) s

def execCalSpan (l : Line) (s : State) : Out := .next (doCalSpan l s)

def doCalPhase (l : Line) (s : State) : State :=
  gate (calVerb "CAL.PHASE" (trimLevel l) [⟨"path", true, .word ["A", "B"]⟩, ⟨"point", false, .float⟩, forceSpec, ccSpec]) l
    (whenUp l.route (postUnit l.route "CAL.PHASE" (l.nat? "cc")
      (.phase (l.isWord "path" "B") (lineFloat l "point") (l.flag "force")) [])) s

def execCalPhase (l : Line) (s : State) : Out := .next (doCalPhase l s)

/-- The ranges of point= and meas_ua= are judged with the unit, after write-protect and cc= (R187). It takes force= as every
trim does (R192, R193; log entry 110). -/
def doCalLoop (l : Line) (s : State) : State :=
  gate (calVerb "CAL.LOOP" (trimLevel l) [⟨"point", true, .int (-(2 ^ 200)) (2 ^ 200)⟩,
      ⟨"meas_ua", true, .int (-(2 ^ 200)) (2 ^ 200)⟩, forceSpec, ccSpec]) l
    (whenUp l.route (postUnit l.route "CAL.LOOP" (l.nat? "cc")
      (.loop (l.nat "point") (l.nat "meas_ua") (l.flag "force")) [])) s

def execCalLoop (l : Line) (s : State) : Out := .next (doCalLoop l s)

def tpointPut (l : List (Nat × F32 × F32)) (i : Nat) (r v : F32) : List (Nat × F32 × F32) :=
  match l with
  | [] => [(i, r, v)]
  | (j, q, w) :: xs => if j == i then (i, r, v) :: xs else if i < j then (i, r, v) :: (j, q, w) :: xs else (j, q, w) :: tpointPut xs i r v

def vCalTpoint : Verb :=
  { calVerb "CAL.TPOINT" 1 [⟨"i", true, .num 1 16⟩, ⟨"r", true, .float⟩, ⟨"pv", true, .float⟩] with changes := false }

/-- R186: a point is staged in the core die, whatever the bridge. -/
def doCalTpoint (l : Line) (s : State) : State :=
  gate vCalTpoint l (fun s =>
    done l.route [("i", .n (l.nat "i"))]
      { s with bridge := { s.bridge with tpoints := tpointPut s.bridge.tpoints (l.nat "i") (lineFloat l "r") (lineFloat l "pv") } }) s

def execCalTpoint (l : Line) (s : State) : Out := .next (doCalTpoint l s)

/-- Staged points 1 to n, or the first that is not staged. -/
def stagedPoints (pts : List (Nat × F32 × F32)) (n : Nat) : Except Nat (List (F32 × F32)) :=
  match (List.range n).find? fun k => !(pts.any fun p => p.1 == k + 1) with
  | some k => .error (k + 1)
  | none => .ok ((pts.filter fun p => p.1 ≤ n).map (·.2))

def doCalTcommit (l : Line) (s : State) : State :=
  gate (calVerb "CAL.TCOMMIT" 1 [⟨"n", true, .num 2 16⟩, ccSpec]) l (whenUp l.route fun s =>
    match stagedPoints s.bridge.tpoints (l.nat "n") with
    | .error k => reply l.route 205 [("arg", .w "i"), ("i", .n k)] s
    | .ok pts => postUnit l.route "CAL.TCOMMIT" (l.nat? "cc") (.tcommit pts) [] s) s

def execCalTcommit (l : Line) (s : State) : Out := .next (doCalTcommit l s)

def doCalSave (l : Line) (s : State) : State :=
  gate (calVerb "CAL.SAVE" 1 [ccSpec]) l (whenUp l.route (postUnit l.route "CAL.SAVE" (l.nat? "cc") .save [])) s

def execCalSave (l : Line) (s : State) : Out := .next (doCalSave l s)

def doCalRestore (l : Line) (s : State) : State :=
  gate (calVerb "CAL.RESTORE" 2 [ccSpec]) l (whenUp l.route (postUnit l.route "CAL.RESTORE" (l.nat? "cc") .restore [])) s

def execCalRestore (l : Line) (s : State) : Out := .next (doCalRestore l s)

def clearWords : List String := ["zero", "span", "phase", "loop", "scale", "all"]

def clearCode (t : Text) : Nat := (clearWords.findIdx fun w => txt w == t) + 1

def doCalClear (l : Line) (s : State) : State :=
  gate (calVerb "CAL.CLEAR" 2 [⟨"what", true, .word clearWords⟩, ccSpec]) l
    (whenUp l.route (postUnit l.route "CAL.CLEAR" (l.nat? "cc") (.clear (clearCode (l.text "what"))) [])) s

def execCalClear (l : Line) (s : State) : Out := .next (doCalClear l s)

/-- A field of CAL as its line of CAL.SHOW writes it. -/
def calValue (p : Param) (v : Nat) : Val :=
  match p with
  | .CAL_U_PH_A | .CAL_U_PH_B => .i (toSigned 16 v)
  | .CAL_FORCED | .CAL_SAVED | .CAL_F_VALID | .CAL_LOOP_STAB_UA | .CAL_SC_MODE | .CAL_SC_N | .CAL_LOOP_M4_UA
  | .CAL_LOOP_M20_UA | .CAL_MON_P_GAIN => .n v
  | .CAL_MON_T_OFS_A | .CAL_MON_T_OFS_B => .x 8 v
  | _ => .f v

/-- The lines of CAL.SHOW (Table 20.6): every field, and the committed points in place of the table. -/
def calRows (s : State) : List (List (String × Val)) :=
  Block.CAL.params.flatMap fun p =>
    if p == .CAL_SC_TABLE then
      (List.range (s.bridge.reg .CAL_SC_N)).map fun k =>
        [("k", .n (k + 1)), ("r", .f (s.bridge.reg p (2 * k))), ("pv", .f (s.bridge.reg p (2 * k + 1)))]
    else [[(p.key, calValue p (if p.info.core then s.reg p else s.bridge.reg p))]]

def vCalShow : Verb := { calVerb "CAL.SHOW" 1 [] with changes := false }

def doCalShow (l : Line) (s : State) : State :=
  gate vCalShow l (fun s =>
    if s.bridge.link == 2 || s.bridge.upSinceDawn then
      shown l.route [("cc", .n (s.bridge.reg .ISL_CC))] (more l.route (calRows s) s)
    else reply l.route 205 [] s) s

def execCalShow (l : Line) (s : State) : Out := .next (doCalShow l s)

/-! ## Register writes with rows of their own -/

/-- A write of one mirrored register (R145, R533): one write unit, executed as soon as no other waits before it. -/
def mirroredWrite (r : Route) (p : Param) (v : Nat) (s : State) : State :=
  writeGate r 1 p.info.base m4to9 (fun s =>
    if s.noLoop then reply r 205 [] s
    else match busyOn r s with
    | some v => reply r 202 [("pending", .w v)] s
    | none => whenUp r (fun s =>
      let first := s.bridge.units.isEmpty
      let s := postUnit r "REG.WRITE" none (.fields [⟨p, 0, v⟩]) [] s
      if first && s.loop.started then writeUnit s else s) s) s

/-- R141, R142. -/
def execMainPvWrite (route : Route) (v : Nat) (s : State) : Out := .next (mirroredWrite route .ISL_MAIN_PV v s)

/-- R139. -/
def execFixUaWrite (route : Route) (v : Nat) (s : State) : Out := .next (mirroredWrite route .ISL_FIX_UA v s)

/-- R140. -/
def execLoopCurEnWrite (route : Route) (v : Nat) (s : State) : Out := .next (mirroredWrite route .ISL_LOOP_CUR_EN v s)

end Sys2Proof.Machine
end

