-- ==== Sys2Proof/Machine/Hart.lean ====
section
/-! DEFINITION. The HART slave of the loop die: identity, status, the universal, common-practice and device-specific commands,
burst mode (R199–R213). Where the spec names a command and no layout, the layout is that of HART 7 (log entry 28). -/

namespace Sys2Proof.Machine

/-! ## Bytes -/

def hartByte (d : Text) (o : Nat) : Nat := d.getD o 0
def beAt (d : Text) (o n : Nat) : Nat := beNat ((d.drop o).take n)
def be2 (v : Nat) : Text := beBytes 2 v
def be4 (v : Nat) : Text := beBytes 4 v

/-- The bytes of a field of several words, in transmission order (R212). -/
def Loop.textOf (l : Loop) (p : Param) : Text :=
  ((List.range p.info.words).flatMap fun i => leBytes 4 (l.reg p i)).take p.textBytes

/-- Three bytes of a 24-bit register that is no string register, big-endian as HART fields are (R7, R212; log entry 111). -/
def Loop.three (l : Loop) (p : Param) : Text := beBytes 3 (l.reg p)

/-- Bytes that the spec does not state (log entry 3). -/
def unstatedBytes (kind arg n : Nat) : Text := (List.range n).map fun i => Config.unstated kind (256 * arg + i) % 256

/-! ## Identity and addresses -/

/-- The 38-bit long address (R201). -/
def Loop.longAddr (l : Loop) : Nat := 0xE71D % 2 ^ 14 * 2 ^ 24 + l.otp.devId % 2 ^ 24

/-- Whether a frame is for this unit and its command (R201). -/
def hartFor (l : Loop) (cmd : Nat) : HartAddr → Bool
  | .short p => cmd == 0 && p == l.reg .ISL_POLL_ADDR
  | .long a => a == l.longAddr
  | .broadcast => cmd == 11 || cmd == 21

/-! ## Status -/

def Loop.hasFault (l : Loop) (code : Nat) : Bool := l.faultsActive.any (·.code == code)
def Loop.exhausted (l : Loop) : Bool := 100000 ≤ l.reg .ISL_MTP_COMMITS
def Loop.saturated (l : Loop) : Bool := l.satLow || l.satHigh
def Loop.isFixed (l : Loop) : Bool := l.reg .ISL_FIX_UA != 0 || l.reg .ISL_LOOP_CUR_EN == 0

/-- Whether a fault applies to path B (Table 7.5): one of all paths, of path B itself, or of the input it measures. -/
def Loop.isPathB (l : Loop) (f : FaultSt) : Bool :=
  f.ch == 12 || f.ch == 11 || f.ch == (if l.isLvdt then l.reg .FE_PV_CH + 1 else l.reg .FE_AUX_CH)

/-- Whether the SV is bad (R204): CAL.R_AUX is NaN, or a fault of path B is active. -/
def Loop.svBad (l : Loop) : Bool :=
  F.isNaN (l.get .CAL_R_AUX) || ((l.isLvdt || l.auxOn) && l.faultsActive.any l.isPathB)

/-- Byte 6 of Table 9.7. -/
def Loop.extStatus (l : Loop) : Nat :=
  (l.reg .CAL_FORCED != 0 || l.exhausted).toNat + 2 * (l.stale || !l.faultsActive.isEmpty).toNat + 4 * l.departed.toNat

/-- The data of command 48 (Table 9.7). -/
def Loop.additional (l : Loop) : Text :=
  let b0 := (l.cause != 0).toNat + 2 * (l.cause % 16) + 32 * l.stale.toNat + 64 * l.fe.limited.toNat + 128 * l.pvFault.toNat
  let b1 := (List.range 7).foldl (fun v k => if l.hasFault (k + 1) then setBit v k else v) 0
  let b2 := l.reg .CAL_FORCED % 16 + 16 * (l.pend4.isSome || l.pend20.isSome).toNat + 32 * (!l.otp.ok).toNat
  let b4 := l.up.toNat + 2 * (l.reg .ISL_PHASE_LOCK == 1).toNat + 4 * l.aux.toNat + 8 * l.wp.toNat
    + 16 * (l.src == 1).toNat + 32 * (l.buf.length == 512).toNat + 64 * l.departed.toNat
    + 128 * l.exhausted.toNat
  [b0, b1, b2, l.hart.novelty, b4, l.hart.refusal, l.extStatus, 0, 0, 0, l.saturated.toNat, 0, 0, l.isFixed.toNat]

def last48 (h : Hart) (secondary : Bool) : Option Text := if secondary then h.last48S else h.last48P

/-- The field device status for a master (Table 9.8); command 48 carries bit 4 clear. -/
def Loop.deviceStatus (l : Loop) (secondary is48 : Bool) : Nat :=
  let m := secondary.toNat
  let malf := l.activeCauses.any (fun c => c ≤ 3) || l.exhausted
  let news := !is48 && last48 l.hart secondary != some l.additional
  let ovr := l.faultsActive.any fun f => f.code == 6 && (f.ch == 8 || f.ch == 9)
  128 * malf.toNat + 64 * (bitAt l.hart.changed m).toNat + 32 * (bitAt l.hart.cold m).toNat + 16 * news.toNat
    + 8 * l.isFixed.toNat + 4 * l.saturated.toNat + 2 * l.svBad.toNat + ovr.toNat

/-! ## A request and its response -/

/-- What a command answers: a response code and its data, or nothing at all. -/
abbrev HartAns := Option (Nat × Text)

def masterVal (secondary : Bool) : Val := if secondary then .c 2 "secondary" else .c 1 "primary"

/-- A master is heard (R213). -/
def hear (secondary : Bool) (s : State) : State :=
  let m := secondary.toNat
  if bitAt s.loop.hart.heard m then s
  else ldRaise 0x3B0 [("master", masterVal secondary)] (s.setHart { s.loop.hart with heard := setBit s.loop.hart.heard m })

/-- The address bytes of a frame to a master, with its master and burst bits. -/
def addressBytes (l : Loop) (a : HartAddr) (secondary : Bool) : Text :=
  let flags := 128 * (!secondary).toNat + 64 * l.reg .HART_BURST_EN
  match a with
  | .short p => [flags + p % 64]
  | _ => let b := beBytes 5 l.longAddr; (flags + b.headD 0) :: b.drop 1

/-- A frame to a master: address, command, byte count, response code, field device status, data. -/
def hartSend (a : HartAddr) (secondary : Bool) (cmd rc : Nat) (data : Text) (s : State) : State :=
  let l := s.loop
  let st := l.deviceStatus secondary (cmd == 48 && rc == 0)
  let s := s.emit (.hart (addressBytes l a secondary ++ [cmd, data.length + 2, rc, st] ++ data))
  let h := s.loop.hart
  let h := { h with cold := clearBit h.cold secondary.toNat }
  let h := if cmd == 48 && rc == 0 then
      (if secondary then { h with last48S := some l.additional } else { h with last48P := some l.additional })
    else h
  s.setHart h

/-- A request: from step 2 of R138 on the loop die answers every command that is for it (R201, R202). -/
def hartRun (cmd : Nat) (q : HartReq) (run : Text → State → State × HartAns) (s : State) : State :=
  onLoop (fun s =>
    if !hartFor s.loop cmd q.addr then s
    else
      let s := hear q.secondary s
      let (s, a) := run q.data s
      match a with
      | some (rc, data) => hartSend q.addr q.secondary cmd rc data s
      | none => s) s

/-- A command that only reads. -/
def hartRead (cmd : Nat) (q : HartReq) (data : Loop → Text) (s : State) : State :=
  hartRun cmd q (fun _ s => (s, some (0, data s.loop))) s

/-- A command that needs some data bytes (Table 9.5). -/
def needing (n : Nat) (run : Text → State → State × HartAns) (d : Text) (s : State) : State × HartAns :=
  if d.length < n then (s, some (5, [])) else run d s

/-- A write command whose own checks follow step 1 of R155: write-protect is judged first (R205). -/
def unlessWp (run : Text → State → State × HartAns) (d : Text) (s : State) : State × HartAns :=
  if s.loop.wp then (s, some (7, [])) else run d s

/-- Whether a value out of its range lies below it. -/
def belowRange (w : Staged) : Bool :=
  match w.p with
  | .ISL_FIX_UA => w.v < 3550
  | .CAL_NOM_SPAN | .CAL_STAB_LIM => !F.lt 0 w.v && !F.isNaN w.v
  | .CAL_SC_GAIN | .CAL_SC_OFS => F.neg? w.v
  | p => w.v < p.info.rmin

/-- The verdict of a unit as a response code (Table 9.5). The table does not state one for a restore that finds no set, or a
set of another mode: a free value there (log entry 3). -/
def hartCode (set : List Staged) (below : Bool) (v : Verdict) : Nat :=
  match v.1 with
  | 0 => 0
  | 201 => 7
  | 103 =>
    match set.find? fun w => !fieldInRange w with
    | some w => if belowRange w then 4 else 3
    | none => if below then 4 else 3
  | 102 =>
    if v.2 == [("arg", .w "LRV")] || v.2 == [("arg", .w "URV")] then
      (if (set.filter fun w => w.p == .ISL_LRV || w.p == .ISL_URV).all fun w => F.isFinite w.v then 29 else 2)
    else 2
  | 204 =>
    if v.2.any fun f => f.1 == "multidrop" then 11
    else if v.2.any fun f => f.1 == "fix" then 6
    else clampFree (Config.unstated 6 204) 1 127
  | 205 => clampFree (Config.unstated 6 205) 1 127
  | _ => 6

/-- The measurement that a trim's verdict carries. -/
def verdictF (v : Verdict) (k : String) : F32 :=
  match v.2.find? fun f => f.1 == k with
  | some (_, .f x) => x
  | some (_, .n x) => F.ofNat x
  | _ => 0

/-- The response code of a trim: 207 by its reason, 9 above and 10 below the point (Table 9.5). -/
def trimCode (below : Bool) (point : F32) (v : Verdict) : Nat :=
  if v.1 == 207 then
    if v.2.any fun f => f == ("reason", .w "plaus") then (if F.lt point (verdictF v "meas") then 9 else 10)
    else if v.2.any fun f => f == ("reason", .w "settle") then 32
    else 6
  else hartCode [] below v

/-- A write command: one write unit; the values in force follow a commit (R205, R206). -/
def hartWrite (set : List Staged) (data : Loop → Text) (s : State) : State × HartAns :=
  let (s, v) := runUnit .hart none (.fields set) s
  (s, some (hartCode set false v, if v.1 == 0 then data s.loop else []))

/-! ## Universal and common-practice commands (Table 9.3) -/

/-- The 22 bytes of command 0 (Table 9.2). -/
def identity (l : Loop) : Text :=
  [254, 0xE7, 0x1D, 5, 7, 1, 0xB1, 0x10, 0] ++ beBytes 3 l.otp.devId ++ [l.reg .HART_PREAMBLES, 3]
    ++ be2 (l.reg .ISL_CC) ++ [l.extStatus, 0x00, 0xE7, 0x00, 0xE7, 1]

def execHartCmd0ReadUniqueId (q : HartReq) (s : State) : Out := .next (hartRead 0 q identity s)

def execHartCmd1ReadPv (q : HartReq) (s : State) : Out :=
  .next (hartRead 1 q (fun l => l.reg .ISL_UNITS :: be4 l.y) s)

/-- i_set in mA (R183, Table 9.3). -/
def Loop.mA (l : Loop) : F32 := F.div l.setF 0x447A0000

def Loop.percent (l : Loop) : F32 := F.mul 0x42C80000 (pOf l.y (l.reg .ISL_LRV) (l.reg .ISL_URV))

def currentPercent (l : Loop) : Text := be4 l.mA ++ be4 l.percent

def execHartCmd2ReadCurrentPercent (q : HartReq) (s : State) : Out := .next (hartRead 2 q currentPercent s)

/-- A device variable by code (Table 9.4): units and value. -/
def deviceVariable (l : Loop) (code : Nat) : Option (Nat × F32) :=
  if code == 0 || code == 246 then some (l.reg .ISL_UNITS, l.y)
  else if code == 1 || code == 247 then some (if l.reg .FE_AUX_MODE == 2 then 36 else 253, l.get .CAL_R_AUX)
  else if code == 2 || code == 248 then some (39, F.div (F.ofNat (l.reg .ISL_LOOP_MEAS_UA)) 0x447A0000)
  else if code == 3 || code == 249 then some (36, F.ofNat l.fe.aNow)
  else none

/-- The status byte of a device variable (R204): quality in bits 7 and 6, limits in bits 5 and 4. -/
def variableStatus (l : Loop) (code : Nat) : Nat :=
  if code == 0 || code == 246 then
    let q := if l.cause != 0 || l.pvFault then 0
      else if l.stale || l.fe.limited || l.reg .CAL_FORCED != 0 then 1 else 3
    64 * q + 16 * (if l.satLow then 1 else if l.satHigh then 2 else 0)
  else if code == 1 || code == 247 then (if l.svBad then 0 else 192)
  else 192

def slotBytes (l : Loop) (code : Nat) : Text :=
  match deviceVariable l code with
  | some (u, v) => u :: be4 v
  | none => []

/-- The data of command 3: each variable with its status (R204). -/
def dynamicVars (l : Loop) : Text := be4 l.mA ++ [0, 1, 2, 3].flatMap fun c => slotBytes l c ++ [variableStatus l c]

def execHartCmd3ReadDynamicVars (q : HartReq) (s : State) : Out := .next (hartRead 3 q dynamicVars s)

def loopConfig (l : Loop) : Text := [l.reg .ISL_POLL_ADDR, l.reg .ISL_LOOP_CUR_EN]

/-- With one data byte, loop current mode is enabled for address 0 alone. -/
def execHartCmd6WritePollingAddr (q : HartReq) (s : State) : Out :=
  .next (hartRun 6 q (needing 1 fun d =>
    let en := if 2 ≤ d.length then hartByte d 1 else (hartByte d 0 == 0).toNat
    hartWrite [⟨.ISL_POLL_ADDR, 0, hartByte d 0⟩, ⟨.ISL_LOOP_CUR_EN, 0, en⟩] loopConfig) s)

def execHartCmd7ReadLoopConfig (q : HartReq) (s : State) : Out := .next (hartRead 7 q loopConfig s)

def classification (code : Nat) : Nat := Config.unstated 1 code % 256

def execHartCmd8ReadClassifications (q : HartReq) (s : State) : Out :=
  .next (hartRead 8 q (fun _ => [0, 1, 2, 3].map classification) s)

def varsStatus (codes : List Nat) (l : Loop) : Text :=
  l.extStatus :: codes.flatMap (fun c => [c, classification (c % 246)] ++ slotBytes l c ++ [variableStatus l c])
    ++ unstatedBytes 5 9 4

/-- A request that names device variables; another code returns 2 (Table 9.3). -/
def withCodes (most : Nat) (data : List Nat → Loop → Text) (d : Text) (s : State) : State × HartAns :=
  let codes := d.take most
  if codes.all fun c => (deviceVariable s.loop c).isSome then (s, some (0, data codes s.loop)) else (s, some (2, []))

def execHartCmd9ReadVarsStatus (q : HartReq) (s : State) : Out :=
  .next (hartRun 9 q (needing 1 (withCodes 8 varsStatus)) s)

/-- The identity where a tag matches; otherwise no answer. -/
def byTag (p : Param) (d : Text) (s : State) : State × HartAns :=
  (s, if d.take p.textBytes == s.loop.textOf p then some (0, identity s.loop) else none)

def execHartCmd11ReadIdByTag (q : HartReq) (s : State) : Out := .next (hartRun 11 q (byTag .HART_TAG) s)

def messageOf (l : Loop) : Text := l.textOf .HART_MESSAGE

def execHartCmd12ReadMessage (q : HartReq) (s : State) : Out := .next (hartRead 12 q messageOf s)

def tagOf (l : Loop) : Text := l.textOf .HART_TAG ++ l.textOf .HART_DESCRIPTOR ++ l.three .HART_DATE

def execHartCmd13ReadTagDescriptor (q : HartReq) (s : State) : Out := .next (hartRead 13 q tagOf s)

/-- The limits of R203, ±3.4 × 10^38, and a minimum span of 0. -/
def wideLimits : Text := be4 0x7F7FC99E ++ be4 0xFF7FC99E

def execHartCmd14ReadTransducer (q : HartReq) (s : State) : Out :=
  .next (hartRead 14 q (fun l => unstatedBytes 2 0 3 ++ [l.reg .ISL_UNITS] ++ wideLimits ++ be4 0) s)

def Loop.dampSec (l : Loop) : F32 := F.ofRat (l.reg .ISL_DAMP_MS) 1000

def deviceInfo (l : Loop) : Text :=
  [1 - l.reg .ISL_FAIL_DIR, 4 * l.reg .CAL_SC_MODE, l.reg .ISL_UNITS] ++ be4 (l.reg .ISL_URV) ++ be4 (l.reg .ISL_LRV)
    ++ be4 l.dampSec ++ [l.wp.toNat, 250, 0]

def execHartCmd15ReadDeviceInfo (q : HartReq) (s : State) : Out := .next (hartRead 15 q deviceInfo s)

def execHartCmd16ReadFan (q : HartReq) (s : State) : Out := .next (hartRead 16 q (fun l => l.three .HART_FAN) s)

/-- What writes bytes into a field of several words. -/
def textSet (p : Param) (d : Text) : List Staged := stageWords p (wordsOf p.info.words (d.take p.textBytes))

def execHartCmd17WriteMessage (q : HartReq) (s : State) : Out :=
  .next (hartRun 17 q (needing 24 fun d => hartWrite (textSet .HART_MESSAGE d) messageOf) s)

def execHartCmd18WriteTagDescriptor (q : HartReq) (s : State) : Out :=
  .next (hartRun 18 q (needing 21 fun d =>
    hartWrite (textSet .HART_TAG d ++ textSet .HART_DESCRIPTOR (d.drop 6) ++ [⟨.HART_DATE, 0, beAt d 18 3⟩])
      tagOf) s)

def execHartCmd19WriteFan (q : HartReq) (s : State) : Out :=
  .next (hartRun 19 q (needing 3 fun d =>
    hartWrite [⟨.HART_FAN, 0, beAt d 0 3⟩] (fun l => l.three .HART_FAN)) s)

def longTagOf (l : Loop) : Text := l.textOf .HART_LONG_TAG

def execHartCmd20ReadLongTag (q : HartReq) (s : State) : Out := .next (hartRead 20 q longTagOf s)

def execHartCmd21ReadIdByLongTag (q : HartReq) (s : State) : Out := .next (hartRun 21 q (byTag .HART_LONG_TAG) s)

def execHartCmd22WriteLongTag (q : HartReq) (s : State) : Out :=
  .next (hartRun 22 q (needing 32 fun d => hartWrite (textSet .HART_LONG_TAG d) longTagOf) s)

def execHartCmd33ReadDeviceVars (q : HartReq) (s : State) : Out :=
  .next (hartRun 33 q (needing 1 (withCodes 4 fun codes l => codes.flatMap fun c => c :: slotBytes l c)) s)

/-- Seconds or milliamperes as thousandths; a number that is not one counts as too large (R203). -/
def thousandths (v lo hi : F32) : Except Nat Nat :=
  if F.lt v lo then .error 4
  else if F.le v hi then .ok (F.round (F.mul v 0x447A0000)).toNat
  else .error 3

def execHartCmd34WriteDamping (q : HartReq) (s : State) : Out :=
  .next (hartRun 34 q (needing 4 (unlessWp fun d s =>
    match thousandths (beAt d 0 4) 0 0x42700000 with
    | .error rc => (s, some (rc, []))
    | .ok v => hartWrite [⟨.ISL_DAMP_MS, 0, v⟩] (fun l => be4 l.dampSec) s)) s)

def rangeData (l : Loop) : Text := [l.reg .ISL_UNITS] ++ be4 (l.reg .ISL_URV) ++ be4 (l.reg .ISL_LRV)

def execHartCmd35WriteRange (q : HartReq) (s : State) : Out :=
  .next (hartRun 35 q (needing 9 (unlessWp fun d s =>
    if hartByte d 0 != s.loop.reg .ISL_UNITS then (s, some (12, []))
    else hartWrite [⟨.ISL_URV, 0, beAt d 1 4⟩, ⟨.ISL_LRV, 0, beAt d 5 4⟩] rangeData s)) s)

/-- A range value at the present PV (R203). -/
def rangeHere (p : Param) (_d : Text) (s : State) : State × HartAns :=
  if s.loop.stale || s.loop.pvFault then (s, some (6, [])) else hartWrite [⟨p, 0, s.loop.y⟩] (fun _ => []) s

def execHartCmd36SetUrv (q : HartReq) (s : State) : Out := .next (hartRun 36 q (unlessWp (rangeHere .ISL_URV)) s)

def execHartCmd37SetLrv (q : HartReq) (s : State) : Out := .next (hartRun 37 q (unlessWp (rangeHere .ISL_LRV)) s)

def execHartCmd38ResetConfigChanged (q : HartReq) (s : State) : Out :=
  .next (hartRun 38 q (fun d s =>
    if 2 ≤ d.length && beAt d 0 2 != s.loop.reg .ISL_CC then (s, some (9, []))
    else
      let s := s.setHart { s.loop.hart with changed := clearBit s.loop.hart.changed q.secondary.toNat }
      (s, some (0, be2 (s.loop.reg .ISL_CC)))) s)

/-- mA as the spec writes it; 0 exits (R139, R203). -/
def execHartCmd40FixedCurrent (q : HartReq) (s : State) : Out :=
  .next (hartRun 40 q (needing 4 fun d s =>
    let v := beAt d 0 4
    let data := fun (l : Loop) => be4 (F.ofRat (l.reg .ISL_FIX_UA) 1000)
    if F.isZero v then hartWrite [⟨.ISL_FIX_UA, 0, 0⟩] data s
    else
      match thousandths v 0x40633333 0x41AC0000 with
      | .error rc => (s, some (if s.loop.wp then 7 else rc, []))
      | .ok ua => hartWrite [⟨.ISL_FIX_UA, 0, ua⟩] data s) s)

/-- The response, then the reset; the start of R138 follows with VISL still there (R203, R213). -/
def execHartCmd42DeviceReset (q : HartReq) (s : State) : Out :=
  .next
    (if s.noLoop || !s.loop.started || !hartFor s.loop 42 q.addr then s
     else
       let s := hartRun 42 q (fun _ s => (s, some (0, []))) s
       resetLoop (ldRaise 0x3B3 [] s))

/-- A trim as a HART command: its response code, and its data where it passes (R205, R206). -/
def hartTrim (op : UnitOp) (below : Bool) (point : F32) (data : Verdict → Loop → Text) (s : State) : State × HartAns :=
  let (s, v) := runUnit .hart none op s
  (s, some (trimCode below point v, if v.1 == 0 then data v s.loop else []))

def execHartCmd43SetPvZero (q : HartReq) (s : State) : Out :=
  .next (hartRun 43 q (fun _ => hartTrim (.zero 0 false) false 0 fun _ _ => []) s)

def execHartCmd44WritePvUnits (q : HartReq) (s : State) : Out :=
  .next (hartRun 44 q (needing 1 (unlessWp fun d s =>
    let u := hartByte d 0
    if u == 0 || u == 250 || 253 < u then (s, some (12, []))
    else hartWrite [⟨.ISL_UNITS, 0, u⟩] (fun l => [l.reg .ISL_UNITS]) s)) s)

/-- A meter reading at a point, in mA (R191, R203); what is no number counts as too large. -/
def meterReading (point : Nat) (d : Text) (s : State) : State × HartAns :=
  let v := beAt d 0 4
  let ua := if F.isFinite v then (F.round (F.mul v 0x447A0000)).toNat else if F.lt v 0 then 0 else 2 ^ 32
  hartTrim (.loop point ua false) (ua < 3000) (F.ofNat (1000 * point)) (fun _ _ => be4 v) s

def execHartCmd45TrimLoopZero (q : HartReq) (s : State) : Out := .next (hartRun 45 q (needing 4 (meterReading 4)) s)

def execHartCmd46TrimLoopGain (q : HartReq) (s : State) : Out := .next (hartRun 46 q (needing 4 (meterReading 20)) s)

def execHartCmd48ReadAdditional (q : HartReq) (s : State) : Out := .next (hartRead 48 q Loop.additional s)

/-- Limits, damping and minimum span are stated for the PV alone. -/
def varInfo (code : Nat) (l : Loop) : Text :=
  [code] ++ unstatedBytes 2 code 3 ++ [((deviceVariable l code).map (·.1)).getD 250]
    ++ (if code == 0 then wideLimits ++ be4 l.dampSec ++ be4 0 else unstatedBytes 5 code 16)
    ++ [classification code, Config.unstated 3 code % 256] ++ unstatedBytes 4 code 4

def execHartCmd54ReadVarInfo (q : HartReq) (s : State) : Out :=
  .next (hartRun 54 q (needing 1 fun d s =>
    if 3 < hartByte d 0 then (s, some (2, [])) else (s, some (0, varInfo (hartByte d 0) s.loop))) s)

def execHartCmd59WritePreambles (q : HartReq) (s : State) : Out :=
  .next (hartRun 59 q (needing 1 fun d =>
    hartWrite [⟨.HART_PREAMBLES, 0, hartByte d 0⟩] (fun l => [l.reg .HART_PREAMBLES])) s)

/-! ## Burst mode (R211) -/

/-- Periods on the wire are in 1/32 ms. -/
def execHartCmd103BurstPeriod (q : HartReq) (s : State) : Out :=
  .next (hartRun 103 q (needing 9 (unlessWp fun d s =>
    if hartByte d 0 != 0 then (s, some (2, []))
    else
      hartWrite [⟨.HART_BURST_PERIOD_MS, 0, beAt d 1 4 / 32⟩]
        (fun l => [0] ++ be4 (32 * l.reg .HART_BURST_PERIOD_MS) ++ (d.drop 5).take 4) s)) s)

def execHartCmd104BurstTrigger (q : HartReq) (s : State) : Out :=
  .next (hartRun 104 q (needing 8 (unlessWp fun d s =>
    if hartByte d 0 != 0 || hartByte d 1 != 0 then (s, some (2, []))
    else (s, some (0, d.take 8)))) s)

def burstConfig (l : Loop) : Text :=
  [l.reg .HART_BURST_EN, l.reg .HART_BURST_CMD] ++ List.replicate 8 250 ++ [0, 1] ++ be2 (l.reg .HART_BURST_CMD)
    ++ be4 (32 * l.reg .HART_BURST_PERIOD_MS) ++ unstatedBytes 5 105 4 ++ [0, 0, 250] ++ be4 0

def execHartCmd105BurstConfig (q : HartReq) (s : State) : Out := .next (hartRead 105 q burstConfig s)

def execHartCmd108BurstCommand (q : HartReq) (s : State) : Out :=
  .next (hartRun 108 q (needing 1 (unlessWp fun d s =>
    if !(fieldInRange ⟨.HART_BURST_CMD, 0, hartByte d 0⟩) || hartByte d 1 != 0 then (s, some (2, []))
    else hartWrite [⟨.HART_BURST_CMD, 0, hartByte d 0⟩] (fun l => [l.reg .HART_BURST_CMD, 0]) s)) s)

def execHartCmd109BurstControl (q : HartReq) (s : State) : Out :=
  .next (hartRun 109 q (needing 1 (unlessWp fun d s =>
    if 1 < hartByte d 0 || hartByte d 1 != 0 then (s, some (2, []))
    else hartWrite [⟨.HART_BURST_EN, 0, hartByte d 0⟩] (fun l => [l.reg .HART_BURST_EN, 0]) s)) s)

/-! ## Device-specific commands (Table 9.6) -/

def loopStatus (l : Loop) : Text :=
  be2 l.status ++ [l.cause] ++ be2 l.feStatus ++ [l.reg .CAL_FORCED, l.hart.novelty, l.hart.refusal] ++ be2 (l.reg .ISL_CC)

def execHartCmd128ReadStatus (q : HartReq) (s : State) : Out := .next (hartRead 128 q loopStatus s)

def feResults (l : Loop) : Text :=
  be4 (l.reg .FE_RESULT) ++ be4 (l.reg .FE_RESULT_Q) ++ be4 (l.get .CAL_R_AUX) ++ be2 (l.reg .FE_EXC_UA) ++ be2 l.fe.aNow
    ++ be2 (l.reg .FE_DC_DIFF_MV) ++ be2 (l.reg .FE_CM_MV)

def execHartCmd129ReadFeResults (q : HartReq) (s : State) : Out := .next (hartRead 129 q feResults s)

/-- The fields of commands 130 and 131 with their bytes. -/
def feLayout : List (Param × Nat) :=
  [(.FE_EXC_FREQ, 1), (.FE_EXC_MV, 2), (.FE_PV_CH, 1), (.FE_PV_MODE, 1), (.FE_PV_GAIN, 1), (.FE_AUX_EN, 1),
   (.FE_AUX_CH, 1), (.FE_AUX_MODE, 1), (.FE_AUX_GAIN, 1), (.FE_RATE, 1), (.FE_FILT, 1), (.FE_IIR_MS, 2),
   (.FE_BO_NA, 1), (.FE_FAULT_ACT, 1), (.FE_FAULT_N, 1)]

def readLayout (f : List (Param × Nat)) (l : Loop) : Text := f.flatMap fun (p, n) => beBytes n (l.reg p)

def writeLayout : List (Param × Nat) → Text → List Staged
  | [], _ => []
  | (p, n) :: fs, d => ⟨p, 0, beNat (d.take n)⟩ :: writeLayout fs (d.drop n)

def execHartCmd130ReadFeConfig (q : HartReq) (s : State) : Out := .next (hartRead 130 q (readLayout feLayout) s)

def execHartCmd131WriteFeConfig (q : HartReq) (s : State) : Out :=
  .next (hartRun 131 q (needing 17 fun d => hartWrite (writeLayout feLayout d) (readLayout feLayout)) s)

/-- An operation that takes HART.OWNER_EN (R207), after write-protect. -/
def ownerOnly (wants : Bool) (run : State → State × HartAns) (s : State) : State × HartAns :=
  if s.loop.wp then (s, some (7, []))
  else if wants && s.loop.reg .HART_OWNER_EN == 0 then (s, some (16, [])) else run s

def trimData (v : Verdict) : Text := be4 (verdictF v "meas") ++ be4 (verdictF v "pp")

def execHartCmd132ZeroTrim (q : HartReq) (s : State) : Out :=
  .next (hartRun 132 q (needing 5 fun d =>
    let force := hartByte d 4 != 0
    ownerOnly force (hartTrim (.zero (beAt d 0 4) force) false (beAt d 0 4)
      fun v l => trimData v ++ be4 (l.reg .CAL_U_OFS))) s)

def execHartCmd133SpanTrim (q : HartReq) (s : State) : Out :=
  .next (hartRun 133 q (needing 5 fun d =>
    let force := hartByte d 4 != 0
    ownerOnly force (hartTrim (.span (beAt d 0 4) force) false (beAt d 0 4)
      fun v l => trimData v ++ be4 (l.reg .CAL_U_SPAN) ++ be4 (l.reg .CAL_U_OFS))) s)

def execHartCmd134PhaseTrim (q : HartReq) (s : State) : Out :=
  .next (hartRun 134 q (needing 6 (unlessWp fun d s =>
    let pathB := hartByte d 0 == 1
    let force := hartByte d 5 != 0
    if 1 < hartByte d 0 then (s, some (2, []))
    else
      ownerOnly force (hartTrim (.phase pathB (beAt d 1 4) force) false (beAt d 1 4)
        fun v l => trimData v ++ be2 (l.reg (if pathB then .CAL_U_PH_B else .CAL_U_PH_A))) s)) s)

def scalingData (l : Loop) : Text :=
  [l.reg .CAL_SC_MODE, l.reg .CAL_SC_N] ++ be4 (l.reg .CAL_SC_GAIN) ++ be4 (l.reg .CAL_SC_OFS) ++ be4 (l.reg .CAL_NOM_SPAN)
    ++ be4 (l.reg .CAL_STAB_LIM)

def execHartCmd135ReadScaling (q : HartReq) (s : State) : Out := .next (hartRead 135 q scalingData s)

def scalingLayout : List (Param × Nat) :=
  [(.CAL_SC_MODE, 1), (.CAL_SC_GAIN, 4), (.CAL_SC_OFS, 4), (.CAL_NOM_SPAN, 4), (.CAL_STAB_LIM, 4)]

def execHartCmd136WriteScaling (q : HartReq) (s : State) : Out :=
  .next (hartRun 136 q (needing 17 fun d => hartWrite (writeLayout scalingLayout d) scalingData) s)

/-- Save, restore or clear (R207). -/
def calAction (d : Text) (s : State) : State × HartAns :=
  let run := fun (op : UnitOp) (s : State) =>
    let (s, v) := runUnit .hart none op s
    let l := s.loop
    (s, some (hartCode [] false v,
      if v.1 == 0 then [l.saved.isSome.toNat, l.reg .CAL_FORCED] ++ be2 (l.reg .ISL_CC) else []))
  match hartByte d 0 with
  | 0 => run .save s
  | 1 => ownerOnly true (run .restore) s
  | 2 => if 5 < hartByte d 1 then (s, some (2, [])) else ownerOnly true (run (.clear (hartByte d 1 + 1))) s
  | _ => (s, some (2, []))

def execHartCmd137CalSetAction (q : HartReq) (s : State) : Out := .next (hartRun 137 q (needing 2 (unlessWp calAction)) s)

def supplyData (l : Loop) : Text :=
  be2 (l.reg .ISL_DRAW_UA) ++ [l.aux.toNat, l.reg .ISL_OSC_TRIM] ++ be4 (l.reg .ISL_MTP_COMMITS) ++ be2 l.buf.length
    ++ be4 (l.get .ISL_SEQ) ++ be2 (l.reg .ISL_LOOP_MEAS_UA)

def execHartCmd138ReadSupply (q : HartReq) (s : State) : Out := .next (hartRead 138 q supplyData s)

def failLayout : List (Param × Nat) :=
  [(.ISL_FAIL_DIR, 1), (.ISL_HOLD_MAX_MS, 2), (.ISL_MAIN_TIMEOUT_MS, 2), (.ISL_FIX_TIMEOUT_S, 2), (.ISL_REC_DIV, 2),
   (.ISL_PV_SRC, 1)]

def execHartCmd139WriteFailSettings (q : HartReq) (s : State) : Out :=
  .next (hartRun 139 q (needing 10 fun d => hartWrite (writeLayout failLayout d) (readLayout failLayout)) s)

/-- R206: as ISL.SYNC without `at`; LOOP_WP never refuses it. -/
def execHartCmd140SyncReset (q : HartReq) (s : State) : Out :=
  .next (hartRun 140 q (fun _ s =>
    let s := syncNow s
    (s, some (0, [s.loop.get .FE_S] ++ be2 (s.loop.get .FE_SETTLE_MS)))) s)

/-- The command numbers of Tables 9.3 and 9.6. -/
def hartCommands : List Nat :=
  [0, 1, 2, 3, 6, 7, 8, 9, 11, 12, 13, 14, 15, 16, 17, 18, 19, 20, 21, 22, 33, 34, 35, 36, 37, 38, 40, 42, 43, 44, 45,
   46, 48, 54, 59, 103, 104, 105, 108, 109, 128, 129, 130, 131, 132, 133, 134, 135, 136, 137, 138, 139, 140]

/-- R199, R203, R206: a number that neither table lists returns 64. -/
def execHartUnsupportedCommand (cmd : Nat) (q : HartReq) (s : State) : Out :=
  .next (if hartCommands.any (· == cmd) then s else hartRun cmd q (fun _ s => (s, some (64, []))) s)

/-- The data of the burst message (R211); command 9 carries the four device variables. -/
def burstData (cmd : Nat) (l : Loop) : Text :=
  match cmd with
  | 1 => l.reg .ISL_UNITS :: be4 l.y
  | 2 => currentPercent l
  | 3 => dynamicVars l
  | 9 => varsStatus [0, 1, 2, 3] l
  | 48 => l.additional
  | _ => loopStatus l

/-- R211: the burst response, its master bit alternating. -/
def execHartBurstSend (s : State) : Out :=
  .next (onLoop (fun s =>
    let l := s.loop
    if l.reg .HART_BURST_EN == 0 then s
    else
      let cmd := l.reg .HART_BURST_CMD
      let sec_ := l.hart.burstBit
      let s := s.emit (.hart (addressBytes l (.long l.longAddr) sec_ ++ [cmd, (burstData cmd l).length + 2, 0, l.deviceStatus sec_ (cmd == 48)]
        ++ burstData cmd l))
      s.setHart { s.loop.hart with burstBit := !sec_ }) s)

/-- R212, R213: a frame that fails its parity or checksum; EV 0x3B2 at most once per second. -/
def execHartFrameError (s : State) : Out :=
  .next (onLoop (fun s =>
    let l := s.loop
    let s := s.setLoop (l.setReg .HART_FRAME_ERRORS (sat 16 (l.reg .HART_FRAME_ERRORS + 1)))
    let h := s.loop.hart
    let due := h.frameAt.elim true fun t => t + sec 1 ≤ s.now
    if due then
      ldRaise 0x3B2 [("count", .n (h.frameN + 1))] (s.setHart { h with frameAt := some s.now, frameN := 0 })
    else
      let s := s.setHart { h with frameN := h.frameN + 1 }
      if s.bridge.link == 2 then suppressed 0x3B2 s else s) s)

end Sys2Proof.Machine
end

