-- ==== Sys2Proof/Machine/Memory.lean ====
section
/-! DEFINITION. DRAM retraining and patrol, NAND retirement, relocation, checkpoints, the power-loss reserve
(R269, R277–R289, R295). -/

namespace Sys2Proof.Machine

/-! ## DRAM -/

/-- R269: a retrain of a channel that stage 2 of Sunrise has trained; one failure is repeated and told, a second resets PD1 to PD10 as RESET_N does. -/
def execDramRetrain (ch fails : Nat) (s : State) : Out :=
  .next
    (if 15 < ch || !s.firmware || fails == 0 || (s.mem.sunrise.stage != 0 && s.mem.sunrise.stage ≤ 2) then s
     else
       let s := raise (0x280 + 4 * ch + 2) [("ch", .n ch)] s
       if fails == 1 then s else resetToDawn 1 6 (raise (0x280 + 4 * ch + 3) [("ch", .n ch)] s))

/-- Corrected errors of a channel in the present hour: the hour and the count. -/
def hourGet (l : List (Nat × Nat × Nat)) (ch hour : Nat) : Nat :=
  match l.find? fun x => x.1 == ch with
  | some (_, h, n) => if h == hour then n else 0
  | none => 0

def hourPut (l : List (Nat × Nat × Nat)) (ch hour n : Nat) : List (Nat × Nat × Nat) :=
  (ch, hour, n) :: l.filter fun x => x.1 != ch

/-- R278: corrected errors of a channel; 64 within an hour are told, once in that hour. -/
def countCorrected (ch n : Nat) (s : State) : State :=
  let hour := s.now / sec 3600
  let old := hourGet s.mem.ceHour ch hour
  let s := { s with mem := { s.mem with ceHour := hourPut s.mem.ceHour ch hour (old + n) } }
  let s := s.incReg .DRAM_CE_COUNT n
  if old < 64 && 64 ≤ old + n then raise (0x280 + 4 * ch) [("ch", .n ch), ("count", .n (old + n))] s else s

/-- The words of region= (Table 19.5b). -/
def regionWord : Nat → String
  | 1 => "SYS" | 2 => "DIRTY" | 3 => "INDEX" | 4 => "META" | 5 => "SKETCH" | _ => "CACHE"

/-- A region in which errors are detected (R280). -/
def detected (s : State) (region : Nat) : Bool :=
  if region == 5 then s.reg .DRAM_ECC_SKETCH == 1 else if region == 6 then s.reg .DRAM_ECC_CACHE == 1 else true

/-- R279: a block of 32 bytes of a chunk takes no part in the batch in progress, whose queries complete degraded: the slots
whose sketch or tag lies in it are not seen. -/
def loseBlock (e : DramErr) (s : State) : State :=
  match s.sweep.running, e.held with
  | some b, some (n, j) =>
    match s.coll b.coll with
    | none => s
    | some c =>
      if n != b.coll || (chunkGet c.chunks j).isNone then s
      else
        let lost := fun (x : Seen) => x.main && c.chunkOf x.loc == j && c.inBlock e (locSlot x.loc % c.e)
        let seen := b.seen.filter fun x => !lost x
        { s with sweep := { s.sweep with running := some { b with seen := seen, degraded := true } } }
  | _, _ => s

/-- R279: an uncorrectable error is met: counted and told for its channel, then handled by region as Table 12.3 states. The
structures of INDEX and META are rebuilt before they are used again; a cached record is discarded. -/
def uncorrectable (e : DramErr) (s : State) : State :=
  let ch := errChannel s e
  let s := { s with mem := { s.mem with ue := s.mem.ue.filter fun x => x != e } }
  let s := raise (0x280 + 4 * ch + 1) [("ch", .n ch), ("region", .c e.region (regionWord e.region))] (s.incReg .DRAM_UE_COUNT)
  match e.region with
  | 1 | 2 => resetToDawn 1 6 s
  | 3 | 4 => { s with mem := { s.mem with
      repair := if s.mem.repair.any (· == e.region) then s.mem.repair else s.mem.repair ++ [e.region] } }
  | 5 => loseBlock e s
  | _ => { s with sweep := { s.sweep with cache := s.sweep.cache.filter fun x => e.held != some x } }

/-- The faults that have arisen in memory cells: errors anywhere in the DRAM, which wait for a read that meets them (log entry
117), and faults of the associative array (log entry 122). -/
def arise (f : CellFaults) (s : State) : State :=
  let s := f.upsets.foldl applyUpset s
  { s with mem := { s.mem with ue := s.mem.ue ++ f.errs.filter fun e => !(s.mem.ue.any (· == e)) } }

/-- R277, R278: the patrol has read a channel: what it could correct, and the uncorrectable errors on it. The patrol pauses while
the throttle level is 16 or more. -/
def execDramPatrolScrub (ch : Nat) (found : CellFaults) (s : State) : Out :=
  .next
    (if 15 < ch || !s.inService then s
     else
       let s := arise found s
       if 16 ≤ s.day.t then s
       else
         let s := if found.corrected == 0 then s else countCorrected ch found.corrected s
         (s.mem.ue.filter fun e => errChannel s e == ch && detected s e.region).foldl (fun s e => uncorrectable e s) s)

/-- R279: INDEX or META has been rebuilt from NAND. -/
def execDramStructureRebuilt (region : Nat) (s : State) : Out :=
  .next { s with mem := { s.mem with repair := s.mem.repair.filter (· != region) } }

/-! ## NAND -/

/-- The NAND works: firmware runs, or the flush of a power-fail transition does. -/
def nandRuns (s : State) : Bool := s.firmware || s.pwr.failing

/-- R284: a target is retired; with the last of its channel n_ch falls, and the dirty limit with it. A flush that has no channel
left ends short (R56). -/
def retireTarget (ch tgt : Nat) (s : State) : State :=
  if !(s.mem.targets.any fun t => t.ch == ch && t.tgt == tgt && t.used) then s
  else
    let s := { s with mem := { s.mem with
      targets := s.mem.targets.map fun t => if t.ch == ch && t.tgt == tgt then { t with used := false, retired := true } else t } }
    let s := raise (0x200 + 4 * ch + 2) [("ch", .n ch), ("tgt", .n tgt)] s
    let s := if s.mem.targets.any fun t => t.ch == ch && t.used then s else raise (0x200 + 4 * ch + 3) [("ch", .n ch)] s
    if s.inService then recomputeLimit s else if s.pwr.failing && nCh s == 0 then endFlush false s else s

/-- KV.WEAR_PCT of a mean erase count (R382). -/
def wearPct (mean endurance : Nat) : Nat := if endurance == 0 then 0 else mean * 100 / endurance

/-- R382: the erase counts of the good blocks; wear that reaches 80% or 100% is told. -/
def noteWear (mean top : Nat) (s : State) : State :=
  let old := wearPct s.kv.eraseMean s.kv.endurance
  let new := wearPct mean s.kv.endurance
  let s := { s with kv := { s.kv with eraseMean := mean, eraseMax := top } }
  let s := if old < 80 && 80 ≤ new then raise 0x257 [("pct", .n new)] s else s
  if old < 100 && 100 ≤ new then raise 0x258 [("pct", .n new)] s else s

/-- What has become unreadable on NAND, which a read of it will find (R283, R376; log entry 117). -/
def applyDecay (s : State) (d : Decay) : State :=
  match d with
  | .record ns key media =>
    let f := fun (e : KeyEnt) => if e.ns == ns && e.key == key then { e with media := media } else e
    { s with kv := { s.kv with keys := s.kv.keys.map f, disk := s.kv.disk.map f } }
  | .slot coll idx =>
    s.bothColls coll fun c => { c with slots := c.slots.map fun x => if x.idx == idx then { x with ok := false } else x }

/-- R284, R382: a program or erase ends, the good blocks' mean and highest erase counts then; a failure retires its
block, and more than 5% of its blocks the target. -/
def execNandOperationComplete (ch tgt : Nat) (failed : Bool) (found : NandFound) (mean top : Nat) (s : State) : Out :=
  .next
    (if !nandRuns s then s else
     let s := noteWear mean top (found.decay.foldl applyDecay s)
     if !failed || !(s.mem.targets.any fun t => t.ch == ch && t.tgt == tgt && t.used) then s
     else
       let s := { s with mem := { s.mem with
         targets := s.mem.targets.map fun t => if t.ch == ch && t.tgt == tgt then { t with grown := t.grown + 1 } else t } }
       let s := raise (0x200 + 4 * ch + 1) [("ch", .n ch), ("tgt", .n tgt), ("block", .n found.block)] s
       if s.mem.targets.any fun t => t.ch == ch && t.tgt == tgt && t.blocks * 5 < t.grown * 100 then retireTarget ch tgt s
       else s)

/-- R283: a block that needed retries or soft decode has been rewritten elsewhere and erased; nothing of it is seen
but the bytes programmed. -/
def execBlockRelocation (bytes : Nat) (s : State) : Out := .next (if nandRuns s then noteWaf 0 bytes s else s)

/-- R284: no answer to READ STATUS ENHANCED for 100 ms. -/
def execNandTargetTimeout (ch tgt : Nat) (s : State) : Out := .next (if nandRuns s then retireTarget ch tgt s else s)

/-! ## Checkpoints and the reserve -/

/-- R295. -/
def execCheckpointDue (s : State) : Out :=
  .next
    (if s.inService && !s.mem.ckptBusy then
       { s with mem := { s.mem with ckptBusy := true, ckptAt := s.now, ckptBytes := s.mem.logBytes } }
     else s)

/-- R295: the checkpoint is in force; the log written before it began needs no replay. -/
def execCheckpointComplete (ms : Nat) (s : State) : Out :=
  .next
    (if s.mem.ckptBusy then
       raise 0x245 [("ms", .n ms)]
         { s with mem := { s.mem with ckptBusy := false, logBytes := s.mem.logBytes - s.mem.ckptBytes, ckptBytes := 0 } }
     else s)

/-- plp_mib that a dirty limit in KiB asks for (R288): the limit and one block for each target in use, in whole MiB. -/
def reserveFor (s : State) (kib : Nat) : Nat :=
  let n := (s.mem.targets.filter (·.used)).length
  (kib * 1024 + n * s.mem.blockBytes + 1048575) / 1048576

/-- R289: the reserve stands again; the dirty limit is raised. -/
def execPlpReserveRebuilt (s : State) : Out :=
  .next
    (if s.mem.plpOk || !s.firmware then s
     else
       let s := { s with mem := { s.mem with plpOk := true } }
       recomputeLimit (s.setReg .FLASH_PLP_MIB (sat 16 (reserveFor s (limitNow s / 1024)))))

end Sys2Proof.Machine
end

