-- ==== Sys2Proof/Machine/Net.lean ====
section
/-! DEFINITION. The Ethernet ports, addressing, handshakes and sessions, and the credential verbs (chapter 13). -/

namespace Sys2Proof.Machine

/-! ## Ports -/

/-- The event of Table 13.5 with index i on a port. -/
def portEv (p i : Nat) (fields : List (String × Val)) (s : State) : State := raise (0x100 + 64 * p + i) fields s

/-- PD3 is on (R306): links, addressing and PTP run. -/
def netOn (s : State) : Bool := m3to9.any (· == s.lineMode)

/-- Sessions and handshakes exist (R77). -/
def serving (s : State) : Bool := m4to9.any (· == s.lineMode)

/-- A message of the network block on a port; without a link nothing leaves. -/
def netSend (p : Nat) (what : String) (args : List Nat) (s : State) : State :=
  if (s.port p).link then portSend p (.net p what args) s else s

/-- The MAC address of a port: that of port 1 is that of port 0 plus 1 (Table 13.1). -/
def macOf (s : State) (p : Nat) : Nat := s.sec.otp.ident.mac0 + p

/-- The modified EUI-64 of a MAC address: the interface identifier of R302. -/
def eui64 (mac : Nat) : Nat :=
  let hi := mac / 2 ^ 24
  let hi := if bitAt hi 17 then clearBit hi 17 else setBit hi 17
  hi * 2 ^ 40 + 0xFFFE * 2 ^ 24 + mac % 2 ^ 24

/-- A 128-bit address from its register: the word at the lowest address comes first (Table 13.7). -/
def swapWords (v : Nat) : Nat :=
  bitsOf v 31 0 * 2 ^ 96 + bitsOf v 63 32 * 2 ^ 64 + bitsOf v 95 64 * 2 ^ 32 + bitsOf v 127 96

/-- A frame or fragment dropped, and one that fails R300 (R300, R305, R306). -/
def rxDrop (p n : Nat) (s : State) : State :=
  raiseCount (0x100 + 64 * p + 8) [] (s.incReg .NET_P_RX_DROPS n p)

def rxError (p : Nat) (s : State) : State :=
  raiseCount (0x100 + 64 * p + 9) [] (s.incReg .NET_P_RX_ERRORS 1 p)

/-! ## Addresses (R302–R304) -/

def Port.addr (x : Port) (v6 : Bool) : AddrSt := if v6 then x.v6 else x.v4

def Port.setAddr (x : Port) (v6 : Bool) (a : AddrSt) : Port := if v6 then { x with v6 := a } else { x with v4 := a }

def addrMode (s : State) (p : Nat) (v6 : Bool) : Nat := s.reg (if v6 then .NET_P_V6_MODE else .NET_P_V4_MODE) p

/-- A probe of an address (ARP, or duplicate address detection) begins (R303). -/
def startProbe (p : Nat) (v6 : Bool) (a : Nat) (s : State) : State :=
  let x := s.port p
  netSend p (if v6 then "dad_probe" else "arp_probe") [a]
    (s.setPort p (x.setAddr v6 { x.addr v6 with probe := some a, conflict := false }))

/-- How a port begins to obtain an address in the mode in force (R302, R303). -/
def startAddr (p : Nat) (v6 : Bool) (s : State) : State :=
  let x := s.port p
  let dhcp := fun (s : State) =>
    netSend p (if v6 then "dhcp6_solicit" else "dhcp4_discover") []
      (s.setPort p (x.setAddr v6 { AddrSt.reset with dhcp := .selecting }))
  let fixed := if v6 then swapWords (s.reg .NET_P_V6_ADDR p) else s.reg .NET_P_V4_ADDR p
  match addrMode s p v6 with
  | 0 => s
  | 1 => if fixed == 0 then s else startProbe p v6 fixed s
  | 2 => if v6 then (match x.prefix6 with | some f => startProbe p true (f * 2 ^ 64 + eui64 (macOf s p)) s | none => s) else dhcp s
  | _ => dhcp s

/-- An address is given up, and where it was in use the event tells why: 1 lease, 2 nak, 3 conflict, 4 config
(Table 19.5b). -/
def loseAddr (p : Nat) (v6 : Bool) (why : Nat) (s : State) : State :=
  let x := s.port p
  let a := (x.addr v6).now_
  let s := s.setPort p (x.setAddr v6 AddrSt.reset)
  if a == 0 then s
  else
    portEv p (if v6 then 6 else 4)
      [("addr", .ip v6 a), ("why", .c why (["lease", "nak", "conflict", "config"].getD (why - 1) ""))] s

/-- The address probed is found in use, or the one in use is (R303): a client of DHCP declines it and starts again, a
static address is tried again after 60 s. -/
def conflictAt (p : Nat) (v6 : Bool) (a : Nat) (s : State) : State :=
  let m := addrMode s p v6
  let s := portEv p 7 [("addr", .ip v6 a)] (loseAddr p v6 3 s)
  if m == 1 then
    let x := s.port p
    s.setPort p (x.setAddr v6 { x.addr v6 with conflict := true })
  else if m == 3 || !v6 then startAddr p v6 (netSend p (if v6 then "dhcp6_decline" else "dhcp4_decline") [a] s)
  else s

/-- R303: a probe ends without conflict. The port takes the address and announces it (R304). -/
def execAddressProbeComplete (port : Nat) (v6 : Bool) (s : State) : Host.Outcome State Fault Refusal :=
  .next
    (let x := s.port port
     match (x.addr v6).probe with
     | some a =>
       if netOn s && port < 2 && x.link then
         let st := x.addr v6
         let s := s.setPort port (x.setAddr v6
           { st with now_ := a, probe := none, dhcp := if st.dhcp == .requesting then .bound else st.dhcp })
         portEv port (if v6 then 5 else 3) [("addr", .ip v6 a)]
           (netSend port (if v6 then "unsolicited_na" else "gratuitous_arp") [a] s)
       else s
     | none => s)

/-- R303: 60 s after a static address conflicted. -/
def execAddressConflictRetry (port : Nat) (s : State) : Host.Outcome State Fault Refusal :=
  .next
    (if netOn s && port < 2 && (s.port port).link then
       [false, true].foldl (fun s v6 =>
         if ((s.port port).addr v6).conflict && addrMode s port v6 == 1 then startAddr port v6 s else s) s
     else s)

/-- Closes every session, and every command connection, of a port (R326). -/
def closePort (p : Nat) (s : State) : State :=
  let s := ((s.sess.filter (·.port == p)).map (·.num)).foldl (fun s n => closeSession 4 n s) s
  ((s.net.tls.filter (·.port == p)).map (·.num)).foldl (fun s c => closeTls c s) s

/-- A lease ends: the address is released, and sessions held for the link close (R303, R326). -/
def leaseOver (p : Nat) (v6 : Bool) (why : Nat) (s : State) : State :=
  let s := loseAddr p v6 why s
  if (s.port p).link then startAddr p v6 s
  else if (s.port p).holding then closePort p s
  else s

/-- R302, R303: a message of a DHCP server. The answer to the first request leads to the probe; one to a later request
renews the lease; a refusal takes the address away at once. -/
def execDhcpMessage (port : Nat) (m : DhcpMsg) (s : State) : Host.Outcome State Fault Refusal :=
  .next
    (let x := s.port port
     let st := x.addr m.v6
     let client := if m.v6 then addrMode s port true == 3 else addrMode s port false == 2
     let asked := st.dhcp == .requesting || st.dhcp == .renewing || st.dhcp == .rebinding
     let nak := if m.v6 then m.kind == 7 && m.lease == 0 else m.kind == 6
     if !(netOn s && port < 2 && x.link && client) then s
     else if st.dhcp == .selecting && m.kind == 2 then
       netSend port (if m.v6 then "dhcp6_request" else "dhcp4_request") [m.addr]
         (s.setPort port (x.setAddr m.v6 { st with dhcp := .requesting }))
     else if asked && nak then leaseOver port m.v6 2 s
     else if asked && m.kind == (if m.v6 then 7 else 5) then
       let st := { st with leaseEnd := some (s.now + sec m.lease) }
       let x := if m.v6 then x else { x with gateway := m.router }
       if st.now_ == m.addr then s.setPort port (x.setAddr m.v6 { st with dhcp := .bound })
       else startProbe port m.v6 m.addr (s.setPort port (x.setAddr m.v6 { st with dhcp := .requesting }))
     else s)

/-- R303: T1 renews, T2 rebinds, the end of the lease releases. -/
def execDhcpTimer (port : Nat) (v6 : Bool) (which : Nat) (s : State) : Host.Outcome State Fault Refusal :=
  .next
    (let x := s.port port
     let st := x.addr v6
     let req := if v6 then (if which == 1 then "dhcp6_renew" else "dhcp6_rebind") else "dhcp4_request"
     if !(netOn s && port < 2 && st.leaseEnd.isSome) then s
     else if which == 1 then
       if st.dhcp == .bound then netSend port req [st.now_] (s.setPort port (x.setAddr v6 { st with dhcp := .renewing })) else s
     else if which == 2 then
       if st.dhcp == .bound || st.dhcp == .renewing then
         netSend port req [st.now_] (s.setPort port (x.setAddr v6 { st with dhcp := .rebinding }))
       else s
     else leaseOver port v6 1 s)

/-- R302: the default router, and the prefix that SLAAC takes: the first advertised with the A flag. -/
def execRouterAdvertisement (port router pfx : Nat) (aFlag : Bool) (s : State) : Host.Outcome State Fault Refusal :=
  .next
    (let x := s.port port
     if !(netOn s && port < 2 && x.link && addrMode s port true != 0) then s
     else
       let first := addrMode s port true == 2 && aFlag && x.prefix6.isNone
       let s := s.setPort port { x with router := router, prefix6 := if first then some pfx else x.prefix6 }
       if first then startAddr port true s else s)

/-! ## Received frames (R300, R303–R306, R320) -/

/-- Multicast MAC addresses a port has joined for neighbour discovery and PTP (R300, R324). -/
def joined (s : State) (p : Nat) : List Nat :=
  let x := s.port p
  let solicited := fun (a : Nat) => 0x3333FF000000 + a % 2 ^ 24
  let own := [x.v6.now_, x.v6.probe.getD 0].filter (· != 0)
  (if addrMode s p true == 0 then [] else [0x333300000001, solicited (macOf s p)] ++ own.map solicited)
    ++ (match s.reg .NET_P_PTP p with | 1 => [0x01005E000181] | 2 => [0x333300000181] | _ => [])

/-- The tests of R300. -/
def frameOk (s : State) (p : Nat) (f : Frame) : Bool :=
  let vlan := s.reg .NET_P_VLAN p
  f.fcs && f.len ≤ s.reg .NET_P_MTU p + (if vlan == 0 then 18 else 22)
    && f.vid == (if vlan == 0 then none else some vlan)
    && (f.dst == macOf s p || f.dst == 0xFFFFFFFFFFFF || (joined s p).any (· == f.dst))

/-- A confirmed neighbour (R304): 256 entries for each cache, the one used longest ago gives way. -/
def confirm (p : Nat) (v6 : Bool) (addr mac : Nat) (s : State) : State :=
  let x := s.port p
  let rest := x.neigh.filter fun n => !(n.addr == addr && n.v6 == v6)
  let same := rest.filter (·.v6 == v6)
  let rest :=
    if same.length < 256 then rest
    else match same.foldl (fun (m : Option Neigh) n => match m with | some k => if n.used < k.used then some n else m | none => some n) none with
      | some old => rest.filter fun n => !(n.addr == old.addr && n.v6 == v6)
      | none => rest
  s.setPort p { x with neigh := rest ++ [⟨addr, mac, s.now, v6⟩] }

/-- One of the 100 echo replies and unreachables of a second (R306). -/
def limited (p : Nat) (send : State → State) (s : State) : State :=
  let x := s.port p
  let t := s.now / sec 1
  let n := if x.echoAt == t then x.echoN else 0
  if n < 100 then send (s.setPort p { x with echoAt := t, echoN := n + 1 }) else rxDrop p 1 s

/-- ARP or neighbour discovery: another sender of the port's own address is a conflict; a question for an address in
use is answered; what a sender says of itself confirms it (R303, R304). -/
def netResolve (p : Nat) (v6 ask : Bool) (target sender mac : Nat) (s : State) : State :=
  let st := (s.port p).addr v6
  let own := fun (a : Nat) => a != 0 && (a == st.now_ || st.probe == some a)
  if own sender && mac != macOf s p then conflictAt p v6 sender s
  else
    let s := if sender == 0 then s else confirm p v6 sender mac s
    if ask && target != 0 && target == st.now_ then netSend p (if v6 then "neighbour_advertisement" else "arp_reply") [target, mac] s
    else s

/-- A fragment (R305): datagrams of 18,432 bytes at most, 64 of them in reassembly. -/
def reassemble (p ident at_ len : Nat) (last : Bool) (s : State) : State :=
  let x := s.port p
  let rest := x.reasm.filter (·.ident != ident)
  let r := (x.reasm.find? (·.ident == ident)).getD ⟨ident, 0, 0, none⟩
  if r.frags == 0 && 64 ≤ rest.length then rxDrop p 1 s
  else if 18432 < at_ + len then rxDrop p (r.frags + 1) (s.setPort p { x with reasm := rest })
  else
    let r := { r with frags := r.frags + 1, got := r.got + len, total := if last then some (at_ + len) else r.total }
    if r.total == some r.got then s.setPort p { x with reasm := rest } else s.setPort p { x with reasm := rest ++ [r] }

/-- The session's record size follows a smaller path MTU, down to 576 or 1,280 bytes (R305). -/
def lowerMtu (p client mtu : Nat) (s : State) : State :=
  match s.sess.find? fun x => x.port == p && x.client == client with
  | none => s
  | some x =>
    let m := max mtu (if x.v6 then 1280 else 576)
    if m < x.mtu then portEv p 11 [("mtu", .n m)] (s.setSess { x with mtu := m }) else s

/-- What an accepted frame does. Handshakes, records, DHCP, Router Advertisements and PTP pass up and come as commands
of their own. -/
def takePacket (p : Nat) (k : Packet) (s : State) : State :=
  match k with
  | .arp ask target sender mac => netResolve p false ask target sender mac s
  | .nd ask target sender mac => netResolve p true ask target sender mac s
  | .echo v6 target =>
    let a := ((s.port p).addr v6).now_
    if a != 0 && target == a then limited p (netSend p "echo_reply" [target]) s else s
  | .tooBig client mtu => lowerMtu p client mtu s
  | .fragment ident at_ len last => reassemble p ident at_ len last s
  | .udp port client hello =>
    if port == s.reg .NET_DKP_PORT && serving s then
      if hello || s.sess.any (fun x => x.port == p && x.client == client) then s
      else raiseCount 0x188 [] (s.incReg .NET_NOSESS_DROPS)
    else if port ∈ [319, 320, 68, 546] then s
    else limited p (netSend p "port_unreachable" [port]) s
  | .tcp port =>
    if port == s.reg .NET_CMD_PORT && serving s then s else netSend p "rst" [port] s
  | .ptpOther => if s.reg .CLK_PTP_EN == 1 && s.reg .NET_P_PTP p != 0 then s.incReg .NET_PTP_BAD else s
  | .other => s

/-- R300: a frame is tested, counted where it is dropped, and taken. -/
def execEthernetFrameReceived (port : Nat) (f : Frame) (s : State) : Host.Outcome State Fault Refusal :=
  .next
    (if !(netOn s && port < 2 && (s.port port).link) then s
     else
       let fec := s.reg .NET_P_SPEED port == 1 && s.reg .NET_P_FEC port == 1
       let s :=
         if fec && 0 < f.uncorr then
           raiseLimited (0x102 + 64 * port) (sec 1) (fun n => [("count", .n (max n f.uncorr))])
             (s.incReg .NET_P_FEC_UNCORR f.uncorr port)
         else s
       if f.full then rxDrop port 1 s
       else if !frameOk s port f then rxError port s
       else takePacket port f.packet s)

/-- R304: an entry goes 60 s after its last confirmation. -/
def execNeighbourEntryAge (port addr : Nat) (s : State) : Host.Outcome State Fault Refusal :=
  .next
    (if netOn s && port < 2 then
       s.setPort port { s.port port with neigh := (s.port port).neigh.filter fun n => !(n.addr == addr && n.used + sec 60 ≤ s.now) }
     else s)

/-- R305: a reassembly of 1 s is abandoned; its fragments are dropped (R300). -/
def execReassemblyTimeout (port ident : Nat) (s : State) : Host.Outcome State Fault Refusal :=
  .next
    (let x := s.port port
     match x.reasm.find? (·.ident == ident) with
     | some r => rxDrop port r.frags (s.setPort port { x with reasm := x.reasm.filter (·.ident != ident) })
     | none => s)

/-! ## PAUSE (R301) -/

/-- Beats of one PAUSE quantum of 512 bit times, in hundredths. -/
def quantumBeats (s : State) (p : Nat) : Nat := if s.reg .NET_P_SPEED p == 1 then 3072 else 7680

/-- Beats by which PAUSE has held the transmitter up to now: the holds counted and the last one (NET.Pn_PAUSE_MS). -/
def Port.paused (x : Port) (t : Nat) : Nat :=
  x.pausedBeats + sumNat ((x.holds.filter fun h => h.2 == x.pauseUntil).map fun h => min h.2 t - h.1)

/-- R301: a PAUSE frame replaces the hold in force by its own. 100 ms of holds within 200 ms raise the pause event, and
the window starts again. -/
def execPauseFrame (port quanta : Nat) (s : State) : Host.Outcome State Fault Refusal :=
  .next
    (let x := s.port port
     if !(netOn s && port < 2 && x.link) then s
     else
       let now := s.now
       let cut := x.holds.map fun h => (h.1, min h.2 now)
       let recent := (cut.filter fun h => now < h.2 + ms 200).map fun h => (max h.1 (now - ms 200), h.2)
       let total := sumNat (recent.map fun h => h.2 - h.1)
       let until_ := now + min quanta 65535 * quantumBeats s port / 100
       let s := s.setPort port
         { x with pauseUntil := until_, holds := (if ms 100 ≤ total then [] else recent) ++ [(now, until_)], pausedBeats := x.paused now }
       let s := flushPort s port
       if ms 100 ≤ total then portEv port 10 [("ms", .n (total / ms 1))] s else s)

/-! ## Links (R299, R326) -/

/-- R326: a link comes up. Sessions held for it go on; addresses not yet held are sought. -/
def execLinkUp (port : Nat) (s : State) : Host.Outcome State Fault Refusal :=
  .next
    (let x := s.port port
     if !(netOn s && port < 2 && !x.link && s.reg .NET_P_EN port == 1) then s
     else
       let s := s.setPort port { x with link := true, holding := false, holds := [], pauseUntil := 0, pausedBeats := x.paused s.now }
       let s := { s with sess := s.sess.map fun y => if y.port == port then { y with held := false } else y }
       let s := portEv port 0 [("speed", .n (s.reg .NET_P_SPEED port)), ("fec", .n (s.reg .NET_P_FEC port))] s
       let s := if addrMode s port true == 0 then s else netSend port "router_solicitation" [] s
       [false, true].foldl (fun s v6 =>
         let st := (s.port port).addr v6
         if st.now_ == 0 && st.probe.isNone then startAddr port v6 s else s) s)

/-- What the loss of a port's link does (R326): addresses and leases stay, a probe or a DHCP exchange under way does not,
sessions are held or close. -/
def linkLost (p : Nat) (s : State) : State :=
  let x := s.port p
  if !x.link then s
  else
    let idle := fun (st : AddrSt) =>
      { st with probe := none, dhcp := if st.leaseEnd.isSome && st.now_ != 0 then .bound else .init }
    let s := portEv p 1 [] (s.setPort p { x with link := false, v4 := idle x.v4, v6 := idle x.v6, reasm := [], txq := [] })
    if s.reg .NET_LINK_HOLD_S == 0 then closePort p s
    else
      let s := s.setPort p { s.port p with holding := true }
      { s with sess := s.sess.map fun y => if y.port == p then { y with held := true } else y }

def execLinkDown (port : Nat) (s : State) : Host.Outcome State Fault Refusal :=
  .next (if netOn s && port < 2 then linkLost port s else s)

/-- R326: the link has not returned within NET.LINK_HOLD_S. -/
def execLinkHoldExpiry (port : Nat) (s : State) : Host.Outcome State Fault Refusal :=
  .next
    (let x := s.port port
     if port < 2 && x.holding && !x.link then closePort port (s.setPort port { x with holding := false }) else s)

/-- What applied changes of the NET parameters do: a port's link restarts, or its addressing does, and a moved service
port closes the service's sessions with reason=cred (R299, Table 13.7). `old` is the state before. -/
def netApplied (old s : State) : State :=
  let differs := fun (ps : List Param) (p : Nat) => ps.any fun q => old.reg q p != s.reg q p
  let perPort := fun (s : State) (p : Nat) =>
    let s := if differs [.NET_P_SPEED, .NET_P_FEC, .NET_P_VLAN, .NET_P_MTU, .NET_P_EN] p then linkLost p s else s
    let readdress := fun (s : State) (v6 : Bool) =>
      let s := loseAddr p v6 4 s
      let s := if v6 then s.setPort p { s.port p with prefix6 := none } else s
      if (s.port p).link then startAddr p v6 s else s
    let s := if differs [.NET_P_V4_MODE] p || (s.reg .NET_P_V4_MODE p == 1 && differs [.NET_P_V4_ADDR] p)
      then readdress s false else s
    if differs [.NET_P_V6_MODE] p || (s.reg .NET_P_V6_MODE p == 1 && differs [.NET_P_V6_ADDR] p)
      then readdress s true else s
  let s := [0, 1].foldl perPort s
  let s := if differs [.NET_DKP_PORT] 0 then (s.sess.map (·.num)).foldl (fun s n => closeSession 2 n s) s else s
  if differs [.NET_CMD_PORT] 0 then s.line.tlsConns.foldl (fun s c => closeTls c s) s else s

/-! ## Handshakes (R307–R319) -/

def aes256 : Nat := 0x1302
def aes128 : Nat := 0x1301

/-- The suite the device picks: the first it accepts in the client's order (Table 13.3). -/
def pickSuite (s : State) (l : List Nat) : Option Nat :=
  l.find? fun c => c == aes256 || (c == aes128 && s.reg .NET_SUITE_MIN == 0)

/-- x25519 and secp384r1, as TLS numbers them. -/
def groupOk (g : Nat) : Bool := g == 29 || g == 24

/-- The cookie of R309 under a key. -/
def cookieOf (key : Nat) (h : Hello) : Text := Config.hmacSha256 (leBytes 32 key) (leBytes 18 h.client ++ h.hash)

/-- Whether a ClientHello brings a cookie that the present key or the one before made. -/
def cookieOk (s : State) (h : Hello) : Bool :=
  match h.cookie with
  | none => false
  | some c => c == cookieOf s.net.cookieKey h || c == cookieOf s.net.cookiePrev h

/-- Whether the key of a PSK slot can be used: loaded and not use-locked (R249). -/
def pskUsable (s : State) (slot : Nat) : Bool :=
  s.sec.vault.any (fun e => e.slot == 6 + slot) && !useLocked s (6 + slot)

/-- The first PSK of the client's order whose identity the device knows. -/
def knownPsk (s : State) (h : Hello) : List (Psk × Text) :=
  h.psks.filterMap fun (ident, binder) => (s.net.psks.find? fun k => k.ident == ident).map fun k => (k, binder)

/-- Certificate handshakes run once the identity key and a matching chain exist (R313). -/
def certReady (s : State) : Bool := s.sec.identity && s.sec.chain.isSome && !useLocked s 3 && !useLocked s 4

/-- An alert of the device in a handshake. -/
def hsAlert (port svc client desc : Nat) (s : State) : State := netSend port "alert" [svc, client, desc] s

def svcVal (svc : Nat) : Val := .c svc (if svc == 0 then "dkp" else "cmd")

/-- A refusal at step 5 (EV 0x184). -/
def failProfile (h : Hs) (desc : Nat) (s : State) : State :=
  raise 0x184 [("svc", svcVal h.svc), ("port", .n h.port), ("alert", .n desc)] (hsAlert h.port h.svc h.client desc s)

/-- A refusal at steps 6 and 7 (EV 0x183), which counts for the AUTH source. Where no entry matched, cred= is a free
value (log entry 3). -/
def failAuth (h : Hs) (desc : Nat) (cred : Option Nat) (s : State) : State :=
  let (c, s) := match cred with | some c => (c, s) | none => (clampFree s.free 0 255, s.tick)
  authFailure (raise 0x183 [("svc", svcVal h.svc), ("port", .n h.port), ("alert", .n desc), ("cred", .n c)]
    (hsAlert h.port h.svc h.client desc s))

def dropHs (n : Nat) (s : State) : State := { s with net := { s.net with hs := s.net.hs.filter (·.num != n) } }

/-- Steps 5 and 6 as far as a ClientHello decides them: the profile of Table 13.3 in the order of the table, then the
PSK. What passes gets the device's flight. -/
def judgeHello (h : Hello) (x : Hs) (s : State) : State :=
  let refuse := fun (desc : Nat) => failProfile x desc (dropHs x.num s)
  match h.tls13, pickSuite s h.suites with
  | false, _ => refuse 70
  | true, none => refuse 40
  | true, some suite =>
    let byPsk := !h.psks.isEmpty
    if !(h.groups.any groupOk) then refuse 40
    else if !byPsk && !(h.sigs.any (· == 0x0503)) then refuse 40
    else if byPsk && !(h.pskModes.any (· == 1)) then refuse 40
    else if !byPsk && !certReady s then refuse 40
    else if h.alpn.elim false (fun l => !(l.any (· == txt (if h.svc == 0 then "dkp/1" else "ibian/1")))) then refuse 120
    else if !(h.shares.any groupOk) then
      if x.wait then refuse 40
      else
        netSend h.port "hello_retry_request" [h.svc, h.client]
          { s with net := { s.net with hs := s.net.hs.map fun y => if y.num == x.num then { y with wait := true } else y } }
    else
      let known := knownPsk s h
      let usable := known.filter fun k => k.1.sha384 == (suite == aes256) && pskUsable s k.1.slot
      let flight := fun (slot : Option Nat) =>
        netSend h.port "flight" [h.svc, h.client]
          { s with net := { s.net with hs := s.net.hs.map fun y =>
              if y.num == x.num then { y with wait := false, suite := suite, psk := slot, sent := 1 } else y } }
      if !byPsk then flight none
      else if known.isEmpty then failAuth x 115 none (dropHs x.num s)
      else match usable with
        | [] => refuse 40
        | (k, binder) :: _ =>
          if binder == Config.pskBinder k.sha384 k.key h.hash then flight (some k.slot)
          else failAuth x 51 none (dropHs x.num s)

/-- R317: the checks of a new handshake in order. -/
def execClientHello (h : Hello) (s : State) : Host.Outcome State Fault Refusal :=
  .next
    (if !(netOn s && h.port < 2 && h.svc < 2 && (s.port h.port).link) then s
     else if !serving s then
       (if h.svc == 0 then limited h.port (netSend h.port "port_unreachable" [s.reg .NET_DKP_PORT]) s
        else netSend h.port "rst" [s.reg .NET_CMD_PORT] s)
     else match h.inside with
       | some n =>
         let s := hsAlert h.port h.svc h.client 10 s
         if h.svc == 0 then closeSession 5 n s else closeTls n s
       | none =>
         match s.net.hs.find? fun x => x.svc == h.svc && x.port == h.port && x.client == h.client with
         | some x => if x.wait then judgeHello h x s else netSend h.port "flight" [h.svc, h.client] s
         | none =>
           let new : Hs := ⟨s.net.nextHs, h.svc, h.port, h.client, h.v6, 0, none, 0, false⟩
           if h.svc == 0 && !cookieOk s h then
             netSend h.port "hello_retry_request" ([h.svc, h.client] ++ cookieOf s.net.cookieKey h) s
           else if min s.net.tokens (s.reg .NET_HS_BURST) == 0 then
             raise 0x182 [("port", .n h.port)] (hsAlert h.port h.svc h.client 80 s)
           else
             let s := { s with net := { s.net with tokens := min s.net.tokens (s.reg .NET_HS_BURST) - 1 } }
             let used := (s.net.hs.filter (·.svc == h.svc)).length
             if h.svc == 0 && 1024 ≤ s.sess.length + used then
               raise 0x181 [("port", .n h.port)] (hsAlert h.port h.svc h.client 80 s)
             else if h.svc == 1 && 4 ≤ s.line.tlsConns.length + used then
               raise 0x3CE [] (netSend h.port "rst" [s.reg .NET_CMD_PORT] s)
             else judgeHello h new { s with net := { s.net with hs := s.net.hs ++ [new], nextHs := s.net.nextHs + 1 } })

/-- R318. -/
def execHandshakeTokenRefill (s : State) : Host.Outcome State Fault Refusal :=
  .next { s with net := { s.net with tokens := min (s.reg .NET_HS_BURST) (s.net.tokens + s.reg .NET_HS_RATE) } }

/-- R309: the key of the cookies is replaced; the one before stays good for the cookies it made. -/
def execCookieKeyRotate (s : State) : Host.Outcome State Fault Refusal :=
  .next ({ s with net := { s.net with cookiePrev := s.net.cookieKey, cookieKey := s.free } }).tick

/-- R309: a flight is sent six times at most. -/
def execFlightRetransmit (num : Nat) (s : State) : Host.Outcome State Fault Refusal :=
  .next
    (match s.net.hs.find? (·.num == num) with
     | some x =>
       if x.svc == 0 && 0 < x.sent && x.sent < 6 then
         netSend x.port "flight" [x.svc, x.client]
           { s with net := { s.net with hs := s.net.hs.map fun y => if y.num == num then { y with sent := y.sent + 1 } else y } }
       else s
     | none => s)

/-- R319: abandoned without an alert. -/
def execHandshakeTimeout (num : Nat) (s : State) : Host.Outcome State Fault Refusal :=
  .next
    (match s.net.hs.find? (·.num == num) with
     | some x => raise 0x184 [("svc", svcVal x.svc), ("port", .n x.port), ("alert", .n 0)] (dropHs num s)
     | none => s)

/-! ## Credentials (R310–R316) -/

/-- The conditions of R312 on a chain, but for dates and its end. -/
def chainOk (l : List Cert) : Bool :=
  l.length ≤ 4 && sumNat (l.map (·.bytes)) ≤ 8192 && l.all (fun c => c.v3p384 && c.basicOk && !c.critical)
    && match l with
       | leaf :: _ => leaf.digitalSig && leaf.clientAuth.getD true
       | [] => false

/-- Whether the dates of a chain let it pass (R312). -/
def datesOk (s : State) (l : List Cert) : Bool :=
  if !s.clk.valid || s.clk.state == .FREE then s.reg .NET_CERT_TIME == 0
  else
    let t := s.clk.tai / 1000000000 - s.reg .NET_UTC_OFS_S
    l.all fun c => c.notBefore ≤ t && t ≤ c.notAfter

/-- Entries that a handshake matches, enabled or not (R315). -/
def matching (s : State) (x : Hs) (p : Proof) : List Cred :=
  s.net.creds.filter fun c =>
    match x.psk with
    | some slot => c.type == 1 && c.ref == slot
    | none =>
      (c.type == 2 && (p.chain.head?.elim false fun l => l.cn == c.name)
        && (match p.root with | some r => s.net.anchors.any fun a => a.1 == c.ref && a.2 == r | none => false))
      || (c.type == 3 && (p.chain.head?.elim false fun l => l.keyHash == c.name))

/-- Whether an entry is enabled for a service and port (Table 13.4). -/
def Cred.serves (c : Cred) (x : Hs) : Bool := c.en && bitAt c.svc x.svc && bitAt c.ports x.port

/-- The lowest-numbered entry of a list. -/
def lowestCred (l : List Cred) : Option Cred :=
  match l with
  | [] => none
  | c :: cs => some (cs.foldl (fun a b => if b.idx < a.idx then b else a) c)

/-- A DKP session opens with the roles and the level of its credential (R315, R320). -/
def openSession (x : Hs) (c : Cred) (s : State) : State :=
  let n := s.nextSess
  let new : Sess :=
    { num := n, port := x.port, client := x.client, cred := c.idx, roles := c.roles, level := c.level, heard := 0,
      window := 0, forged := 0, sentRecs := 0, recvRecs := 0, kuSent := false, mtu := s.reg .NET_P_MTU x.port,
      v6 := x.v6, epoch := 3, idleAt := s.now, held := !(s.port x.port).link, floor := none, cache := [], admitted := [],
      asm := [], refused := [], tx := [], sub := none, hits := 0, total := 0 }
  let s := { s with sess := s.sess ++ [new], nextSess := n + 1, routes := s.routes ++ [RouteSt.start (.dkp n) false c.level c.roles] }
  raise 0x180 [("sess", .n n), ("cred", .n c.idx), ("port", .n x.port), ("suite", .x 4 x.suite)] s

/-- A command connection opens at the level of its credential (R123, R315). -/
def openTls (x : Hs) (c : Cred) (s : State) : State :=
  let n := s.line.nextConn
  let s := { s with
    line := { s.line with tlsConns := s.line.tlsConns ++ [n], nextConn := n + 1 }
    net := { s.net with tls := s.net.tls ++ [⟨n, c.idx, x.port, x.client, 0, 0⟩] }
    routes := s.routes ++ [RouteSt.start (.tls n) false c.level c.roles] }
  raise 0x3CB [("conn", .n n)] s

/-- Steps 6 and 7 of R317 on the client's last flight, and the opening. -/
def finishHandshake (x : Hs) (p : Proof) (s : State) : State :=
  let s := dropHs x.num s
  let cert := x.psk.isNone
  let found := matching s x p
  let first := (lowestCred found).map (·.idx)
  let follow := cert && !(found.any (·.type == 3))
  if cert && p.chain.isEmpty then failProfile x 116 s
  else if !p.finished || (cert && !p.verify) then failAuth x 51 first s
  else if cert && !chainOk p.chain then failAuth x 42 first s
  else if follow && !(p.root.elim false fun r => s.net.anchors.any (·.2 == r)) then failAuth x 48 first s
  else if cert && !datesOk s p.chain then failAuth x 45 first s
  else if cert && found.isEmpty then failAuth x 42 none s
  else match lowestCred (found.filter fun c => c.serves x) with
    | none => failAuth x 49 first s
    | some c => if x.svc == 0 then openSession x c s else openTls x c s

/-- R315, R317: the client's last flight of a handshake on either service. -/
def execHandshakeComplete (num : Nat) (proof : Proof) (s : State) : Host.Outcome State Fault Refusal :=
  .next
    (match s.net.hs.find? (·.num == num) with
     | some x => if serving s && 0 < x.sent then finishHandshake x proof s else s
     | none => s)

/-- R123: a TCP connection on the command port: with its handshake in progress it opens, and a fifth is reset before the
handshake. -/
def execTlsConnectionOpen (port num : Nat) (proof : Proof) (s : State) : Host.Outcome State Fault Refusal :=
  .next
    (if !(netOn s && port < 2 && (s.port port).link) then s
     else if !serving s then netSend port "rst" [s.reg .NET_CMD_PORT] s
     else match s.net.hs.find? fun x => x.num == num && x.svc == 1 with
       | some x => if 0 < x.sent then finishHandshake x proof s else s
       | none =>
         if 4 ≤ s.line.tlsConns.length + (s.net.hs.filter (·.svc == 1)).length then
           raise 0x3CE [] (netSend port "rst" [s.reg .NET_CMD_PORT] s)
         else s)

/-- R120: a command connection closes, and with it its level, its staged set and its cursors. -/
def execTlsConnectionClose (conn : Nat) (s : State) : Host.Outcome State Fault Refusal := .next (closeTls conn s)

/-! ## Records (R321–R323) -/

/-- R321: the place of a record number in the replay window of 64: not seen and not older. -/
def windowNew (x : Sess) (n : Nat) : Bool := x.heard < n || (x.heard - n < 64 && !bitAt x.window (x.heard - n))

def windowTake (x : Sess) (n : Nat) : Sess :=
  if x.heard < n then
    { x with heard := n, window := setBit (x.window * 2 ^ min 64 (n - x.heard) % 2 ^ 64) 0 }
  else { x with window := setBit x.window (x.heard - n) }

/-- A session closes at a record limit (R322). -/
def closeAtLimit (n : Nat) (s : State) : State := closeSession 7 n (raise 0x187 [("sess", .n n)] s)

/-- The limit on sending: with no acknowledgement of the KeyUpdate by 2^24 − 2 records, the session closes (R322). -/
def rekeyCheck (n : Nat) (s : State) : State :=
  match s.session n with
  | some x => if 2 ^ 24 - 2 ≤ x.sentRecs then closeAtLimit n s else s
  | none => s

/-- A record that passed: its number, the idle time, the count of R322, and what it carries. -/
def takeRecord (x : Sess) (r : DtlsRec) (s : State) : State :=
  let n := x.num
  let x := { windowTake x r.num with recvRecs := x.recvRecs + 1, idleAt := s.now }
  let s := s.setSess x
  let s := if x.recvRecs == 2 ^ 23 then sendKeyUpdate n x.port true s else s
  if 2 ^ 24 ≤ x.recvRecs then closeAtLimit n s
  else match r.kind with
    | .data => rekeyCheck n s
    | .keyUpdate asked =>
      let s := raise 0x186 [("sess", .n n), ("dir", .c 1 "received")]
        (s.setSess { x with epoch := x.epoch + 1, heard := 0, window := 0, recvRecs := 0 })
      if asked && !x.kuSent then
        match s.session n with
        | some y => sendKeyUpdate n x.port false (s.setSess { y with kuSent := true })
        | none => s
      else s
    | .keyUpdateAck => if x.kuSent then s.setSess { x with sentRecs := 0, kuSent := false } else s
    | .closeNotify => closeSession 5 n s
    | .fatalAlert => closeSession 5 n s
    | .hello => closeSession 5 n (hsAlert x.port 0 x.client 10 s)

/-- R321: a record passes the replay window and authentication, or is discarded and counted. -/
def execDtlsRecordReceived (sess : Nat) (r : DtlsRec) (s : State) : Host.Outcome State Fault Refusal :=
  .next
    (if r.early then (if netOn s then raiseCount 0x189 [] s else s)
     else match s.session sess with
       | none => if serving s then raiseCount 0x188 [] (s.incReg .NET_NOSESS_DROPS) else s
       | some x =>
         if x.held then s
         else if r.epoch != x.epoch || !windowNew x r.num then s.incReg .NET_REPLAY_DROPS
         else if !r.authentic then
           let s := (s.incReg .NET_AUTH_DROPS).setSess { x with forged := x.forged + 1 }
           if 2 ^ 20 ≤ x.forged + 1 then closeSession 6 sess s else s
         else takeRecord x r s)

/-- R323: NET.IDLE_S without an authenticated record. -/
def execSessionIdleTimeout (sess : Nat) (s : State) : Host.Outcome State Fault Refusal :=
  .next
    (match s.session sess with
     | some x => if x.idleAt + sec (s.reg .NET_IDLE_S) ≤ s.now then closeSession 1 sess s else s
     | none => s)

/-! ## The credential verbs (R314, R515) -/

/-- R316: the sessions and command connections opened through an entry close, and EV 0x18A tells how many. -/
def closeByCred (idx : Nat) (s : State) : State :=
  let ss := (s.sess.filter (·.cred == idx)).map (·.num)
  let cs := (s.net.tls.filter (·.cred == idx)).map (·.num)
  let s := cs.foldl (fun s c => closeTls c s) (ss.foldl (fun s n => closeSession 2 n s) s)
  if ss.isEmpty && cs.isEmpty then s else raise 0x18A [("cred", .n idx), ("n", .n (ss.length + cs.length))] s

/-- R316 for every entry of a type that refers to a PSK slot or a trust anchor. -/
def closeByRef (type ref : Nat) (s : State) : State :=
  ((s.net.creds.filter fun c => c.type == type && c.ref == ref).map (·.idx)).foldl (fun s i => closeByCred i s) s

def vVaultPsk : Verb :=
  { name := "VAULT.PSK", modes := m4to9, level := 2, changes := true, loop := false,
    args := [⟨"slot", true, .num 0 7⟩, ⟨"id", true, .str 1 64⟩, ⟨"key", true, .hexExact [64]⟩,
             ⟨"hash", true, .word ["SHA-256", "SHA-384"]⟩] }

/-- R311, R314: a PSK slot is loaded into its vault slot and kept in namespace 0. -/
def doVaultPsk (l : Line) (s : State) : State :=
  let r := l.route
  gate vVaultPsk l (fun s =>
    let n := l.nat "slot"
    if changeLocked s (6 + n) then reply r 201 [] s
    else match ns0Record s with
      | (s, some x) => reply r x.code x.kv s
      | (s, none) =>
        let k : Psk := ⟨n, l.text "id", l.bytes "key", l.isWord "hash" "SHA-384"⟩
        let s := loadSlot (6 + n) k.key { s with net := { s.net with psks := s.net.psks.filter (·.slot != n) ++ [k] } }
        closeByRef 1 n (done r [("slot", .n n)] s)) s

def execVaultPsk (l : Line) (s : State) : Host.Outcome State Fault Refusal := .next (doVaultPsk l s)

/-- A piece of a load: the load with it, or the refusal (R515). -/
def appendLoad (l : Line) (old : Option Load) (idx limit : Nat) : Except (Nat × List (String × Val)) Load :=
  let have_ := match old with | some x => if x.idx == idx then x.bytes else [] | none => []
  let d := l.bytes "d"
  if l.nat "o" != have_.length then .error (204, [("next", .n have_.length)])
  else if limit < have_.length + d.length then .error (103, [("arg", .w "d")])
  else .ok ⟨idx, have_ ++ d⟩

def loadArgs : List ArgSpec := [⟨"o", true, .num 0 0xFFFFFFFF⟩, ⟨"d", true, .hex⟩, ⟨"last", false, .num 0 1⟩]

def vVaultCa : Verb :=
  { name := "VAULT.CA", modes := m4to9, level := 2, changes := true, loop := false, args := ⟨"idx", true, .num 0 3⟩ :: loadArgs }

/-- R314, R515: a trust anchor in pieces. -/
def doVaultCa (l : Line) (s : State) : State :=
  let r := l.route
  gate vVaultCa l (fun s =>
    let n := l.nat "idx"
    match appendLoad l (s.route r).caLoad n 2048 with
    | .error (code, kv) => reply r code kv s
    | .ok x =>
      if !l.flag "last" then done r [("next", .n x.bytes.length)] (s.updRoute r fun y => { y with caLoad := some x })
      else
        let s := s.updRoute r fun y => { y with caLoad := none }
        if !Config.certOk x.bytes then reply r 207 [] s
        else match ns0Record s with
          | (s, some e) => reply r e.code e.kv s
          | (s, none) =>
            let s := { s with net := { s.net with anchors := s.net.anchors.filter (·.1 != n) ++ [(n, x.bytes)] } }
            closeByRef 2 n (done r [("idx", .n n)] s)) s

def execVaultCa (l : Line) (s : State) : Host.Outcome State Fault Refusal := .next (doVaultCa l s)

/-- The length of the DER element at the front of some bytes, its own header counted. -/
def derLength (t : Text) : Option Nat :=
  match t with
  | _ :: n :: r =>
    if n < 128 then some (2 + n)
    else
      let k := n - 128
      if k == 0 || 3 < k || r.length < k then none else some (2 + k + beNat (r.take k))
  | _ => none

/-- The certificates of a chain, one DER sequence after another. -/
def derSplit : Nat → Text → Option (List Text)
  | _, [] => some []
  | 0, _ => none
  | f + 1, t =>
    match t.head?, derLength t with
    | some 0x30, some n => if t.length < n then none else (derSplit f (t.drop n)).map fun l => t.take n :: l
    | _, _ => none

/-- Whether bytes are a chain that the device may present (R313). -/
def chainMatches (s : State) (t : Text) : Option Nat :=
  match derSplit 4 t with
  | some (leaf :: l) =>
    if l.length ≤ 2 && (leaf :: l).all Config.certOk && s.sec.identity
      && Config.certKey leaf == Config.identityPub s.sec.identNo then some (l.length + 1) else none
  | _ => none

def vVaultCert : Verb :=
  { name := "VAULT.CERT", modes := m4to9, level := 2, changes := true, loop := false, args := loadArgs }

/-- R313, R314, R515: the device chain in pieces. -/
def doVaultCert (l : Line) (s : State) : State :=
  let r := l.route
  gate vVaultCert l (fun s =>
    match appendLoad l (s.route r).certLoad 0 6144 with
    | .error (code, kv) => reply r code kv s
    | .ok x =>
      if !l.flag "last" then done r [("next", .n x.bytes.length)] (s.updRoute r fun y => { y with certLoad := some x })
      else
        let s := s.updRoute r fun y => { y with certLoad := none }
        match chainMatches s x.bytes with
        | none => reply r 207 [] s
        | some n =>
          match ns0Record s with
          | (s, some e) => reply r e.code e.kv s
          | (s, none) => done r [("n", .n n)] { s with sec := { s.sec with chain := some x.bytes } }) s

def execVaultCert (l : Line) (s : State) : Host.Outcome State Fault Refusal := .next (doVaultCert l s)

/-- 004 MORE lines of 96 bytes each. -/
def dataLines (r : Route) (off : Nat) : Nat → Text → State → State
  | 0, _, s => s
  | f + 1, t, s =>
    if t.isEmpty then s
    else dataLines r (off + 96) f (t.drop 96) (reply r 4 [("o", .n off), ("d", .b (t.take 96))] s)

def vVaultCsr : Verb :=
  { name := "VAULT.CSR", modes := m4to9, level := 2, changes := false, loop := false, args := [⟨"cn", true, .str 1 64⟩] }

/-- R314: a PKCS#10 request signed by the identity key. -/
def doVaultCsr (l : Line) (s : State) : State :=
  let r := l.route
  gate vVaultCsr l (fun s =>
    if !s.sec.identity then reply r 205 [] s
    else if useLocked s 3 || useLocked s 4 then reply r 201 [] s
    else
      let t := Config.csr s.sec.identNo (l.text "cn")
      done r [("len", .n t.length)] (dataLines r 0 255 t s)) s

def execVaultCsr (l : Line) (s : State) : Host.Outcome State Fault Refusal := .next (doVaultCsr l s)

def Cred.empty (i : Nat) : Cred := ⟨i, 0, 0, [], 0, 0, 0, 0, false⟩

/-- An entry; one not written is empty (Table 13.4). -/
def credGet (s : State) (i : Nat) : Cred := (s.net.creds.find? (·.idx == i)).getD (Cred.empty i)

def Cred.fields (c : Cred) : List (String × Val) :=
  [("type", .n c.type), ("ref", .n c.ref), ("name", if c.type == 3 then .b c.name else .q c.name), ("roles", .x 4 c.roles),
   ("level", .n c.level), ("svc", .n c.svc), ("ports", .n c.ports), ("en", .n (if c.en then 1 else 0))]

/-- The arguments for an entry of a type: the reference names one of four anchors or of eight PSK slots, the name is a
commonName or the hash of a key (Table 13.4). -/
def credArgs (type : Nat) : List ArgSpec :=
  [⟨"idx", true, .num 0 31⟩, ⟨"type", false, .num 0 3⟩, ⟨"ref", false, .num 0 (if type == 2 then 3 else 7)⟩,
   ⟨"name", false, if type == 2 then .str 1 64 else if type == 3 then .keyHash 48 else .token⟩,
   ⟨"roles", false, .num 0 0xFFFF⟩, ⟨"level", false, .num 0 2⟩, ⟨"svc", false, .num 0 3⟩, ⟨"ports", false, .num 0 3⟩,
   ⟨"en", false, .num 0 1⟩]

/-- OPERATOR reads; OWNER writes, and a line with any value changes state. -/
def vVaultCred (s : State) (l : Line) : Verb :=
  let write := 1 < l.args.length
  { name := "VAULT.CRED", modes := m4to9, level := if write then 2 else 1, changes := write, loop := false,
    args := credArgs (l.nat "type" (credGet s (l.nat "idx")).type) }

/-- The entry with the values of a line; what is not given stays. -/
def credWith (l : Line) (c : Cred) : Cred :=
  let type := l.nat "type" c.type
  { c with
    type := type
    ref := l.nat "ref" c.ref
    name := if l.has "name" then (if type == 3 then l.bytes "name" else l.text "name") else c.name
    roles := l.nat "roles" c.roles
    level := l.nat "level" c.level
    svc := l.nat "svc" c.svc
    ports := l.nat "ports" c.ports
    en := if l.has "en" then l.flag "en" else c.en }

/-- What is wrong with an entry as a whole where the line does not give it (Table 13.4): a reference or a name out of its
range. -/
def credBad (c : Cred) : Option (Nat × String) :=
  if c.type == 2 && 3 < c.ref then some (103, "ref")
  else if c.type == 2 && !(1 ≤ c.name.length && c.name.length ≤ 64) then some (103, "name")
  else if c.type == 3 && c.name.length != 48 then some (103, "name")
  else none

/-- R310, R314, R316: reads an entry, or writes it and closes what was opened through it. -/
def doVaultCred (l : Line) (s : State) : State :=
  let r := l.route
  gate (vVaultCred s l) l (fun s =>
    let i := l.nat "idx"
    if l.args.length ≤ 1 then done r (credGet s i).fields s
    else
      let c := credWith l (credGet s i)
      match credBad c with
      | some (code, k) => reply r code [("arg", .w k)] s
      | none =>
        match ns0Record s with
        | (s, some e) => reply r e.code e.kv s
        | (s, none) =>
          let rest := s.net.creds.filter (·.idx != i)
          let s := { s with net := { s.net with creds := if c.type == 0 then rest else rest ++ [c] } }
          closeByCred i (done r c.fields s)) s

def execVaultCred (l : Line) (s : State) : Host.Outcome State Fault Refusal := .next (doVaultCred l s)

end Sys2Proof.Machine
end

