-- ==== Sys2Proof/Machine/Sunrise.lean ====
section
/-! DEFINITION. The Sunrise sequence: the stages, their failures, the format of an empty store, what namespace 0 brings
back, entry to Morning (R267, R268, R282, R285, R288–R294, R377, R536, R537). -/

namespace Sys2Proof.Machine

/-- The stage moves on (R291). -/
def stageDone (n : Nat) (s : State) : State :=
  let r := s.mem.sunrise
  let s := raise 0x240 [("stage", .n r.stage), ("ms", .n ((s.now - r.stageAt) / ms 1))] s
  { s with mem := { s.mem with sunrise := { r with stage := n, stageAt := s.now, halted := false } } }

/-- Words of reason= in EV 0x241 (Table 19.5b). -/
def haltReason : Nat → String
  | 1 => "mismatch" | 2 => "rate" | 3 => "train" | 4 => "store" | _ => "index"

/-- Sunrise halts (R294). -/
def haltStage (reason : Nat) (ch : List (String × Val)) (s : State) : State :=
  let r := s.mem.sunrise
  raise 0x241 ([("stage", .n r.stage), ("reason", .c reason (haltReason reason))] ++ ch)
    { s with mem := { s.mem with sunrise := { r with halted := true } } }

/-! ## Stages 2 and 3 -/

/-- R267, R268: identity, speed grade at the kept rate (R537), training. -/
def dramStage (ids : List Nat) (gib : Nat) (fast linkEcc : Bool) (untrained : Option Nat) (trainMs : Nat) (s : State) : State :=
  if ids.any (· != ids.headD 0) then haltStage 1 [] s
  else if s.mem.rateKept == 1 && !fast then haltStage 2 [] s
  else
    let s := s.setReg .DRAM_TRAIN_MS (sat 16 trainMs)
    match untrained with
    | some c => haltStage 3 [("ch", .n c)] s
    | none => stageDone 3 ({ s with mem := { s.mem with capGib := gib } }.setReg .DRAM_LINK_ECC (if linkEcc then 1 else 0))

def geoBlock (g : Geometry) : Nat := g.pages * g.page

/-- Raw bytes of a target. -/
def geoBytes (g : Geometry) : Nat := g.blocks * g.luns * geoBlock g

/-- Targets in ascending order of channel and target, with one put in its place. -/
def putTarget (t : FoundTarget) : List FoundTarget → List FoundTarget
  | [] => [t]
  | x :: xs => if t.ch < x.ch || (t.ch == x.ch && t.tgt < x.tgt) then t :: x :: xs else x :: putTarget t xs

/-- The targets that discovery takes, and those it excludes (R282): the geometry of the first usable target, and 64 TiB at
most. -/
def discover (found : List FoundTarget) : List FoundTarget × List FoundTarget × Option Geometry :=
  let l := found.foldr putTarget []
  match l.findSome? (·.geometry) with
  | none => ([], l, none)
  | some g =>
    let (same, other) := l.partition fun t => t.geometry == some g
    let most := 2 ^ 46 / max 1 (geoBytes g)
    (same.take most, other ++ same.drop most, some g)

/-- A target as the block keeps it: what was known of it stays. -/
def keepTarget (s : State) (g : Geometry) (t : FoundTarget) : Target :=
  match s.mem.targets.find? fun o => o.ch == t.ch && o.tgt == t.tgt with
  | some o => { o with used := !o.retired, blocks := g.blocks * g.luns }
  | none => { ch := t.ch, tgt := t.tgt, used := true, retired := false, blocks := g.blocks * g.luns, grown := 0, factory := 0 }

/-- Good bytes of the targets in use. -/
def goodBytes (s : State) : Nat :=
  sumNat ((s.mem.targets.filter (·.used)).map fun t => (t.blocks - t.grown - t.factory) * s.mem.blockBytes)

/-- User capacity in GiB (R285), with the reserve that the present dirty limit asks for. -/
def userGibNow (s : State) : Nat :=
  let n := (s.mem.targets.filter (·.used)).length
  let reserve := reserveFor s (limitNow s / 1024) * 1048576 + 4 * n * s.mem.blockBytes
  (goodBytes s - reserve) * (100 - s.reg .FLASH_OP_PCT) / 100 / 1073741824

/-- The size of the DIRTY region that GOV.DIRTY_MAX_MIB asks for (R275). -/
def dirtyGibNow (s : State) : Nat := max 1 ((s.reg .GOV_DIRTY_MAX_MIB + 1023) / 1024)

/-- The seed slot whose KEK the device holds, as R376 numbers it. -/
def kekSeed (s : State) : Nat :=
  match lifeCycle s with | 0 => 8 | 3 => 9 | _ => (activeSeed s).getD 8

/-- A fresh data key of a namespace, wrapped (R252, R376). -/
def freshKey (s : State) (ns : Nat) : NsKey := ⟨ns, kekSeed s, ⟨s.sec.kek.getD [], Config.freeKey (s.freeCtr + ns)⟩⟩

/-- New data keys for the namespaces given (R376, R377). -/
def newKeys (l : List Nat) (s : State) : State :=
  let fresh := l.map (freshKey s)
  { s with kv := { s.kv with nsKeys := (s.kv.nsKeys.filter fun k => !(l.any (· == k.ns))) ++ fresh }, freeCtr := s.freeCtr + 256 }

/-- The data keys in plaintext, in the key tables of PD3 and PD6 (R248). -/
def loadKeys (s : State) : State :=
  let l := s.kv.nsKeys.filterMap fun k => (unwrapKey s.sec.kek k.data).map fun v => (k.ns, v)
  { s with sec := { s.sec with xts := l, recKeys := l } }

/-- The namespaces whose data key does not unwrap (R377). -/
def lostKeys (s : State) : List Nat :=
  (List.range 256).filter fun n => !(s.kv.nsKeys.any fun k => k.ns == n && (unwrapKey s.sec.kek k.data).isSome)

/-- The secret records of namespace 0 are lost with its data key (R378, Table 15.2), the collection definitions among them. -/
def dropSecrets (s : State) : State :=
  { s with
    line := { s.line with pin := none }
    sec := { s.sec with identity := false, chain := none }
    net := { s.net with creds := [], psks := [], anchors := [] }
    colls := []
    collsDisk := []
    sweep := { s.sweep with watches := [] } }

/-- R377, R389: namespaces are cleared: their records and those of the collections in them go, and each has a new data key. -/
def clearSpaces (l : List Nat) (s : State) : State :=
  let gone (n : Nat) : Bool := l.any (· == n)
  let s := if gone 0 then dropSecrets s else s
  let stays (c : Coll) : Bool := !gone c.ns
  newKeys l { s with
    kv := { s.kv with keys := s.kv.keys.filter (fun e => !gone e.ns), disk := s.kv.disk.filter (fun e => !gone e.ns) }
    colls := s.colls.filter stays
    collsDisk := s.collsDisk.filter stays }

/-- A target as a format finds it: its factory markers are read (R284). -/
def newTarget (found : List FoundTarget) (t : Target) : Target :=
  { t with retired := false, used := true, grown := 0,
           factory := ((found.find? fun f => f.ch == t.ch && f.tgt == t.tgt).map (·.bad)).getD 0 }

/-- R292: a new store on targets none of which carries one: nothing of an earlier store is left, and the factory markers
are read. -/
def formatStore (found : List FoundTarget) (s : State) : State :=
  let s := dropSecrets s
  let s := { s with
    kv := { Kv.reset with endurance := s.kv.endurance }
    day := { s.day with queue := [] }
    evt := { s.evt with log := [], nextSeq := 1, oldSeq := 1 }
    assoc := { s.assoc with policy := [] }
    mem := { s.mem with
      superblock := true, cutShort := false, logBytes := 0
      targets := s.mem.targets.map (newTarget found) } }
  let s := loadKeys (newKeys (List.range 256) s)
  let s := { s with mem := { s.mem with dirtyGib := dirtyGibNow s } }
  let s := s.setReg .DRAM_DIRTY_GIB s.mem.dirtyGib
  raise 0x247 [] { s with mem := { s.mem with userGib := userGibNow s } }

/-! ## Stages 4 to 6 -/

/-- The fields that stage 5 leaves to stage 6 (R536). -/
def atStage6 (p : Param) : Bool := p == .ASSOC_POLICY_BANKS

/-- One field of namespace 0 takes its stored value (R536). -/
def loadField (s : State) (c : Cell) : State :=
  if atStage6 c.p then s
  else if c.p == .EVT_E then setMasks [c.i] c.v s
  else s.setReg c.p c.v c.i

/-- The keys that firmware unwraps into the vault (Table 11.4). -/
def loadVault (s : State) : State :=
  let s := if s.sec.identity then loadIdentity s else s
  let s := if s.line.pin.isSome then loadSlot 5 Config.pinKey s else s
  s.net.psks.foldl (fun s k => loadSlot (6 + k.slot) k.key s) s

/-- R496, R536, R537: namespace 0 is loaded, the log takes records, pins are assigned again, what was latched is
delivered. A flush cut short is told (R58). The bucket of handshakes is full and the cookies have a key (R309, R318). -/
def finishLoad (s : State) : State :=
  let old := s
  let s := if s.mem.cutShort then raise 0x022 [] (s.setReg .PWR_PLP_STATUS 2) else s
  let s := { s with mem := { s.mem with cutShort := false }, kv := { s.kv with mounted := true } }
  let s := s.kv.ns0.foldl loadField s
  let s := (s.setReg .FLASH_USER_GIB s.mem.userGib).setReg .DRAM_DIRTY_GIB s.mem.dirtyGib
  let s := { s with
    mem := { s.mem with rateKept := s.reg .DRAM_RATE, flashRateKept := s.reg .FLASH_RATE }
    net := { s.net with tokens := s.reg .NET_HS_BURST, cookieKey := s.free, cookiePrev := s.free } }
  let s := netApplied old (loadVault s.tick)
  let s := stageDone 6 { s with evt := { s.evt with gpioOn := true } }
  deliverLate s

/-- R282, R292: discovery, and the superblock. -/
def nandStage (found : List FoundTarget) (store endurance : Nat) (s : State) : State :=
  let (take_, out, g) := discover found
  let s := out.foldl (fun s t => raise 0x246 [("ch", .n t.ch), ("tgt", .n t.tgt)] s) s
  let s := match g with
    | some g => { s with
        mem := { s.mem with targets := take_.map (keepTarget s g), blockBytes := geoBlock g }
        kv := { s.kv with endurance := endurance } }
    | none => { s with mem := { s.mem with targets := [] } }
  if store == 2 then haltStage 4 [] s
  else if store == 0 || !s.mem.superblock then finishLoad (formatStore found s)
  else stageDone 4 s

/-- Keys the INDEX region holds with the partition that namespace 0 keeps (R273; R291). -/
def storedIndexKeys (s : State) : Nat :=
  let gib := (cellsGet s.kv.ns0 .DRAM_INDEX_GIB 0).getD (s.reg .DRAM_INDEX_GIB)
  min (2 ^ 32) (gib * 1073741824 * 15 / 16 / 14)

/-- Stage 4: data keys are unwrapped, the namespaces without one are cleared (R377), and the index is loaded as far as it
fits. -/
def checkpointStage (s : State) : State :=
  let lost := lostKeys s
  let s :=
    if lost.isEmpty then s
    else
      let s := raise 0x251 [("n", .n lost.length)] (clearSpaces lost s)
      { s with kv := { s.kv with cleared := true } }
  let s := loadKeys s
  if storedIndexKeys s < s.kv.keys.length then haltStage 5 [] s else stageDone 5 s

/-- Stage 6: the policy banks, and the field that names the active ones. -/
def policyStage (s : State) : State :=
  let s := match cellsGet s.kv.ns0 .ASSOC_POLICY_BANKS 0 with
    | some v => s.setReg .ASSOC_POLICY_BANKS v
    | none => s
  stageDone 7 (loadPolicy { s with assoc := { s.assoc with policyState := 0 } })

/-! ## Stage 7 and entry to Morning -/

/-- A collection before its reload: a merge that was under way stands stopped, every committed entry is published. -/
def Coll.awoken (c : Coll) : Coll := ({ c.abandonMerge with pub := c.nextSeq, queued := false }).queueFull

/-- R289, R291: entry to M4. -/
def enterMorning (shortMib : Option Nat) (s : State) : State :=
  let s := { s with mem := { s.mem with plpOk := true } }
  let s := s.setReg .FLASH_PLP_MIB (sat 16 (reserveFor s (limitNow s / 1024)))
  let s := match shortMib with
    | some m => raise 0x248 [("reserve_mib", .n m)] ({ s with mem := { s.mem with plpOk := false } }.setReg .FLASH_PLP_MIB (sat 16 m))
    | none => s
  let s := stageDone 0 s
  let s := s.setReg .FLASH_SUNRISE_MS (sat 32 ((s.now - s.mem.sunrise.startAt) / ms 1))
  confirmStart (enterService .M4 { s with day := { s.day with target := .M4 } })

/-- R293: the collections in ascending number; one that is being dropped is not reloaded. -/
def collStage (failed : List ReloadFault) (shortMib : Option Nat) (s : State) : State :=
  let s := { s with colls := s.colls.map Coll.awoken, collsDisk := s.collsDisk.map Coll.awoken }
  let s := ((s.colls.filter fun c => c.state != 4).map (·.num)).foldl
    (fun s n => reloadColl n failed s) s
  enterMorning shortMib s

/-- Groups 2 to 5 report power-good (stage 1). -/
def groupsUp (s : State) : Bool := s.pwr.seq == .idle && s.pwr.en == 0x3F

/-- R291, R294: the stage in progress ends as found. -/
def execSunriseStageComplete (r : StageResult) (s : State) : Out :=
  .next
    (if s.lineMode != .M3 || s.mem.sunrise.halted || s.sec.recordDue then s
     else match s.mem.sunrise.stage, r with
       | 1, .groups => if groupsUp s then stageDone 2 s else s
       | 2, .dram ids gib fast linkEcc untrained trainMs => dramStage ids gib fast linkEcc untrained trainMs s
       | 3, .nand found store endurance => nandStage found store endurance s
       | 4, .loaded => checkpointStage s
       | 5, .loaded => finishLoad s
       | 6, .loaded => policyStage s
       | 7, .colls failed shortMib => collStage failed shortMib s
       | _, _ => s)

/-- R294: a halted Sunrise starts again from stage 2. -/
def execSunriseHaltRetry (s : State) : Out :=
  .next
    (if s.lineMode == .M3 && s.mem.sunrise.halted then
       { s with mem := { s.mem with sunrise := { s.mem.sunrise with stage := 2, stageAt := s.now, halted := false } } }
     else s)

end Sys2Proof.Machine
end

