-- ==== Sys2Proof/Machine/SweepQuery.lean ====
section
/-! DEFINITION. Queries: their checks, their admission to the search queue, exact distances, what a batch sees, and
how a query is answered (R401, R412–R434). -/

namespace Sys2Proof.Machine

/-! ## Distances (R414, R430) -/

def popcount (n : Nat) : Nat := ((List.range 8).filter fun i => bitAt n i).length

/-- Bits in which two strings differ. -/
def hamming (a b : Text) : Nat := sumNat (List.zipWith (fun x y => popcount (Nat.xor x y)) a b)

/-- Σ over the elements of an INT8 pair. -/
def sumInt (d : Nat) (f : Int → Int → Int) (q x : Text) : Int :=
  (List.range d).foldl (fun acc i => acc + f (intAt 0 q i) (intAt 0 x i)) 0

/-- Σ over the elements of an FP16 pair, in blocks of 8. -/
def sumHalf (d : Nat) (f : F32 → F32 → F32) (q x : Text) : F32 :=
  (List.range (d / 8)).foldl (fun acc blk =>
    F.add acc ((List.range 8).foldl (fun p i => F.add p (f (halfAt q (8 * blk + i)) (halfAt x (8 * blk + i)))) 0)) 0

/-- cos of R430. -/
def cosDistance (qx qq xx : F32) : F32 :=
  if F.isZero qq || F.isZero xx then F.one else F.sub F.one (F.div qx (F.mul (F.sqrt qq) (F.sqrt xx)))

/-- A distance that evaluates to a NaN is +infinity. -/
def noNaN (x : F32) : F32 := if F.isNaN x then F.posInf else x

def fpDistance (metric d : Nat) (q x : Text) : F32 :=
  let qx := sumHalf d F.mul q x
  match metric with
  | 0 => noNaN (sumHalf d (fun a b => F.mul (F.sub a b) (F.sub a b)) q x)
  | 1 => noNaN (cosDistance qx (sumHalf d (fun a _ => F.mul a a) q x) (sumHalf d (fun _ b => F.mul b b) q x))
  | _ => noNaN (F.negate qx)

def intDistance (metric d : Nat) (q x : Text) : Int :=
  match metric with
  | 0 => sumInt d (fun a b => (a - b) * (a - b)) q x
  | _ => -(sumInt d (fun a b => a * b) q x)

def intCos (d : Nat) (q x : Text) : F32 :=
  noNaN (cosDistance (F.ofInt (sumInt d (fun a b => a * b) q x)) (F.ofInt (sumInt d (fun a _ => a * a) q x))
    (F.ofInt (sumInt d (fun _ b => b * b) q x)))

/-- Whether a query's distances are binary32 (R347). -/
def floatDist (fmt metric : Nat) (bySketch : Bool) : Bool := !bySketch && metric != 3 && (fmt == 1 || metric == 1)

/-- The exact distance of a slot record to a query: a signed integer or a binary32 number. -/
def exactDistance (c : Coll) (q : Query) (x : Slot) : Int × F32 :=
  if q.bySketch then (hamming q.sketch x.sketch, 0)
  else if c.fmt == 2 then (hamming q.vec x.vec, 0)
  else if c.fmt == 1 then (0, fpDistance q.metric c.d q.vec x.vec)
  else if q.metric == 1 then (0, intCos c.d q.vec x.vec)
  else (intDistance q.metric c.d q.vec x.vec, 0)

/-- A distance is no greater than a bound, both as real numbers (R416, R439). -/
def distLe (float : Bool) (d : Int × F32) (bound : F32) : Bool :=
  if float then F.le d.2 bound
  else if F.isNaN bound then false
  else if F.isInf bound then !F.neg? bound
  else d.1 * 2 ^ 149 ≤ F.fixed bound

/-- Order of results: by exact distance, then by ascending locator (R347). -/
def Hit.before (float : Bool) (a b : Hit) : Bool :=
  if float then F.lt a.float b.float || (!F.lt b.float a.float && a.loc < b.loc)
  else a.dist < b.dist || (a.dist == b.dist && a.loc < b.loc)

def insertHit (float : Bool) (l : List Hit) (h : Hit) : List Hit :=
  match l with
  | [] => [h]
  | x :: xs => if h.before float x then h :: x :: xs else x :: insertHit float xs h

def sortHits (float : Bool) (l : List Hit) : List Hit := l.foldl (insertHit float) []

/-! ## A query's checks and admission -/

/-- What a query asks for (R412). -/
structure Ask where
  asker : Asker
  coll : Nat
  exact : Bool
  fmt : Option Nat
  d : Option Nat
  metric : Nat
  k : Nat
  c : Nat
  tag : Option Nat
  radius : Option F32
  bySketch : Bool
  keys : Bool
  body : Text
  roles : Option Nat
  exclude : Option (Nat × Text)
  deriving DecidableEq, Repr

/-- Table 17.1. -/
def metricOk (fmt metric : Nat) (bySketch : Bool) : Bool :=
  if bySketch || fmt == 2 then metric == 3 else metric ≤ 2

/-- Bytes of a query field (R412). -/
def queryBytes (c : Coll) (bySketch : Bool) : Nat := if bySketch then c.w / 8 else c.v + (if c.client then c.w / 8 else 0)

/-- Queries in the search queue (R418). -/
def searchQueue (s : State) : Nat := sumNat (s.sweep.forming.map fun f => f.queries.length)

/-- The argument checks of R413 on a collection in service. -/
def askArgs (c : Coll) (a : Ask) : Option Refused :=
  if a.fmt.any (· != c.fmt) then some (argRefused 102 "fmt" 2)
  else if !metricOk c.fmt a.metric a.bySketch then some (argRefused 102 "metric" 3)
  else if a.k < 1 || 1024 < a.k then some (argRefused 103 "k" 4)
  else if a.c != 0 && (a.c < a.k || 2048 < a.c) then some (argRefused 103 "c" 6)
  else if !a.bySketch && a.d.any (· != c.d) then some (argRefused 102 "d" 8)
  else if a.radius.any F.isNaN then some (argRefused 102 "radius" 12)
  else if a.body.length != queryBytes c a.bySketch then some (argRefused 102 "key" 20)
  else if !a.bySketch && c.fmt == 1 then (badHalf c.d a.body).map fun i => argRefused 102 "key" (20 + 2 * i)
  else none

/-- R413: the collection a query is for, or why it is refused. -/
def judgeAsk (a : Ask) (s : State) : State × Except Refused Coll :=
  match s.liveColl a.coll with
  | none => (s, .error absent205)
  | some c =>
    if c.state == 3 then let (s, r) := busyEstimate 9 s; (s, .error r)
    else
      match askArgs c a with
      | some r => (s, .error r)
      | none =>
        if 4096 ≤ searchQueue s then
          let (s, r) := busyEstimate 4 (raiseCount 0x310 [] s)
          (s, .error r)
        else
          match structureRefusal 4 s with
          | (s, some r) => (s, .error r)
          | (s, none) => (s, .ok c)

/-- The query as it waits: C = 0 selects min(2,048, 4k); a vector query of a device-sketched collection is sketched
here. -/
def makeQuery (c : Coll) (a : Ask) (s : State) : Query :=
  let vec := if a.bySketch then [] else a.body.take c.v
  let sketch := if a.bySketch then a.body else if c.client then a.body.drop c.v else sketchOf c.fmt c.d c.w c.seed vec
  { num := s.sweep.nextQuery, asker := a.asker, coll := c.num, exact := a.exact, k := a.k
    c := if a.c == 0 then min 2048 (4 * a.k) else a.c
    metric := a.metric, tag := a.tag, radius := a.radius, bySketch := a.bySketch, keys := a.keys, vec := vec
    sketch := sketch, roles := a.roles, exclude := a.exclude, at_ := s.now }

/-- Queries that a batch holds. -/
def batchRoom (exact : Bool) : Nat := if exact then 16 else 256

/-- The batches with one more query: it joins the one of its collection that has room, or opens another (R418). -/
def joinBatch (l : List Forming) (q : Query) (w now : Nat) : List Forming :=
  match l with
  | [] => [{ coll := q.coll, exact := q.exact, w := w, openedAt := now, ready := false, readyAt := 0, queries := [q] }]
  | f :: fs =>
    if f.coll == q.coll && f.exact == q.exact && f.queries.length < batchRoom q.exact then
      let f := { f with queries := f.queries ++ [q] }
      if f.queries.length == batchRoom q.exact && !f.ready then { f with ready := true, readyAt := now } :: fs else f :: fs
    else f :: joinBatch fs q w now

/-- A query enters the search queue. -/
def enqueue (c : Coll) (a : Ask) (s : State) : State :=
  let q := makeQuery c a s
  { s with sweep := { s.sweep with
      nextQuery := s.sweep.nextQuery + 1, forming := joinBatch s.sweep.forming q (s.reg .GOV_WINDOW_US) s.now } }

/-- Judges a query and queues it. -/
def askQuery (a : Ask) (s : State) : State × Option Refused :=
  match judgeAsk a s with
  | (s, .error r) => (s, some r)
  | (s, .ok c) => (enqueue c a s, none)

/-! ## What a batch sees (R401, R417, R422) -/

/-- A side-list entry that a batch sees. -/
def Side.seen (p : Nat) (e : Side) : Bool := seqLt e.seq p && (e.sup == 0 || !seqLt e.sup p) && e.kind != 3

/-- The side list as the lanes take it, from entry i on. -/
def seenSide (p lanes : Nat) (l : List Side) : List Seen :=
  (l.zip (List.range l.length)).filterMap fun (e, i) =>
    if e.seen p then some { lane := i % max 1 lanes, loc := e.loc, tag := e.tag, sketch := e.sketch, main := false } else none

/-- The main array as the lanes take it: a slot is seen where no published entry stands for it. -/
def seenMain (c : Coll) (p lanes : Nat) : List Seen :=
  (c.chunks.filter (·.loaded)).flatMap fun k =>
    k.slots.filterMap fun x =>
      if c.side.any fun e => locSlot e.loc == locSlot x.loc && seqLt e.seq p then none
      else some { lane := x.place / 32 % max 1 lanes, loc := x.loc, tag := x.tag, sketch := x.sketch, main := true }

def sweepList (c : Coll) (lanes : Nat) : List Seen := seenMain c c.pub lanes ++ seenSide c.pub lanes c.side

/-! ## Candidates (R423) -/

def placeLt (a b : Nat × Nat) : Bool := a.1 < b.1 || (a.1 == b.1 && a.2 < b.2)

def insertPlace (l : List (Nat × Nat)) (x : Nat × Nat) : List (Nat × Nat) :=
  match l with
  | [] => [x]
  | y :: ys => if placeLt x y then x :: y :: ys else y :: insertPlace ys x

/-- Hamming distances and locators in order. -/
def sortPlaces (l : List (Nat × Nat)) : List (Nat × Nat) := l.foldl insertPlace []

/-- What one lane keeps for a query: the 128 nearest that it reads. -/
def laneKeeps (b : Batch) (tagged : Bool) (q : Query) (lane : Nat) : List (Nat × Nat) :=
  let mine := b.seen.filter fun x => x.lane == lane && !(tagged && q.tag.any (· != x.tag))
  (sortPlaces (mine.map fun x => (hamming q.sketch x.sketch, x.loc))).take 128

/-- The candidates of a query: the first C of the union of the lanes' lists. -/
def candidates (b : Batch) (tagged : Bool) (q : Query) : List Nat :=
  ((sortPlaces ((List.range b.lanes).flatMap (laneKeeps b tagged q))).take (min q.c (128 * b.lanes))).map (·.2)

/-! ## Answers -/

/-- What a query comes to. -/
structure Result where
  code : Nat
  hits : List Hit
  dropped : Nat
  replaced : Nat
  batch : Nat
  deriving DecidableEq, Repr

/-- A SEARCH entry (R341). -/
def hitBody (float keys : Bool) (h : Hit) : Text :=
  let key := if keys then h.key else []
  (if float then leBytes 4 h.float else leBytes 4 (ofSigned 32 h.dist)) ++ leBytes 8 h.loc ++ leBytes 8 h.ver
    ++ leBytes 2 h.tag ++ [key.length, 0] ++ key

def resultBody (float keys : Bool) (x : Result) : Text :=
  leBytes 2 x.hits.length ++ leBytes 2 x.dropped ++ leBytes 2 x.replaced ++ [if x.code == 210 then 1 else 0, 0]
    ++ leBytes 4 x.batch ++ [0, 0, 0, 0] ++ x.hits.flatMap (hitBody float keys)

def distVal (float : Bool) (h : Hit) : Val := if float then .f h.float else .i h.dist

/-- A result line of SRCH.NEAR. A key that the line cannot hold stays out of it (R100; log entry 33). -/
def hitLine (addr : Nat) (float : Bool) (h : Hit) : List (String × Val) :=
  let kv := [("dist", distVal float h), ("loc", .x 16 h.loc), ("ver", .n h.ver), ("tag", .x 4 h.tag)]
  let full := kv ++ [("key", .q h.key)]
  if (replyText addr ⟨4, full⟩).length ≤ 250 then full else kv

/-- A query that ends with a refusal. -/
def failQuery (q : Query) (r : Refused) (s : State) : State :=
  match q.asker with
  | .dkp n id => respond n id 9 r.code r.body 0 s
  | .line r' => lateReply r' r.code r.kv s
  | .watch n =>
    match watchGet s n with
    | some w => raise (0x320 + n) [("reason", .c 4 "collection")] (s.setWatch { w with running := false, reason := 4 })
    | none => s
  | _ => stopRecall 3 s

def countDegraded (code : Nat) (s : State) : State :=
  if code == 210 then raiseCount 0x312 [] (s.incReg .SWEEP_DEGRADED) else s

/-- Keeps what a recall sample found. -/
def putSample (l : List (Nat × List Hit × Bool)) (i : Nat) (x : Result) : List (Nat × List Hit × Bool) :=
  l.filter (fun y => y.1 != i) ++ [(i, x.hits, x.code == 210)]

/-- Returns a query's results to whoever asked (R347, R433, R434, R439, R441, R512). -/
def answerQuery (q : Query) (float : Bool) (x : Result) (s : State) : State :=
  let s := countDegraded x.code s
  match q.asker with
  | .dkp n id => respond n id 9 x.code (resultBody float q.keys x) 0 s
  | .line r =>
    if !(s.routes.any fun y => y.route == r) then s else
    let s := more r (x.hits.map (hitLine (s.reg .LINE_ADDR) float)) s
    lateReply r x.code [("count", .n x.hits.length), ("deleted", .n x.dropped), ("replaced", .n x.replaced)] s
  | .recallA i => { s with sweep := { s.sweep with recallJob := s.sweep.recallJob.map fun j => { j with a := putSample j.a i x } } }
  | .recallX i => { s with sweep := { s.sweep with recallJob := s.sweep.recallJob.map fun j => { j with x := putSample j.x i x } } }
  | .watch _ => s

/-- The sample that a recall query leaves out: its own locator (R441). -/
def ownSample (s : State) (q : Query) (loc : Nat) : Bool :=
  let own := fun i => (s.sweep.recallJob.map fun j => j.slots.getD i 0) == some loc
  match q.asker with
  | .recallA i => own i
  | .recallX i => own i
  | _ => false

def excluded (s : State) (q : Query) (x : Slot) (loc : Nat) : Bool := q.exclude == some (x.ns, x.key) || ownSample s q loc

/-- The read test of a record's key (R363, R432): none while the policy banks reload; device authority passes. -/
def readable (q : Query) (x : Slot) (s : State) : State × Option Bool :=
  match q.roles with
  | none => (s, some true)
  | some m =>
    match classify x.ns x.key s with
    | (s, none) => (s, none)
    | (s, some w) => (s, some (roleMeets m (readRoles w)))

def hitOf (c : Coll) (q : Query) (x : Slot) : Hit :=
  let d := exactDistance c q x
  { dist := d.1, float := d.2, loc := locator c.num x.idx x.use, ver := x.ver, tag := x.tag, key := x.key }

/-- Whether the radius lets a record through (R416). -/
def inRadius (c : Coll) (q : Query) (x : Slot) : Bool :=
  match q.radius with
  | none => true
  | some r => distLe (floatDist c.fmt q.metric q.bySketch) (exactDistance c q x) r

/-! ## The vector cache (R428) -/

/-- CACHE: what the other regions leave (R271). -/
def cacheGib (s : State) : Nat :=
  s.mem.capGib - (1 + s.reg .DRAM_DIRTY_GIB + s.reg .DRAM_INDEX_GIB + s.reg .DRAM_META_GIB + s.reg .DRAM_SKETCH_GIB)

/-- The records that fit a number of bytes, those used last first. -/
def fitCache (s : State) (room : Nat) : List (Nat × Nat) → List (Nat × Nat)
  | [] => []
  | x :: xs =>
    let n := match s.coll x.1 with | some c => c.stride | none => 0
    if n ≤ room then x :: fitCache s (room - n) xs else []

/-- A record fetched through the cache; whether it was there. An entry with an uncorrectable error is discarded
(R279). -/
def cacheFetch (coll slot : Nat) (s : State) : State × Bool :=
  let hit := s.sweep.cache.any (· == (coll, slot))
  let bad := if hit && detected s 6 then s.mem.ue.find? fun e => e.region == 6 && e.held == some (coll, slot) else none
  let s := match bad with | some e => uncorrectable e s | none => s
  let hit := hit && bad.isNone
  let room := payload (cacheGib s) (s.reg .DRAM_ECC_CACHE == 1)
  let l := (coll, slot) :: s.sweep.cache.filter fun x => x != (coll, slot)
  let s := { s with sweep := { s.sweep with cache := fitCache s room l } }
  (if hit then s.incReg .RRK_CACHE_HITS else s.incReg .RRK_CACHE_MISSES, hit)

/-- A page that cannot be read, told for its channel (R283). Where it lies is a free value (log entry 3). -/
def mediaEvent (s : State) : State :=
  let ch := clampFree s.free 0 15
  (raise (0x200 + 4 * ch) [("ch", .n ch), ("tgt", .n (s.free / 16 % 8))] s).tick

end Sys2Proof.Machine
end

