-- ==== Sys2Proof/Machine/Sweep.lean ====
section
/-! DEFINITION. The sweep and the re-rank at work: batches and their boundaries, candidates, watches, recall jobs, the
SRCH verbs and the DKP SEARCH (R347, R412–R445, R512). -/

namespace Sys2Proof.Machine

/-! ## Batches (R418–R421) -/

/-- Lanes a batch that starts now sweeps with (R420): those of a domain that is up and not on its way off. -/
def lanesNow (s : State) : Nat :=
  let n := fun (d : Nat) => if bitAt s.pwr.on d && bitAt s.pwr.ready d && !bitAt s.pwr.gating d then 8 else 0
  n 7 + n 8

/-- The ready batch of a kind that starts first: by when it became ready, then by collection. -/
def firstReady (exact : Bool) (l : List Forming) : Option Forming :=
  (l.filter fun f => f.ready && f.exact == exact).foldl (fun m f =>
    match m with
    | none => some f
    | some x => if placeLt (f.readyAt, f.coll) (x.readyAt, x.coll) then some f else some x) none

/-- The batches without one. -/
def dropForming (f : Forming) : List Forming → List Forming
  | [] => []
  | x :: xs => if x == f then xs else x :: dropForming f xs

def takeForming (f : Forming) (s : State) : State := { s with sweep := { s.sweep with forming := dropForming f s.sweep.forming } }

/-- w of R83 for the boundary that follows a batch of n queries with a mean wait, held to its bounds. -/
def windowAfter (s : State) (n wait : Nat) : Nat :=
  let w := s.reg .GOV_WINDOW_US
  let lo := s.reg .GOV_BATCH_MIN_US
  let hi := s.reg .GOV_BATCH_MAX_US
  let w :=
    if n == 256 then max lo (w / 2)
    else if s.reg .GOV_LAT_TARGET_US / 2 < wait then max lo (w - 100)
    else if n < 32 then min hi (w + 100)
    else w
  max lo (min hi w)

/-- A query whose collection went, or is being rebuilt, when its batch would start (R407, R413). -/
def failBatch (qs : List Query) (s : State) : State :=
  qs.foldl (fun s q =>
    match s.liveColl q.coll with
    | none => failQuery q absent205 s
    | some _ => let (s, r) := busyEstimate 9 s; failQuery q r s) s

/-- Whether a batch of a collection can run. -/
def runnable (s : State) (n : Nat) : Option Coll := (s.liveColl n).bind fun c => if c.state == 3 then none else some c

/-- A lane batch starts (R83, R401, R419, R420). -/
def beginBatch (c : Coll) (f : Forming) (s : State) : State :=
  let num := s.sweep.batchNum
  let n := f.queries.length
  let wait := sumNat (f.queries.map fun q => (s.now - q.at_) / us 1) / max 1 n
  let lanes := lanesNow s
  let b : Batch := { num := num, coll := c.num, pub := c.pub, lanes := lanes, seen := sweepList c lanes, queries := f.queries,
                     degraded := c.state == 0, startAt := s.now }
  let s := (((s.setReg .SWEEP_BATCH_NUM num).setReg .SWEEP_LAST_N n).setReg .SWEEP_LAST_WAIT_US (sat 32 wait))
  { s with sweep := { s.sweep with running := some b, batchNum := (num + 1) % 2 ^ 32, nextWindow := some (windowAfter s n wait) } }

/-- The first ready lane batch that can run starts. -/
def startBatch : Nat → State → State
  | 0, s => s
  | n + 1, s =>
    match firstReady false s.sweep.forming with
    | none => s
    | some f =>
      let s := takeForming f s
      match runnable s f.coll with
      | some c => beginBatch c f s
      | none => startBatch n (failBatch f.queries s)

/-- An exact batch starts in the context engine (R421). -/
def beginExact (c : Coll) (f : Forming) (s : State) : State :=
  let num := s.sweep.batchNum
  let b : Batch := { num := num, coll := c.num, pub := c.pub, lanes := 0, seen := [], queries := f.queries,
                     degraded := c.state == 0, startAt := s.now }
  let s := s.setReg .SWEEP_BATCH_NUM num
  { s with sweep := { s.sweep with exact := some b, batchNum := (num + 1) % 2 ^ 32 } }

/-- The first ready exact batch starts, where none runs. -/
def startExact : Nat → State → State
  | 0, s => s
  | n + 1, s =>
    if s.sweep.exact.isSome then s
    else
      match firstReady true s.sweep.forming with
      | none => s
      | some f =>
        let s := takeForming f s
        match runnable s f.coll with
        | some c => beginExact c f s
        | none => startExact n (failBatch f.queries s)

/-- The re-rank partition takes up exact batches outside Morning (R13; log entry 101). -/
def nextExact (s : State) : State :=
  if s.mode == .M4 || !s.inService then s else startExact (s.sweep.forming.length + 1) s

/-- A forming batch of a collection that becomes ready: w µs have passed since its first query. -/
def makeReady (coll : Nat) (exact : Bool) (now : Nat) : List Forming → List Forming
  | [] => []
  | f :: fs =>
    if f.coll == coll && f.exact == exact && !f.ready && f.openedAt + us f.w ≤ now then { f with ready := true, readyAt := now } :: fs
    else f :: makeReady coll exact now fs

/-- R418: a forming batch has waited its window, or is full. -/
def execBatchReady (coll : Nat) (exact : Bool) (s : State) : Out :=
  .next (nextExact { s with sweep := { s.sweep with forming := makeReady coll exact s.now s.sweep.forming } })

/-- A batch boundary (R400, R403, R419): P is published, chunk switches take effect, the batching window is set, and a change of
it told (R83, R89). -/
def boundary (s : State) : State :=
  let pub := fun (c : Coll) => { c with pub := c.nextSeq }
  let s := switchChunks { s with colls := s.colls.map pub, collsDisk := s.collsDisk.map pub }
  match s.sweep.nextWindow with
  | some w =>
    let old := s.reg .GOV_WINDOW_US
    let s := { s.setReg .GOV_WINDOW_US w with sweep := { s.sweep with nextWindow := none } }
    if w == old then s else raiseLimited 0x3F2 (ms 100) (fun _ => [("w", .n w)]) s
  | none => s

/-- R419: the lanes are free and a batch is ready: a boundary, and the batch starts. -/
def execBatchBoundary (s : State) : Out :=
  .next
    (if s.sweep.running.isSome || (firstReady false s.sweep.forming).isNone || lanesNow s < 8 || !s.inService then s
     else
       let s := boundary s
       nextExact (startBatch (s.sweep.forming.length + 1) s))

/-- R419: no batch sweeps for 1 ms. -/
def execIdleBoundary (s : State) : Out :=
  .next (if s.sweep.running.isSome || !s.inService then s else nextExact (boundary s))

/-- A query goes to re-rank with its candidates (R423, R424). -/
def toRerank (b : Batch) (tagged : Bool) (q : Query) (s : State) : State :=
  let r : Rerank := { q := q, batch := b.num, pub := b.pub, cands := candidates b tagged q, hits := [], dropped := 0, replaced := 0,
                      degraded := b.degraded }
  let s := startRanks q.num r.cands { s with sweep := { s.sweep with rerank := s.sweep.rerank ++ [r] } }
  let s := s.incReg .SWEEP_QUERIES
  if 128 * b.lanes < q.c then raiseCount 0x311 [] (s.incReg .SWEEP_C_CUT) else s

/-- The uncorrectable errors that a pass over a collection meets. -/
def meetErrors (coll : Nat) (s : State) : State :=
  if detected s 5 then
    (s.mem.ue.filter fun e => e.region == 5 && e.held.any fun h => h.1 == coll).foldl (fun s e => uncorrectable e s) s
  else s

/-- R424: the pass and its merge are complete. -/
def execSweepPassEnd (s : State) : Out :=
  .next
    (match s.sweep.running with
     | none => s
     | some b =>
       let s := meetErrors b.coll s
       match s.sweep.running with
       | none => s
       | some b =>
         let tagged := match s.coll b.coll with | some c => c.tagged | none => false
         let s := s.setReg .SWEEP_LAST_PASS_US (sat 32 ((s.now - b.startAt) / us 1))
         b.queries.foldl (fun s q => toRerank b tagged q s) { s with sweep := { s.sweep with running := none } })

/-! ## Re-rank (R421, R425–R433) -/

/-- The context engine admits nothing between its drain and the application that follows (R429). -/
def engineHeld (s : State) : Bool := s.day.commits.any fun c => c.drain && c.drained

/-- A record that a query reads: the read test, the tag filter, what the query leaves out, the radius. `tagNow` says
that the filter is applied to the record's tag, `replaced` that its vector is later than the batch's P. -/
def judgeRecord (c : Coll) (tagNow replaced : Bool) (x : Slot) (r : Rerank) (s : State) : State × Except Refused Rerank :=
  match readable r.q x s with
  | (s, none) => let (s, e) := busyEstimate 10 s; (s, .error e)
  | (s, some false) => (s, .ok r)
  | (s, some true) =>
    if (tagNow && r.q.tag.any (· != x.tag)) || excluded s r.q x (locator c.num x.idx x.use) then (s, .ok r)
    else
      let s := if replaced then s.incReg .RRK_REPLACED else s
      let r := if replaced then { r with replaced := r.replaced + 1 } else r
      (s, .ok (if inRadius c r.q x then { r with hits := r.hits ++ [hitOf c r.q x] } else r))

/-- A query in re-rank with another state, or none where it has ended. -/
def putRerank (q : Nat) (r : Option Rerank) (l : List Rerank) : List Rerank :=
  l.filterMap fun x => if x.q.num == q then r else some x

/-- A candidate that was deleted (Table 17.3). -/
def dropDeleted (r : Rerank) (s : State) : State :=
  (s.setRerank (putRerank r.q.num (some { r with dropped := r.dropped + 1 }) s.sweep.rerank)).incReg .RRK_DROPPED_DEL

/-- The next candidate of a query, its slot record as it stands now (R428, R432). -/
def fetchCandidate (r : Rerank) (loc : Nat) (s : State) : State :=
  match s.coll r.q.coll with
  | none => dropDeleted r s
  | some c =>
    let (s, cached) := cacheFetch c.num (locSlot loc) s
    match slotGet c.slots (locSlot loc) with
    | none => dropDeleted r s
    | some x =>
      if !x.ok && !cached then
        failQuery r.q ⟨300, [], []⟩ (mediaEvent (s.setRerank (putRerank r.q.num none s.sweep.rerank)))
      else if !x.live || locator c.num x.idx x.use != loc then dropDeleted r s
      else
        match judgeRecord c (!c.tagged) (!seqLt x.seq r.pub) x r s with
        | (s, .error e) => failQuery r.q e (s.setRerank (putRerank r.q.num none s.sweep.rerank))
        | (s, .ok r) => s.setRerank (putRerank r.q.num (some r) s.sweep.rerank)

def rerankOf (s : State) (q : Nat) : Option Rerank := s.sweep.rerank.find? fun r => r.q.num == q

/-- R426, R432: a candidate's record has arrived: its distance is known, and its context is free. -/
def execRerankFetchComplete (f : Fetch) (s : State) : Out :=
  .next
    (match rerankOf s f.query with
     | none => s
     | some r =>
       if !fetching f.query f.loc s then s
       else fetchCandidate { r with cands := r.cands.filter (· != f.loc) } f.loc (freeCtx f.query f.loc s))

/-- Whether the distances of a query are binary32; a collection that is gone has no results. -/
def distKind (s : State) (q : Query) : Bool :=
  match s.coll q.coll with | some c => floatDist c.fmt q.metric q.bySketch | none => false

/-- A query that has read all it was to read (R433, R434). -/
def resultOf (float : Bool) (r : Rerank) : Result :=
  { code := if r.degraded then 210 else 0, hits := (sortHits float r.hits).take r.q.k, dropped := r.dropped,
    replaced := r.replaced, batch := r.batch }

def isWatch : Asker → Bool
  | .watch _ => true
  | _ => false

/-- R433: the last candidate is ranked: the results are returned. -/
def execQueryComplete (q : Nat) (s : State) : Out :=
  .next
    (match rerankOf s q with
     | none => s
     | some r =>
       if !r.cands.isEmpty || isWatch r.q.asker then s
       else
         let float := distKind s r.q
         answerQuery r.q float (resultOf float r) (s.setRerank (putRerank q none s.sweep.rerank)))

/-- One slot record of an exact batch and what its queries make of it (R421). A query that could not be judged leaves
with its refusal. -/
def exactSlot (c : Coll) (rs : List Rerank) (x : Slot) (s : State) : State × List Rerank :=
  rs.foldl (fun (acc : State × List Rerank) r =>
    match judgeRecord c true false x r acc.1 with
    | (s, .error e) => (failQuery r.q e s, acc.2)
    | (s, .ok r) => (s, acc.2 ++ [r])) (s, [])

/-- Every slot record in ascending order. One that cannot be read fails the queries that still run. -/
def exactPass (c : Coll) : List Slot → List Rerank → State → State × List Rerank
  | [], rs, s => (s, rs)
  | x :: xs, rs, s =>
    let (s, cached) := cacheFetch c.num x.idx s
    if !x.live then exactPass c xs rs s
    else if !x.ok && !cached then (rs.foldl (fun s r => failQuery r.q ⟨300, [], []⟩ s) (mediaEvent s), [])
    else
      let (s, rs) := exactSlot c rs x s
      exactPass c xs rs s

/-- R421: the exact batch has read every slot record; its results are returned and the next one starts. -/
def execExactBatchComplete (s : State) : Out :=
  .next
    (match s.sweep.exact with
     | none => s
     | some b =>
       if engineHeld s then s
       else
         let s := { s with sweep := { s.sweep with exact := none } }
         let rs := b.queries.map fun q =>
           { q := q, batch := b.num, pub := b.pub, cands := [], hits := [], dropped := 0, replaced := 0, degraded := b.degraded : Rerank }
         match s.coll b.coll with
         | none => nextExact (failBatch b.queries s)
         | some c =>
           let (s, rs) := exactPass c c.slots rs s
           nextExact (rs.foldl (fun s r =>
             let float := distKind s r.q
             answerQuery r.q float (resultOf float r) s) s))

/-- R429: every context in flight has finished; the commit that waits for it may be applied at the next boundary. -/
def markDrained : List Commit → List Commit
  | [] => []
  | c :: cs => if c.drain then { c with drained := true } :: cs else c :: markDrained cs

def execWalkCtxDrainComplete (s : State) : Out :=
  .next
    (if s.sweep.ctxs.any fun c => c.since.isSome then s
     else { s with day := { s.day with commits := markDrained s.day.commits } })

/-! ## Vectors of keys (R437) -/

/-- Why a key gives no vector. -/
inductive NoVector where
  | absent | length
  deriving DecidableEq, Repr

/-- The query field that a key gives for a collection, read with device authority: its vector in the collection, or its
value of V bytes. A value brings no sketch, so it is no query of a client-sketched collection. -/
def vectorOf (c : Coll) (ns : Nat) (key : Text) (s : State) : State × Except NoVector Text :=
  match readKey ns key s with
  | (s, .error _) => (s, .error .absent)
  | (s, .ok e) =>
    let own := e.vec.bind fun (n, i) => if n == c.num then slotGet c.slots i else none
    match own with
    | some x => if x.ok then (s, .ok (x.vec ++ (if c.client then x.sketch else []))) else (s, .error .absent)
    | none => if e.val.length == c.v && !c.client then (s, .ok e.val) else (s, .error .length)

/-! ## Watches (R436–R439) -/

/-- The reason of a failed run (Table 19.5b). -/
def watchReason : Nat → Val
  | 1 => .c 1 "absent"
  | 2 => .c 2 "length"
  | 3 => .c 3 "queue"
  | _ => .c 4 "collection"

/-- R438. -/
def watchFails (w : Watch) (reason : Nat) (s : State) : State :=
  raise (0x320 + w.n) [("reason", watchReason reason)] (s.setWatch { w with running := false, reason := reason })

/-- A run of a watch: a query with k = 1 that enters the queue (R437, R438). -/
def runWatch (w : Watch) (s : State) : State :=
  match s.liveColl w.coll with
  | none => watchFails w 4 s
  | some c =>
    if c.state == 3 then watchFails w 4 s
    else
      match vectorOf c w.ns w.key s with
      | (s, .error .absent) => watchFails w 1 s
      | (s, .error .length) => watchFails w 2 s
      | (s, .ok body) =>
        let full := 4096 ≤ searchQueue s
        let a : Ask := { asker := .watch w.n, coll := c.num, exact := false, fmt := none, d := none, metric := w.metric, k := 1,
                         c := w.c, tag := w.tag, radius := none, bySketch := false, keys := false, body := body, roles := none,
                         exclude := some (w.ns, w.key) }
        match askQuery a s with
        | (s, none) => s.setWatch { w with running := true }
        | (s, some r) => watchFails w (if full then 3 else if r.code == 102 then 2 else 1) s

/-- Watches run while SEARCH is legal (R437). -/
def watchesRun (s : State) : Bool := (searchModes s).any (· == s.mode) && s.inService

/-- R437: a run is due. -/
def execWatchPeriod (n : Nat) (s : State) : Out :=
  .next
    (match watchGet s n with
     | none => s
     | some w =>
       if !watchesRun s then s
       else if w.running then s.setWatch { w with skips := sat 16 (w.skips + 1) }
       else runWatch w s)

/-- What d a run found: the distance of the nearest, or +infinity. -/
def nearest (float : Bool) (hits : List Hit) : F32 :=
  match (sortHits float hits).head? with
  | some h => if float then h.float else F.ofInt h.dist
  | none => F.posInf

/-- d > thr, taken on the exact distance. -/
def beyond (float : Bool) (hits : List Hit) (thr : F32) : Bool :=
  match (sortHits float hits).head? with
  | some h => !distLe float (h.dist, h.float) thr
  | none => F.lt thr F.posInf

/-- The fields of EV 0x330: where there is no candidate, loc= is a free value (log entry 3). -/
def novelFields (float : Bool) (hits : List Hit) (thr : F32) (free : Nat) : List (String × Val) :=
  match (sortHits float hits).head? with
  | some h => [("dist", distVal float h), ("thr", .f thr), ("loc", .x 16 h.loc)]
  | none => [("dist", .f F.posInf), ("thr", .f thr), ("loc", .x 16 (free % 2 ^ 64))]

/-- A completed run that was not degraded (R439). -/
def judgeRun (float : Bool) (w : Watch) (hits : List Hit) (s : State) : State :=
  if beyond float hits w.thr then
    (raiseNovelty w.n (novelFields float hits w.thr s.free) (s.setWatch { w with novel := true })).tick
  else if w.novel then
    raise (0x338 + w.n) [("dist", match (sortHits float hits).head? with | some h => distVal float h | none => .f F.posInf)]
      (clearNoveltyOver w.n 1 (s.setWatch { w with novel := false }))
  else clearNoveltyOver w.n 1 (s.setWatch w)

/-- R439: a watch's run has ranked its last candidate. In Evening the novelty state holds (R17; log entry 119). -/
def execWatchRunComplete (n : Nat) (s : State) : Out :=
  .next
    (match s.sweep.rerank.find? fun r => r.q.asker == .watch n, watchGet s n with
     | some r, some w =>
       if !r.cands.isEmpty then s
       else
         let s := s.setRerank (putRerank r.q.num none s.sweep.rerank)
         let float := distKind s r.q
         let w := { w with running := false, runs := sat 32 (w.runs + 1), last := nearest float r.hits, degraded := r.degraded }
         if r.degraded then countDegraded 210 (s.setWatch w)
         else if s.mode == .M8 then s.setWatch w
         else judgeRun float w r.hits s
     | _, _ => s)

/-! ## SRCH verbs (R445, R512) -/

def vSrch (s : State) (name : String) (level : Nat) (changes : Bool) (args : List ArgSpec) : Verb :=
  { name := name, modes := searchModes s, level := level, changes := changes, loop := false, args := args }

def metricNames : List String := ["L2SQ", "COS", "DOT", "HAM"]
def metricArg : ArgSpec := ⟨"metric", true, .word metricNames⟩
def metricOf (l : Line) : Nat := (metricNames.takeWhile fun m => txt m != l.text "metric").length
def bigInt : Form := .int (-(2 ^ 64)) (2 ^ 65)

/-- A query of a line or of a recall sample, by its vector. -/
def vectorAsk (asker : Asker) (c : Coll) (exact : Bool) (metric k n : Nat) (body : Text) (roles : Option Nat) : Ask :=
  { asker := asker, coll := c.num, exact := exact, fmt := none, d := none, metric := metric, k := k, c := n, tag := none,
    radius := none, bySketch := false, keys := false, body := body, roles := roles, exclude := none }

/-- R445: a search with the vector of a key, whose read test uses the route's roles. -/
def doSrchNear (l : Line) (s : State) : State :=
  let r := l.route
  onColl (vSrch s "SRCH.NEAR" 0 false [collArg, nsArg, keyArg, ⟨"k", true, .num 1 16⟩, metricArg, ⟨"c", false, bigInt⟩]) l (fun c s =>
    if !metricOk c.fmt (metricOf l) false then reply r 102 [("arg", .w "metric")] s
    else
      match readTest (l.nat "ns") (l.text "key") (s.roles r) s with
      | (s, .error x) => refuse r x s
      | (s, .ok _) =>
        match vectorOf c (l.nat "ns") (l.text "key") s with
        | (s, .error .absent) => refuse r absent205 s
        | (s, .error .length) => reply r 102 [("arg", .w "key")] s
        | (s, .ok body) =>
          if (l.int? "c").any (· < 0) then reply r 103 [("arg", .w "c")] s
          else
            let a := vectorAsk (.line r) c false (metricOf l) (l.nat "k") (l.nat "c") body (some (s.roles r))
            match askQuery { a with keys := true } s with
            | (s, some x) => refuse r x s
            | (s, none) => setBusy r "SRCH.NEAR" s) s

def execSrchNear (l : Line) (s : State) : Out := .next (doSrchNear l s)

def vSrchWatch (s : State) : Verb :=
  vSrch s "SRCH.WATCH" 1 true
    [⟨"n", true, .num 0 7⟩, collArg, ⟨"ns", true, .num 2 255⟩, keyArg, ⟨"period_ms", true, .num 100 3600000⟩,
     ⟨"thr", true, .float⟩, metricArg, ⟨"c", false, .num 1 2048⟩, ⟨"tag", false, .num 0 65535⟩]

/-- The float that an argument spells. -/
def floatArg (l : Line) (k : String) : F32 := ((l.raw k).bind floatVal).getD 0

/-- The watch that a line defines. -/
def watchFrom (l : Line) (c : Coll) (novel : Bool) : Watch :=
  { n := l.nat "n", coll := c.num, ns := l.nat "ns", key := l.text "key", period := l.nat "period_ms", thr := floatArg l "thr",
    metric := metricOf l, c := l.nat "c" 64, tag := l.nat? "tag", novel := novel, degraded := false, reason := 0, last := 0,
    skips := 0, runs := 0, running := false }

/-- Whether two definitions watch the same key of the same collection (R436). -/
def Watch.same (a b : Watch) : Bool := a.coll == b.coll && a.ns == b.ns && a.key == b.key

/-- A watch is defined or changed, and runs at once. -/
def defineWatch (w : Watch) (s : State) : State :=
  let old := watchGet s w.n
  let kept := old.any fun o => o.same w
  let w := { w with novel := kept && old.any (·.novel) }
  let s := dropAskers (fun a => a == .watch w.n) s
  let s := if old.isSome && !kept then forgetNovelty w.n s else s
  let s := raise (0x328 + w.n) [("what", watchWhat (if old.isSome then 2 else 1))] (s.setWatch w)
  runWatch w s

/-- R436, R437. -/
def doSrchWatch (l : Line) (s : State) : State :=
  let r := l.route
  onColl (vSrchWatch s) l (fun c s =>
    if F.isNaN (floatArg l "thr") then reply r 102 [("arg", .w "thr")] s
    else if !metricOk c.fmt (metricOf l) false then reply r 102 [("arg", .w "metric")] s
    else
      match ns0Record s with
      | (s, some x) => refuse r x s
      | (s, none) =>
        let old := (watchGet s (l.nat "n")).isSome
        defineWatch (watchFrom l c false) (done r [("n", .n (l.nat "n")), ("replaced", .n old.toNat)] s)) s

def execSrchWatch (l : Line) (s : State) : Out := .next (doSrchWatch l s)

/-- R436. -/
def doSrchUnwatch (l : Line) (s : State) : State :=
  let r := l.route
  gate (vSrch s "SRCH.UNWATCH" 1 true [⟨"n", true, .num 0 7⟩]) l (fun s =>
    match watchGet s (l.nat "n") with
    | none => refuse r absent205 s
    | some w =>
      match ns0Record s with
      | (s, some x) => refuse r x s
      | (s, none) => removeWatch w.n (done r [("n", .n w.n)] s)) s

def execSrchUnwatch (l : Line) (s : State) : Out := .next (doSrchUnwatch l s)

/-- A watch on a line. A key that the line cannot hold stays out of it (R100; log entry 33). -/
def watchLine (addr : Nat) (w : Watch) : List (String × Val) :=
  let kv := fun (key : List (String × Val)) =>
    [("n", Val.n w.n), ("coll", .n w.coll), ("ns", .n w.ns)] ++ key ++
    [("period_ms", .n w.period), ("thr", .f w.thr), ("novel", .n w.novel.toNat), ("runs", .n w.runs)]
  let full := kv [("key", .q w.key)]
  if (replyText addr ⟨4, full⟩).length ≤ 250 then full else kv []

/-- R445, R512. -/
def doSrchWatches (l : Line) (s : State) : State :=
  gate (vSrch s "SRCH.WATCHES" 0 false []) l (fun s =>
    done l.route [] (more l.route (s.sweep.watches.map (watchLine (s.reg .LINE_ADDR))) s)) s

def execSrchWatches (l : Line) (s : State) : Out := .next (doSrchWatches l s)

/-! ## Recall (R440–R442) -/

/-- The first unused position at or after one, around the end. -/
def unusedFrom (size : Nat) (used : List Nat) (p : Nat) : Nat :=
  (((List.range size).map fun k => (p + k) % size).find? fun j => !used.any (· == j)).getD p

/-- The positions of n samples among S live slots (R441). -/
def samplePositions (size seed : Nat) : Nat → List Nat → List Nat
  | 0, used => used
  | n + 1, used => samplePositions size seed n (used ++ [unusedFrom size used (mix ((seed + used.length) % 2 ^ 64) % size)])

/-- A recall query of a sample. -/
def recallQuery (c : Coll) (j : Recall) (exact : Bool) (i num at_ : Nat) (x : Slot) : Query :=
  let a := vectorAsk (if exact then .recallX i else .recallA i) c exact j.metric j.k j.c (x.vec ++ (if c.client then x.sketch else [])) none
  { num := num, asker := a.asker, coll := c.num, exact := exact, k := j.k, c := if j.c == 0 then min 2048 (4 * j.k) else j.c,
    metric := j.metric, tag := none, radius := none, bySketch := false, keys := false, vec := x.vec, sketch := x.sketch,
    roles := none, exclude := none, at_ := at_ }

/-- Queries in groups of 16, each a ready exact batch (R441). -/
def exactGroups (coll w now : Nat) : Nat → List Query → List Forming
  | 0, _ => []
  | n + 1, qs =>
    if qs.isEmpty then []
    else { coll := coll, exact := true, w := w, openedAt := now, ready := true, readyAt := now, queries := qs.take 16 }
      :: exactGroups coll w now n (qs.drop 16)

/-- A recall job starts: its approximate batch and its exact batches are ready at once. -/
def startRecall (c : Coll) (n k m metric seed : Nat) (s : State) : State :=
  let live := c.slots.filter (·.live)
  let picked := (samplePositions live.length seed n []).filterMap fun p => live[p]?
  let j : Recall := { num := s.sweep.nextRecall, coll := c.num, n := n, k := k, c := m, metric := metric,
                      slots := picked.map fun x => locator c.num x.idx x.use, a := [], x := [] }
  let q0 := s.sweep.nextQuery
  let w := s.reg .GOV_WINDOW_US
  let tagged := picked.zip (List.range n)
  let as_ := tagged.map fun (x, i) => recallQuery c j false i (q0 + i) s.now x
  let xs := tagged.map fun (x, i) => recallQuery c j true i (q0 + n + i) s.now x
  let f : Forming := { coll := c.num, exact := false, w := w, openedAt := s.now, ready := true, readyAt := s.now, queries := as_ }
  nextExact { s with sweep := { s.sweep with
    recallJob := some j, nextRecall := if s.sweep.nextRecall == 65535 then 1 else s.sweep.nextRecall + 1
    nextQuery := q0 + 2 * n, forming := s.sweep.forming ++ [f] ++ exactGroups c.num w s.now 16 xs } }

/-- R440. -/
def doSrchRecall (l : Line) (s : State) : State :=
  let r := l.route
  onColl (vSrch s "SRCH.RECALL" 1 true
      [collArg, ⟨"n", true, .num 1 256⟩, ⟨"k", true, .num 1 1024⟩, ⟨"c", true, .num 0 2048⟩, metricArg,
       ⟨"seed", false, .num 0 18446744073709551615⟩]) l (fun c s =>
    let n := l.nat "n"
    let m := l.nat "c"
    match s.sweep.recallJob with
    | some j => reply r 204 [("job", .n j.num)] s
    | none =>
      if c.state == 3 then let (s, x) := busyEstimate 9 s; refuse r x s
      else if !metricOk c.fmt (metricOf l) false then reply r 102 [("arg", .w "metric")] s
      else if m != 0 && m < l.nat "k" then reply r 103 [("arg", .w "c")] s
      else if (c.slots.filter (·.live)).length < n + 1 then reply r 103 [("arg", .w "n")] s
      else
        startRecall c n (l.nat "k") m (metricOf l) (l.nat "seed") (reply r 1 [("job", .n s.sweep.nextRecall)] s)) s

def execSrchRecall (l : Line) (s : State) : Out := .next (doSrchRecall l s)

def sampleOf (l : List (Nat × List Hit × Bool)) (i : Nat) : List Hit × Bool :=
  match l.find? fun x => x.1 == i with
  | some x => x.2
  | none => ([], false)

/-- A member of A_i that is no farther than e_i, the last of the k nearest of X_i (R441). -/
def isHit (float : Bool) (last : Option Hit) (h : Hit) : Bool :=
  match last with
  | none => false
  | some e => if float then F.le h.float e.float else h.dist ≤ e.dist

/-- Hits and size over the samples. -/
def recallCount (float : Bool) (j : Recall) : Nat × Nat :=
  (List.range j.n).foldl (fun acc i =>
    let x := (sampleOf j.x i).1
    (acc.1 + ((sampleOf j.a i).1.filter (isHit float x.getLast?)).length, acc.2 + x.length)) (0, 0)

/-- R441: both results of every sample are there. A recall over nothing is a free value (log entry 3). -/
def execRecallJobComplete (s : State) : Out :=
  .next
    (match s.sweep.recallJob with
     | none => s
     | some j =>
       if j.a.length < j.n || j.x.length < j.n then s
       else
         let float := match s.coll j.coll with | some c => floatDist c.fmt j.metric false | none => false
         let (hits, total) := recallCount float j
         let ppm := if total == 0 then clampFree s.free 0 1000000 else hits * 1000000 / total
         let deg := fun (l : List (Nat × List Hit × Bool)) => (l.filter fun x => x.2.2).length
         let x : RecallResult := { job := j.num, ppm := ppm, n := j.n, hits := hits, degA := deg j.a, degX := deg j.x }
         let s := (s.setReg .SWEEP_RECALL_PPM ppm).tick
         raise 0x314 [("job", .n j.num), ("recall", .n ppm), ("n", .n j.n)]
           { s with sweep := { s.sweep with recallJob := none, results := s.sweep.results.filter (fun y => y.job != j.num) ++ [x] } })

/-- R441, R512. -/
def doSrchResult (l : Line) (s : State) : State :=
  let r := l.route
  gate (vSrch s "SRCH.RESULT" 0 false [⟨"job", true, .num 0 65535⟩]) l (fun s =>
    match s.sweep.results.find? fun x => x.job == l.nat "job" with
    | none => refuse r absent205 s
    | some x =>
      done r [("recall", .n x.ppm), ("n", .n x.n), ("hits", .n x.hits), ("deg_a", .n x.degA), ("deg_x", .n x.degX)] s) s

def execSrchResult (l : Line) (s : State) : Out := .next (doSrchResult l s)

/-! ## DKP SEARCH (R347) -/

/-- The query that a SEARCH body spells (Table 14.4). -/
def searchAsk (q : DkpReq) (roles : Nat) : Ask :=
  let b := q.body
  let flags := byteAt b 1
  { asker := .dkp q.sess q.id, coll := byteAt b 0, exact := bitAt flags 0, fmt := some (byteAt b 2), d := some (natAt b 8 2),
    metric := byteAt b 3, k := natAt b 4 2, c := natAt b 6 2, tag := if bitAt flags 1 then some (natAt b 10 2) else none,
    radius := if bitAt flags 2 then some (natAt b 12 4) else none, bySketch := bitAt flags 3, keys := bitAt flags 4,
    body := b.drop 20, roles := some roles, exclude := none }

def doDkpSearch (q : DkpReq) (s : State) : State :=
  let form : Except Nat (Sess → State → State) :=
    if q.body.length < 20 then .error q.body.length
    else .ok fun x s =>
      match askQuery (searchAsk q x.roles) s with
      | (s, some r) => dkpRefuse q 9 r s
      | (s, none) => s
  dkpRun q 9 form (searchModes s) s

def execDkpSearch (q : DkpReq) (s : State) : Out := .next (doDkpSearch q s)

end Sys2Proof.Machine
end

