-- ==== Sys2Proof/Machine/RegCore.lean ====
section
/-! DEFINITION. The register map: names, addresses and words of fields, what each field reads, and the forms in which
values are written and rendered (R518–R521, R535; the Meaning columns of the parameter tables). -/

namespace Sys2Proof.Machine

/-! ## Names and addresses -/

/-- A field of one instance of its family. -/
structure Field where
  p : Param
  inst : Nat
  deriving DecidableEq, Repr

def Block.name : Block → String
  | .SYS => "SYS" | .PWR => "PWR" | .CLK => "CLK" | .BOOT => "BOOT" | .LC => "LC" | .VAULT => "VAULT" | .ALM => "ALM"
  | .EVT => "EVT" | .LINE => "LINE" | .NET => "NET" | .DKP => "DKP" | .KV => "KV" | .DRAM => "DRAM" | .FLASH => "FLASH"
  | .COLL => "COLL" | .SWEEP => "SWEEP" | .RRK => "RRK" | .ASSOC => "ASSOC" | .CASC => "CASC" | .ISL => "ISL"
  | .FE => "FE" | .CAL => "CAL" | .HART => "HART" | .GOV => "GOV"

/-- The instance that a text names by a template in which # stands for its number, or 0 where the template has none. -/
def matchName (idx0 count : Nat) : Text → Text → Option Nat
  | [], t => if t.isEmpty then some 0 else none
  | 35 :: rest, t =>
    let ds := t.take (t.length - rest.length)
    if t.drop ds.length != rest || (1 < ds.length && ds.head? == some 48) then none
    else (decVal ds).bind fun n => if idx0 ≤ n && n < idx0 + count then some (n - idx0) else none
  | a :: rest, b :: t => if a == b then matchName idx0 count rest t else none
  | _ :: _, [] => none

/-- The halves of a pair share a name without its suffix (R519). -/
def pairName (suffix : Text) (name : Text) : Option Text :=
  let hash := name.reverse.head? == some 35
  let stem := if hash then name.dropLast else name
  if stem.drop (stem.length - suffix.length) == suffix then
    some (stem.take (stem.length - suffix.length) ++ (if hash then [35] else []))
  else none

/-- What a name= names: one field, the halves of a pair, or a whole word (R519). -/
inductive Named where
  | one (f : Field)
  | pair (lo hi : Field)
  | word (addr : Nat)
  deriving DecidableEq, Repr

/-- The fields of the word EVT.GPIOk. -/
def Param.isGpio : Param → Bool
  | .EVT_GPIO_EV | .EVT_GPIO_ON | .EVT_GPIO_LOW | .EVT_GPIO_PULSE | .EVT_GPIO_MS => true
  | _ => false

def oneNamed (t : Text) (p : Param) : Option Named :=
  let i := p.info
  (matchName i.idx0 i.count (txt i.name) t).map fun k => if p == .EVT_E then .word (i.base + 4 * k) else .one ⟨p, k⟩

/-- The fields of a pair stand one after the other in their table. -/
def pairNamed (t : Text) : List Param → Option Named
  | p :: q :: ps =>
    match pairName (txt "_LO") (txt p.info.name), pairName (txt "_HI") (txt q.info.name) with
    | some a, some b =>
      if a == b then
        match matchName p.info.idx0 p.info.count a t with
        | some k => some (.pair ⟨p, k⟩ ⟨q, k⟩)
        | none => pairNamed t (q :: ps)
      else pairNamed t (q :: ps)
    | _, _ => pairNamed t (q :: ps)
  | _ => none

/-- The block that a name begins with. -/
def blockNamed (t : Text) : Option Block := Block.all.find? fun b => txt b.name == t.takeWhile (· != 46)

/-- R519: what a name denotes. Names are values, so case counts (R96). -/
def fieldNamed (t : Text) : Option Named :=
  (blockNamed t).bind fun b =>
    match b.params.findSome? (oneNamed t) with
    | some x => some x
    | none =>
      match pairNamed t b.params with
      | some x => some x
      | none => if b == .EVT then (matchName 0 8 (txt "EVT.GPIO#") t).map fun k => .word (0x70020 + 4 * k) else none

/-- The block of an address, by its 64 KiB window (R518). -/
def blockAt (addr : Nat) : Option Block := Block.all[addr / 65536]?

/-- The instance of a field that a word holds, and which of its words it is. -/
def fieldAt (addr : Nat) (p : Param) : Option (Field × Nat) :=
  let i := p.info
  if addr < i.base then none
  else
    let d := addr - i.base
    let n := d / i.stride
    let off := d % i.stride
    if n < i.count && off / 4 < i.words then some (⟨p, n⟩, off / 4) else none

/-- The fields of a word. -/
def fieldsAt (addr : Nat) : List (Field × Nat) := ((blockAt addr).map fun b => b.params.filterMap (fieldAt addr)).getD []

/-- The address of a field's first word. -/
def Field.addr (f : Field) : Nat := f.p.info.base + f.inst * f.p.info.stride

/-- The name of a field. -/
def Field.name (f : Field) : String :=
  let i := f.p.info
  String.ofList (((txt i.name).flatMap fun c => if c == 35 then decText (i.idx0 + f.inst) else [c]).map Char.ofNat)

def Param.words (p : Param) : Nat := p.info.words
def Param.bits (p : Param) : Nat := if p.info.words == 1 then p.info.hi - p.info.lo + 1 else 32 * p.info.words

/-! ## What fields read -/

/-- The fields that read 0 until Sunrise has discovered the NAND (R535). -/
def discovered (s : State) : Bool := s.inService || 4 ≤ s.mem.sunrise.stage

/-- The fields that read 0 until the DRAM has been trained (R535). -/
def trained (s : State) : Bool := s.mem.capGib != 0

def flagBits (n : Nat) (f : Nat → Bool) : Nat := (List.range n).foldl (fun a i => if f i then a + 2 ^ i else a) 0

def usedTargets (s : State) : List Target := s.mem.targets.filter (·.used)

/-- WAF over the last 24 hours in hundredths (R381). -/
def wafNow (s : State) : Nat :=
  let l := s.kv.waf.filter fun h => s.now / sec 3600 < h.1 + 24
  let w := sumNat (l.map (·.2.1))
  if w == 0 then 0 else sat 16 (sumNat (l.map (·.2.2)) * 100 / w)

/-- Failures in the present window of the flood source. -/
def authCount (s : State) : Nat :=
  (s.sec.authFails.filter fun t => s.now < sec (s.reg .ALM_AUTH_WIN_S) || s.now - sec (s.reg .ALM_AUTH_WIN_S) < t).length

/-- Whether a signer hash counts as revoked: its fuse is burned, or it reads invalid (R246). -/
def signerRevoked (o : Otp) (n : Nat) : Bool := bitAt o.signerRevoked n || signerBad o n

/-- BOOT.SIGNERS: Alhogal hashes revoked, OEM hashes provisioned and revoked (R238, R246). -/
def signersNow (s : State) : Nat :=
  let o := s.sec.otp
  flagBits 4 (signerRevoked o) + 16 * flagBits 2 (fun i => signerHeld s (4 + i)) + 64 * flagBits 2 (fun i => signerRevoked o (4 + i))

/-- A field of a collection (Table 16.5); one that is absent reads the Reset column. -/
def collField (c : Coll) (p : Param) (k : Nat) : Nat :=
  match p with
  | .COLL_C_STATE => c.state
  | .COLL_C_FMT => c.fmt
  | .COLL_C_WCODE => c.wcode
  | .COLL_C_TAGGED => c.tagged.toNat
  | .COLL_C_SRC => c.client.toNat
  | .COLL_C_NS => c.ns
  | .COLL_C_D => c.d
  | .COLL_C_SEED_LO => c.seed % 2 ^ 32
  | .COLL_C_SEED_HI => c.seed / 2 ^ 32
  | .COLL_C_MAX_CHUNKS => c.maxChunks
  | .COLL_C_CHUNKS => c.chunks.length
  | .COLL_C_GEN => c.gen
  | .COLL_C_MAIN_LO => c.main % 2 ^ 32
  | .COLL_C_MAIN_HI => c.main / 2 ^ 32
  | .COLL_C_SIDE => c.side.length
  | .COLL_C_PUB_SEQ => c.pub
  | .COLL_C_MERGE_CHUNK => c.mergeChunk
  | .COLL_C_NAME => leNat ((c.name.drop (4 * k)).take 4)
  | _ => 0

/-- A field of a watch (Table 17.5). -/
def watchField (w : Watch) (p : Param) : Nat :=
  match p with
  | .SWEEP_W_CFG => w.coll + 256 + 512 * w.metric + (match w.tag with | some t => 2048 + 65536 * t | none => 0)
  | .SWEEP_W_NS => w.ns
  | .SWEEP_W_C => w.c
  | .SWEEP_W_PERIOD_MS => w.period
  | .SWEEP_W_THR => w.thr
  | .SWEEP_W_KEYLEN => w.key.length
  | .SWEEP_W_LAST_DIST => w.last
  | .SWEEP_W_STATE => w.novel.toNat + 2 * w.degraded.toNat + 256 * w.reason
  | .SWEEP_W_SKIPS => w.skips
  | .SWEEP_W_RUNS => w.runs
  | _ => 0

/-- What the port registers that the network block computes read (Table 13.7). -/
def portField (s : State) (p : Param) (n k : Nat) : Nat :=
  let x := s.port n
  match p with
  | .NET_P_LINK => x.link.toNat
  | .NET_P_V4_NOW => x.v4.now_
  | .NET_P_V4_LEASE_S => (x.v4.leaseEnd.map fun t => (t - s.now) / sec 1).getD 0
  | .NET_P_V6_NOW => swapWords x.v6.now_ / 2 ^ (32 * k) % 2 ^ 32
  | .NET_P_V6_ADDR => s.reg .NET_P_V6_ADDR n / 2 ^ (32 * k) % 2 ^ 32
  | .NET_P_MAC_LO => macOf s n % 2 ^ 32
  | .NET_P_MAC_HI => macOf s n / 2 ^ 32
  | .NET_P_PAUSE_MS => sat 32 (x.paused s.now / ms 1)
  | _ => s.reg p n

/-- A word of a field of the core die as a route reads it (none: the debug port): the fields that the block keeps
elsewhere than in its register file, and the file for all others. Shares of time measured over 100 ms are free values
(log entry 3). A write-only field reads 0 (R520). -/
def coreField (r : Option Route) (p : Param) (n k : Nat) (s : State) : Nat :=
  let o := s.sec.otp
  match p with
  | .CLK_BEAT_LO => s.clk.beat % 2 ^ 32
  | .CLK_BEAT_HI => s.clk.beat / 2 ^ 32
  | .CLK_TAI_LO => s.clk.tai % 2 ^ 32
  | .CLK_TAI_HI => s.clk.tai / 2 ^ 32
  | .CLK_TIME_STATE => s.clk.state.num
  | .CLK_TAI_VALID => s.clk.valid.toNat
  | .CLK_CASC_LOCK => s.clk.cascLock.toNat
  | .CLK_TAI_SET_LO | .CLK_TAI_SET_HI | .CLK_TAI_INVALIDATE => 0
  | .CLK_HOLD_S => if s.clk.state == .HOLDOVER then sat 32 ((s.now - s.clk.holdAt) / sec 1) else 0
  | .PWR_DOMAIN_ON => s.pwr.on
  | .PWR_DOMAIN_RET => s.pwr.ret
  | .PWR_PG_STATE => s.pwr.pg
  | .PWR_EN_STATE => s.pwr.en
  | .GOV_MODE_NOW => s.mode.num
  | .GOV_THROTTLE => s.day.t
  | .GOV_DIRTY_NOW_KIB => sat 32 (s.kv.dirtyBytes / 1024)
  | .LINE_LEVEL => (r.map s.level).getD 0
  | .LINE_FAILS => (r.map fun r => min 7 (lockOf r s).fails).getD 0
  | .LINE_LOCK_S => (r.map fun r => lockLeft (lockOf r s) s).getD 0
  | .LINE_RING_STATE => s.line.loss.toNat + 2 * s.line.dup.toNat + 256 * s.line.upstream.getD 0
  | .LINE_UNIT_ID_LO => o.ident.unitId % 2 ^ 32
  | .LINE_UNIT_ID_HI => o.ident.unitId / 2 ^ 32
  | .LINE_TLS_CONN => s.line.tlsConns.length
  | .ISL_LINK => s.bridge.link
  | .BOOT_FUSE_SVN => o.svnFuses
  | .BOOT_SIGNERS => signersNow s
  | .BOOT_UPD_STATE => updState s
  | .BOOT_UPD_NEXT => updNext s
  | .BOOT_TRACE => s.reg .BOOT_TRACE k
  | .LC_STATE => lifeCycle s
  | .LC_DEBUG => debugState s + 4 * s.sec.debugOpen.toNat
  | .LC_FUSES => o.fuses % 32 + 32 * (o.meshFuses % 4)
  | .LC_SEED_REVOKED => o.revoked
  | .LC_SEED_COMM => o.commissioned
  | .LC_SEED_ACTIVE => (activeSeed s).getD 8
  | .LC_OWNER_SET => ownerSet s
  | .LC_DBG_HASH => o.debugHash.isSome.toNat
  | .LC_AUTH => (r.map fun r => (s.route r).auth.toNat).getD 0
  | .VAULT_ATTR => attrWord s n
  | .VAULT_TRNG_OK => s.sec.trngOk.toNat
  | .ALM_LATCH => s.sec.latch + (if s.sec.latch == 0 then 0 else 256 * s.sec.latchSrc)
  | .ALM_SRC_NOW => (List.range 9).foldl (fun a n => if detectsNow s n then setBit a n else a) 0
  | .ALM_MESH_EN => meshEn s
  | .ALM_AUTH_COUNT => authCount s
  | .DRAM_CAP_GIB => s.mem.capGib
  | .DRAM_CACHE_GIB => if trained s then cacheGib s else 0
  | .DRAM_INDEX_KEYS => if trained s then sat 32 (indexKeys s) else 0
  | .FLASH_CH_IN_SERVICE => if discovered s then flagBits 16 fun c => (usedTargets s).any (·.ch == c) else 0
  | .FLASH_TARGETS =>
    if discovered s then flagBits 32 fun b => (usedTargets s).any fun t => 8 * t.ch + t.tgt == 32 * k + b else 0
  | .FLASH_RAW_GIB =>
    if discovered s then sumNat ((usedTargets s).map fun t => t.blocks * s.mem.blockBytes) / 1073741824 else 0
  | .FLASH_BAD_FACTORY => if discovered s then sumNat (s.mem.targets.map (·.factory)) else 0
  | .FLASH_BAD_GROWN => if discovered s then sumNat (s.mem.targets.map (·.grown)) else 0
  | .FLASH_SUNRISE_STAGE => s.mem.sunrise.stage
  | .NET_SESS_OPEN => s.sess.length
  | .NET_SESS_HS => (s.net.hs.filter (·.svc == 0)).length
  | .NET_ID_STATE => s.sec.identity.toNat + 2 * s.sec.chain.isSome.toNat
  | .KV_STATE => s.kv.mounted.toNat + 2 * s.kv.cleared.toNat
  | .KV_KEYS_LO => s.kv.keys.length % 2 ^ 32
  | .KV_KEYS_HI => s.kv.keys.length / 2 ^ 32
  | .KV_USER_MIB => userBytes s / 1048576
  | .KV_FROZEN => (s.kv.keys.filter (·.ver == frozenVer)).length
  | .KV_SNAP_OPEN => s.kv.snaps.length
  | .KV_ENDURANCE => if discovered s then s.kv.endurance else 0
  | .KV_ERASE_MEAN => if discovered s then s.kv.eraseMean else 0
  | .KV_ERASE_MAX => if discovered s then s.kv.eraseMax else 0
  | .KV_WEAR_PCT => if discovered s then min 255 (wearPct s.kv.eraseMean s.kv.endurance) else 0
  | .KV_WAF_X100 => wafNow s
  | .KV_NS_KEYS => sat 32 (s.kv.keys.filter (·.ns == n)).length
  | .COLL_FREE_CHUNKS => if trained s then sketchChunks s - (chunksReserved s.colls + 4) else 0
  | .COLL_RESERVED_MIB => sat 32 (nandReserved s.colls / 1048576)
  | .SWEEP_LANES_ON => (if bitAt s.pwr.on 7 then 0xFF else 0) + (if bitAt s.pwr.on 8 then 0xFF00 else 0)
  | .SWEEP_QUEUE => min 4096 (searchQueue s)
  | .SWEEP_EXACT_RUN => (s.sweep.exact.map fun b => b.queries.length).getD 0
  | .SWEEP_RECALL_JOB => (s.sweep.recallJob.map fun j => 1 + 65536 * (j.num % 65536)).getD 0
  | .SWEEP_OTHER_PCT | .RRK_UNIT_PCT => clampFree s.free 0 100
  | .RRK_WALK_BUSY => ctxsInUse true s
  | .RRK_RR_BUSY => ctxsInUse false s
  | .ASSOC_BANK_ON => banksOn s
  | .ASSOC_CURSORS => s.assoc.cursors.length
  | .ASSOC_SUSPECT => (s.assoc.entries.filter (·.suspect)).length
  | .ASSOC_POLICY_STATE => s.assoc.policyState
  | .ASSOC_B_VALID => validCount s n
  | .CASC_POS => s.assoc.straps
  | .CASC_MISMATCH => s.assoc.mismatch.toNat
  | .CASC_PRESENT => s.assoc.present
  | .CASC_WITHDRAWN => s.assoc.withdrawn
  | .CASC_COVERED => coveredSet s
  | .EVT_ALERT => (alertFirst s).isSome.toNat
  | .EVT_ALERT_FIRST => (alertFirst s).getD 0
  | .EVT_LOG_SEQ_LO => s.evt.nextSeq % 2 ^ 32
  | .EVT_LOG_SEQ_HI => s.evt.nextSeq / 2 ^ 32
  | .EVT_LOG_OLD_LO => s.evt.oldSeq % 2 ^ 32
  | .EVT_LOG_OLD_HI => s.evt.oldSeq / 2 ^ 32
  | .EVT_LATCH_SUM => flagBits 32 fun b => (evtGet s.evt.cells (32 * k + b)).latch
  | .EVT_E => evtWord s n
  | .SYS_VARIANT => o.ident.variant
  | .SYS_PROFILE => o.ident.profileG.toNat
  | .SYS_PENDING_DUSK => min 255 (s.day.queue.filter (·.kind == .commit)).length
  | p =>
    match p.info.blk with
    | .COLL => (s.coll n).elim (s.reg p n) fun c => collField c p k
    | .SWEEP => if p.info.count == 1 then s.reg p n else (watchGet s n).elim (s.reg p n) fun w => watchField w p
    | .NET => if p.info.count == 1 then s.reg p n else portField s p n k
    | _ => s.reg p n

/-- A field that the core die mirrors from the loop die (R532). -/
def Param.mirrored (p : Param) : Bool := p.onLoop

/-- One word of a field. A mirrored field reads its copy. -/
def fieldWord (r : Option Route) (f : Field) (k : Nat) (s : State) : Nat :=
  if f.p.mirrored then s.bridge.reg f.p (f.inst * f.p.words + k) else coreField r f.p f.inst k s

/-- The whole value of a field, its lowest word first. -/
def fieldValue (r : Option Route) (f : Field) (s : State) : Nat :=
  (List.range f.p.words).foldl (fun a k => a + fieldWord r f k s * 2 ^ (32 * k)) 0

/-! ## The latched halves (R28) -/

def latchGet (l : List (Route × Nat)) (r : Route) : Option Nat := (l.find? fun x => x.1 == r).map (·.2)

def latchPut (l : List (Route × Nat)) (r : Route) (v : Option Nat) : List (Route × Nat) :=
  let l := l.filter fun x => x.1 != r
  match v with
  | some v => l ++ [(r, v)]
  | none => l

/-- The latch of an access route over the high half of BEAT or TAI. -/
def latchedHi (r : Option Route) (tai : Bool) (s : State) : Option Nat :=
  match r with
  | some r => latchGet (if tai then s.clk.taiHi else s.clk.beatHi) r
  | none => if tai then s.clk.debugTaiHi else s.clk.debugBeatHi

def setLatchedHi (r : Option Route) (tai : Bool) (v : Option Nat) (s : State) : State :=
  let c := s.clk
  { s with clk := match r, tai with
    | some r, true => { c with taiHi := latchPut c.taiHi r v }
    | some r, false => { c with beatHi := latchPut c.beatHi r v }
    | none, true => { c with debugTaiHi := v }
    | none, false => { c with debugBeatHi := v } }

/-- Reads one word of a field: a low half of BEAT or TAI latches its high half for the route, and the next read of the
high half there returns what was latched (R28). -/
def readWord (r : Option Route) (f : Field) (k : Nat) (s : State) : State × Nat :=
  let v := fieldWord r f k s
  let hi := fun (tai : Bool) =>
    match latchedHi r tai s with
    | some h => (setLatchedHi r tai none s, h)
    | none => (s, v)
  match f.p with
  | .CLK_BEAT_LO => (setLatchedHi r false (some (s.clk.beat / 2 ^ 32)) s, v)
  | .CLK_TAI_LO => (setLatchedHi r true (some (s.clk.tai / 2 ^ 32)) s, v)
  | .CLK_BEAT_HI => hi false
  | .CLK_TAI_HI => hi true
  | _ => (s, v)

/-- The word at an address: its fields in their places; reserved bits read 0 (R520). -/
def readAddr (r : Option Route) (addr : Nat) (s : State) : State × Nat :=
  (fieldsAt addr).foldl (fun (s, a) (f, k) => let (s, v) := readWord r f k s; (s, a + v * 2 ^ f.p.info.lo)) (s, 0)

/-- The word at an address without the effect of reading it. -/
def wordAt (r : Option Route) (addr : Nat) (s : State) : Nat :=
  (fieldsAt addr).foldl (fun a (f, k) => a + fieldWord r f k s * 2 ^ f.p.info.lo) 0

/-! ## Values as they are written (R502, R519) -/

/-- The named values of the parameter tables, by number; a number without a name stands as a number. -/
def Param.valueNames : Param → List String
  | .SYS_VARIANT => ["DX-1500S", "DX-1500G", "DX-1500N"]
  | .SYS_PROFILE => ["S", "G"]
  | .CLK_TIME_STATE => ["FREE", "LOCKING", "LOCKED", "HOLDOVER"]
  | .ISL_LINK => ["DOWN", "SYNC", "UP"]
  | .ISL_SUPPLY => ["loop-powered", "aux-powered"]
  | .ISL_PV_SRC => ["LOCAL", "MAIN"]
  | .ISL_FAIL_DIR => ["low", "high"]
  | .FE_PV_MODE => ["BRIDGE", "LVDT", "ACV"]
  | .FE_AUX_MODE => ["BRIDGE", "", "ACV"]
  | .FE_FAULT_ACT => ["REPORT", "HOLD", "FAIL"]
  | .CAL_SC_MODE => ["linear", "table"]
  | .LC_STATE => ["BLANK", "PROVISIONED", "DEPLOYED", "RETURNED", "SCRAPPED"]
  | .ASSOC_POLICY_STATE => ["normal", "reloading", "fail-closed"]
  | .COLL_C_FMT => ["INT8", "FP16", "BIN"]
  | .COLL_C_SRC => ["device", "client"]
  | .NET_P_PTP => ["off", "IPv4", "IPv6"]
  | .BOOT_RUN_SLOT => ["A", "B"]
  | .BOOT_UPD_STATE => ["none", "open", "committed"]
  | _ => []

/-- Fields that hold a binary32 number, in the tables of every block. -/
def Param.binary32 : Param → Bool
  | .ISL_PV | .ISL_LRV | .ISL_URV | .ISL_MAIN_PV | .FE_RESULT | .FE_RESULT_Q | .FE_AUX_RESULT | .CAL_U_SPAN | .CAL_U_OFS
  | .CAL_U_ZERO_RAW | .CAL_U_ZERO_PT | .CAL_LU_GAIN | .CAL_LU_OFS | .CAL_NOM_SPAN | .CAL_STAB_LIM | .CAL_SC_GAIN
  | .CAL_SC_OFS | .CAL_R_FACT | .CAL_R_USER | .CAL_R_AUX | .CAL_F_OFS | .CAL_F_GAIN | .CAL_F_LGAIN | .CAL_F_LOFS
  | .SWEEP_W_THR | .SWEEP_W_LAST_DIST => true
  | _ => false

/-- Fields of four signed bytes. -/
def Param.signedBytes : Param → Bool
  | .PWR_TEMP_A | .PWR_TEMP_B | .CAL_MON_T_OFS_A | .CAL_MON_T_OFS_B => true
  | _ => false

/-- The bytes of a field of several words (R519): HART.TAG has six. -/
def Param.byteCount (p : Param) : Nat := if p.textBytes != 0 then p.textBytes else 4 * p.words

/-- A value as REG.READ with name= renders it. -/
def Field.render (f : Field) (v : Nat) : Val :=
  let names := f.p.valueNames
  let name := names.getD v ""
  if f.p == .SYS_REV then .w "B1"
  else if name != "" then .w name
  else if 1 < f.p.words then .b (leBytes f.p.byteCount v)
  else if f.p.signedBytes then
    .w (String.ofList ((List.intercalate [44] ((leBytes 4 v).map fun b => intText (toSigned 8 b))).map Char.ofNat))
  else if f.p.binary32 then .x 8 v
  else if f.p.info.signed then .i (toSigned f.p.bits v)
  else .n v

/-- Pieces of a text between commas. -/
def splitCommas (t : Text) : List Text :=
  t.foldr (fun c l => if c == 44 then [] :: l else match l with | x :: xs => (c :: x) :: xs | [] => [[c]]) [[]]

/-- What value= gives for a field: none where its form is wrong, else the raw bits, or a number beyond every range where
it does not fit the field. -/
def Field.parse (f : Field) (t : Text) : Option Nat :=
  let b := f.p.bits
  let beyond := 2 ^ (b + 1)
  let raw := fun (v : Int) => if 0 ≤ v && v < 2 ^ b then v.toNat else beyond
  if f.p.valueNames.any (fun n => n != "" && txt n == t) then
    some ((f.p.valueNames.takeWhile fun n => txt n != t).length)
  else if 1 < f.p.words then
    (hexBytes t).bind fun bs =>
      if bs.isEmpty || (f.p.textBytes != 0 && bs.length != f.p.textBytes) then none
      else some (if bs.length == f.p.byteCount then leNat bs else beyond)
  else if (afterHex t).isSome then (intVal t).map raw
  else if f.p.signedBytes then
    let vs := (splitCommas t).map intVal
    if vs.length == 4 && vs.all (·.isSome) then
      let vs := vs.map fun v => v.getD 0
      some (if vs.all fun v => -128 ≤ v && v ≤ 127 then leNat (vs.map (ofSigned 8)) else beyond)
    else none
  else if f.p.info.signed then
    (intVal t).map fun v => if -(2 ^ (b - 1) : Int) ≤ v && v < 2 ^ (b - 1) then ofSigned b v else beyond
  else (intVal t).map raw

end Sys2Proof.Machine
end

