-- ==== Sys2Proof/Machine/Regs.lean ====
section
/-! DEFINITION. The REG, CFG and GOV verbs, staged sets and their commits, the debug port (R90, R507–R510, R518–R531). -/

namespace Sys2Proof.Machine

/-! ## Who may touch a window (R518, R522) -/

def Block.readLevel (b : Block) : Nat := if b == .CAL then 1 else 0

/-- The blocks that Night serves (R261). -/
def Block.inNight : Block → Bool
  | .SYS | .PWR | .CLK | .BOOT | .LC | .VAULT | .ALM | .EVT | .LINE => true
  | _ => false

/-- Whether a write reaches a field: the row of namespace 0 and the role words of the policy banks take none (R384,
Table 18.6). -/
def Field.writable (f : Field) : Bool :=
  match f.p with
  | .KV_NS_ACT_LO | .KV_NS_ACT_HI | .KV_NS_ATTR => f.inst != 0
  | .ASSOC_B_ROLES => 4 ≤ f.inst
  | p => p.info.acc != .RO

def Field.writeLevel (f : Field) : Nat := if f.p.info.owner || f.p.info.blk == .VAULT || f.p.info.blk == .COLL then 2 else 1

/-- R5: the loop die's blocks are absent on the DX-1500N, and the loop-die quantities of CAL. -/
def fieldAbsent (s : State) (f : Field) : Bool :=
  s.noLoop && (f.p.mirrored || f.p.info.blk == .ISL || f.p.info.blk == .FE || f.p.info.blk == .HART)

/-- What a line names: its fields, and whether by address. -/
inductive Aim where
  | named (n : Named)
  | address (addr : Nat)
  | bad (code : Nat) (arg : String)
  deriving DecidableEq, Repr

/-- R507, R519: name= or addr=, one of them. -/
def aimOf (l : Line) : Aim :=
  match l.raw "name", l.int? "addr" with
  | some _, some _ => .bad 102 "addr"
  | some t, none => match fieldNamed t with | some (.word a) => .address a | some n => .named n | none => .bad 205 "name"
  | none, some a =>
    if (fieldsAt a.toNat).isEmpty then .bad 205 "addr"
    else .address a.toNat
  | none, none => .bad 102 "name"

def Aim.fields : Aim → List Field
  | .named (.one f) => [f]
  | .named (.pair a b) => [a, b]
  | .named (.word a) => (fieldsAt a).map (·.1)
  | .address a => (fieldsAt a).map (·.1)
  | .bad _ _ => []

/-- The address that a refusal reports. -/
def Aim.addr : Aim → Nat
  | .address a => a
  | .named (.word a) => a
  | x => (x.fields.head?.map Field.addr).getD 0

def aimArgs : List ArgSpec := [⟨"name", false, .token⟩, ⟨"addr", false, .address⟩]

def lowRefused (r : Route) (addr : Nat) (s : State) : State := denied r.byte addr .level s

/-! ## REG.READ -/

def vRegRead (a : Aim) : Verb :=
  { name := "REG.READ", modes := if a.fields.all (·.p.info.blk.inNight) then m3to9and11 else m3to9,
    level := a.fields.foldl (fun n f => max n f.p.info.blk.readLevel) 0, changes := false, loop := false, args := aimArgs }

/-- The reply of a read: 210 with link=down where the copy of a mirrored field is what is left (R145). -/
def readDone (r : Route) (stale : Bool) (kv : List (String × Val)) (s : State) : State :=
  if stale then reply r 210 (kv ++ ofDown) s else done r kv s

/-- 004 MORE lines of 96 bytes each (R519). -/
def byteRows (off : Nat) : Nat → Text → List (List (String × Val))
  | 0, _ => []
  | n + 1, b => if b.isEmpty then [] else [("o", .n off), ("d", .b (b.take 96))] :: byteRows (off + 96) n (b.drop 96)

def readNamed (r : Route) (stale : Bool) (n : Named) (s : State) : State :=
  match n with
  | .one f =>
    if f.p.words == 1 then
      let (s, v) := readWord (some r) f 0 s
      readDone r stale [("value", f.render v)] s
    else
      let b := leBytes f.p.byteCount (fieldValue (some r) f s)
      if b.length ≤ 96 then readDone r stale [("value", .b b)] s
      else readDone r stale [("len", .n b.length)] (more r (byteRows 0 (b.length / 96 + 1) b) s)
  | .pair lo hi =>
    let (s, a) := readWord (some r) lo 0 s
    let (s, b) := readWord (some r) hi 0 s
    readDone r stale [("value", .n (a + b * 2 ^ 32))] s
  | .word a =>
    let (s, v) := readAddr (some r) a s
    readDone r stale [("value", .x 8 v)] s

/-- R519, R522. -/
def doRegRead (l : Line) (s : State) : State :=
  let r := l.route
  let a := aimOf l
  gateWith (vRegRead a) l (lowRefused r a.addr) (fun s =>
    let fs := a.fields
    let stale := fs.any (·.p.mirrored) && s.bridge.link != 2
    match a with
    | .bad code arg => reply r code [("arg", .w arg)] s
    | a =>
      if fs.any (fieldAbsent s) || (stale && !s.bridge.upSinceDawn) then reply r 205 [] s
      else match a with
        | .named n => readNamed r stale n s
        | .address a => readNamed r stale (.word a) s
        | .bad _ _ => s) s

def execRegRead (l : Line) (s : State) : Out := .next (doRegRead l s)

/-! ## REG.DUMP -/

def vRegDump : Verb :=
  { name := "REG.DUMP", modes := m3to9and11, level := 1, changes := false, loop := false,
    args := [⟨"addr", true, .address⟩, ⟨"n", true, .num 1 1024⟩] }

/-- Why a field of a word cannot be dumped (R522). -/
def dumpRefusal (r : Route) (s : State) (f : Field) : Option Why :=
  if !levelOk (s.level r) f.p.info.blk.readLevel then some .level
  else if s.lineMode == .M11 && !f.p.info.blk.inNight then some .mode
  else if fieldAbsent s f then some .absent
  else if f.p.mirrored && s.bridge.link != 2 then some .link
  else none

/-- The first word of a span that is refused. -/
def firstRefused (r : Route) (s : State) : List Nat → Option (Nat × Why)
  | [] => none
  | a :: as =>
    match (fieldsAt a).findSome? fun x => dumpRefusal r s x.1 with
    | some w => some (a, w)
    | none => firstRefused r s as

def readSpan (r : Route) : List Nat → State → State × List Nat
  | [], s => (s, [])
  | a :: as, s =>
    let (s, v) := readAddr (some r) a s
    let (s, vs) := readSpan r as s
    (s, v :: vs)

def wordNames : List String := ["w0", "w1", "w2", "w3", "w4", "w5", "w6", "w7"]

def dumpRows (addr : Nat) : Nat → List Nat → List (List (String × Val))
  | 0, _ => []
  | n + 1, ws =>
    if ws.isEmpty then []
    else (("a", Val.x 8 addr) :: wordNames.zip ((ws.take 8).map (Val.x 8))) :: dumpRows (addr + 32) n (ws.drop 8)

/-- R510. -/
def doRegDump (l : Line) (s : State) : State :=
  let r := l.route
  gateWith vRegDump l (lowRefused r (l.nat "addr")) (fun s =>
    let addr := l.nat "addr"
    let n := l.nat "n"
    let span := (List.range n).map fun k => addr + 4 * k
    match firstRefused r s span with
    | some (a, w) => denied r.byte a w (reply r 206 [("addr", .x 6 a)] s)
    | none =>
      let (s, ws) := readSpan r span s
      done r [("n", .n n)] (more r (dumpRows addr 128 ws) s)) s

def execRegDump (l : Line) (s : State) : Out := .next (doRegDump l s)

/-! ## What a write must pass -/

/-- Fields kept in namespace 0: those so marked, and the alarm classes (R254, R521). -/
def Param.isNs0 (p : Param) : Bool := p.info.ns0 || p == .ALM_CLASS

/-- The place of a field in the register file: a field of several words stands whole. -/
def Field.cell (f : Field) (v : Nat) : Cell := ⟨f.p, f.inst, v⟩

/-- Whether a value lies in the range of a field of the core die. -/
def coreInRange (f : Field) (v : Nat) : Bool :=
  match f.p with
  | .NET_P_V6_ADDR => v < 2 ^ 128
  | .CAL_MON_T_OFS_A | .CAL_MON_T_OFS_B => v < 2 ^ 32 && (leBytes 4 v).all fun b => -5 ≤ toSigned 8 b && toSigned 8 b ≤ 5
  | .ALM_T_LO_C => v < 256 && -60 ≤ toSigned 8 v && toSigned 8 v ≤ -20
  | .EVT_E => v < 2 ^ 32
  | p => p.info.rmin ≤ v && v ≤ p.info.rmax && v < 2 ^ p.bits

abbrev Refusing := Option (Nat × List (String × Val))

def badValue (code : Nat) : Refusing := some (code, [("arg", .w "value")])

/-- The checks of single fields beyond their range, each of its own rule. -/
def fieldRefusal (f : Field) (v : Nat) (s : State) : Refusing :=
  match f.p with
  | .CLK_TAI_SET_HI => taiSetRefusal (s.clk.setLo + v * 2 ^ 32) s
  | .CLK_TAI_INVALIDATE => taiInvalidateRefusal v s
  | .ALM_CLASS => if (List.range 9).all fun i => classPermitted s i (bitsOf v (2 * i + 1) (2 * i)) then none else badValue 103
  | .ALM_MESH_EN => if lifeCycle s ≤ 1 then none else some (201, [])
  | .KV_NS_ACT_HI => if v < 2 ^ 21 then none else badValue 102
  | .ASSOC_BANK_ON => ((banksOff v s).find? (cursorNames s)).map fun b => (204, [("bank", .n b)])
  | .ASSOC_DW => (pairBusy v s).map fun b => (204, [("bank", .n b)])
  | .EVT_E => maskRefusal s f.inst (v % 64)
  | .COLL_C_MAX_CHUNKS =>
    match s.liveColl f.inst with
    | none => some (205, [])
    | some c => (maxChunksRefusal c v "value" s).map fun x => (x.code, x.kv)
  | .COLL_C_WCODE | .COLL_C_SEED_LO | .COLL_C_SEED_HI =>
    match s.liveColl f.inst with
    | none => some (205, [])
    | some c => if c.client && collField c f.p 0 != v then badValue 102 else none
  | .COLL_C_TAGGED => if (s.liveColl f.inst).isNone then some (205, []) else none
  | _ => none

/-- Range first, then the field's own checks. -/
def valueRefusal (f : Field) (v : Nat) (s : State) : Refusing :=
  if coreInRange f v then fieldRefusal f v s else badValue 103

/-- The value of a field as it would stand after a set. -/
def afterSet (set : List Staged) (s : State) (p : Param) (i : Nat := 0) : Nat :=
  ((set.find? fun w => w.p == p && w.i == i).map (·.v)).getD (s.reg p i)

/-- The checks that join fields (R90, R272, R299, R528): the fields that take part in the first that fails, and what
arg= says where a rule asks for it. -/
def jointFailure (set : List Staged) (s : State) : List (List (Param × Nat) × Option String) :=
  let v := fun (p : Param) => afterSet set s p
  let fail := fun (bad : Bool) (ps : List Param) =>
    if bad then [(ps.map fun p => ((p, 0) : Param × Nat), (none : Option String))] else []
  let fec := fun (p : Nat) =>
    if afterSet set s .NET_P_FEC p == 1 && afterSet set s .NET_P_SPEED p == 0 then
      [([((Param.NET_P_FEC, p) : Param × Nat), (Param.NET_P_SPEED, p)], some "FEC")] else []
  let dram := [Param.DRAM_INDEX_GIB, .DRAM_META_GIB, .DRAM_SKETCH_GIB]
  let used := v .DRAM_INDEX_GIB + v .DRAM_META_GIB + v .DRAM_SKETCH_GIB
  fail (v .GOV_MODE_MAX < v .GOV_MODE_MIN) [.GOV_MODE_MIN, .GOV_MODE_MAX]
    ++ fail (v .GOV_GC_HI_PCT ≤ v .GOV_GC_LO_PCT) [.GOV_GC_LO_PCT, .GOV_GC_HI_PCT]
    ++ fail (v .GOV_SCRUB_MAX_MS < v .GOV_SCRUB_MIN_MS) [.GOV_SCRUB_MIN_MS, .GOV_SCRUB_MAX_MS]
    ++ fail (v .GOV_BATCH_MAX_US < v .GOV_BATCH_MIN_US) [.GOV_BATCH_MIN_US, .GOV_BATCH_MAX_US]
    ++ fec 0 ++ fec 1
    ++ fail (trained s && s.mem.capGib * 3 / 4 < v .DRAM_SKETCH_GIB) [.DRAM_SKETCH_GIB]
    ++ fail (trained s && s.mem.capGib < 2 + s.reg .DRAM_DIRTY_GIB + used) dram

/-- The first write of a set, in its order, that takes part in a joint check that fails. -/
def jointRefusal (set : List Staged) (s : State) : Option (Field × Option String) :=
  let bad := jointFailure set s
  set.findSome? fun w => (bad.find? fun b => b.1.any (· == (w.p, w.i))).map fun b => (⟨w.p, w.i⟩, b.2)

/-! ## What a write does -/

def Param.applyClass (p : Param) : Nat :=
  match p.info.app with
  | .Q => 2
  | .E => 1
  | _ => 0

/-- The registers whose write acts outside the register itself (R571 to R573 and their chapters). -/
def applyActing (by_ : Nat) (f : Field) (v : Nat) (s : State) : Option State :=
  let old := s.reg f.p f.inst
  let set := s.setReg f.p v f.inst
  if f.p == .CLK_TAI_SET_LO then some { s with clk := { s.clk with setLo := v } }
  else if f.p == .CLK_TAI_SET_HI then some (taiSetNow (s.clk.setLo + v * 2 ^ 32) s)
  else if f.p == .CLK_TAI_INVALIDATE then some (taiInvalidateNow v s)
  else if f.p == .CLK_PTP_EN then
    some (if v == 0 && (s.clk.state == .LOCKING || s.clk.state == .LOCKED) then
      dropMaster { set with clk := { s.clk with masters := [] } } else set)
  else if f.p == .CLK_PTP_DOMAIN then some (if old == v then set else dropMaster { set with clk := { s.clk with masters := [] } })
  else if f.p == .CLK_SLEW_MAX then some { set with clk := { s.clk with rate := max (-(v : Int)) (min v s.clk.rate) } }
  else if f.p == .PWR_WAKE_AT_LO || f.p == .PWR_WAKE_AT_HI then some (noteBelowWake set)
  else if f.p == .FLASH_HOLDUP_MS then some (recomputeLimit set)
  else if f.p == .GOV_DIRTY_MAX_MIB then some (dirtyMaxMoved set)
  else if f.p == .ASSOC_POLICY_BANKS then some (flipPolicy old v set)
  else if f.p == .ASSOC_BANK_ON then
    some ((banksOff v s).foldl (fun s b => dropBank b s) (s.setReg .ASSOC_BANK_ON (v / 16 * 16 + 15)))
  else if f.p == .ASSOC_DW then some ((dwChanged s v).foldl (fun s b => dropBank b s) set)
  else if f.p == .KV_NS_ACT_LO || f.p == .KV_NS_ACT_HI || f.p == .KV_NS_ATTR then
    some (if old == v then set else raise 0x250 [("ns", .n f.inst), ("by", .c by_ (byWord by_))] set)
  else if f.p == .EVT_E then some (setMasks [f.inst] (v % 64) s)
  else if f.p == .COLL_C_MAX_CHUNKS then some ((s.liveColl f.inst).elim s fun c => setMaxChunks c v s)
  else if f.p == .DRAM_RATE then some { set with mem := { s.mem with rateKept := v } }
  else if f.p == .FLASH_RATE then some { set with mem := { s.mem with flashRateKept := v } }
  else none

/-- The effect of one field that takes effect (R525), its value already kept. `by_` is the route byte. -/
def applyField (by_ : Nat) (f : Field) (v : Nat) (s : State) : State :=
  let set := s.setReg f.p v f.inst
  match applyActing by_ f v s with
  | some t => t
  | none =>
    if f.p.isGpio then { set with evt := { s.evt with gpio := clearBit s.evt.gpio f.inst, gpioOn := true } }
    else if f.p.info.blk == .COLL then s
    else set

/-- A whole set takes effect (R526, R529): the network block sees all its changes at once. -/
def applyAll (by_ : Nat) (set : List Staged) (s : State) : State :=
  let s' := set.foldl (fun s w => applyField by_ ⟨w.p, w.i⟩ w.v s) s
  if set.any fun w => w.p.info.blk == .NET then netApplied s s' else s'

def ns0Cells (set : List Staged) : List Cell :=
  (set.filter fun w => w.p.isNs0).map fun w => ⟨w.p, w.i, if w.p == .EVT_E then w.v % 64 else if w.p == .ASSOC_BANK_ON then w.v / 16 * 16 + 15 else w.v⟩

/-- The ns0 fields of a set are kept before it applies (R521); the definition of a collection is a record. -/
def keepSet (set : List Staged) (s : State) : State × Option Refused :=
  match ns0Write (ns0Cells set) s with
  | (s, some x) => (s, some x)
  | (s, none) => if set.any (·.p == .COLL_C_MAX_CHUNKS) then ns0Record s else (s, none)

/-! ## Staged sets (R508) -/

/-- A set with one more write: a second write of a field replaces the first in its place. -/
def stagePut (l : List Staged) (w : Staged) : List Staged :=
  match l with
  | [] => [w]
  | x :: xs => if x.p == w.p && x.i == w.i then w :: xs else x :: stagePut xs w

/-- R508: the writes join the staged set of their route. -/
def stageWrites (r : Route) (set : List Staged) (s : State) : State :=
  let old := (s.route r).staged
  let new := set.foldl stagePut old
  if 64 < new.length then reply r 204 [("staged", .n 64)] s
  else reply r 3 [("at", .w "commit"), ("staged", .n new.length)] (s.updRoute r fun x => { x with staged := new })

/-! ## REG.WRITE -/

/-- The writes of a word (R521): every writable field whose value changes, and every write-only one; a read-sticky field
keeps its bits. A word of EVT.E writes its masks. -/
def wordChanges (addr v : Nat) (s : State) : List Staged :=
  (fieldsAt addr).filterMap fun (f, k) =>
    if !f.writable then none
    else
      let bits := bitsOf v f.p.info.hi f.p.info.lo
      let whole := fieldValue none f s
      let cur := fieldWord none f k s
      let new := if f.p.info.acc == .RS then cur ||| bits else if f.p == .EVT_E then bits % 64 else bits
      let cur := if f.p == .EVT_E then cur % 64 else cur
      if f.p.info.acc != .WO && new == cur then none
      else if f.p.mirrored then some ⟨f.p, f.inst * f.p.words + k, new⟩
      else some ⟨f.p, f.inst, whole - fieldWord none f k s * 2 ^ (32 * k) + new * 2 ^ (32 * k)⟩

/-- What a line writes: its writes, or why its value cannot be taken. -/
def changesOf (a : Aim) (t : Text) (s : State) : Except (Nat × List (String × Val)) (List Staged) :=
  let arg := fun (code : Nat) => Except.error (code, [("arg", Val.w "value")])
  match a with
  | .bad code x => .error (code, [("arg", .w x)])
  | .named (.one f) =>
    match f.parse t with
    | none => arg 102
    | some v =>
      if f.p.mirrored then
        (if f.p.words == 1 then .ok [⟨f.p, f.inst, v⟩] else .ok (stageWords f.p ((List.range f.p.words).map fun k => v / 2 ^ (32 * k) % 2 ^ 32)))
      else if f.p.info.acc == .RS && v < 2 ^ 32 then .ok [⟨f.p, f.inst, s.reg f.p f.inst ||| v⟩]
      else .ok [⟨f.p, f.inst, v⟩]
  | .named (.pair lo hi) =>
    match intVal t with
    | none => arg 102
    | some v =>
      if v < 0 || 2 ^ 64 ≤ v then arg 103
      else .ok [⟨lo.p, lo.inst, v.toNat % 2 ^ 32⟩, ⟨hi.p, hi.inst, v.toNat / 2 ^ 32⟩]
  | .named (.word addr) | .address addr =>
    match intVal t with
    | none => arg 102
    | some v => if v < 0 || 2 ^ 32 ≤ v then arg 103 else .ok (wordChanges addr v.toNat s)

/-- The value that the reply of a write shows. -/
def shownAfter (a : Aim) (set : List Staged) (s : State) : Val :=
  match a with
  | .named (.one f) => if f.p.info.acc == .WO then .n ((set.head?.map (·.v)).getD 0) else f.render (fieldValue none f s)
  | .named (.pair lo hi) =>
    if lo.p.info.acc == .WO then .n ((set.map (·.v)).foldr (fun v a => v + a * 2 ^ 32) 0)
    else .n (fieldValue none lo s + fieldValue none hi s * 2 ^ 32)
  | a => .x 8 (wordAt none a.addr s)

/-- The checks of R34 over both halves when they are written as one. -/
def setRefusal (set : List Staged) (s : State) : Refusing :=
  let s := match set.find? (·.p == .CLK_TAI_SET_LO) with | some w => { s with clk := { s.clk with setLo := w.v } } | none => s
  set.findSome? fun w => valueRefusal ⟨w.p, w.i⟩ w.v s

/-- Bit 8 of EVT.En written as 1 clears the latch (R486). -/
def latchCleared (a : Aim) (v : Nat) : Option Nat :=
  match a with
  | .address addr => if 0x71000 ≤ addr && addr < 0x72000 && bitAt v 8 then some ((addr - 0x71000) / 4) else none
  | _ => none

/-- A class I write of the core die: the store keeps its ns0 fields, then it takes effect (R521, R525). -/
def writeNow (r : Route) (a : Aim) (set : List Staged) (clear : Option Nat) (s : State) : State :=
  match setRefusal set s with
  | some (code, kv) => reply r code kv s
  | none =>
    if (jointRefusal set s).isSome then reply r 102 [("arg", .w "value")] s
    else
      match keepSet set s with
      | (s, some x) => reply r x.code x.kv s
      | (s, none) =>
        let s := applyAll r.byte set s
        let (s, kept) := match clear with | some id => clearEvents [id] false s | none => (s, false)
        done r ([("value", shownAfter a set s)] ++ keptField kept) s

/-- A write of a mirrored field leaves as one write unit (R533). -/
def writeMirrored (r : Route) (a : Aim) (cc : Option Nat) (set : List Staged) (s : State) : State :=
  let copy := { s with bridge := set.foldl (fun b w => b.setReg w.p w.v w.i) s.bridge }
  let unit : BridgeUnit := ⟨some r, "REG.WRITE", cc, .fields set, [], [("value", shownAfter a set copy)], none⟩
  setBusy r "REG.WRITE" { s with bridge := { s.bridge with units := s.bridge.units ++ [unit] } }

def classOf (set : List Staged) : Nat := set.foldl (fun n w => max n w.p.applyClass) 0

/-- R521: the write by its class. -/
def writeFields (r : Route) (a : Aim) (cc : Option Nat) (t : Text) (s : State) : State :=
  match changesOf a t s with
  | .error (code, kv) => reply r code kv s
  | .ok set =>
    if a.fields.any (·.p.mirrored) then
      (if set.isEmpty then done r [("value", shownAfter a set s)] s else writeMirrored r a cc set s)
    else if classOf set == 0 then writeNow r a set ((intVal t).bind fun v => latchCleared a v.toNat) s
    else
      match setRefusal set s with
      | some (code, kv) => reply r code kv s
      | none => stageWrites r set s

/-- The level that a write takes (R518): that of every writable field it reaches; clearing the latch of an alarm
event takes OWNER (R486). -/
def writeLevelOf (l : Line) (a : Aim) : Nat :=
  let v := ((l.raw "value").bind intVal).getD 0
  let alarm := (latchCleared a v.toNat).any fun id => within id 0x080 0x0BF
  let own := (a.fields.filter (·.writable)).foldl (fun n f => max n f.writeLevel) 1
  if alarm then 2 else own

/-- Whether value= has the form that the field named takes (R98, R519). -/
def valueFormed (a : Aim) (t : Text) : Bool :=
  match a with
  | .named (.one f) => !f.writable || (f.parse t).isSome
  | .bad _ _ => true
  | _ => (intVal t).isSome

def vRegWrite (l : Line) (a : Aim) : Verb :=
  { name := "REG.WRITE", modes := m4to9, level := writeLevelOf l a, changes := true, loop := false,
    args := aimArgs ++ [⟨"value", true, .judged (valueFormed a (l.text "value"))⟩, ccSpec] }

/-- R507, R508, R520–R523. -/
def doRegWrite (l : Line) (s : State) : State :=
  let r := l.route
  let a := aimOf l
  gateWith (vRegWrite l a) l (lowRefused r a.addr) (fun s =>
    let fs := a.fields
    let mirrored := fs.any (·.p.mirrored)
    let readOnly := match a with
      | .named (.pair x y) => !x.writable || !y.writable
      | _ => !fs.any (·.writable)
    match a with
    | .bad code arg => reply r code [("arg", .w arg)] s
    | a =>
      if fs.any (fieldAbsent s) then reply r 205 [] s
      else if readOnly then denied r.byte a.addr .readOnly (reply r 206 [] s)
      else if mirrored && s.bridge.link != 2 then reply r 205 ofDown s
      else if l.has "cc" && !mirrored then reply r 102 [("arg", .w "cc")] s
      else writeFields r a (l.nat? "cc") (l.text "value") s) s

def execRegWrite (l : Line) (s : State) : Out := .next (doRegWrite l s)

/-! ## CFG (R508, R509, R526–R531) -/

def applyWord : Nat → String
  | 0 => "I"
  | 1 => "E"
  | _ => "Q"

def vCfg (name : String) (level : Nat) (changes : Bool) (args : List ArgSpec) : Verb :=
  { name := name, modes := m4to9, level := level, changes := changes, loop := false, args := args }

def doCfgShow (l : Line) (s : State) : State :=
  gate (vCfg "CFG.SHOW" 0 false []) l (fun s =>
    let set := (s.route l.route).staged
    let rows := set.map fun w =>
      let f : Field := ⟨w.p, w.i⟩
      [("name", Val.w f.name), ("value", f.render w.v), ("apply", .w (applyWord w.p.applyClass))]
    done l.route [("staged", .n set.length)] (more l.route rows s)) s

def execCfgShow (l : Line) (s : State) : Out := .next (doCfgShow l s)

def doCfgDiscard (l : Line) (s : State) : State :=
  gate (vCfg "CFG.DISCARD" 1 true []) l (fun s =>
    done l.route [("staged", .n 0)] (s.updRoute l.route fun x => { x with staged := [] })) s

def execCfgDiscard (l : Line) (s : State) : Out := .next (doCfgDiscard l s)

/-- Fields that apply after a drain, and those that apply in Dusk alone (Table 21.3). -/
def Param.needs (p : Param) : Option String :=
  if p.applyClass != 2 then none else if p == .RRK_WALK_CTX then some "drain" else some "dusk"

/-- The first write of a set that its apply point cannot take, with need= (R509). -/
def notAtomic (drain : Bool) (set : List Staged) : Option (Field × String) :=
  set.findSome? fun w => w.p.needs.bind fun n => if drain && n == "drain" then none else some (⟨w.p, w.i⟩, n)

def emptyStaged (r : Route) (s : State) : State := s.updRoute r fun x => { x with staged := [] }

def addCommit (r : Route) (set : List Staged) (drain : Bool) (s : State) : State :=
  { s with day := { s.day with commits := s.day.commits ++ [⟨r, set, drain, false, s.now⟩] } }

def vCfgCommit : Verb := vCfg "CFG.COMMIT" 1 true [⟨"when", true, .word ["now", "drain", "dusk"]⟩]

/-- R509: a set that a Dusk job takes is a record of namespace 0 from then on. -/
def commitDusk (r : Route) (set : List Staged) (s : State) : State :=
  match ns0Record s with
  | (s, some x) => reply r x.code x.kv s
  | (s, none) =>
    let (s, n) := queueJob .commit 0 set s
    reply r 3 [("at", .w "dusk"), ("staged", .n set.length), ("job", .n n)] (emptyStaged r s)

/-- R509. -/
def doCfgCommit (l : Line) (s : State) : State :=
  let r := l.route
  gate vCfgCommit l (fun s =>
    let set := (s.route r).staged
    let drain := l.isWord "when" "drain"
    if set.isEmpty then reply r 205 [("arg", .w "staged")] s
    else match jointRefusal set s with
      | some (f, arg) =>
        reply r 102 ([("name", .w f.name)] ++ (match arg with | some a => [("arg", .w a)] | none => [])) s
      | none =>
        if l.isWord "when" "dusk" then commitDusk r set s
        else match notAtomic drain set with
          | some (f, need) => reply r 203 [("name", .w f.name), ("need", .w need)] s
          | none =>
            let s := addCommit r set drain (emptyStaged r s)
            if drain then reply r 1 [("staged", .n set.length)] s else setBusy r "CFG.COMMIT" s) s

def execCfgCommit (l : Line) (s : State) : Out := .next (doCfgCommit l s)

/-- A set takes effect at a boundary, its ns0 fields kept first; where the store refuses them nothing of it applies. -/
def applySet (by_ : Nat) (set : List Staged) (s : State) : State × Option Refused :=
  match keepSet set s with
  | (s, some x) => (s, some x)
  | (s, none) => ((applyAll by_ set s).incReg .SYS_COMMITS, none)

/-- A commit with when=now at its boundary (R509, R526): a refusal keeps the set. -/
def commitNow (s : State) (c : Commit) : State :=
  match applySet c.route.byte c.set s with
  | (s, some x) =>
    let s := if s.routes.any (fun y => y.route == c.route) then s.updRoute c.route fun y => { y with staged := c.set } else s
    lateReply c.route x.code x.kv s
  | (s, none) => lateReply c.route 0 [("staged", .n c.set.length)] s

/-- An epoch boundary can be made: no batch sweeps (R526). -/
def atBoundary (s : State) : Bool := s.sweep.running.isNone && s.inService && !s.pwr.failing

/-- R526: every commit that waits for a boundary takes effect, in the order they were made. -/
def execEpochBoundaryApply (s : State) : Out :=
  .next
    (if !atBoundary s then s
     else
       let (now, later) := s.day.commits.partition fun c => !c.drain
       now.foldl commitNow { s with day := { s.day with commits := later } })

/-- R529: the drained commit applies at the first boundary; the engine admits again. -/
def execDrainCommitApply (s : State) : Out :=
  .next
    (match s.day.commits.find? fun c => c.drain && c.drained with
     | none => s
     | some c =>
       if !atBoundary s then s
       else
         let s := { s with day := { s.day with commits := s.day.commits.erase c } }
         match applySet c.route.byte c.set s with
         | (s, some x) => raise 0x24A [("job", .n 0), ("status", .n x.code)] s
         | (s, none) => raise 0x313 [("walk", .n (s.reg .RRK_WALK_CTX)), ("us", .n (sat 32 ((s.now - c.at_) / us 1)))] s)

/-! ## GOV (R507) -/

/-- The pins of GOV.PIN with the value that each pins. -/
def pinWhats : List String := ["mode", "merge", "gc", "scrub"]

def pinParam (b : Nat) : Option Param :=
  match b with
  | 0 => some .GOV_PIN_MODE
  | 2 => some .GOV_PIN_GC_PCT
  | 3 => some .GOV_PIN_SCRUB_MS
  | _ => none

def doGovShow (l : Line) (s : State) : State :=
  gate (vCfg "GOV.SHOW" 0 false []) l (fun s =>
    done l.route [("mode", .w s.mode.text), ("t", .n s.day.t), ("w", .n (s.reg .GOV_WINDOW_US)),
      ("lim_kib", .n (s.reg .GOV_DIRTY_LIMIT_KIB)), ("dirty_kib", .n (sat 32 (s.kv.dirtyBytes / 1024))),
      ("gc", .n (s.reg .GOV_GC_SHARE_PCT)), ("scrub", .n (s.reg .GOV_SCRUB_MS)), ("reason", .n (s.reg .GOV_LAST_REASON)),
      ("pin", .n (s.reg .GOV_PIN))] s) s

def execGovShow (l : Line) (s : State) : Out := .next (doGovShow l s)

/-- The pin that a line names, by its bit. -/
def pinBit (l : Line) : Nat := (pinWhats.takeWhile fun w => txt w != l.text "what").length

/-- With what=merge value= is not taken. -/
def vGovPin (l : Line) : Verb :=
  let value : List ArgSpec := match pinParam (pinBit l) with | some p => [⟨"value", false, .num p.info.rmin p.info.rmax⟩] | none => []
  vCfg "GOV.PIN" 1 true ([⟨"what", true, .word pinWhats⟩, ⟨"on", true, .num 0 1⟩] ++ value)

/-- R507: the pin bit and the pinned value as one class I write. -/
def doGovPin (l : Line) (s : State) : State :=
  let r := l.route
  gate (vGovPin l) l (fun s =>
    let b := pinBit l
    let s' := s.setReg .GOV_PIN (putBit (s.reg .GOV_PIN) b (l.flag "on"))
    let pin := [("pin", Val.n (s'.reg .GOV_PIN))]
    match pinParam b with
    | none => done r pin s'
    | some p =>
      let v := l.nat "value" (s.reg p)
      done r (pin ++ [("value", .n v)]) (s'.setReg p v)) s

def execGovPin (l : Line) (s : State) : Out := .next (doGovPin l s)

/-! ## The debug port (R242, R524) -/

/-- A write by the debug port: no level, no staging, nothing kept in namespace 0. -/
def debugWrite (addr v : Nat) (s : State) : State :=
  let fs := (fieldsAt addr).map (·.1)
  let set := wordChanges addr (v % 2 ^ 32) s
  let refuse := fun (w : Why) => (denied 3 addr w s).emit (.debug none)
  if fs.isEmpty || fs.any (fieldAbsent s) then s.emit (.debug none)
  else if !fs.any (·.writable) then refuse .readOnly
  else if classOf set != 0 then refuse .class_
  else if fs.any (·.p.mirrored) then
    (if s.bridge.link != 2 then s.emit (.debug none)
     else { s with bridge := { s.bridge with units := s.bridge.units ++ [⟨none, "REG.WRITE", none, .fields set, [], [], none⟩] } })
  else if (setRefusal set s).isSome || (jointRefusal set s).isSome then s.emit (.debug none)
  else
    let s := applyAll 3 set s
    match latchCleared (.address addr) v with
    | some id => (clearEvents [id] false s).1
    | none => s

/-- R524: an access through the port while it answers: a read gives the word at an address. -/
def execDebugPortAccess (addr : Nat) (write : Option Nat) (s : State) : Out :=
  .next
    (if !debugLive s || addr % 4 != 0 then s
     else match write with
       | some v => debugWrite addr v s
       | none =>
         if (fieldsAt addr).isEmpty || (fieldsAt addr).any (fun x => fieldAbsent s x.1) then s.emit (.debug none)
         else
           let (s, v) := readAddr none addr s
           s.emit (.debug (some v)))

end Sys2Proof.Machine
end

