-- ==== Sys2Proof/Machine/Jobs.lean ====
section
/-! DEFINITION. The jobs of Dusk: their start and stop, the repartition, the format, the rebuilds, and the commit that
waits for them (R73, R274, R275, R285, R407, R408, R530; log entry 34). -/

namespace Sys2Proof.Machine

/-- Dusk, with nothing that holds its jobs. -/
def duskRuns (s : State) : Bool := s.runsIn .M9

def jobGet (s : State) (n : Nat) : Option Job := s.day.queue.find? fun j => j.num == n

def updJob (n : Nat) (f : Job → Job) (s : State) : State :=
  { s with day := { s.day with queue := s.day.queue.map fun j => if j.num == n then f j else j } }

/-! ## What a set needs (Table 21.3) -/

def partitionFields : List Param := [.DRAM_INDEX_GIB, .DRAM_META_GIB, .DRAM_SKETCH_GIB, .DRAM_ECC_SKETCH, .DRAM_ECC_CACHE]
def layoutFields : List Param := [.COLL_C_WCODE, .COLL_C_TAGGED, .COLL_C_SEED_LO, .COLL_C_SEED_HI]

def needsPartition (set : List Staged) : Bool := set.any fun w => partitionFields.any (· == w.p)
def needsFormat (set : List Staged) : Bool := set.any fun w => w.p == .FLASH_OP_PCT

/-- The collections that a set rebuilds, ascending. -/
def rebuilds (set : List Staged) : List Nat :=
  (List.range 64).filter fun n => set.any fun w => w.i == n && layoutFields.any (· == w.p)

def Job.partitions (j : Job) : Bool := j.kind == .repartition || (j.kind == .commit && needsPartition j.set)
def Job.formats (j : Job) : Bool := j.kind == .format || (j.kind == .commit && needsFormat j.set)
def Job.colls (j : Job) : List Nat :=
  match j.kind with
  | .rebuild => [j.coll]
  | .commit => rebuilds j.set
  | _ => []

/-! ## The checks at the start of a job -/

/-- R272 and R274: the partition with the DIRTY region that GOV.DIRTY_MAX_MIB asks for, and room in the new SKETCH
region for the chunks of every collection and the spare ones (R409). -/
def partitionHolds (set : List Staged) (s : State) : Bool :=
  let v := fun (p : Param) => afterSet set s p
  let chunks := payload (v .DRAM_SKETCH_GIB) (v .DRAM_ECC_SKETCH == 1) / 67108864
  (s.colls.isEmpty || chunksReserved s.colls + 4 ≤ chunks) && v .DRAM_SKETCH_GIB ≤ s.mem.capGib * 3 / 4 &&
    2 + dirtyGibNow s + v .DRAM_INDEX_GIB + v .DRAM_META_GIB + v .DRAM_SKETCH_GIB ≤ s.mem.capGib

/-- R285: what is stored and reserved fits the capacity that the new over-provisioning leaves. -/
def formatHolds (set : List Staged) (s : State) : Bool :=
  userBytes s + nandReserved s.colls ≤ userGibNow (s.setReg .FLASH_OP_PCT (afterSet set s .FLASH_OP_PCT)) * 1073741824

/-- R407: the new layout covers every assigned slot. -/
def layoutHolds (set : List Staged) (s : State) (n : Nat) : Bool :=
  (s.liveColl n).any fun c => c.topSlot ≤ c.maxChunks * (c.relaid set).e

def jobHolds (j : Job) (s : State) : Bool :=
  (!j.partitions || partitionHolds j.set s) && (!j.formats || formatHolds j.set s) && j.colls.all (layoutHolds j.set s)

/-- A job that cannot run leaves the queue (EV 0x24A). -/
def jobFails (n status : Nat) (s : State) : State :=
  raise 0x24A [("job", .n n), ("status", .n status)] (dropJob n s)

/-- Step 2 of R530: the set's ns0 fields and the definitions it changes become pending records, once. -/
def pendRecords (j : Job) (s : State) : State × Option Refused :=
  let n := (ns0Cells j.set).length + (rebuilds j.set).length
  if j.kind != .commit || n == 0 || bitAt j.parts 3 then (s, none)
  else
    let size := cellBytes * n
    match writeRefusal size s with
    | some x => (refusalEvent size s, some x)
    | none => (persistAll (commitStore [.other] size s), none)

/-- A collection whose rebuild begins: its merge stops, a recall over it ends (R407, R442). -/
def startRebuild (s : State) (n : Nat) : State :=
  stopRecallOf n 3 (s.bothColls n fun c => { c.abandonMerge with state := 3, queued := false, reloading := false })

/-- A job starts, or goes on where it was stopped (R73, R530). -/
def startJob (j : Job) (s : State) : State :=
  if !jobHolds j s then jobFails j.num 209 s
  else
    match pendRecords j s with
    | (s, some x) => jobFails j.num x.code s
    | (s, none) =>
      let s := updJob j.num (fun j => { j with running := true, parts := j.parts ||| 8 }) s
      if bitAt j.parts 2 then s else j.colls.foldl startRebuild s

/-- R73: the first job of the queue starts in Dusk. -/
def execDuskJobStart (s : State) : Out :=
  .next
    (if !duskRuns s || (runningJob s).isSome || s.day.abortTo.isSome then s
     else match s.day.queue with
       | [] => s
       | j :: _ => startJob j s)

/-- R73: the running jobs have reached a persisted point: the block moves on, and their collections answer as they
stand until the next Dusk. -/
def execDuskJobStopped (s : State) : Out :=
  .next
    (match s.day.abortTo with
     | none => s
     | some t =>
       if !duskRuns s then s
       else
         let s := { s with
           day := { s.day with queue := s.day.queue.map fun j => { j with running := false }, abortTo := none }
           colls := s.colls.map Coll.resumed
           collsDisk := s.collsDisk.map Coll.resumed }
         if t == .M4 then enterService .M4 { s with day := { s.day with target := .M4 } } else startDrain t s)

/-! ## The work -/

/-- A piece of work of a running job: a job of its own kind is over with it, a commit notes that it is done. -/
def workDone (j : Job) (bit : Nat) (s : State) : State :=
  updJob j.num (fun j => { j with parts := setBit j.parts bit }) s

/-- R274, R275: INDEX and META are built again, every collection is loaded into the new SKETCH region, and the DIRTY
region has the size that GOV.DIRTY_MAX_MIB asks for. -/
def repartition (s : State) : State :=
  let s := persistAll s
  let gib := dirtyGibNow s
  let s := s.setReg .DRAM_DIRTY_GIB gib
  let off := (s.colls.filter fun c => c.state == 0).map (·.num)
  let load := fun (c : Coll) => { c with chunks := c.chunks.map fun k => { k with loaded := true } }
  let s := { s with
    mem := { s.mem with dirtyGib := gib, repair := [] }
    sweep := { s.sweep with cache := [] }
    colls := s.colls.map load
    collsDisk := s.collsDisk.map load }
  recomputeLimit (off.foldl (fun s n => reloadColl n [] s) s)

/-- R285: the user capacity with the over-provisioning in force. -/
def relayStore (s : State) : State :=
  let gib := userGibNow s
  { s with mem := { s.mem with userGib := gib } }.setReg .FLASH_USER_GIB gib

/-- R274: the repartition of a job is complete. That of a commit takes effect with its set (R530). -/
def execRepartitionJob (job : Nat) (s : State) : Out :=
  .next
    (match jobGet s job with
     | none => s
     | some j =>
       if !duskRuns s || !j.running || !j.partitions then s
       else if j.kind == .commit then workDone j 0 s
       else dropJob job (repartition s))

/-- R285: the format of a job is complete. -/
def execFormatJob (job : Nat) (s : State) : Out :=
  .next
    (match jobGet s job with
     | none => s
     | some j =>
       if !duskRuns s || !j.running || !j.formats then s
       else if j.kind == .commit then workDone j 1 s
       else dropJob job (relayStore s))

/-- R407, R408: the rebuilds of a job are complete. The old width and seed stay until a commit applies. -/
def execRebuildJob (job : Nat) (s : State) : Out :=
  .next
    (match jobGet s job with
     | none => s
     | some j =>
       if !duskRuns s || !j.running || j.colls.isEmpty then s
       else if j.kind == .commit then workDone j 2 s
       else dropJob job (rebuildColl j.coll [] s))

/-- Every piece of work that a commit needs is complete (R530). -/
def Job.ready (j : Job) : Bool :=
  (!j.partitions || bitAt j.parts 0) && (!j.formats || bitAt j.parts 1) && (j.colls.isEmpty || bitAt j.parts 2)

/-- Step 4 of R530: the pending records take effect and every field with them. -/
def applyDusk (j : Job) (s : State) : State :=
  let cells := ns0Cells j.set
  let s := { s with kv := { s.kv with ns0 := cells.foldl cellsPut s.kv.ns0, ns0Disk := cells.foldl cellsPut s.kv.ns0Disk } }
  let s := applyAll 0 j.set s
  let s := j.colls.foldl (fun s n => rebuildColl n j.set s) s
  let s := if j.partitions then repartition s else s
  let s := if j.formats then relayStore s else s
  s.incReg .SYS_COMMITS

/-- R530: the commit applies at an epoch boundary and leaves the queue. -/
def execDuskCommitJob (job : Nat) (s : State) : Out :=
  .next
    (match jobGet s job with
     | none => s
     | some j =>
       if !duskRuns s || !atBoundary s || !j.running || j.kind != .commit || !j.ready then s
       else applyDusk j (dropJob job s))

end Sys2Proof.Machine
end

