-- ==== Sys2Proof/Machine/Monitors.lean ====
section
/-! DEFINITION. What the block measures of itself: REFCLK, temperature, power, with the alarm sources and the trip that rest on
them (R29, R62–R64, R196, R253). -/

namespace Sys2Proof.Machine

/-- R29, R31, R253: TAI stops and is no longer valid, the time state is FREE, and the CLOCK source detects. -/
def execRefclkLoss (s : State) : Out :=
  .next (detectSource 5 (taiInvalid { s with pwr := { s.pwr with refclk := false } }))

/-- R29: TAI resumes from its stored value at the retained servo rate; the CLOCK source no longer detects, and the ring sends what
waited (R105). -/
def execRefclkReturn (s : State) : Out := .next (flushOwn (quietSource 5 { s with pwr := { s.pwr with refclk := true } }))

/-- Whether the user trims of the monitors apply: from the end of stage 5 of Sunrise, and in M4 to M9 (R196). -/
def monTrimmed (s : State) : Bool :=
  (4 ≤ s.mode.num && s.mode.num ≤ 9) || (s.mode == .M3 && 6 ≤ s.mem.sunrise.stage)

/-- The user offset of a sensor in °C. -/
def monOffset (s : State) (k : Nat) : Int :=
  if !monTrimmed s then 0
  else toSigned 8 ((leBytes 8 (s.reg .CAL_MON_T_OFS_A + s.reg .CAL_MON_T_OFS_B * 2 ^ 32)).getD k 0)

/-- A power figure with the user gain. -/
def monPower (s : State) (mw : Nat) : Nat :=
  if monTrimmed s then mw * s.reg .CAL_MON_P_GAIN / 10000 else mw

/-- The readings as PWR.TEMP_A and PWR.TEMP_B report them: those taken now with their offsets, the others as they stood (R62,
R196). -/
def reportReadings (rs : List Int) (s : State) : State :=
  let old := leBytes 8 (s.reg .PWR_TEMP_A + s.reg .PWR_TEMP_B * 2 ^ 32)
  let new := (List.range 8).map fun k => if k < rs.length then ofSigned 8 (rs.getD k 0 + monOffset s k) else old.getD k 0
  let seen := (if s.mode.num ≤ 1 then new.take 1 else new).map (toSigned 8 ·)
  let s := s.setReg .PWR_TEMP_MAX_C (ofSigned 8 (seen.foldl max (seen.headD 0)))
  (s.setReg .PWR_TEMP_A (leNat (new.take 4))).setReg .PWR_TEMP_B (leNat (new.drop 4))

/-- A set of factory-corrected readings. In M0 and M1 only the first, sensor 0's, is read. The trip, the cooling after it and
the tamper window are judged by these alone (R62, R63, R196). -/
def takeReadings (rs : List Int) (s : State) : State :=
  let rs := if s.mode.num ≤ 1 then rs.take 1 else rs.take 8
  let s := reportReadings rs s
  let raw := (rs ++ s.pwr.raw.drop rs.length).take 8
  let counts := (List.range 8).map fun k =>
    if k < rs.length then (if 125 ≤ raw.getD k 0 then s.pwr.tripCount.getD k 0 + 1 else 0) else s.pwr.tripCount.getD k 0
  let cool := s.pwr.needCool && !(raw.headD 0 ≤ 95 && s.mode == .M0)
  { s with pwr := { s.pwr with raw := raw, tripCount := counts, needCool := cool
                               tempFresh := s.pwr.tempFresh || rs.length == 8 } }

/-- R63: a sensor has read 125 °C or more three times in a row. A transition that runs already goes on unchanged. -/
def thermalTrip (s : State) : State :=
  if s.pwr.tripCount.any (3 ≤ ·) && !s.pwr.tripped then
    let s := raise 0x023 [] s
    let s := { s with pwr := { s.pwr with tripped := true, needCool := true } }
    if goingDown s then s.setReg .PWR_RESET_CAUSE 4 else powerFail 4 s
  else s

/-- Source 6 detects on two readings in a row of sensor 0 outside the window of ALM.T_LO_C and ALM.T_HI_C, until one lies
within it (Table 11.5). -/
def judgeWindow (s : State) : State :=
  let t := s.pwr.raw.headD 0
  if t < toSigned 8 (s.reg .ALM_T_LO_C) || (s.reg .ALM_T_HI_C : Int) < t then
    let s := { s with pwr := { s.pwr with tamperRun := min (s.pwr.tamperRun + 1) 2 } }
    if s.pwr.tamperRun == 2 && !bitAt s.sec.srcNow 6 then detectSource 6 s else s
  else quietSource 6 { s with pwr := { s.pwr with tamperRun := 0 } }

/-- R62, R63, R253: the readings, the trip, and the alarm of the tamper window. -/
def execTemperatureReading (readings : List Int) (s : State) : Out :=
  .next (if readings.isEmpty then s else judgeWindow (thermalTrip (takeReadings readings s)))

/-- R62: two sensors have disagreed by more than 15 °C for 1 s. -/
def execSensorDisagreement (s : State) : Out :=
  .next
    (let hi := s.pwr.raw.foldl max (s.pwr.raw.headD 0)
     let lo := s.pwr.raw.foldl min (s.pwr.raw.headD 0)
     if lo + 15 < hi then raise 0x024 [] s else s)

/-- R64, R196: the measured figures of the 10 ms window and of the last second, with the user gain. -/
def execPowerMeasurementUpdate (core avg : Nat) (s : State) : Out :=
  .next ((s.setReg .PWR_P_CORE_MW (sat 32 (monPower s core))).setReg .PWR_P_AVG_MW (sat 32 (monPower s avg)))

end Sys2Proof.Machine
end

