-- ==== Sys2Proof/Machine/Verbs.lean ====
section
/-! DEFINITION. Which verb a line names, the checks 1 to 4 of R98, lines of a TLS connection and of DKP ADMIN (R98,
R99, R123, R124, R350). -/

namespace Sys2Proof.Machine

/-- The verbs of ISL, MODE, ADDR, RING, LINE, LOGIN, SYS, FE, HART. -/
def verbsA : List (String × (Line → State → State)) :=
  [("ISL.SYNC", doIslSync), ("ISL.SHOW", doIslShow), ("ISL.SET", doIslSet), ("MODE.SET", doModeSet),
   ("MODE.SHOW", doModeShow), ("ADDR.CHAIN", doAddrChain), ("ADDR.SET", doAddrSet), ("RING.PROBE", doRingProbe),
   ("LINE.RATE", doLineRate), ("LINE.SETPIN", doLineSetpin), ("LINE.NOTICES", doLineNotices),
   ("LINE.SHOW", doLineShow), ("LOGIN.PIN", doLoginPin), ("LOGIN.CHALLENGE", doLoginChallenge),
   ("LOGIN.OWNER", doLoginOwner), ("LOGIN.VENDOR", doLoginVendor), ("LOGIN.OUT", doLoginOut),
   ("SYS.STATUS", doSysStatus), ("SYS.RESET", doSysReset), ("SYS.DIAG", doSysDiag), ("FE.SHOW", doFeShow),
   ("FE.SET", doFeSet), ("HART.SHOW", doHartShow), ("HART.SET", doHartSet)]

/-- The verbs of CAL, REC, BOOT, LC. -/
def verbsB : List (String × (Line → State → State)) :=
  [("CAL.ZERO", doCalZero), ("CAL.SPAN", doCalSpan), ("CAL.PHASE", doCalPhase), ("CAL.LOOP", doCalLoop),
   ("CAL.TPOINT", doCalTpoint), ("CAL.TCOMMIT", doCalTcommit), ("CAL.SAVE", doCalSave),
   ("CAL.RESTORE", doCalRestore), ("CAL.CLEAR", doCalClear), ("CAL.SHOW", doCalShow), ("REC.INFO", doRecInfo),
   ("REC.OPEN", doRecOpen), ("REC.DATA", doRecData), ("REC.COMMIT", doRecCommit), ("REC.ABORT", doRecAbort),
   ("REC.BOOT", doRecBoot), ("BOOT.SHOW", doBootShow), ("BOOT.OPEN", doBootOpen), ("BOOT.DATA", doBootData),
   ("BOOT.FROMKV", doBootFromkv), ("BOOT.COMMIT", doBootCommit), ("BOOT.ACTIVATE", doBootActivate),
   ("BOOT.ABORT", doBootAbort), ("LC.SHOW", doLcShow), ("LC.CHALLENGE", doLcChallenge), ("LC.AUTH", doLcAuth),
   ("LC.ADVANCE", doLcAdvance), ("LC.RECOMMISSION", doLcRecommission), ("LC.DEBUGKEY", doLcDebugkey),
   ("LC.SIGNER", doLcSigner), ("LC.REVOKE", doLcRevoke)]

/-- The verbs of VAULT, ALM, KV, COLL, MAINT. -/
def verbsC : List (String × (Line → State → State)) :=
  [("VAULT.SHOW", doVaultShow), ("VAULT.SETOWNER", doVaultSetowner), ("VAULT.GENID", doVaultGenid),
   ("VAULT.PSK", doVaultPsk), ("VAULT.CA", doVaultCa), ("VAULT.CERT", doVaultCert), ("VAULT.CSR", doVaultCsr),
   ("VAULT.CRED", doVaultCred), ("ALM.SHOW", doAlmShow), ("ALM.CLEAR", doAlmClear), ("KV.GET", doKvGet),
   ("KV.SCAN", doKvScan), ("KV.STAT", doKvStat), ("KV.PUT", doKvPut), ("KV.CAS", doKvCas), ("KV.DEL", doKvDel),
   ("KV.SYNC", doKvSync), ("KV.NS", doKvNs), ("COLL.CREATE", doCollCreate), ("COLL.DROP", doCollDrop),
   ("COLL.SET", doCollSet), ("COLL.SHOW", doCollShow), ("COLL.LIST", doCollList), ("MAINT.MERGE", doMaintMerge),
   ("MAINT.RELOAD", doMaintReload), ("MAINT.REBUILD", doMaintRebuild), ("MAINT.JOBS", doMaintJobs)]

/-- The verbs of SRCH, ASSOC, CASC, EVT, REG, CFG. -/
def verbsD : List (String × (Line → State → State)) :=
  [("SRCH.NEAR", doSrchNear), ("SRCH.WATCH", doSrchWatch), ("SRCH.UNWATCH", doSrchUnwatch),
   ("SRCH.WATCHES", doSrchWatches), ("SRCH.RECALL", doSrchRecall), ("SRCH.RESULT", doSrchResult),
   ("ASSOC.SEARCH", doAssocSearch), ("ASSOC.STEP", doAssocStep), ("ASSOC.CLOSE", doAssocClose),
   ("ASSOC.WRITE", doAssocWrite), ("ASSOC.READ", doAssocRead), ("ASSOC.SHOW", doAssocShow),
   ("CASC.SHOW", doCascShow), ("EVT.SHOW", doEvtShow), ("EVT.LIST", doEvtList), ("EVT.SET", doEvtSet),
   ("EVT.CLEAR", doEvtClear), ("EVT.GPIO", doEvtGpio), ("EVT.LOG", doEvtLog), ("EVT.INJECT", doEvtInject),
   ("REG.READ", doRegRead), ("REG.DUMP", doRegDump), ("REG.WRITE", doRegWrite), ("CFG.SHOW", doCfgShow),
   ("CFG.COMMIT", doCfgCommit), ("CFG.DISCARD", doCfgDiscard)]

/-- The verbs of GOV. -/
def verbsE : List (String × (Line → State → State)) :=
  [("GOV.SHOW", doGovShow), ("GOV.PIN", doGovPin)]

/-- Every verb with its meaning. -/
def verbs : List (String × (Line → State → State)) := verbsA ++ verbsB ++ verbsC ++ verbsD ++ verbsE

def verbNamed (v : Text) : Option (Line → State → State) := (verbs.find? fun x => txt x.1 == v).map (·.2)

/-- A broadcast ADDR.CHAIN that carries a damaged character: 100 whatever its checksum (R110). -/
def damagedChain (x : RxLine) : Bool := x.bcast && x.badCol.isSome && bcastVerb x.text true == some (txt "ADDR.CHAIN")

/-- Steps 1 to 3 of R98: the line in its form and whether it carries a checksum, or why it has none. -/
def lineForm (x : RxLine) : Except (Nat × List (String × Val)) (Parsed × Bool) :=
  match x.tooLong with
  | some n => .error (105, [("len", .n n)])
  | none =>
    let (body, cs) := splitChecksum x.text
    if damagedChain x then .error (100, [("col", .n (x.badCol.getD 1))])
    else if cs.any (· != checksumOf body) then .error (104, [("calc", .b [checksumOf body])])
    else
      match parseLine body, x.badCol with
      | .error c, b => .error (100, [("col", .n (min c (b.getD c)))])
      | .ok _, some b => .error (100, [("col", .n b)])
      | .ok p, none => .ok (p, cs.isSome)

/-- The family that a line names, whatever its form: the first word of its verb (R96, R106). -/
def lineFamily (t : Text) : Text :=
  let v := match t with | 64 :: r => (r.dropWhile (· != 32)).drop 1 | r => r
  (v.takeWhile isWordChar).map upperChar

/-- A line has been consumed and goes no further than step 4 of R98: its route is in use, on the ring a prompt follows where it
was typed (R95, R120), and one of the REC or LOGIN family holds Nightfall (R230). -/
def noteConsumed (r : Route) (x : RxLine) (s : State) : State :=
  let s := s.setRoute { s.route r with lastLine := s.now }
  if r == .ring then
    let holds := s.lineMode == .M10 && (lineFamily x.text == txt "REC" || lineFamily x.text == txt "LOGIN")
    { s with
      line := { s.line with typed := x.typed && !x.bcast, lastVerb := if (busyOn .ring s).isSome then s.line.lastVerb else "" }
      boot := if holds then { s.boot with lastRecLine := some s.now } else s.boot }
  else s

/-- A checksum that does not match is counted and told (EV 0x3CD). -/
def noteChecksum (code : Nat) (kv : List (String × Val)) (s : State) : State :=
  if code != 104 then s
  else
    let sum := match kv with | (_, .b [c]) :: _ => c | _ => 0
    raise 0x3CD [("calc", .b [sum])] (s.incReg .LINE_CSUM_ERRORS)

/-- R98 and R99 on a line of a route. -/
def consumeLine (r : Route) (x : RxLine) (s : State) : State :=
  match busyOn r s with
  | some p => reply r 202 [("pending", .w p)] (noteConsumed r x s)
  | none =>
    match lineForm x with
    | .error (code, kv) => noteChecksum code kv (reply r code kv (noteConsumed r x s))
    | .ok (p, sum) =>
      match verbNamed p.verb with
      | none => reply r 101 [] (noteConsumed r x s)
      | some run => run ⟨r, p.addr, sum, p.args⟩ s

/-- The text of a line of a TLS connection or an ADMIN request, as the checks take it (R123, R124). -/
def plainLine (t : Text) : RxLine :=
  let bad := (t.takeWhile fun c => 0x20 ≤ c && c ≤ 0x7E).length
  { text := t, tooLong := if 250 < t.length then some t.length else none,
    badCol := if bad < t.length then some (bad + 1) else none, typed := false, bcast := false }

/-- A record of a command connection, counted: at 2^23 of the client's epoch the device asks for a KeyUpdate, at 2^24 the
connection closes (R322; log entry 77). -/
def takeTls (c : Nat) (act : State → State) (s : State) : State :=
  if !(s.line.tlsConns.any (· == c)) then s
  else match s.net.tls.find? (·.num == c) with
    | none => act s
    | some x =>
      let n := x.recvRecs + 1
      let s := s.setTls { x with recvRecs := n }
      if 2 ^ 24 ≤ n then closeTls c (raise 0x187 [("sess", .n c)] s)
      else act (if n == 2 ^ 23 then tlsKeyUpdate c true s else s)

/-- A KeyUpdate of the client: a new epoch of its records, answered where it asks for one (R322). -/
def tlsKeyed (c : Nat) (asked : Bool) (s : State) : State :=
  match s.net.tls.find? (·.num == c) with
  | none => s
  | some x =>
    let s := raise 0x186 [("sess", .n c), ("dir", .c 1 "received")] (s.setTls { x with recvRecs := 0 })
    if asked then tlsKeyUpdate c false s else s

/-- R98: the oldest line that the ring's receiver holds, or a line of a TLS connection. An empty line of a connection
has no reply. -/
def execIbianLineReceived (src : LineIn) (s : State) : Out :=
  .next
    (match src with
     | .ring =>
       match s.line.ready with
       | [] => s
       | x :: rest => if lineRuns s then consumeLine .ring x { s with line := { s.line with ready := rest } } else s
     | .tls c t => takeTls c (fun s => if t.isEmpty then s else consumeLine (.tls c) (plainLine t) s) s
     | .key c asked => takeTls c (tlsKeyed c asked) s)

/-- R350: an ADMIN request runs the line that it carries; its response holds the reply lines whatever the status. While
the stream's previous command runs, the response is 202 alone (R99). -/
def doDkpAdmin (q : DkpReq) (s : State) : State :=
  let r := Route.dkp q.sess
  dkpRun q 12 (.ok fun _ s =>
    match (s.route r).busy with
    | some p => respond q.sess q.id 12 202 (adminBody (s.reg .LINE_ADDR) [⟨202, [("pending", .w p)]⟩]) 0 s
    | none => consumeLine r (plainLine q.body) (s.updRoute r fun x => { x with admin := some q.id, lines := [] })) m4to9 s

def execDkpAdmin (q : DkpReq) (s : State) : Out := .next (doDkpAdmin q s)

end Sys2Proof.Machine
end

