-- ==== Sys2Proof/Machine/Segments.lean ====
section
/-! DEFINITION. Segments of requests and of responses: admission, reassembly, acknowledgement, resending (R330–R337,
R339; log entry 35). -/

namespace Sys2Proof.Machine

/-! ## The header (Table 14.1) -/

structure Header where
  op : Nat
  flags : Nat
  id : Nat
  len : Nat
  off : Nat
  deriving DecidableEq, Repr

def headerOf (b : Text) : Header := ⟨byteAt b 1, byteAt b 2, natAt b 4 4, natAt b 12 4, natAt b 16 4⟩

/-- Header bits that only RETRY may set in a segment of a request. -/
def Header.plain (h : Header) : Nat := h.flags &&& (255 - fRETRY)
def Header.retry (h : Header) : Bool := bitAt h.flags 2

/-- A segment that is not decoded at all is discarded and counted. -/
def badSegment (s : State) : State := raiseCount 0x191 [] (s.incReg .DKP_BAD_SEG)

def undecodable (b : Text) : Bool := b.length < 12 || byteAt b 0 != 1

/-- Step 1 of Table 14.2, with the bounds of R331 and R332 on the first segment: the flags of the device's own
messages are no flags of a request. -/
def headerBad (b : Text) : Bool :=
  let h := headerOf b
  let n := b.length - 20
  b.length < 20 || byteAt b 3 != 0 || h.plain != 0 || (n == 0 && h.len != 0) || h.len < h.off + n

/-! ## Admission (R335, R336) -/

/-- A refusal at steps 1 to 7: one segment, and the further segments of the ID are discarded for DKP.REASM_MS. -/
def refuseSegment (x : Sess) (h : Header) (status : Nat) (body : Text) (s : State) : State :=
  let hold := ms (s.reg .DKP_REASM_MS)
  let l := x.refused.filter fun y => y.1 != h.id && s.now < y.2 + hold
  refuseEarly x.num h.id h.op status body (s.setSess { x with refused := (h.id, s.now) :: l })

/-- A further segment of an ID that was refused a short time ago; one at offset 0 begins another attempt. -/
def refusedLately (x : Sess) (h : Header) (s : State) : Bool :=
  h.off != 0 && x.refused.any fun y => y.1 == h.id && s.now < y.2 + ms (s.reg .DKP_REASM_MS)

/-- Request tokens of the device; a throttle of 16 or more lowers them (R81). -/
def tokenLimit (s : State) : Nat := if 16 ≤ s.day.t then 65536 / 2 ^ (s.day.t - 15) else 65536

/-- The device's estimate for a bound of Table 14.3, a free value in the range of R339. -/
def busySegment (x : Sess) (h : Header) (bound : Nat) (s : State) : State :=
  refuseSegment x h 202 (detailBusy (clampFree s.free 100 1000000) bound) s.tick

/-- Segments of a response from an offset on, `n` of them at most. -/
def resendFrom (x : Sess) (t : Tx) (off n : Nat) (s : State) : State :=
  sendSegs x.num (segmentsFrom (max 1 x.segBytes) t.op t.flags t.id t.status x.credit t.body off n) s

def Sess.putTx (x : Sess) (t : Tx) : Sess := { x with tx := x.tx.map fun u => if u.id == t.id then t else u }
def Sess.dropTx (x : Sess) (id : Nat) : Sess := { x with tx := x.tx.filter fun u => u.id != id }

/-- An op of an ID, its body complete: steps 8 to 12 (Table 14.4). -/
def runOp (op : Nat) (q : DkpReq) (s : State) : State :=
  match op with
  | 1 => doDkpGet q s
  | 2 => doDkpPut q s
  | 3 => doDkpDelete q s
  | 4 => doDkpCas q s
  | 5 => doDkpScan q s
  | 6 => doDkpBatch q s
  | 7 => doDkpVput q s
  | 8 => doDkpVdel q s
  | 9 => doDkpSearch q s
  | 10 => doDkpStat q s
  | 11 => match byteAt q.body 0 with
    | 1 => doEventsReadLog q s
    | 2 => doEventsEnd q s
    | _ => doEventsSubscribe q s
  | 12 => doDkpAdmin q s
  | 13 => match byteAt q.body 0 with
    | 1 => doDkpAssocStep q s
    | 2 => doDkpAssocClose q s
    | 3 => doDkpAssocWrite q s
    | _ => doDkpAssocSearch q s
  | _ => s

/-- An ID whose response is cached: the response again with the present credit, from the last acknowledged offset where
it is still on its way; a response too large to be kept runs again (R334, R336, R337). -/
def replay (x : Sess) (h : Header) (c : Cached) (s : State) : State :=
  let x := { x with hits := x.hits + 1, refused := (h.id, s.now) :: x.refused.filter fun y => y.1 != h.id }
  let s := s.incReg .DKP_REPLAY_HITS
  match x.tx.find? fun t => t.id == h.id with
  | some t =>
    let t := { t with resends := 0, stopped := false }
    let x := x.putTx t
    resendFrom x t t.acked 256 (s.setSess x)
  | none =>
    match c.body with
    | some b => sendResponse x.num c.op fRESP c.id c.status b (s.setSess x)
    | none =>
      let a : Admitted := { id := c.id, op := c.op, len := 0, reexec := true, body := c.req }
      runOp c.op ⟨x.num, c.id, c.req⟩ (s.setSess { x with admitted := x.admitted ++ [a] })

/-! ## Reassembly (R332, R333) -/

/-- Where a run of bytes ends. -/
def runEnd (r : Nat × Text) : Nat := r.1 + r.2.length

/-- Bytes at an offset join the runs that are held, in order of offset; a byte that is held stays as it is. -/
def runsPut : List (Nat × Text) → Nat → Text → List (Nat × Text)
  | [], off, b => if b.isEmpty then [] else [(off, b)]
  | r :: rs, off, b =>
    if b.isEmpty then r :: rs
    else if off + b.length < r.1 then (off, b) :: r :: rs
    else if runEnd r < off then r :: runsPut rs off b
    else
      let front := b.take (r.1 - off)
      let back := b.drop (runEnd r - off)
      let start := min off r.1
      match runsPut rs (runEnd r) back with
      | (o, t) :: more => if o == runEnd r && !(r.2 ++ t).isEmpty then (start, front ++ r.2 ++ t) :: more else (start, front ++ r.2) :: (o, t) :: more
      | [] => [(start, front ++ r.2)]

/-- Gaps before the last byte held. -/
def runsGaps (l : List (Nat × Text)) : Nat :=
  match l with
  | [] => 0
  | (o, _) :: rs => rs.length + (if o == 0 then 0 else 1)

/-- The contiguous offset received. -/
def runsFront (l : List (Nat × Text)) : Nat :=
  match l with
  | (0, b) :: _ => b.length
  | _ => 0

/-- The highest body end received. -/
def runsTop (l : List (Nat × Text)) : Nat := l.foldl (fun n r => max n (runEnd r)) 0

/-- The bytes at an offset are all held. -/
def runsHold (l : List (Nat × Text)) (off n : Nat) : Bool := l.any fun r => r.1 ≤ off && off + n ≤ runEnd r

/-- The ACK of a request in reassembly (R333). -/
def ackOf (a : Asm) : Text :=
  segment a.op (fRESP + fACK) a.id 0 0 8 0 (leBytes 4 (runsFront a.runs) ++ leBytes 4 (runsTop a.runs))

def Sess.putAsm (x : Sess) (a : Asm) : Sess := { x with asm := x.asm.map fun y => if y.id == a.id then a else y }
def Sess.dropAsm (x : Sess) (id : Nat) : Sess := { x with asm := x.asm.filter fun y => y.id != id }

/-- A request whose segments disagree fails (R332); the rest of its segments are discarded. -/
def failAsm (x : Sess) (a : Asm) (s : State) : State :=
  let x := { x.dropAsm a.id with refused := (a.id, s.now) :: x.refused.filter fun y => y.1 != a.id }
  respond x.num a.id a.op 100 (detailOffset 0xFFFFFFFF) 0 (s.setSess x)

/-- A segment of a request in reassembly. -/
def takeSegment (x : Sess) (a : Asm) (h : Header) (b : Text) (s : State) : State :=
  let n := x.num
  if h.op != a.op || h.len != a.len || h.plain != a.flags || a.len < h.off + b.length || (b.isEmpty && a.len != 0) then failAsm x a s
  else if a.len != 0 && runsHold a.runs h.off b.length then
    (if h.retry then sendSegs n [ackOf a] (s.setSess (x.putAsm { a with sinceAck := 0 })) else s)
  else
    let runs := runsPut a.runs h.off b
    if 64 < runsGaps runs then s
    else
      let a' := { a with runs := runs, at_ := s.now, sinceAck := a.sinceAck + 1 }
      let whole := runsFront runs == a.len
      let ack := a.len != b.length &&
        (whole || h.retry || runsGaps a.runs < runsGaps runs || s.reg .DKP_ACK_EVERY ≤ a'.sinceAck)
      let a' := if ack then { a' with sinceAck := 0 } else a'
      let s := s.setSess (if whole then x.dropAsm a.id else x.putAsm a')
      let s := if ack then sendSegs n [ackOf a'] s else s
      if whole then runOp a.op ⟨n, a.id, (runs.headD (0, [])).2⟩ s else s

/-- A request that passed steps 1 to 7 holds a window entry, a token and its bytes. -/
def enterRequest (x : Sess) (h : Header) (b : Text) (s : State) : State :=
  let a : Asm := { id := h.id, op := h.op, flags := h.plain, len := h.len, runs := [], sinceAck := 0, at_ := s.now }
  let x := { x with
    admitted := x.admitted ++ [{ id := h.id, op := h.op, len := h.len, reexec := false, body := [] }]
    asm := x.asm ++ [a], total := x.total + 1, refused := x.refused.filter fun y => y.1 != h.id }
  takeSegment x a h b ((s.incReg .DKP_TOKENS).setSess x)

/-- Steps 1 to 7 of Table 14.2 on the first segment of a request. -/
def judge (x : Sess) (seg : Text) (s : State) : State :=
  let h := headerOf seg
  if headerBad seg then refuseSegment x h 100 (detailOffset 0xFFFFFFFF) s
  else if h.op < 1 || 13 < h.op then refuseSegment x h 101 [] s
  else if 2359296 < h.len then refuseSegment x h 105 [] s
  else
    match x.cache.find? fun c => c.id == h.id with
    | some c => replay x h c s
    | none =>
      if x.admitted.any fun a => a.id == h.id then refuseSegment x h 204 (detailConflict 2 0) s
      else if x.floor.any fun f => f == h.id || serialBelow h.id f then
        refuseSegment x h 208 [] (raiseCount 0x193 [("sess", .n x.num)] (s.incReg .DKP_STALE_IDS))
      else if 256 ≤ x.admitted.length then busySegment x h 1 s
      else if 8388608 < sumNat (x.admitted.map (·.len)) + h.len then busySegment x h 2 s
      else if tokenLimit s ≤ s.reg .DKP_TOKENS then
        (if tokenLimit s < 65536 then busySegment x h 8 s else busySegment x h 3 (raiseCount 0x192 [] s))
      else enterRequest x h (seg.drop 20) s

/-! ## Acknowledgements of responses (R334) -/

/-- The device stops sending a response that DKP.RETX_MAX resends have not advanced; it stays cached (R334). -/
def abandonTx (x : Sess) (t : Tx) (s : State) : State :=
  raise 0x194 [("sess", .n x.num), ("id", .n t.id)]
    ((s.incReg .DKP_RETX_ABANDON).setSess (x.putTx { t with stopped := true }))

/-- An ACK of a response: what it advances to, new segments up to the window, the segment at the offset where it
reports a gap. -/
def takeAck (x : Sess) (seg : Text) (s : State) : State :=
  let h := headerOf seg
  if seg.length < 28 then badSegment s
  else
    match x.tx.find? fun t => t.id == h.id && t.op == h.op with
    | none => s
    | some t =>
      let front := natAt seg 20 4
      let top := natAt seg 24 4
      if t.sent < front || front < t.acked then s
      else if t.body.length ≤ front then s.setSess (x.dropTx t.id)
      else
        let t := { t with acked := front, resends := if t.acked < front then 0 else t.resends }
        if t.stopped then s.setSess (x.putTx t)
        else
          let size := max 1 x.segBytes
          let upTo := min t.body.length (front + 256 * size)
          let again := front < top
          if again && s.reg .DKP_RETX_MAX ≤ t.resends then abandonTx x t s else
          let t' := { t with sent := max t.sent upTo, resends := if again then t.resends + 1 else t.resends }
          let s := s.setSess (x.putTx t')
          let s := if again then resendFrom x t' front 1 s else s
          if t.sent < upTo then resendFrom x t' t.sent ((upTo - t.sent + size - 1) / size) s else s

/-! ## The commands -/

/-- A segment of a session. -/
def segmentIn (x : Sess) (seg : Text) (s : State) : State :=
  let h := headerOf seg
  if undecodable seg then badSegment s
  else if 20 ≤ seg.length && bitAt h.flags 1 then takeAck x seg s
  else match x.asm.find? fun a => a.id == h.id with
    | some a => if seg.length < 20 || byteAt seg 3 != 0 then failAsm x a s else takeSegment x a h (seg.drop 20) s
    | none => if refusedLately x h s then s else judge x seg s

/-- R330–R336: a segment has arrived; what it made the device send counts toward R322. -/
def execDkpSegmentReceived (sess : Nat) (seg : Text) (s : State) : Out :=
  .next
    (match s.session sess with
     | none => s
     | some x => if x.held then s else rekeyCheck sess (segmentIn x seg s))

/-- R334: an ACK of a response has arrived. -/
def execDkpAckReceived (sess : Nat) (seg : Text) (s : State) : Out :=
  .next
    (match s.session sess with
     | none => s
     | some x =>
       if x.held then s
       else if undecodable seg then badSegment s
       else if bitAt (headerOf seg).flags 1 then rekeyCheck sess (takeAck x seg s) else s)

/-- R334: no advance for DKP.RTO_MS: the segment at the offset again, or the response is abandoned. -/
def execDkpResendTimeout (sess id : Nat) (s : State) : Out :=
  .next
    (match s.session sess with
     | none => s
     | some x =>
       match x.tx.find? fun t => t.id == id with
       | none => s
       | some t =>
         if t.stopped then s
         else if s.reg .DKP_RETX_MAX ≤ t.resends then abandonTx x t s
         else
           let t := { t with resends := t.resends + 1 }
           rekeyCheck sess (resendFrom x t t.acked 1 (s.setSess (x.putTx t))))

/-- R332: no new segment for DKP.REASM_MS: the request is abandoned, its entry, token and bytes are free. -/
def execDkpReassemblyTimeout (sess id : Nat) (s : State) : Out :=
  .next
    (match s.session sess with
     | none => s
     | some x =>
       if !(x.asm.any fun a => a.id == id) then s
       else
         let x := { x.dropAsm id with admitted := x.admitted.filter fun a => a.id != id }
         let s := (s.setSess x).incReg .DKP_REASM_DROPS
         raiseCount 0x190 [] (s.setReg .DKP_TOKENS (s.reg .DKP_TOKENS - 1)))

end Sys2Proof.Machine
end

