-- ==== Sys2Proof/Machine/Record.lean ====
section
/-! DEFINITION. Recording of the loop die's samples into namespace 1, and backfill (R39, R147–R152). -/

namespace Sys2Proof.Machine

/-- The key of a stamp (R152). -/
def pvKey (stamp : Nat) : Text := txt "pv/" ++ (digits 16 16 stamp).map digitChar

/-- The value of a sample (Table 6.5). -/
def Sample.value (x : Sample) (backfill : Bool) : Text :=
  leBytes 4 x.pv ++ leBytes 2 x.setUa ++ leBytes 2 (if backfill then setBit x.flags 11 else x.flags) ++ leBytes 4 x.seq
    ++ [x.units % 256, 1, 0, 0]

/-- The loop die drops an acknowledged sample (R147, R150). -/
def ackSample (x : Sample) (s : State) : State :=
  { s with loop := { s.loop with buf := s.loop.buf.filter fun y => y.seq != x.seq, displaced := 0, resetUnacked := false } }

/-- Whether throttling holds back a recording write as it does any other command (R81, R148): as many commands are in progress as
it admits. -/
def throttled (s : State) : Bool := tokenLimit s < 65536 && tokenLimit s ≤ s.reg .DKP_TOKENS

/-- Stores a sample under a stamp with device authority; false where the write is not admitted (R148, R152). -/
def storeSample (x : Sample) (stamp : Nat) (backfill : Bool) (s : State) : State × Bool :=
  let ttl := s.reg .ISL_REC_TTL_S
  let o := SubOp.plain .put (pvKey stamp) (x.value backfill) (if ttl == 0 then none else some (min ttl 4294967294)) false 0
  if throttled s then (s, false)
  else
    match kvWrite 1 none [o] s with
    | (s, .error _) => (s, false)
    | (s, .ok c) => (ackSample x (if c.through then persistAll s else s), true)

/-- Whether the device records at all (R10, R17): in M4 to M7, its blocks at work, with a loop die. -/
def records (s : State) : Bool := m4to7.any (· == s.mode) && s.inService && !s.noLoop

/-- Whether samples are stored as they come (R17, R148, R149, R151). -/
def recordsLive (s : State) : Bool := records s && !s.bridge.backfill && s.clk.valid

/-- R151: while TAI is not valid nothing is stored, and that is told once; when it is valid again a backfill is due. -/
def noteTai (s : State) : State :=
  if !records s then s
  else if !s.clk.valid then
    if s.bridge.taiHeld then s else raise 0x38D [] { s with bridge := { s.bridge with taiHeld := true } }
  else if s.bridge.taiHeld then dueBackfill { s with bridge := { s.bridge with taiHeld := false } }
  else s

/-- R148, R149: the next sample reaches the core die. It becomes the anchor, and is stored where samples are stored as
they come and none waits before it; a refused one waits for its retry. -/
def arriveSample (x : Sample) (before after : List Arrived) (s : State) : State :=
  let stamp := s.clk.tai - 24000
  let s := noteTai { s with bridge := { s.bridge with anchor := some (stamp, x.tick) } }
  let keep (l : List Arrived) (s : State) : State := { s with bridge := { s.bridge with arrived := l } }
  if !recordsLive s then keep (before ++ after) s
  else if !before.isEmpty then keep (before ++ [⟨x, some stamp⟩] ++ after) s
  else
    match storeSample x stamp false s with
    | (s, true) => keep after s
    | (s, false) => keep (⟨x, some stamp⟩ :: after) s

def execSampleStore (s : State) : Host.Outcome State Fault Refusal :=
  .next
    (let (before, rest) := s.bridge.arrived.span fun a => a.stamp.isSome
     match rest with
     | [] => s
     | a :: after => arriveSample a.sample before after s)

/-- R148: the sample that was refused is tried again. -/
def execSampleStoreRetry (s : State) : Host.Outcome State Fault Refusal :=
  .next
    (match s.bridge.arrived with
     | ⟨x, some stamp⟩ :: rest =>
       let drop (s : State) : State := { s with bridge := { s.bridge with arrived := rest } }
       if !recordsLive s then drop s
       else match storeSample x stamp false s with
         | (s, true) => drop s
         | (s, false) => s
     | _ => s)

/-- The samples that the loop die still holds and that are not on their way to the core die. -/
def heldSamples (s : State) : List Sample :=
  s.loop.buf.filter fun x => !(s.bridge.arrived.any fun a => a.sample.seq == x.seq)

/-- R149, R150, R151: the core die asks for the samples that the loop die still holds, with what has been lost of them. -/
def execBackfillStart (s : State) : Host.Outcome State Fault Refusal :=
  .next
    (let s := noteTai s
     if s.bridge.backfill && !s.bridge.asked && s.clk.valid && s.bridge.link == 2 && records s then
       let s := { s with bridge := { s.bridge with arrived := s.bridge.arrived.filter fun a => a.stamp.isNone } }
       { s with bridge := { s.bridge with
           asked := true, fill := heldSamples s, stored := 0, overlap := 0,
           lost := if s.loop.resetUnacked then 0xFFFFFFFF else s.loop.displaced } }
     else s)

/-- The greatest stamp among the `pv/` keys of namespace 1 (R150). -/
def lastStamp (s : State) : Option Nat :=
  (s.kv.keys.filterMap fun e =>
    if e.ns == 1 && e.key.take 3 == txt "pv/" && e.key.length == 19 then
      (e.key.drop 3).foldl (fun a c => match a, (if 48 ≤ c && c ≤ 57 then some (c - 48) else if 65 ≤ c && c ≤ 70 then some (c - 55) else none) with
        | some v, some d => some (16 * v + d)
        | _, _ => none) (some 0)
    else none).foldl (fun m v => match m with | none => some v | some w => some (max v w)) none

/-- The stamp of a buffered sample from the anchor (R149). -/
def backStamp (anchor : Nat × Nat) (tick : Nat) : Nat := ((anchor.1 : Int) - ((anchor.2 : Int) - tick) * 1000000).toNat

/-- Stores buffered samples in order until one is refused: what is left, and how many were stored and omitted. -/
def storeFill (anchor : Nat × Nat) (mark : Bool) : List Sample → Nat → Nat → State → State × List Sample × Nat × Nat
  | [], n, o, s => (s, [], n, o)
  | x :: xs, n, o, s =>
    let stamp := backStamp anchor x.tick
    if (lastStamp s).any (stamp ≤ ·) then storeFill anchor mark xs n (o + 1) (ackSample x s)
    else
      match storeSample x stamp mark s with
      | (s, true) => storeFill anchor mark xs (n + 1) o s
      | (s, false) => (s, x :: xs, n, o)

/-- Stores samples in order until one is refused; that one and those after it wait for the retry of R148. -/
def storeRest (anchor : Nat × Nat) : List Sample → State → State × List Arrived
  | [], s => (s, [])
  | x :: xs, s =>
    match storeSample x (backStamp anchor x.tick) false s with
    | (s, true) => storeRest anchor xs s
    | (s, false) => (s, (x :: xs).map fun y => ⟨y, some (backStamp anchor y.tick)⟩)

/-- R150: the backfill goes as far as the store admits; at its end it is told, and the samples taken meanwhile are
stored after it. -/
def runBackfill (s : State) : State :=
  let lost := s.bridge.lost
  let anchor := match s.bridge.anchor with
    | some a => a
    | none => (s.clk.tai - 24000, ((s.bridge.fill.getLast?).map (·.tick)).getD 0)
  let (s, left, n, o) := storeFill anchor true s.bridge.fill s.bridge.stored s.bridge.overlap s
  let s := { s with bridge := { s.bridge with fill := left, stored := n, overlap := o, anchor := some anchor } }
  if !left.isEmpty then s
  else
    let s := (s.setReg .ISL_BF_LOST (sat 32 lost)).setReg .ISL_BF_OVERLAP (sat 16 o)
    let s := raise 0x382 [("n", .n n), ("lost", .n lost), ("overlap", .n o)]
      { s with bridge := { s.bridge with backfill := false, asked := false } }
    let (s, left) := storeRest anchor (heldSamples s) s
    { s with bridge := { s.bridge with arrived := left ++ s.bridge.arrived } }

def execBackfillComplete (s : State) : Host.Outcome State Fault Refusal :=
  .next (if s.bridge.backfill && s.bridge.asked && s.clk.valid && records s then runBackfill s else s)

end Sys2Proof.Machine
end

