-- ==== Sys2Proof/Machine/Dispatch.lean ====
section
/-! DEFINITION. The one place where a command meets its meaning. -/

namespace Sys2Proof.Machine

/-- What a command does to everything but the queue. -/
def exec (i : Instr) (s : State) : Host.Outcome State Fault Refusal :=
  match i with
  | .vaonPowerOnReset => Sys2Proof.Machine.execVaonPowerOnReset s
  | .vaonLoss => Sys2Proof.Machine.execVaonLoss s
  | .vddioAAbsent => Sys2Proof.Machine.execVddioAAbsent s
  | .vddioAReturnRestart => Sys2Proof.Machine.execVddioAReturnRestart s
  | .refclkLoss => Sys2Proof.Machine.execRefclkLoss s
  | .refclkReturn => Sys2Proof.Machine.execRefclkReturn s
  | .seqPgHigh g => Sys2Proof.Machine.execSeqPgHigh g s
  | .pgTimeout => Sys2Proof.Machine.execPgTimeout s
  | .powerGoodLoss g => Sys2Proof.Machine.execPowerGoodLoss g s
  | .powerDownEnableStep => Sys2Proof.Machine.execPowerDownEnableStep s
  | .sequenceRestart => Sys2Proof.Machine.execSequenceRestart s
  | .wakeNFall => Sys2Proof.Machine.execWakeNFall s
  | .taiWake => Sys2Proof.Machine.execTaiWake s
  | .resetNAssert => Sys2Proof.Machine.execResetNAssert s
  | .resetNRelease => Sys2Proof.Machine.execResetNRelease s
  | .pwrFailNAccepted => Sys2Proof.Machine.execPwrFailNAccepted s
  | .plpFlushComplete complete => Sys2Proof.Machine.execPlpFlushComplete complete s
  | .pfDebounceExpiry => Sys2Proof.Machine.execPfDebounceExpiry s
  | .smallHoursEntry => Sys2Proof.Machine.execSmallHoursEntry s
  | .smallHoursResume imageOk => Sys2Proof.Machine.execSmallHoursResume imageOk s
  | .temperatureReading readings => Sys2Proof.Machine.execTemperatureReading readings s
  | .sensorDisagreement => Sys2Proof.Machine.execSensorDisagreement s
  | .powerMeasurementUpdate core avg => Sys2Proof.Machine.execPowerMeasurementUpdate core avg s
  | .domainGated d => Sys2Proof.Machine.execDomainGated d s
  | .domainOnComplete d => Sys2Proof.Machine.execDomainOnComplete d s
  | .bridgeHeartbeat => Sys2Proof.Machine.execBridgeHeartbeat s
  | .bridgeLost => Sys2Proof.Machine.execBridgeLost s
  | .bridgeMirrorLoaded => Sys2Proof.Machine.execBridgeMirrorLoaded s
  | .mirrorChangeReport param inst => Sys2Proof.Machine.execMirrorChangeReport param inst s
  | .mirroredWriteAck => Sys2Proof.Machine.execMirroredWriteAck s
  | .ptpSync port offset master => Sys2Proof.Machine.execPtpSync port offset master s
  | .ptpAnnounce port ident prio domain interval utc => Sys2Proof.Machine.execPtpAnnounce port ident prio domain interval utc s
  | .ptpDelayResp port delay logInterval => Sys2Proof.Machine.execPtpDelayResp port delay logInterval s
  | .ptpDelayReqSend => Sys2Proof.Machine.execPtpDelayReqSend s
  | .announceTimeout => Sys2Proof.Machine.execAnnounceTimeout s
  | .taiSet route lo hi => Sys2Proof.Machine.execTaiSet route lo hi s
  | .taiInvalidate route v => Sys2Proof.Machine.execTaiInvalidate route v s
  | .cascClkPhaseWithdraw => Sys2Proof.Machine.execCascClkPhaseWithdraw s
  | .cascLockRejoin => Sys2Proof.Machine.execCascLockRejoin s
  | .oscTrimWindow cycles cumulative => Sys2Proof.Machine.execOscTrimWindow cycles cumulative s
  | .islSync l => Sys2Proof.Machine.execIslSync l s
  | .scheduledSyncFire => Sys2Proof.Machine.execScheduledSyncFire s
  | .modeSet l => Sys2Proof.Machine.execModeSet l s
  | .modeShow l => Sys2Proof.Machine.execModeShow l s
  | .drainComplete => Sys2Proof.Machine.execDrainComplete s
  | .drainTimeout => Sys2Proof.Machine.execDrainTimeout s
  | .duskJobStopped => Sys2Proof.Machine.execDuskJobStopped s
  | .duskJobStart => Sys2Proof.Machine.execDuskJobStart s
  | .almanacTick due util free hostWrites => Sys2Proof.Machine.execAlmanacTick due util free hostWrites s
  | .idleMergeCheck util => Sys2Proof.Machine.execIdleMergeCheck util s
  | .scrubPeriodUpdate => Sys2Proof.Machine.execScrubPeriodUpdate s
  | .flashHoldupWrite route v => Sys2Proof.Machine.execFlashHoldupWrite route v s
  | .dirtyMaxWrite route v => Sys2Proof.Machine.execDirtyMaxWrite route v s
  | .ibianByteReceived b damaged => Sys2Proof.Machine.execIbianByteReceived b damaged s
  | .ibianLineReceived src => Sys2Proof.Machine.execIbianLineReceived src s
  | .echoRelease => Sys2Proof.Machine.execEchoRelease s
  | .passThroughRunTimeout => Sys2Proof.Machine.execPassThroughRunTimeout s
  | .forwardedCrEnd => Sys2Proof.Machine.execForwardedCrEnd s
  | .noticeSend dest => Sys2Proof.Machine.execNoticeSend dest s
  | .breakReceived => Sys2Proof.Machine.execBreakReceived s
  | .receiveLoss => Sys2Proof.Machine.execReceiveLoss s
  | .receiveLossRepeat => Sys2Proof.Machine.execReceiveLossRepeat s
  | .receiveRestored => Sys2Proof.Machine.execReceiveRestored s
  | .addrChain l => Sys2Proof.Machine.execAddrChain l s
  | .addrSet l => Sys2Proof.Machine.execAddrSet l s
  | .ringProbe l => Sys2Proof.Machine.execRingProbe l s
  | .lineRate l => Sys2Proof.Machine.execLineRate l s
  | .lineRateSwitch => Sys2Proof.Machine.execLineRateSwitch s
  | .rateRevert => Sys2Proof.Machine.execRateRevert s
  | .lineSetpin l => Sys2Proof.Machine.execLineSetpin l s
  | .lineNotices l => Sys2Proof.Machine.execLineNotices l s
  | .lineShow l => Sys2Proof.Machine.execLineShow l s
  | .loginPin l => Sys2Proof.Machine.execLoginPin l s
  | .loginChallenge l => Sys2Proof.Machine.execLoginChallenge l s
  | .loginOwner l => Sys2Proof.Machine.execLoginOwner l s
  | .loginVendor l => Sys2Proof.Machine.execLoginVendor l s
  | .loginOut l => Sys2Proof.Machine.execLoginOut l s
  | .loginIdleFallback route => Sys2Proof.Machine.execLoginIdleFallback route s
  | .loginLockExpiry route => Sys2Proof.Machine.execLoginLockExpiry route s
  | .tlsConnectionOpen port num proof => Sys2Proof.Machine.execTlsConnectionOpen port num proof s
  | .tlsConnectionClose conn => Sys2Proof.Machine.execTlsConnectionClose conn s
  | .sysStatus l => Sys2Proof.Machine.execSysStatus l s
  | .sysReset l => Sys2Proof.Machine.execSysReset l s
  | .sysDiag l => Sys2Proof.Machine.execSysDiag l s
  | .auxIslSourceChange aux => Sys2Proof.Machine.execAuxIslSourceChange aux s
  | .loopDieStart otpOk => Sys2Proof.Machine.execLoopDieStart otpOk s
  | .loopDieReset => Sys2Proof.Machine.execLoopDieReset s
  | .startUpTimeout => Sys2Proof.Machine.execStartUpTimeout s
  | .drawUpdate draw iExc => Sys2Proof.Machine.execDrawUpdate draw iExc s
  | .amplitudeChangeApply => Sys2Proof.Machine.execAmplitudeChangeApply s
  | .feOutput x => Sys2Proof.Machine.execFeOutput x s
  | .holdMaxExpiry => Sys2Proof.Machine.execHoldMaxExpiry s
  | .faultHoldToFail => Sys2Proof.Machine.execFaultHoldToFail s
  | .loopCurrentDeparture later => Sys2Proof.Machine.execLoopCurrentDeparture later s
  | .mainStale => Sys2Proof.Machine.execMainStale s
  | .mainPvWrite route v => Sys2Proof.Machine.execMainPvWrite route v s
  | .fixUaWrite route v => Sys2Proof.Machine.execFixUaWrite route v s
  | .fixTimeout => Sys2Proof.Machine.execFixTimeout s
  | .loopCurEnWrite route v => Sys2Proof.Machine.execLoopCurEnWrite route v s
  | .loopWpChange on => Sys2Proof.Machine.execLoopWpChange on s
  | .writeUnit => Sys2Proof.Machine.execWriteUnit s
  | .recordedSampleTaken => Sys2Proof.Machine.execRecordedSampleTaken s
  | .sampleStore => Sys2Proof.Machine.execSampleStore s
  | .sampleStoreRetry => Sys2Proof.Machine.execSampleStoreRetry s
  | .backfillStart => Sys2Proof.Machine.execBackfillStart s
  | .backfillComplete => Sys2Proof.Machine.execBackfillComplete s
  | .islShow l => Sys2Proof.Machine.execIslShow l s
  | .islSet l => Sys2Proof.Machine.execIslSet l s
  | .feShow l => Sys2Proof.Machine.execFeShow l s
  | .feSet l => Sys2Proof.Machine.execFeSet l s
  | .hartShow l => Sys2Proof.Machine.execHartShow l s
  | .hartSet l => Sys2Proof.Machine.execHartSet l s
  | .calZero l => Sys2Proof.Machine.execCalZero l s
  | .calSpan l => Sys2Proof.Machine.execCalSpan l s
  | .calPhase l => Sys2Proof.Machine.execCalPhase l s
  | .calLoop l => Sys2Proof.Machine.execCalLoop l s
  | .calTpoint l => Sys2Proof.Machine.execCalTpoint l s
  | .calTcommit l => Sys2Proof.Machine.execCalTcommit l s
  | .calSave l => Sys2Proof.Machine.execCalSave l s
  | .calRestore l => Sys2Proof.Machine.execCalRestore l s
  | .calClear l => Sys2Proof.Machine.execCalClear l s
  | .calShow l => Sys2Proof.Machine.execCalShow l s
  | .hartCmd0ReadUniqueId q => Sys2Proof.Machine.execHartCmd0ReadUniqueId q s
  | .hartCmd1ReadPv q => Sys2Proof.Machine.execHartCmd1ReadPv q s
  | .hartCmd2ReadCurrentPercent q => Sys2Proof.Machine.execHartCmd2ReadCurrentPercent q s
  | .hartCmd3ReadDynamicVars q => Sys2Proof.Machine.execHartCmd3ReadDynamicVars q s
  | .hartCmd6WritePollingAddr q => Sys2Proof.Machine.execHartCmd6WritePollingAddr q s
  | .hartCmd7ReadLoopConfig q => Sys2Proof.Machine.execHartCmd7ReadLoopConfig q s
  | .hartCmd8ReadClassifications q => Sys2Proof.Machine.execHartCmd8ReadClassifications q s
  | .hartCmd9ReadVarsStatus q => Sys2Proof.Machine.execHartCmd9ReadVarsStatus q s
  | .hartCmd11ReadIdByTag q => Sys2Proof.Machine.execHartCmd11ReadIdByTag q s
  | .hartCmd12ReadMessage q => Sys2Proof.Machine.execHartCmd12ReadMessage q s
  | .hartCmd13ReadTagDescriptor q => Sys2Proof.Machine.execHartCmd13ReadTagDescriptor q s
  | .hartCmd14ReadTransducer q => Sys2Proof.Machine.execHartCmd14ReadTransducer q s
  | .hartCmd15ReadDeviceInfo q => Sys2Proof.Machine.execHartCmd15ReadDeviceInfo q s
  | .hartCmd16ReadFan q => Sys2Proof.Machine.execHartCmd16ReadFan q s
  | .hartCmd17WriteMessage q => Sys2Proof.Machine.execHartCmd17WriteMessage q s
  | .hartCmd18WriteTagDescriptor q => Sys2Proof.Machine.execHartCmd18WriteTagDescriptor q s
  | .hartCmd19WriteFan q => Sys2Proof.Machine.execHartCmd19WriteFan q s
  | .hartCmd20ReadLongTag q => Sys2Proof.Machine.execHartCmd20ReadLongTag q s
  | .hartCmd21ReadIdByLongTag q => Sys2Proof.Machine.execHartCmd21ReadIdByLongTag q s
  | .hartCmd22WriteLongTag q => Sys2Proof.Machine.execHartCmd22WriteLongTag q s
  | .hartCmd33ReadDeviceVars q => Sys2Proof.Machine.execHartCmd33ReadDeviceVars q s
  | .hartCmd34WriteDamping q => Sys2Proof.Machine.execHartCmd34WriteDamping q s
  | .hartCmd35WriteRange q => Sys2Proof.Machine.execHartCmd35WriteRange q s
  | .hartCmd36SetUrv q => Sys2Proof.Machine.execHartCmd36SetUrv q s
  | .hartCmd37SetLrv q => Sys2Proof.Machine.execHartCmd37SetLrv q s
  | .hartCmd38ResetConfigChanged q => Sys2Proof.Machine.execHartCmd38ResetConfigChanged q s
  | .hartCmd40FixedCurrent q => Sys2Proof.Machine.execHartCmd40FixedCurrent q s
  | .hartCmd42DeviceReset q => Sys2Proof.Machine.execHartCmd42DeviceReset q s
  | .hartCmd43SetPvZero q => Sys2Proof.Machine.execHartCmd43SetPvZero q s
  | .hartCmd44WritePvUnits q => Sys2Proof.Machine.execHartCmd44WritePvUnits q s
  | .hartCmd45TrimLoopZero q => Sys2Proof.Machine.execHartCmd45TrimLoopZero q s
  | .hartCmd46TrimLoopGain q => Sys2Proof.Machine.execHartCmd46TrimLoopGain q s
  | .hartCmd48ReadAdditional q => Sys2Proof.Machine.execHartCmd48ReadAdditional q s
  | .hartCmd54ReadVarInfo q => Sys2Proof.Machine.execHartCmd54ReadVarInfo q s
  | .hartCmd59WritePreambles q => Sys2Proof.Machine.execHartCmd59WritePreambles q s
  | .hartCmd103BurstPeriod q => Sys2Proof.Machine.execHartCmd103BurstPeriod q s
  | .hartCmd104BurstTrigger q => Sys2Proof.Machine.execHartCmd104BurstTrigger q s
  | .hartCmd105BurstConfig q => Sys2Proof.Machine.execHartCmd105BurstConfig q s
  | .hartCmd108BurstCommand q => Sys2Proof.Machine.execHartCmd108BurstCommand q s
  | .hartCmd109BurstControl q => Sys2Proof.Machine.execHartCmd109BurstControl q s
  | .hartCmd128ReadStatus q => Sys2Proof.Machine.execHartCmd128ReadStatus q s
  | .hartCmd129ReadFeResults q => Sys2Proof.Machine.execHartCmd129ReadFeResults q s
  | .hartCmd130ReadFeConfig q => Sys2Proof.Machine.execHartCmd130ReadFeConfig q s
  | .hartCmd131WriteFeConfig q => Sys2Proof.Machine.execHartCmd131WriteFeConfig q s
  | .hartCmd132ZeroTrim q => Sys2Proof.Machine.execHartCmd132ZeroTrim q s
  | .hartCmd133SpanTrim q => Sys2Proof.Machine.execHartCmd133SpanTrim q s
  | .hartCmd134PhaseTrim q => Sys2Proof.Machine.execHartCmd134PhaseTrim q s
  | .hartCmd135ReadScaling q => Sys2Proof.Machine.execHartCmd135ReadScaling q s
  | .hartCmd136WriteScaling q => Sys2Proof.Machine.execHartCmd136WriteScaling q s
  | .hartCmd137CalSetAction q => Sys2Proof.Machine.execHartCmd137CalSetAction q s
  | .hartCmd138ReadSupply q => Sys2Proof.Machine.execHartCmd138ReadSupply q s
  | .hartCmd139WriteFailSettings q => Sys2Proof.Machine.execHartCmd139WriteFailSettings q s
  | .hartCmd140SyncReset q => Sys2Proof.Machine.execHartCmd140SyncReset q s
  | .hartUnsupportedCommand cmd q => Sys2Proof.Machine.execHartUnsupportedCommand cmd q s
  | .hartBurstSend => Sys2Proof.Machine.execHartBurstSend s
  | .dawn found => Sys2Proof.Machine.execDawn found s
  | .handover => Sys2Proof.Machine.execHandover s
  | .nightfallHoldoffExpiry => Sys2Proof.Machine.execNightfallHoldoffExpiry s
  | .handoverWatchdog => Sys2Proof.Machine.execHandoverWatchdog s
  | .recInfo l => Sys2Proof.Machine.execRecInfo l s
  | .recOpen l => Sys2Proof.Machine.execRecOpen l s
  | .recData l => Sys2Proof.Machine.execRecData l s
  | .recCommit l => Sys2Proof.Machine.execRecCommit l s
  | .recAbort l => Sys2Proof.Machine.execRecAbort l s
  | .recBoot l => Sys2Proof.Machine.execRecBoot l s
  | .bootShow l => Sys2Proof.Machine.execBootShow l s
  | .bootOpen l => Sys2Proof.Machine.execBootOpen l s
  | .bootData l => Sys2Proof.Machine.execBootData l s
  | .bootFromkv l => Sys2Proof.Machine.execBootFromkv l s
  | .bootCommit l => Sys2Proof.Machine.execBootCommit l s
  | .bootActivate l => Sys2Proof.Machine.execBootActivate l s
  | .bootAbort l => Sys2Proof.Machine.execBootAbort l s
  | .lcShow l => Sys2Proof.Machine.execLcShow l s
  | .lcChallenge l => Sys2Proof.Machine.execLcChallenge l s
  | .lcAuth l => Sys2Proof.Machine.execLcAuth l s
  | .lcAdvance l => Sys2Proof.Machine.execLcAdvance l s
  | .lcRecommission l => Sys2Proof.Machine.execLcRecommission l s
  | .lcDebugkey l => Sys2Proof.Machine.execLcDebugkey l s
  | .lcSigner l => Sys2Proof.Machine.execLcSigner l s
  | .lcRevoke l => Sys2Proof.Machine.execLcRevoke l s
  | .vaultShow l => Sys2Proof.Machine.execVaultShow l s
  | .vaultSetowner l => Sys2Proof.Machine.execVaultSetowner l s
  | .vaultGenid l => Sys2Proof.Machine.execVaultGenid l s
  | .vaultPsk l => Sys2Proof.Machine.execVaultPsk l s
  | .vaultCa l => Sys2Proof.Machine.execVaultCa l s
  | .vaultCert l => Sys2Proof.Machine.execVaultCert l s
  | .vaultCsr l => Sys2Proof.Machine.execVaultCsr l s
  | .vaultCred l => Sys2Proof.Machine.execVaultCred l s
  | .vaultLockWrite route change v => Sys2Proof.Machine.execVaultLockWrite route change v s
  | .trngHealthFail => Sys2Proof.Machine.execTrngHealthFail s
  | .alarmSourceFires src => Sys2Proof.Machine.execAlarmSourceFires src s
  | .eraseBurnComplete us => Sys2Proof.Machine.execEraseBurnComplete us s
  | .alarmRecordWritten => Sys2Proof.Machine.execAlarmRecordWritten s
  | .almShow l => Sys2Proof.Machine.execAlmShow l s
  | .almClear l => Sys2Proof.Machine.execAlmClear l s
  | .debugPortAccess addr write => Sys2Proof.Machine.execDebugPortAccess addr write s
  | .sunriseStageComplete r => Sys2Proof.Machine.execSunriseStageComplete r s
  | .sunriseHaltRetry => Sys2Proof.Machine.execSunriseHaltRetry s
  | .dramRetrain ch fails => Sys2Proof.Machine.execDramRetrain ch fails s
  | .dramPatrolScrub ch found => Sys2Proof.Machine.execDramPatrolScrub ch found s
  | .nandOperationComplete ch tgt failed found mean top => Sys2Proof.Machine.execNandOperationComplete ch tgt failed found mean top s
  | .nandTargetTimeout ch tgt => Sys2Proof.Machine.execNandTargetTimeout ch tgt s
  | .blockRelocation bytes => Sys2Proof.Machine.execBlockRelocation bytes s
  | .checkpointDue => Sys2Proof.Machine.execCheckpointDue s
  | .checkpointComplete ms => Sys2Proof.Machine.execCheckpointComplete ms s
  | .plpReserveRebuilt => Sys2Proof.Machine.execPlpReserveRebuilt s
  | .repartitionJob job => Sys2Proof.Machine.execRepartitionJob job s
  | .formatJob job => Sys2Proof.Machine.execFormatJob job s
  | .ethernetFrameReceived port f => Sys2Proof.Machine.execEthernetFrameReceived port f s
  | .pauseFrame port quanta => Sys2Proof.Machine.execPauseFrame port quanta s
  | .linkUp port => Sys2Proof.Machine.execLinkUp port s
  | .linkDown port => Sys2Proof.Machine.execLinkDown port s
  | .linkHoldExpiry port => Sys2Proof.Machine.execLinkHoldExpiry port s
  | .dhcpMessage port m => Sys2Proof.Machine.execDhcpMessage port m s
  | .dhcpTimer port v6 which => Sys2Proof.Machine.execDhcpTimer port v6 which s
  | .addressConflictRetry port => Sys2Proof.Machine.execAddressConflictRetry port s
  | .neighbourEntryAge port addr => Sys2Proof.Machine.execNeighbourEntryAge port addr s
  | .reassemblyTimeout port ident => Sys2Proof.Machine.execReassemblyTimeout port ident s
  | .routerAdvertisement port router pfx aFlag => Sys2Proof.Machine.execRouterAdvertisement port router pfx aFlag s
  | .clientHello h => Sys2Proof.Machine.execClientHello h s
  | .handshakeComplete num proof => Sys2Proof.Machine.execHandshakeComplete num proof s
  | .handshakeTimeout num => Sys2Proof.Machine.execHandshakeTimeout num s
  | .flightRetransmit num => Sys2Proof.Machine.execFlightRetransmit num s
  | .handshakeTokenRefill => Sys2Proof.Machine.execHandshakeTokenRefill s
  | .cookieKeyRotate => Sys2Proof.Machine.execCookieKeyRotate s
  | .dtlsRecordReceived sess r => Sys2Proof.Machine.execDtlsRecordReceived sess r s
  | .sessionIdleTimeout sess => Sys2Proof.Machine.execSessionIdleTimeout sess s
  | .dkpSegmentReceived sess seg => Sys2Proof.Machine.execDkpSegmentReceived sess seg s
  | .dkpAckReceived sess seg => Sys2Proof.Machine.execDkpAckReceived sess seg s
  | .dkpResendTimeout sess id => Sys2Proof.Machine.execDkpResendTimeout sess id s
  | .dkpReassemblyTimeout sess id => Sys2Proof.Machine.execDkpReassemblyTimeout sess id s
  | .dkpGet q => Sys2Proof.Machine.execDkpGet q s
  | .dkpPut q => Sys2Proof.Machine.execDkpPut q s
  | .dkpDelete q => Sys2Proof.Machine.execDkpDelete q s
  | .dkpCas q => Sys2Proof.Machine.execDkpCas q s
  | .dkpScan q => Sys2Proof.Machine.execDkpScan q s
  | .dkpBatch q => Sys2Proof.Machine.execDkpBatch q s
  | .dkpVput q => Sys2Proof.Machine.execDkpVput q s
  | .dkpVdel q => Sys2Proof.Machine.execDkpVdel q s
  | .dkpSearch q => Sys2Proof.Machine.execDkpSearch q s
  | .dkpStat q => Sys2Proof.Machine.execDkpStat q s
  | .eventsSubscribe q => Sys2Proof.Machine.execEventsSubscribe q s
  | .eventsReadLog q => Sys2Proof.Machine.execEventsReadLog q s
  | .eventsEnd q => Sys2Proof.Machine.execEventsEnd q s
  | .dkpAdmin q => Sys2Proof.Machine.execDkpAdmin q s
  | .dkpAssocSearch q => Sys2Proof.Machine.execDkpAssocSearch q s
  | .dkpAssocStep q => Sys2Proof.Machine.execDkpAssocStep q s
  | .dkpAssocClose q => Sys2Proof.Machine.execDkpAssocClose q s
  | .dkpAssocWrite q => Sys2Proof.Machine.execDkpAssocWrite q s
  | .eventPush sess => Sys2Proof.Machine.execEventPush sess s
  | .keyExpiryRemoval ns key => Sys2Proof.Machine.execKeyExpiryRemoval ns key s
  | .snapshotEnd token space => Sys2Proof.Machine.execSnapshotEnd token space s
  | .dirtyDataProgrammed n => Sys2Proof.Machine.execDirtyDataProgrammed n s
  | .garbageCollection moved free => Sys2Proof.Machine.execGarbageCollection moved free s
  | .kvGet l => Sys2Proof.Machine.execKvGet l s
  | .kvScan l => Sys2Proof.Machine.execKvScan l s
  | .kvStat l => Sys2Proof.Machine.execKvStat l s
  | .kvPut l => Sys2Proof.Machine.execKvPut l s
  | .kvCas l => Sys2Proof.Machine.execKvCas l s
  | .kvDel l => Sys2Proof.Machine.execKvDel l s
  | .kvSync l => Sys2Proof.Machine.execKvSync l s
  | .kvNs l => Sys2Proof.Machine.execKvNs l s
  | .collCreate l => Sys2Proof.Machine.execCollCreate l s
  | .collDrop l => Sys2Proof.Machine.execCollDrop l s
  | .collDropComplete coll => Sys2Proof.Machine.execCollDropComplete coll s
  | .collSet l => Sys2Proof.Machine.execCollSet l s
  | .collShow l => Sys2Proof.Machine.execCollShow l s
  | .collList l => Sys2Proof.Machine.execCollList l s
  | .maintMerge l => Sys2Proof.Machine.execMaintMerge l s
  | .mergeStart coll => Sys2Proof.Machine.execMergeStart coll s
  | .chunkProgrammed coll => Sys2Proof.Machine.execChunkProgrammed coll s
  | .maintReload l => Sys2Proof.Machine.execMaintReload l s
  | .maintRebuild l => Sys2Proof.Machine.execMaintRebuild l s
  | .rebuildJob job => Sys2Proof.Machine.execRebuildJob job s
  | .maintJobs l => Sys2Proof.Machine.execMaintJobs l s
  | .batchReady coll exact => Sys2Proof.Machine.execBatchReady coll exact s
  | .batchBoundary => Sys2Proof.Machine.execBatchBoundary s
  | .idleBoundary => Sys2Proof.Machine.execIdleBoundary s
  | .sweepPassEnd => Sys2Proof.Machine.execSweepPassEnd s
  | .rerankFetchComplete f => Sys2Proof.Machine.execRerankFetchComplete f s
  | .queryComplete q => Sys2Proof.Machine.execQueryComplete q s
  | .exactBatchComplete => Sys2Proof.Machine.execExactBatchComplete s
  | .walkCtxDrainComplete => Sys2Proof.Machine.execWalkCtxDrainComplete s
  | .watchPeriod n => Sys2Proof.Machine.execWatchPeriod n s
  | .watchRunComplete n => Sys2Proof.Machine.execWatchRunComplete n s
  | .srchNear l => Sys2Proof.Machine.execSrchNear l s
  | .srchWatch l => Sys2Proof.Machine.execSrchWatch l s
  | .srchUnwatch l => Sys2Proof.Machine.execSrchUnwatch l s
  | .srchWatches l => Sys2Proof.Machine.execSrchWatches l s
  | .srchRecall l => Sys2Proof.Machine.execSrchRecall l s
  | .recallJobComplete => Sys2Proof.Machine.execRecallJobComplete s
  | .srchResult l => Sys2Proof.Machine.execSrchResult l s
  | .assocSearch l => Sys2Proof.Machine.execAssocSearch l s
  | .assocStep l => Sys2Proof.Machine.execAssocStep l s
  | .assocClose l => Sys2Proof.Machine.execAssocClose l s
  | .assocWrite l => Sys2Proof.Machine.execAssocWrite l s
  | .assocRead l => Sys2Proof.Machine.execAssocRead l s
  | .assocShow l => Sys2Proof.Machine.execAssocShow l s
  | .cascShow l => Sys2Proof.Machine.execCascShow l s
  | .policyBanksWrite route v => Sys2Proof.Machine.execPolicyBanksWrite route v s
  | .bankOnWrite route v => Sys2Proof.Machine.execBankOnWrite route v s
  | .dwWrite route v => Sys2Proof.Machine.execDwWrite route v s
  | .policyReloadComplete => Sys2Proof.Machine.execPolicyReloadComplete s
  | .scrubPassDue => Sys2Proof.Machine.execScrubPassDue s
  | .scrubPassComplete => Sys2Proof.Machine.execScrubPassComplete s
  | .cursorIdleTimeout cur => Sys2Proof.Machine.execCursorIdleTimeout cur s
  | .cascadeSlot f => Sys2Proof.Machine.execCascadeSlot f s
  | .cascadeFrameResult r => Sys2Proof.Machine.execCascadeFrameResult r s
  | .cascadeMemberAbsent p => Sys2Proof.Machine.execCascadeMemberAbsent p s
  | .cascadeMemberPresent p => Sys2Proof.Machine.execCascadeMemberPresent p s
  | .evtShow l => Sys2Proof.Machine.execEvtShow l s
  | .evtList l => Sys2Proof.Machine.execEvtList l s
  | .evtSet l => Sys2Proof.Machine.execEvtSet l s
  | .evtClear l => Sys2Proof.Machine.execEvtClear l s
  | .evtGpio l => Sys2Proof.Machine.execEvtGpio l s
  | .evtLog l => Sys2Proof.Machine.execEvtLog l s
  | .evtInject l => Sys2Proof.Machine.execEvtInject l s
  | .eventLatchClearWrite route id => Sys2Proof.Machine.execEventLatchClearWrite route id s
  | .gpioPulseEnd k => Sys2Proof.Machine.execGpioPulseEnd k s
  | .logProgram => Sys2Proof.Machine.execLogProgram s
  | .regRead l => Sys2Proof.Machine.execRegRead l s
  | .regDump l => Sys2Proof.Machine.execRegDump l s
  | .regWrite l => Sys2Proof.Machine.execRegWrite l s
  | .cfgShow l => Sys2Proof.Machine.execCfgShow l s
  | .cfgCommit l => Sys2Proof.Machine.execCfgCommit l s
  | .cfgDiscard l => Sys2Proof.Machine.execCfgDiscard l s
  | .epochBoundaryApply => Sys2Proof.Machine.execEpochBoundaryApply s
  | .drainCommitApply => Sys2Proof.Machine.execDrainCommitApply s
  | .duskCommitJob job => Sys2Proof.Machine.execDuskCommitJob job s
  | .govShow l => Sys2Proof.Machine.execGovShow l s
  | .govPin l => Sys2Proof.Machine.execGovPin l s
  | .collectionReloadComplete coll failed => Sys2Proof.Machine.execCollectionReloadComplete coll failed s
  | .dramStructureRebuilt region => Sys2Proof.Machine.execDramStructureRebuilt region s
  | .addressProbeComplete port v6 => Sys2Proof.Machine.execAddressProbeComplete port v6 s
  | .hartFrameError => Sys2Proof.Machine.execHartFrameError s
  | .bridgeFrameCheckFail => Sys2Proof.Machine.execBridgeFrameCheckFail s
  | .trngHealthRecovered => Sys2Proof.Machine.execTrngHealthRecovered s
  | .alarmSourceCleared src => Sys2Proof.Machine.execAlarmSourceCleared src s

end Sys2Proof.Machine
end

