-- ==== Sys2Proof/Safety.lean ====
section
/-! DEFINITION. What counts as a safe run, every step answering a next state; and which lines pass the checks that a
verb makes before it does anything. -/

namespace Sys2Proof.Machine

/-- The step from a state neither faults nor refuses. -/
def StepsOn (s : State) : Prop := ∃ t, step s = .next t

/-- The state that `n` steps lead to, where every one of them answers a next state. -/
def runFor : Nat → State → Option State
  | 0, s => some s
  | n + 1, s =>
    match step s with
    | .next t => runFor n t
    | _ => none

/-- A run of `n` steps from a state is safe. -/
def SafeFor (n : Nat) (s : State) : Prop := (runFor n s).isSome = true

/-- The checks of R98 from step 4 on all pass: the route is not busy (R99), the address fits the route, the mode and the
level are the verb's, the checksum stands where it is required, the unit has the part the verb acts on, and every
argument is known, well formed and in its range. -/
def passes (v : Verb) (l : Line) (s : State) : Bool :=
  (busyOn l.route s).isNone && !wrongAddress s l && !refusedInM10 v s && v.modes.any (· == s.lineMode) &&
    !strictRefuses s v l && !(isLogin v && Route.isDkp l.route) && levelOk (s.level l.route) v.level &&
    !(v.loop && s.noLoop) && (checkArgs v.args l.args).isNone

/-- A write of one register passes the checks of its mode and its level (R522). -/
def mayWrite (r : Route) (level : Nat) (modes : List Mode) (s : State) : Bool :=
  modes.any (· == s.lineMode) && levelOk (s.level r) level

end Sys2Proof.Machine
end

