-- ==== Sys2Proof/Certificates/Slice0/Obligations.lean ====
section
/-! DEFINITION. The statements for the provers, by families of the opcode table. A statement of completion says of a
command the state it answers with, where the hypotheses hold: whatever the equation does not name is as it was. -/

open Sys2Proof Sys2Proof.Machine

/-! ## The block as a whole -/

/-- A step takes the command at the front of the queue and runs it with the queue's rest. -/
def Obligations.StepRunsTheFrontCommand : Prop :=
  ∀ (c : Instr) (s : State), step { s with pending := c :: s.pending } = exec c s

/-- With no command waiting a step lets one beat pass (log entry 1: the model's choice). The elapsed beats count. While PD2
runs, BEAT counts and TAI goes on by 2/3 ns a beat with the servo at rest; while it is off, PD0 counts one REFCLK cycle in 60
beats and TAI goes on by 40 ns with it (R27, R29). The context engine works while PD9 is on, and what a port holds back
leaves once its PAUSE is over; nothing else changes. -/
def Obligations.AnEmptyQueueLetsOneBeatPass : Prop :=
  ∀ s : State, s.pending = [] →
    ∃ t, step s = .next t ∧ t.clk.now = s.clk.now + 1 ∧
      t = { s with
        clk := t.clk, out := t.out
        sweep := { s.sweep with ctxs := t.sweep.ctxs }
        net := { s.net with port0 := t.net.port0, port1 := t.net.port1 } } ∧
      ((s.net.port0.txq = [] ∧ s.net.port1.txq = []) → t.net = s.net ∧ t.out = s.out) ∧
      ((s.coreUp = false ∨ bitAt s.pwr.on 9 = false) → t.sweep = s.sweep) ∧
      (s.pwr.refclk = false → t.clk = { s.clk with now := s.clk.now + 1 }) ∧
      (s.pwr.refclk = true → s.pwr.vaon = true → bitAt s.pwr.on 2 = true →
        (s.clk.rate = 0 → s.clk.taiFrac < 3000000 → s.clk.tai < 2 ^ 64 →
          3000000 * t.clk.tai + t.clk.taiFrac = (3000000 * s.clk.tai + s.clk.taiFrac + 2000000) % (3000000 * 2 ^ 64)) ∧
        (s.pwr.held = false → t.clk.beat = (s.clk.beat + 1) % 2 ^ 64)) ∧
      (s.pwr.refclk = true → s.pwr.vaon = true → bitAt s.pwr.on 2 = false → t.clk.beat = s.clk.beat ∧
        (s.clk.refSub < 59 → t.clk.tai = s.clk.tai ∧ t.clk.refCount = s.clk.refCount) ∧
        (s.clk.refSub = 59 → t.clk.refSub = 0 ∧ t.clk.refCount = s.clk.refCount + 1 ∧
          (s.clk.rate = 0 → s.clk.taiFrac < 3000000 → t.clk.tai = (s.clk.tai + 40) % 2 ^ 64 ∧ t.clk.taiFrac = s.clk.taiFrac)))

/-- What reset leaves (R24, R29, R45, R117, R482): Midnight, TAI not valid, every event in its reset state, no session, no
key, the ring route at VIEW, no command waiting, and every register field at the value of its Reset column; where the
column has none the value is the model's (log entry 2). -/
def Obligations.ResetLeavesTheResetState : Prop :=
  State.reset.mode = .M0 ∧ State.reset.clk.beat = 0 ∧ State.reset.clk.valid = false ∧ State.reset.evt.cells = [] ∧
  State.reset.sess = [] ∧ State.reset.kv.keys = [] ∧ State.reset.level .ring = 0 ∧ State.reset.pending = [] ∧
  (∀ p i, State.reset.reg p i = resetValue false p i) ∧
  (∀ p, p ≠ .LINE_STRICT → p ≠ .KV_NS_ACT_LO → p ≠ .KV_NS_ACT_HI → ∀ i, State.reset.reg p i = p.info.reset)

/-- R2: the device is one of three variants; the variant and the profile are fused at the factory and can never be changed:
no command changes them, nor does a beat. -/
def Obligations.TheFusedIdentityNeverChanges : Prop :=
  (∀ (c : Instr) (s t : State), exec c s = .next t → t.sec.otp.ident = s.sec.otp.ident) ∧
  (∀ s t : State, step s = .next t → t.sec.otp.ident = s.sec.otp.ident) ∧
  State.reset.sec.otp.ident.variant < 3

/-- No command touches the queue: what waited before it waits after it, in the same order, and a step takes at most the
one command that it runs. -/
def Obligations.NoCommandTouchesTheQueue : Prop :=
  (∀ (c : Instr) (s t : State), exec c s = .next t → t.pending = s.pending) ∧
  (∀ s t : State, step s = .next t → t.pending = s.pending.tail)

/-- The register file (R516, R535): a field that is set reads as it was set, and no other field, nor anything else of the
state, changes. A field that saturates counts up to its width. -/
def Obligations.ASetFieldReadsBackAndNoOtherChanges : Prop :=
  ∀ (s : State) (p : Param) (v i : Nat),
    (s.setReg p v i).reg p i = v ∧
    (∀ q j, ¬(q = p ∧ j = i) → (s.setReg p v i).reg q j = s.reg q j) ∧
    s.setReg p v i = { s with regs := (s.setReg p v i).regs } ∧
    (s.incReg p v i).reg p i = min (s.reg p i + v) (2 ^ (p.info.hi - p.info.lo + 1) - 1)

/-- R484: each occurrence of an event counts, up to 65,535, a late delivery with count=k k times; an occurrence that its
rule suppresses counts too; only a raise, and not a suppressed occurrence, sets the latch and reaches the paths. The events
beside it and its partner (Table 19.4) stay as they are. -/
def Obligations.ARaiseCountsAndLatchesItsEventAlone : Prop :=
  ∀ (id : Nat) (kv : List (String × Val)) (s : State), evPartner id ≠ some id →
    evtGet (raise id kv s).evt.cells id =
      { evtGet s.evt.cells id with latch := true, count := min 65535 ((evtGet s.evt.cells id).count + 1) } ∧
    (∀ sev late k, evtGet (raiseWith id sev kv late k s).evt.cells id =
      { evtGet s.evt.cells id with latch := true, count := min 65535 ((evtGet s.evt.cells id).count + k) }) ∧
    evtGet (suppressed id s).evt.cells id =
      { evtGet s.evt.cells id with count := min 65535 ((evtGet s.evt.cells id).count + 1) } ∧
    suppressed id s = { s with evt := { s.evt with cells := (suppressed id s).evt.cells } } ∧
    (∀ k, k ≠ id → evPartner id ≠ some k → evtGet (raise id kv s).evt.cells k = evtGet s.evt.cells k) ∧
    (∀ k, k ≠ id → evtGet (suppressed id s).evt.cells k = evtGet s.evt.cells k)

/-- What a raise leaves alone: of the registers it touches EVT.LOG_LOST alone, of the loop die the novelty bits of HART
alone; clocks, power, mode, lines, store, collections, search, array, network and secrets stand. -/
def Obligations.ARaiseLeavesTheRestAlone : Prop :=
  ∀ (id : Nat) (kv : List (String × Val)) (s : State),
    (∀ p i, p ≠ .EVT_LOG_LOST → (raise id kv s).reg p i = s.reg p i) ∧
    (raise id kv s).loop = { s.loop with hart := { s.loop.hart with novelty := (raise id kv s).loop.hart.novelty } } ∧
    raise id kv s = { s with evt := (raise id kv s).evt, routes := (raise id kv s).routes, sess := (raise id kv s).sess,
                             loop := (raise id kv s).loop, regs := (raise id kv s).regs }

/-- Where a reply goes (R97, R99, R100, R105, R116, R123): to its TLS connection, counted as one record (R263); on the ring to
the line, behind a forwarded line that is in progress, and held while the line controller does not run (log entry 104). The reply
leaves as the line of R100, ended by CR LF; to a typed line the prompt follows (R95). Nothing else changes. -/
def Obligations.AReplyGoesOutByItsRoute : Prop :=
  ∀ (code : Nat) (kv : List (String × Val)) (s : State),
    (∀ r x, replyOut r x s = .reply r x (replyText (s.reg .LINE_ADDR) x ++ [13, 10])) ∧
    (∀ n x, s.net.tls.find? (·.num == n) = some x → x.sentRecs + 1 < 2 ^ 23 → (s.port x.port).pauseUntil ≤ s.now →
      reply (.tls n) code kv s =
        (s.emit (replyOut (.tls n) ⟨code, kv⟩ s)).setTls { x with sentRecs := x.sentRecs + 1 }) ∧
    (s.line.fwdOpen = false → lineRuns s = true → s.line.hush = false → s.line.typed = false →
      reply .ring code kv s = s.emit (replyOut .ring ⟨code, kv⟩ s)) ∧
    ((s.line.fwdOpen = true ∨ lineRuns s = false) → s.line.hush = false → s.line.typed = false →
      reply .ring code kv s = { s with line := { s.line with own := s.line.own ++ [replyOut .ring ⟨code, kv⟩ s] } }) ∧
    (s.line.fwdOpen = false → lineRuns s = true → s.line.hush = false → s.line.typed = true → code ≠ 4 →
      reply .ring code kv s = (s.emit (replyOut .ring ⟨code, kv⟩ s)).emit (prompt (s.reg .LINE_ADDR)))

/-- The checks of R98 from the mode on, in their order, for every verb: the first that fails decides the reply, and beside
the reply nothing but the record of the line (and for a refusal by STRICT its event) changes; where all pass the verb
runs. The record of a line: the time of the last line of its route, and on the ring whether the line was typed and, in M10,
the time of the last LOGIN or REC line; a line that is not answered by 202 for want of its turn becomes the last command. -/
def Obligations.TheChecksOfALineDecideInTheirOrder : Prop :=
  (∀ (v : Verb) (l : Line) (s : State),
    (noteLine v l s).route l.route = { s.route l.route with lastLine := s.now } ∧
    (∀ r, r ≠ l.route → (noteLine v l s).route r = s.route r) ∧
    (l.route ≠ .ring → noteLine v l s = { s with routes := (noteLine v l s).routes }) ∧
    (l.route = .ring → s.lineMode ≠ .M10 → noteLine v l s =
      { s with routes := (noteLine v l s).routes
               line := { s.line with typed := !l.csum && l.addr != .all, lastVerb := (noteLine v l s).line.lastVerb } } ∧
      (busyOn .ring s = none → (noteLine v l s).line.lastVerb = v.name))) ∧
  ∀ (v : Verb) (l : Line) (run : State → State) (s : State), busyOn l.route s = none →
    wrongAddress s l = false → s.lineMode ≠ .M10 → (isLogin v && Route.isDkp l.route) = false →
    (v.modes.any (· == s.lineMode) = false → bitAt (s.reg .PWR_WAKE_EN) 1 = false → gate v l run s =
      reply l.route 200 [("mode", .w s.lineMode.text), ("need", .w (modesText v.modes))] (noteLine v l s)) ∧
    (v.modes.any (· == s.lineMode) = true → strictRefuses s v l = true → gate v l run s =
      raise 0x3CF [("verb", .w v.name)] (reply l.route 104 [("need", .w "checksum")] (noteLine v l s))) ∧
    (v.modes.any (· == s.lineMode) = true → strictRefuses s v l = false → levelOk (s.level l.route) v.level = false →
      gate v l run s = reply l.route 206 [("need", .w (levelName v.level))] (noteLine v l s)) ∧
    (∀ code k, v.modes.any (· == s.lineMode) = true → strictRefuses s v l = false →
      levelOk (s.level l.route) v.level = true → (v.loop && s.noLoop) = false → checkArgs v.args l.args = some (code, k) →
      gate v l run s = reply l.route code [("arg", .w (String.ofList (k.map Char.ofNat)))] (noteLine v l s)) ∧
    (passes v l s = true → gate v l run s = run (noteLine v l s))

/-! ## Time (chapter 2) -/

/-- The PTP slave (R31, R32, R33, R324). A Sync of the selected master sets TAI where it is not valid or the master is ahead
by more than CLK.STEP_LIM, and otherwise slews it toward the master; any other Sync is ignored. An Announce brings a master
in, out of its interval it counts as bad; three intervals without one lose the master into HOLDOVER.
TAI set and invalidated by a write, and the oscillator trim (R34, R35, R37). The write that sets TAI is refused with 204
while a master is followed and with 103 where it would go back; otherwise TAI has the value and is valid. CLK.TAI_INVALIDATE
is legal in Dusk alone. The trim moves by one step at most toward 4,096 cycles a heartbeat. -/
def Obligations.ClockCommandsComplete : Prop :=
  (∀ (s : State) (m : Master) (o : Int), s.clk.master = some m → s.reg .CLK_PTP_EN = 1 → s.firmware = true →
      s.pwr.refclk = true → (∀ lg : Int, -7 ≤ lg → lg ≤ 1 →
      let a := o + s.clk.mpd - toSigned 32 (s.reg .CLK_ASYM_NS)
      let lim : Int := s.reg .CLK_STEP_LIM * 1000000
      (s.clk.valid = false → ∃ t, exec (.ptpSync m.port o ⟨m.ident, lg⟩) s = .next t ∧ t.clk.valid = true ∧
        t.clk.tai = (s.clk.tai + a).toNat % 2 ^ 64) ∧
      (s.clk.valid = true → lim < a → ∃ t, exec (.ptpSync m.port o ⟨m.ident, lg⟩) s = .next t ∧ t.clk.valid = true ∧
        t.clk.tai = (s.clk.tai + a).toNat % 2 ^ 64) ∧
      (s.clk.valid = true → a ≠ 0 → a.natAbs ≤ lim → ∃ t, exec (.ptpSync m.port o ⟨m.ident, lg⟩) s = .next t ∧
        t.clk.tai = s.clk.tai ∧ t.clk.rate.natAbs ≤ s.reg .CLK_SLEW_MAX ∧ (0 < a → 0 ≤ t.clk.rate) ∧ (a < 0 → t.clk.rate ≤ 0)) ∧
      (∀ port ident, ¬(port = m.port ∧ ident = m.ident) → exec (.ptpSync port o ⟨ident, lg⟩) s = .next s)) ∧
      (∀ port ident lg, port < 2 → s.reg .NET_P_PTP port ≠ 0 → (lg < -7 ∨ 1 < lg) →
        exec (.ptpSync port o ⟨ident, lg⟩) s = .next (s.incReg .NET_PTP_BAD)) ∧
      (∀ port ident prio domain utc, port < 2 → s.reg .NET_P_PTP port ≠ 0 →
        exec (.ptpAnnounce port ident prio domain 124 utc) s = .next (s.incReg .NET_PTP_BAD) ∧
        exec (.ptpAnnounce port ident prio domain 16001 utc) s = .next (s.incReg .NET_PTP_BAD)) ∧
      (∀ iv utc, m.port < 2 → s.reg .NET_P_PTP m.port ≠ 0 → 125 ≤ iv → iv ≤ 16000 → s.clk.masters = [m] → m.interval = iv →
        exec (.ptpAnnounce m.port m.ident m.prio (s.reg .CLK_PTP_DOMAIN) iv utc) s =
          .next (s.setReg .NET_UTC_OFS_S (utc % 2 ^ 16))) ∧
      (∀ d iv, exec (.ptpDelayResp m.port d iv) s = .next { s with clk := { s.clk with mpd := d, delayGap := logBeats iv } }) ∧
      (s.clk.delayAt = none → (s.port m.port).pauseUntil ≤ s.now → exec .ptpDelayReqSend s = .next
        (({ s with clk := { s.clk with delayAt := some s.now } } : State).emit
          (.net m.port "delay_req" [s.reg .NET_P_PTP m.port]))) ∧
      (∃ t, exec .announceTimeout s = .next t ∧ t.clk.master = none ∧ t.clk.state = .HOLDOVER ∧ t.clk.tai = s.clk.tai)) ∧
  (∀ s : State,
      (∀ r lo hi, lo < 2 ^ 32 → hi < 2 ^ 32 → mayWrite r 1 m4to9 s = true →
        ((s.reg .CLK_PTP_EN = 1 ∧ (s.clk.state = .LOCKING ∨ s.clk.state = .LOCKED)) →
          exec (.taiSet r lo hi) s = .next (reply r 204 [] s)) ∧
        (s.reg .CLK_PTP_EN ≠ 1 → s.clk.valid = true → lo + hi * 2 ^ 32 < s.clk.tai →
          exec (.taiSet r lo hi) s = .next (reply r 103 [("arg", .w "value")] s)) ∧
        (s.reg .CLK_PTP_EN ≠ 1 → (s.clk.valid = true → s.clk.tai ≤ lo + hi * 2 ^ 32) →
          exec (.taiSet r lo hi) s = .next (reply r 0 [("value", .n (lo + hi * 2 ^ 32))]
            { s with clk := { s.clk with tai := lo + hi * 2 ^ 32, taiFrac := 0, valid := true }
                     pwr := { s.pwr with belowWake := s.pwr.belowWake || lo + hi * 2 ^ 32 < wakeAt s } }))) ∧
      (∀ r, mayWrite r 1 m4to9 s = true → s.lineMode = .M9 →
        exec (.taiInvalidate r 0) s = .next (reply r 0 [("value", .n 0)] s) ∧
        (∃ t u, exec (.taiInvalidate r 1) s = .next t ∧ t = reply r 0 [("value", .n 1)] (raise 0x0C4 [] u) ∧
          u.clk.valid = false ∧ u.clk.state = .FREE ∧ u.clk.master = none ∧ u.clk.tai = s.clk.tai)) ∧
      (∀ r v, mayWrite r 1 m4to9 s = true → s.lineMode ≠ .M9 → exec (.taiInvalidate r v) s =
        .next (reply r 200 [("mode", .w s.lineMode.text), ("need", .w "M9")] s)) ∧
      (∀ n cum, s.bridge.link = 2 → s.loop.started = true → 262144 + 13 < n → -128 < toSigned 8 (s.loop.reg .ISL_OSC_TRIM) →
        toSigned 8 (s.loop.reg .ISL_OSC_TRIM) ≤ 127 → ∃ t, exec (.oscTrimWindow n cum) s = .next t ∧ t = { s with loop := t.loop } ∧
          t.loop.reg .ISL_OSC_TRIM = ofSigned 8 (toSigned 8 (s.loop.reg .ISL_OSC_TRIM) - 1) ∧ t.loop.freqOk = false) ∧
      (∀ n cum, s.bridge.link = 2 → s.loop.started = true → n ≤ 262144 + 13 → 262144 ≤ n + 13 → s.loop.synced = true →
        cum.natAbs ≤ 16 → -128 ≤ toSigned 8 (s.loop.reg .ISL_OSC_TRIM) → toSigned 8 (s.loop.reg .ISL_OSC_TRIM) ≤ 127 →
        ∃ t, exec (.oscTrimWindow n cum) s = .next t ∧ t = { s with loop := t.loop } ∧
          t.loop.reg .ISL_OSC_TRIM = ofSigned 8 (toSigned 8 (s.loop.reg .ISL_OSC_TRIM)) ∧ t.loop.reg .ISL_PHASE_LOCK = 1 ∧
          t.loop.freqOk = true))
/-! ## Supplies, sequencer, resets, power failure, temperature (chapter 3) -/

/-- The supplies (R29, R31, R45, R46). Power-on reset leaves Midnight with every field at its reset value and starts the
sequence; what OTP, NAND and the loop die hold, and the queue, stand. With VAON goes all of PD0. The absence of VDDIO_A with
an enable asserted powers down at once, without one it is noted. REFCLK's loss ends the validity of TAI, tells a move to
FREE and is detected by the CLOCK alarm source; its return sends what waited on the ring. -/
def Obligations.SupplyCommandsComplete : Prop :=
  ∀ s : State,
    (∃ t, exec .vaonPowerOnReset s = .next t ∧ t.mode = .M0 ∧ t.clk.tai = 0 ∧ t.clk.valid = false ∧ t.clk.state = .FREE ∧
      t.sec.otp = s.sec.otp ∧ t.loop = s.loop ∧ t.kv.keys = s.kv.disk ∧ t.kv.dirty = [] ∧ t.pending = s.pending ∧
      (∀ p i, t.reg p i = t.resetOf p i) ∧ (s.pwr.vddioA = true → t.pwr.seq = .up 0 ∧ t.pwr.en = 1)) ∧
    (∃ t, exec .vaonLoss s = .next t ∧ t.pwr.vaon = false ∧ t.pwr.on = 0 ∧ t.pwr.en = 0 ∧ t.clk.valid = false ∧
      t.clk.rate = 0 ∧ t.sec.otp = s.sec.otp ∧ (∀ p i, t.reg p i = t.resetOf p i)) ∧
    (s.pwr.vddioA = true → s.pwr.en = 0 →
      exec .vddioAAbsent s = .next { s with pwr := { s.pwr with vddioA := false } }) ∧
    (s.pwr.vddioA = true → s.pwr.en ≠ 0 → ∃ t u, exec .vddioAAbsent s = .next t ∧
      u = (raise 0x018 [] (setDomains 1 (({ s with pwr := { s.pwr with vddioA := false } } : State).incReg .PWR_PG_FAILS))).setReg
            .PWR_RESET_CAUSE 5 ∧
      t = { collapse { u with pwr := { u.pwr with causeHeld := true, en := 0 } } with pwr := t.pwr } ∧
      t.pwr.restart = .vddioA ∧ t.pwr.vddioA = false ∧ t.pwr.en = 0 ∧ t.mode = .M0) ∧
    (s.pwr.restart ≠ .vddioA →
      exec .vddioAReturnRestart s = .next (flushOwn { s with pwr := { s.pwr with vddioA := true } })) ∧
    (s.pwr.restart = .vddioA → mayStart { s with pwr := { s.pwr with vddioA := true } } = true →
      exec .vddioAReturnRestart s = .next (startUp (flushOwn { s with pwr := { s.pwr with vddioA := true } }))) ∧
    (s.pwr.vaon = false → s.clk.state = .FREE → exec .refclkLoss s = .next
      { s with pwr := { s.pwr with refclk := false }
               clk := { s.clk with valid := false, state := .FREE, master := none, good := 0, bad := 0, overrun := false } }) ∧
    (s.pwr.vaon = true → s.clk.state = .FREE → exec .refclkLoss s = .next (fireAlarm 5
      { s with pwr := { s.pwr with refclk := false }
               clk := { s.clk with valid := false, state := .FREE, master := none, good := 0, bad := 0, overrun := false }
               sec := { s.sec with srcNow := setBit s.sec.srcNow 5 } })) ∧
    (s.pwr.vaon = true → s.clk.state ≠ .FREE → ∃ u, exec .refclkLoss s = .next (fireAlarm 5
        { u with sec := { u.sec with srcNow := setBit u.sec.srcNow 5 } }) ∧
      u = raise 0x0C0 [("from", .n s.clk.state.num), ("to", .n 0)]
        { s with pwr := { s.pwr with refclk := false }
                 clk := { s.clk with valid := false, state := .FREE, master := none, good := 0, bad := 0, overrun := false } }) ∧
    exec .refclkReturn s = .next (flushOwn
      { s with pwr := { s.pwr with refclk := true }, sec := { s.sec with srcNow := clearBit s.sec.srcNow 5 } })

/-- What a loss leaves after which the flush cannot run (R50, R58): nothing is dirty, what was not programmed is lost, no
session stands, every domain but PD0 is off, and PWR.PLP_STATUS says whether something was lost. -/
def Obligations.ALossWithoutFlushLosesWhatIsDirty : Prop :=
  ∀ s : State, (collapse s).kv.dirty = [] ∧ (collapse s).kv.keys = s.kv.disk ∧ (collapse s).sess = [] ∧
    (collapse s).pwr.on = 1 ∧ (collapse s).sec.otp = s.sec.otp ∧
    (s.pwr.pfHigh = false →
      (collapse s).reg .PWR_PLP_STATUS = (if s.kv.dirty = [] then 3 else 2) ∧ (collapse s).reg .PWR_FLUSH_US = 0 ∧
      (collapse s).reg .PWR_RESET_CAUSE = s.reg .PWR_RESET_CAUSE)

/-- The sequencer (R48, R49, R50): a power-good that the sequence does not wait for is noted; the one that it waits for takes
it to the next group, after group 1 to Dawn, and on the way out of Small Hours through groups 1, 4 and 5; the wait that runs
out raises EV 0x010 + g, counts and takes the block to Midnight to start again; the loss of a power-good seen high is told
by EV 0x018 + g and recorded as cause 5, with the power-fail transition where groups 1 and 5 are lost; each step of the way
down deasserts the next enable, and the last one reaches Midnight. -/
def Obligations.SequencerCommandsComplete : Prop :=
  ∀ s : State,
    (∀ g, g ≤ 5 → s.pwr.vddioA = true → s.pwr.seq ≠ .up g → exec (.seqPgHigh g) s = .next
      { s with pwr := { s.pwr with pg := setBit s.pwr.pg g
                                   pgSeen := if bitAt s.pwr.en g then setBit s.pwr.pgSeen g else s.pwr.pgSeen } }) ∧
    (s.pwr.vddioA = true → s.pwr.seq = .up 0 → s.pwr.waking = false → bitAt s.pwr.en 0 = true → bitAt s.pwr.en 1 = false →
      ∃ t, exec (.seqPgHigh 0) s = .next t ∧ t = { s with pwr := t.pwr } ∧
        t.pwr.seq = .up 1 ∧ t.pwr.en = setBit s.pwr.en 1 ∧ t.pwr.pg = setBit s.pwr.pg 0) ∧
    (s.pwr.vddioA = true → s.pwr.seq = .up 1 → s.pwr.waking = false → groupGood s 0 = true → bitAt s.pwr.en 1 = true →
      (s.pwr.held = false → ∃ t, exec (.seqPgHigh 1) s = .next t ∧ t.mode = .M2 ∧ t.pwr.seq = .idle ∧ t.pwr.on = 7 ∧
        t.pwr.en = s.pwr.en) ∧
      (s.pwr.held = true → ∃ t, exec (.seqPgHigh 1) s = .next t ∧ t = { s with pwr := t.pwr } ∧ t.pwr.seq = .idle ∧
        t.pwr.held = true)) ∧
    (∀ g, 2 ≤ g → g ≤ 5 → s.pwr.vddioA = true → s.pwr.seq = .up g → s.pwr.waking = false → bitAt s.pwr.en g = true →
      exec (.seqPgHigh g) s = .next (raiseGroups
        { s with pwr := { s.pwr with pg := setBit s.pwr.pg g, pgSeen := setBit s.pwr.pgSeen g } })) ∧
    (∀ g, g ∈ [1, 4, 5] → s.pwr.vddioA = true → s.pwr.seq = .up g → s.pwr.waking = true → bitAt s.pwr.en g = true →
      exec (.seqPgHigh g) s = .next (resumeGroups
        { s with pwr := { s.pwr with pg := setBit s.pwr.pg g, pgSeen := setBit s.pwr.pgSeen g } })) ∧
    (∀ g, s.pwr.seq = .up g → ∃ u, exec .pgTimeout s = .next (powerDown (dropService (loseDirty true u))) ∧
      u = { raise (0x010 + g) [] (s.incReg .PWR_PG_FAILS) with pwr := { s.pwr with restart := .pgFault } }) ∧
    (∀ g, g < 6 → s.pwr.vddioA = true → groupGood s g = false →
      exec (.powerGoodLoss g) s = .next { s with pwr := { s.pwr with pg := clearBit s.pwr.pg g } }) ∧
    (∀ g, g ∈ [0, 2, 3, 4] → s.pwr.vddioA = true → groupGood s g = true → goingDown s = false →
      ∃ u : State, exec (.powerGoodLoss g) s = .next (collapse (u.setReg .PWR_RESET_CAUSE 5)) ∧
        u = { raise (0x018 + g) [] (if g = 0 then setDomains 1 (s.incReg .PWR_PG_FAILS) else s.incReg .PWR_PG_FAILS) with
              pwr := u.pwr } ∧
        u.pwr.pg = clearBit s.pwr.pg g ∧ u.pwr.pgSeen = clearBit s.pwr.pgSeen g ∧ u.pwr.restart = .pgFault) ∧
    (∀ g, g ∈ [1, 5] → s.pwr.vddioA = true → groupGood s g = true → goingDown s = false →
      exec (.powerGoodLoss g) s = .next (powerFail 5
        { raise (0x018 + g) [] (s.incReg .PWR_PG_FAILS) with
          pwr := { s.pwr with pg := clearBit s.pwr.pg g, pgSeen := clearBit s.pwr.pgSeen g, restart := .pgFault
                              causeHeld := true } })) ∧
    (∀ g h, s.pwr.seq = .down g → topEnable s.pwr.en = some h → clearBit s.pwr.en h ≠ 0 →
      ∃ t, exec .powerDownEnableStep s = .next t ∧ t = { s with pwr := t.pwr } ∧ t.pwr.en = clearBit s.pwr.en h ∧
        t.pwr.seq = .down h ∧ t.pwr.pg = clearBit s.pwr.pg g ∧ t.pwr.pgSeen = clearBit s.pwr.pgSeen h ∧ t.pwr.on = 1) ∧
    (∀ g h, s.pwr.seq = .down g → topEnable s.pwr.en = some h → clearBit s.pwr.en h = 0 → s.pwr.pfHigh = false →
      ∃ t, exec .powerDownEnableStep s = .next t ∧ t.mode = .M0 ∧ t.pwr.seq = .idle ∧ t.pwr.en = 0 ∧ t.pwr.on = 1) ∧
    (s.pwr.restart = .pgFault → mayStart s = true → exec .sequenceRestart s = .next (startUp s)) ∧
    (s.pwr.restart ≠ .pgFault → exec .sequenceRestart s = .next s)

/-- Wake sources, RESET_N, power failure (R54, R55, R56, R59, R60, R61). A source that PWR.WAKE_EN opens is recorded and
in Small Hours begins the resume; RESET_N holds PD1 to PD10 in reset and its release goes to Dawn; an accepted power failure
raises EV 0x020 and begins the transition with cause 3; the end of the flush programs what was dirty or loses it, raises
PLP_DONE and powers down. -/
def Obligations.WakeResetAndPowerFailCommandsComplete : Prop :=
  ∀ s : State,
    (s.mode = .M1 → bitAt (s.reg .PWR_WAKE_EN) 0 = true → s.pwr.pwrFailN = true → s.pwr.waking = false →
      s.pwr.held = false → s.pwr.seq = .idle →
      exec .wakeNFall s = .next (resumeGroups
        (({ s with pwr := { s.pwr with wakeN := false, waking := true } } : State).setReg .PWR_WAKE_CAUSE 0))) ∧
    (bitAt (s.reg .PWR_WAKE_EN) 0 = false → exec .wakeNFall s = .next { s with pwr := { s.pwr with wakeN := false } }) ∧
    (s.mode = .M1 → bitAt (s.reg .PWR_WAKE_EN) 2 = true → s.pwr.pwrFailN = true → s.pwr.waking = false →
      s.pwr.held = false → s.pwr.seq = .idle → s.pwr.belowWake = true → wakeAt s ≠ 0 → wakeAt s ≤ s.clk.tai →
      exec .taiWake s = .next (resumeGroups
        (({ s with pwr := { s.pwr with belowWake := false, waking := true } } : State).setReg .PWR_WAKE_CAUSE 2))) ∧
    (wakeAt s = 0 ∨ s.clk.tai < wakeAt s ∨ s.pwr.belowWake = false → exec .taiWake s = .next s) ∧
    (goingDown s = false → s.pwr.en ≠ 0 → ∃ t, exec .resetNAssert s = .next t ∧ t.pwr.held = true ∧ t.pwr.resetN = false ∧
      t.pwr.en = s.pwr.en ∧ t.pwr.on = (if s.mode = .M0 then 1 else 7) ∧ t.sec.otp = s.sec.otp ∧ t.kv.keys = s.kv.disk ∧
      t.bridge = Bridge.reset ∧ (∀ g, g ≤ 1 → s.pwr.seq = .up g → t.pwr.seq = .up g)) ∧
    (s.pwr.failing = true → exec .resetNAssert s =
      .next (endFlush false { s with pwr := { s.pwr with resetN := false } })) ∧
    (s.pwr.resetN = false → goingDown s = false → groupGood s 0 = true → groupGood s 1 = true →
      ∃ t, exec .resetNRelease s = .next t ∧ t.mode = .M2 ∧ t.pwr.held = false ∧ t.pwr.resetN = true ∧ t.pwr.on = 7 ∧
        t.reg .PWR_RESET_CAUSE = 1) ∧
    (s.pwr.vaon = true → s.pwr.vddioA = true → goingDown s = false → exec .pwrFailNAccepted s =
      .next (powerFail 3 (raise 0x020 [] { s with pwr := { s.pwr with pwrFailN := false, pfWait := true, pfHigh := false } }))) ∧
    (s.pwr.vaon = true → s.pwr.vddioA = true → goingDown s = true → exec .pwrFailNAccepted s =
      .next (raise 0x020 [] { s with pwr := { s.pwr with pwrFailN := false, pfWait := true, pfHigh := false } })) ∧
    (s.pwr.failing = true → s.reg .PWR_PLP_STATUS = 2 → exec (.plpFlushComplete true) s =
      .next (powerDown (plpDone ((persistAll (programLog s)).setReg .PWR_PLP_STATUS 1)))) ∧
    (s.pwr.failing = true → s.kv.dirty ≠ [] → exec (.plpFlushComplete false) s =
      .next (powerDown (plpDone (loseDirty true s)))) ∧
    (s.pwr.pfWait = false → exec .pfDebounceExpiry s = .next { s with pwr := { s.pwr with pwrFailN := true } }) ∧
    (s.pwr.pfWait = true → goingDown s = false → exec .pfDebounceExpiry s =
      .next (wake 3 { s with pwr := { s.pwr with pwrFailN := true, pfWait := false } })) ∧
    (s.pwr.pfWait = true → goingDown s = true → exec .pfDebounceExpiry s =
      .next { s with pwr := { s.pwr with pwrFailN := true, pfWait := false, pfHigh := true } })

/-- Temperature, power and the domains (R43, R44, R62, R63, R64, R196, R253, R428): the readings stand in their registers
with the user offsets, while the trip and the tamper window go by the readings alone; three in a row of 125 °C or more on a
sensor trip the block with cause 4; a disagreement of more than 15 °C raises EV 0x024; a domain whose gating was decided goes
off once it holds no work, PD9 with the vector cache; a domain that is on accepts work after its latency, its rails being
good. -/
def Obligations.TemperaturePowerAndDomainCommandsComplete : Prop :=
  ∀ s : State,
    (∀ rs, rs ≠ [] → (takeReadings rs s).pwr.tripCount.any (3 ≤ ·) = false →
      toSigned 8 ((takeReadings rs s).reg .ALM_T_LO_C) ≤ (takeReadings rs s).pwr.raw.headD 0 →
      (takeReadings rs s).pwr.raw.headD 0 ≤ (takeReadings rs s).reg .ALM_T_HI_C →
      ∃ t u, exec (.temperatureReading rs) s = .next t ∧ u = takeReadings rs s ∧
        t = { u with pwr := { u.pwr with tamperRun := 0 }, sec := { u.sec with srcNow := clearBit u.sec.srcNow 6 } }) ∧
    (∀ a b c d e f g h : Int, 2 ≤ s.mode.num → ∃ t, t = takeReadings [a, b, c, d, e, f, g, h] s ∧
      t = { s with regs := t.regs, pwr := t.pwr } ∧ t.pwr.raw = [a, b, c, d, e, f, g, h] ∧
      t.pwr.tripCount = List.zipWith (fun n x => if (125 : Int) ≤ x then n + 1 else 0)
        ((List.range 8).map fun k => s.pwr.tripCount.getD k 0) [a, b, c, d, e, f, g, h] ∧
      t.reg .PWR_TEMP_A = leNat (List.zipWith (fun x k => ofSigned 8 (x + monOffset s k)) [a, b, c, d] [0, 1, 2, 3]) ∧
      t.reg .PWR_TEMP_B = leNat (List.zipWith (fun x k => ofSigned 8 (x + monOffset s k)) [e, f, g, h] [4, 5, 6, 7]) ∧
      (monTrimmed s = false → (∀ x ∈ [a, b, c, d, e, f, g, h], -128 ≤ x ∧ x ≤ 127) →
        t.reg .PWR_TEMP_MAX_C = ofSigned 8 ([a, b, c, d, e, f, g, h].foldl max a))) ∧
    (∀ rs, rs ≠ [] → (takeReadings rs s).pwr.tripCount.any (3 ≤ ·) = true → s.pwr.tripped = false →
      goingDown s = false → ∃ t u, exec (.temperatureReading rs) s = .next t ∧
        u = raise 0x023 [] (takeReadings rs s) ∧
        t = judgeWindow (powerFail 4 { u with pwr := { u.pwr with tripped := true, needCool := true } })) ∧
    ((s.pwr.raw.foldl min (s.pwr.raw.headD 0)) + 15 < s.pwr.raw.foldl max (s.pwr.raw.headD 0) →
      exec .sensorDisagreement s = .next (raise 0x024 [] s)) ∧
    (∀ core avg, monTrimmed s = false → exec (.powerMeasurementUpdate core avg) s =
      .next ((s.setReg .PWR_P_CORE_MW (min core (2 ^ 32 - 1))).setReg .PWR_P_AVG_MW (min avg (2 ^ 32 - 1)))) ∧
    (∀ core avg, monTrimmed s = true → exec (.powerMeasurementUpdate core avg) s =
      .next ((s.setReg .PWR_P_CORE_MW (min (core * s.reg .CAL_MON_P_GAIN / 10000) (2 ^ 32 - 1))).setReg .PWR_P_AVG_MW
        (min (avg * s.reg .CAL_MON_P_GAIN / 10000) (2 ^ 32 - 1)))) ∧
    (∀ d, d < 11 → d ≠ 9 → gatingDecided d s = true → domainIdle d s = true → exec (.domainGated d) s = .next
      { s with pwr := { s.pwr with on := clearBit s.pwr.on d, ready := clearBit s.pwr.ready d
                                   gating := clearBit s.pwr.gating d } }) ∧
    (gatingDecided 9 s = true → s.sweep.rerank = [] → s.sweep.exact = none → exec (.domainGated 9) s = .next
      { s with pwr := { s.pwr with on := clearBit s.pwr.on 9, ready := clearBit s.pwr.ready 9
                                   gating := clearBit s.pwr.gating 9 }
               sweep := { s.sweep with cache := [] } }) ∧
    (∀ d, d < 11 → bitAt s.pwr.on d = true → railsGood s d = true → d ≠ 7 ∨ s.pwr.pd8Due = false →
      exec (.domainOnComplete d) s = .next { s with pwr := { s.pwr with ready := setBit s.pwr.ready d } }) ∧
    (bitAt s.pwr.on 7 = true → bitAt s.pwr.on 8 = false → groupGood s 0 = true → s.pwr.pd8Due = true →
      exec (.domainOnComplete 7) s = .next
        { s with pwr := { s.pwr with on := setBit s.pwr.on 8, ready := clearBit (setBit s.pwr.ready 7) 8
                                     gating := clearBit s.pwr.gating 8, pd8Due := false } }) ∧
    (∀ d, bitAt s.pwr.on d = false → exec (.domainOnComplete d) s = .next s)

/-! ## The day (chapter 4) -/

/-- MODE.SHOW and MODE.SET (R70, R71, R73, R504): the target that is the mode already is done; from Morning every other
target begins the drain; in Evening the target changes; in Dusk a job that runs refuses the move unless it is to be
aborted. -/
def Obligations.ModeVerbsComplete : Prop :=
  ∀ (l : Line) (s : State),
    (passes vModeShow l s = true → exec (.modeShow l) s = .next (reply l.route 0
      [("mode", .w s.mode.text), ("target", .w s.day.target.text), ("t", .n s.day.t),
       ("reason", .n (s.reg .GOV_LAST_REASON)), ("pin", .n (s.reg .GOV_PIN))] (noteLine vModeShow l s))) ∧
    (∀ m lv, passes (vModeSet l) l s = true → modeTarget (l.text "mode") = some (m, lv) →
      (s.mode = m → exec (.modeSet l) s =
        .next (reply l.route 0 [("mode", .w s.mode.text), ("target", .w m.text)] (noteLine (vModeSet l) l s))) ∧
      (s.mode = .M4 → m ≠ .M4 → ∃ t, exec (.modeSet l) s = .next t ∧ t.mode = .M8 ∧ t.day.target = m ∧
        t.day.drainFrom = s.now ∧ t.kv = s.kv ∧ t.clk = s.clk) ∧
      (s.mode = .M8 → m ≠ .M4 → m ≠ .M8 → exec (.modeSet l) s =
        .next { reply l.route 1 [("mode", .w "M8"), ("target", .w m.text)] (noteLine (vModeSet l) l s) with
          day := { s.day with target := m } }) ∧
      (∀ j, s.mode = .M9 → m ≠ .M9 → runningJob s = some j → l.flag "abort" = false →
        ∃ t, exec (.modeSet l) s = .next t ∧ t.mode = .M9 ∧ t.day = s.day) ∧
      (∀ j, s.mode = .M9 → m ≠ .M9 → runningJob s = some j → l.flag "abort" = true →
        ∃ t, exec (.modeSet l) s = .next t ∧ t.mode = .M9 ∧ t.day.abortTo = some m))

/-- The drain and Small Hours (R49, R52, R53, R69, R71): with nothing left to wait for the block persists what is dirty and
moves to its target; the drain limit answers what is left with 202 and raises EV 0x00C; a wake in M1 with its image good
is Morning again with every domain of M4. -/
def Obligations.DrainAndSmallHoursComplete : Prop :=
  ∀ s : State,
    (draining s = true → drained s = true → s.day.target = .M9 → ∃ t, exec .drainComplete s = .next t ∧ t.mode = .M9 ∧
      t.kv.dirty = []) ∧
    (draining s = true → drained s = true → s.day.target = .M0 → ∃ t, exec .drainComplete s = .next t ∧ t.pwr.on = 1) ∧
    (draining s = false → exec .drainComplete s = .next s) ∧
    (draining s = true → drained s = true → s.day.target = .M1 → ∃ t, exec .smallHoursEntry s = .next t ∧ t.mode = .M1 ∧
      t.pwr.on = 1 ∧ t.pwr.ret = 0x026 ∧ t.pwr.en = 0x0D ∧ t.mem.imageM1 = true ∧ t.sweep.cache = [] ∧
      bitAt t.assoc.withdrawn s.assoc.straps = true) ∧
    (draining s = true → s.sess = [] → s.sweep.forming = [] → s.sweep.running = none → s.sweep.exact = none →
      s.sweep.rerank = [] → s.assoc.reqs = [] → exec .drainTimeout s = .next (raise 0x00C [] (persistAll (clearQueries s)))) ∧
    (s.mode = .M1 → s.pwr.waking = true → s.pwr.held = false → s.pwr.seq = .idle →
      (∀ g, g < 6 → groupGood s g = true) →
      (s.mem.imageM1 = true → ∃ t, exec (.smallHoursResume true) s = .next t ∧ t.mode = .M4 ∧
        t.pwr.on = 0x67F ∧ t.pwr.ready = 0x67F ∧ t.pwr.en = s.pwr.en ∧ t.pwr.ret = 0 ∧ t.day.target = .M4 ∧
        t.assoc.entries = s.assoc.entries ∧ t.clk.beat = (s.clk.beat + 60 * s.clk.refCount) % 2 ^ 64) ∧
      (∃ t, exec (.smallHoursResume false) s = .next t ∧ t.mode = .M4 ∧
        t.assoc.entries = s.assoc.policy ∧ t.assoc.cursors = [] ∧ t.assoc.policyState = 1))

/-- The Almanac (R79 to R89): a tick in which nothing asks for a move records the load and the free share and moves
nothing; the scrub period halves while there are mismatches; the writes that move the dirty limit. -/
def Obligations.AlmanacAndLimitWritesComplete : Prop :=
  ∀ s : State,
    (∀ due util free hw, s.inService = false → exec (.almanacTick due util free hw) s = .next s) ∧
    (∀ util hw, s.runsIn .M4 = true → isOver s = false → s.reg .GOV_PIN = 0 → s.reg .GOV_MODE_MIN ≤ 4 →
      4 ≤ s.reg .GOV_MODE_MAX → queueDepth s = 0 → 0 < s.reg .GOV_UP_QDEPTH → util < 90 → s.sweep.rerank = [] →
      s.sweep.exact = none →
      ∃ t, exec (.almanacTick 0 util s.mem.freePermille hw) s = .next t ∧ t.mode = .M4 ∧ t.day.upTicks = 0 ∧
        t.day.hostWrites = hw ∧ t.reg .SWEEP_UTIL_PCT = util ∧ t.colls = s.colls ∧ t.kv.keys = s.kv.keys) ∧
    (s.inService = true → corrNow s ≠ 0 → bitAt (s.reg .GOV_PIN) 3 = false →
      s.reg .GOV_SCRUB_MIN_MS ≤ s.reg .GOV_SCRUB_MS / 2 → ∃ t, exec .scrubPeriodUpdate s = .next t ∧
        t.reg .GOV_SCRUB_MS = s.reg .GOV_SCRUB_MS / 2 ∧ t.assoc.corr = 0 ∧
        t.assoc.corrPast = (s.assoc.corr :: s.assoc.corrPast).take 9 ∧ t.day.quietSecs = 0) ∧
    (s.inService = true → corrNow s = 0 → bitAt (s.reg .GOV_PIN) 3 = false → s.day.quietSecs < 59 →
      exec .scrubPeriodUpdate s = .next { s with
        day := { s.day with quietSecs := s.day.quietSecs + 1 }
        assoc := { s.assoc with corr := 0, corrPast := (s.assoc.corr :: s.assoc.corrPast).take 9 } }) ∧
    (∀ r v, mayWrite r 1 m4to9 s = true → 200 < v →
      exec (.flashHoldupWrite r v) s = .next (reply r 103 [("arg", .w "value")] s)) ∧
    (∀ r v u, mayWrite r 1 m4to9 s = true → v ≤ 200 → ns0Write [⟨.FLASH_HOLDUP_MS, 0, v⟩] s = (u, none) →
      exec (.flashHoldupWrite r v) s =
        .next (reply r 0 [("value", .n v)] (recomputeLimit (u.setReg .FLASH_HOLDUP_MS v)))) ∧
    (∀ r v, mayWrite r 1 m4to9 s = true → 4096 < v →
      exec (.dirtyMaxWrite r v) s = .next (reply r 103 [("arg", .w "value")] s)) ∧
    (∀ r v, mayWrite r 1 m4to9 s = true → v ≤ 4096 → ∃ t, exec (.dirtyMaxWrite r v) s = .next t ∧
      t.reg .GOV_DIRTY_MAX_MIB = v)

/-! ## The ring (chapter 5) -/

/-- Characters, echo and forwarding (R91, R92, R94, R105, R107, R580): a byte of a pass-through run goes on unchanged, the
byte 0x1D ends it; a printable character of a consumed line joins the edited line while it has fewer than 250 characters;
what was typed is echoed in a run; a forwarded line ends one character time after its CR. A line without power or without
reception does nothing. -/
def Obligations.RingCharacterCommandsComplete : Prop :=
  ∀ (s : State) (b : Nat), lineRuns s = true → s.line.loss = false →
    (s.line.cls = .run → b < 256 → b ≠ 0x1D → exec (.ibianByteReceived b false) s =
      .next { s with out := s.out ++ [.tx [b]], line := { s.line with fwdOpen := true } }) ∧
    (s.line.cls = .run → exec (.ibianByteReceived 0x1D false) s = .next (endForward
      { s with out := s.out ++ [.tx [0x1D]], line := ({ s.line with fwdOpen := true } : LineCtl).fresh })) ∧
    (s.line.cls = .consume → s.line.spaceSeen = true → s.line.ctrlC = false → s.line.lastCR = false → s.line.fwdCR = false →
      s.line.count < 250 → 0x20 ≤ b → b ≤ 0x7E → exec (.ibianByteReceived b false) s = .next { s with line := { s.line with
        raw := s.line.raw ++ [b], tail := s.line.tail ++ [b], text := s.line.text ++ [b], count := s.line.count + 1,
        held := if s.reg .LINE_ECHO = 1 then s.line.held ++ [b] else s.line.held } }) ∧
    (s.line.cls = .consume → s.line.held ≠ [] → s.reg .LINE_ECHO = 1 → exec .echoRelease s =
      .next (ringSend (runOf s.line.held) { s with line := { s.line with held := [] } })) ∧
    (s.line.cls = .run → exec .passThroughRunTimeout s = .next (endForward { s with line := s.line.fresh })) ∧
    (s.line.fwdCR = true → exec .forwardedCrEnd s = .next (flushOwn { s with line := { s.line with fwdOpen := false } })) ∧
    (∀ c d, flushOwn { s with line := { s.line with fwdOpen := false, fwdCR := c, typed := d } } =
      { s with out := s.out ++ s.line.own, line := { s.line with fwdOpen := false, fwdCR := c, typed := d, own := [] } })

/-- Breaks, loss of reception, rate changes and notices (R102, R113, R116): a break brings the line back to 115,200 baud,
goes on downstream and raises EV 0x3C8; a loss raises EV 0x3C4 at once and at each repeat and ends as a break does after
EV 0x3C5; a rate that was announced comes into force with EV 0x3C6 and its revert with EV 0x3C7; the oldest notice of a route
leaves, behind the LOST line where notices were discarded. -/
def Obligations.RingBreakRateAndNoticeCommandsComplete : Prop :=
  ∀ s : State, lineRuns s = true →
    (s.line.loss = false → exec .breakReceived s = .next (breakActs s)) ∧
    (∃ u, breakActs s = raise 0x3C8 [] (endHush u) ∧ u.reg .LINE_BAUD = 115200 ∧ u.out = s.out ++ [.brk 500] ∧
      u.line.switchTo = none ∧ u.line.prevRate = none ∧ u.line.text = [] ∧ u.line.own = s.line.own ∧
      u.line.hushed = s.line.hushed ∧ u.line.fwdOpen = false ∧
      u = { s with regs := u.regs, out := u.out, line := u.line }) ∧
    (s.line.fwdOpen = false → endHush s = { s with out := s.out ++ (s.line.own ++ s.line.hushed)
                                                   line := { s.line with hush := false, own := [], hushed := [] } }) ∧
    (s.line.loss = false → exec .receiveLoss s = .next (raise 0x3C4 [("up", .n (s.line.upstream.getD 0))]
      { s with line := { s.line with loss := true, lossAt := s.now } })) ∧
    (s.line.loss = true → exec .receiveLossRepeat s = .next (raise 0x3C4 [("up", .n (s.line.upstream.getD 0))] s)) ∧
    (s.line.loss = true → exec .receiveRestored s = .next (breakActs (raise 0x3C5
      [("lost_ms", .n (1000 + (s.now - s.line.lossAt) / ms 1))] { s with line := { s.line with loss := false } }))) ∧
    (∀ b, s.line.switchTo = some b → exec .lineRateSwitch s = .next (raise 0x3C6 [("baud", .n b)] (endHush
      { s.setReg .LINE_BAUD b with
        line := { s.line with switchTo := none, prevRate := some (s.reg .LINE_BAUD) } }))) ∧
    (s.line.switchTo = none → exec .lineRateSwitch s = .next s) ∧
    (∀ b, s.line.prevRate = some b → exec .rateRevert s = .next (raise 0x3C7 [("baud", .n b)]
      { s.setReg .LINE_BAUD b with line := { s.line with prevRate := none } })) ∧
    (∀ n ns, (s.route .ring).queue = n :: ns → (s.route .ring).lost = 0 → exec (.noticeSend .ring) s =
      .next (ringSend (.notice .ring n (ended (n.text (s.reg .LINE_ADDR))))
        (s.setRoute { s.route .ring with queue := ns, lost := 0 }))) ∧
    (∀ n ns, (s.route .ring).queue = n :: ns → (s.route .ring).lost ≠ 0 → exec (.noticeSend .ring) s =
      .next (raise 0x3CA [("count", .n (s.route .ring).lost)] (ringSend (.notice .ring n (ended (n.text (s.reg .LINE_ADDR))))
        (ringSend (.lost .ring (s.route .ring).lost (ended (lostText (s.reg .LINE_ADDR) (s.route .ring).lost)))
          (s.setRoute { s.route .ring with queue := ns, lost := 0 }))))) ∧
    (∀ c n ns, c ∈ s.line.tlsConns → (s.route (.tls c)).queue = n :: ns → (s.route (.tls c)).lost = 0 →
      exec (.noticeSend (.tls c)) s = .next (tlsSend c (.notice (.tls c) n (ended (n.text (s.reg .LINE_ADDR))))
        (s.setRoute { s.route (.tls c) with queue := ns, lost := 0 })))

/-- A line that waits is checked and run (R98, R99, R123, R322): the oldest of the ring leaves the queue of lines and, where
its route is busy, is answered with 202; in no form, with the code of the form; with an unknown verb, with 101; and otherwise
its verb runs with the line's address, checksum and arguments. A record of a connection is counted before its line runs. -/
def Obligations.ALineIsConsumedByItsVerb : Prop :=
  ∀ (s : State) (x : RxLine) (rest : List RxLine), s.line.ready = x :: rest → lineRuns s = true →
    let u : State := { s with line := { s.line with ready := rest } }
    (∀ p, busyOn .ring s = some p →
      exec (.ibianLineReceived .ring) s = .next (reply .ring 202 [("pending", .w p)] (noteConsumed .ring x u))) ∧
    (∀ code kv, busyOn .ring s = none → lineForm x = .error (code, kv) → code ≠ 104 →
      exec (.ibianLineReceived .ring) s = .next (reply .ring code kv (noteConsumed .ring x u))) ∧
    (∀ p sum, busyOn .ring s = none → lineForm x = .ok (p, sum) → verbNamed p.verb = none →
      exec (.ibianLineReceived .ring) s = .next (reply .ring 101 [] (noteConsumed .ring x u))) ∧
    (∀ p sum run, busyOn .ring s = none → lineForm x = .ok (p, sum) → verbNamed p.verb = some run →
      exec (.ibianLineReceived .ring) s = .next (run ⟨.ring, p.addr, sum, p.args⟩ u)) ∧
    (∀ p sum run c t, t ≠ [] → c ∈ s.line.tlsConns → (s.route (.tls c)).busy = none → lineForm (plainLine t) = .ok (p, sum) →
      verbNamed p.verb = some run →
      ((s.net.tls.find? fun y => y.num == c) = none →
        exec (.ibianLineReceived (.tls c t)) s = .next (run ⟨.tls c, p.addr, sum, p.args⟩ s)) ∧
      (∀ y, (s.net.tls.find? fun y => y.num == c) = some y → y.recvRecs + 1 < 2 ^ 23 →
        exec (.ibianLineReceived (.tls c t)) s =
          .next (run ⟨.tls c, p.addr, sum, p.args⟩ (s.setTls { y with recvRecs := y.recvRecs + 1 }))))

/-- The ADDR, RING and LINE verbs (R102, R110, R111, R114 to R116, R118): a chain gives the unit its address, above 62 the
address 0, and goes on rewritten (a start= below 0 leaves the address: the model's choice, log entry 107); a locked address stands; a probe goes round unanswered; a rate is announced and the unit falls silent
until the switch; a PIN is kept with the secrets of namespace 0; the notices of a connection are opened or closed. -/
def Obligations.AddressAndLineVerbsComplete : Prop :=
  ∀ (l : Line) (s : State),
    (∀ a : Nat, l.route = .ring → l.addr = .all → l.int? "start" = some a → s.reg .LINE_ADDR_LOCK = 0 →
      let u := forwardRewritten "ADDR.CHAIN" l s
      passes vAddrChain l u = true → ∃ t, exec (.addrChain l) s = .next t ∧
        (a ≤ 62 → t = reply .ring 0 [("addr", .n a)] { setAddr a (noteLine vAddrChain l u) with
          line := { (noteLine vAddrChain l u).line with upstream := if a = 0 then none else some (a - 1) } }) ∧
        (62 < a → t = reply .ring 103 [("arg", .w "start")] (setAddr 0 (noteLine vAddrChain l u)))) ∧
    (passes vAddrSet l s = true → s.reg .LINE_ADDR_LOCK = 0 → exec (.addrSet l) s =
      .next (reply l.route 0 [("addr", .n (l.nat "addr"))] (setAddr (l.nat "addr") (noteLine vAddrSet l s)))) ∧
    (passes vAddrSet l s = true → s.reg .LINE_ADDR_LOCK = 1 → exec (.addrSet l) s =
      .next (reply l.route 201 [("addr", .n (s.reg .LINE_ADDR))] (noteLine vAddrSet l s))) ∧
    (l.route = .ring → l.addr = .all → lineRuns s = true → exec (.ringProbe l) s = .next (s.emit
      (.tx ((rewritten (s.reg .LINE_ADDR) (txt "RING.PROBE") (lineText "RING.PROBE" l)).getD (lineText "RING.PROBE" l) ++ [13])))) ∧
    (passes vLineRate l s = true → exec (.lineRate l) s =
      .next (let u := reply l.route 0 [("baud", .n (l.nat "baud")), ("after", .n (l.nat "after" 500))] (noteLine vLineRate l s)
             { u with line := { u.line with switchTo := some (l.nat "baud"), hush := true } })) ∧
    (∀ v n, intVal v = some (Int.ofNat n) → n ∉ lineRates →
      checkArgs vLineRate.args [⟨txt "baud", v, false⟩] = some (103, txt "baud")) ∧
    (∀ u, passes vLineSetpin l s = true →
      changeLocked (noteLine vLineSetpin l s) 5 = false → ns0Record (noteLine vLineSetpin l s) = (u, none) →
      exec (.lineSetpin l) s = .next (reply l.route 0 [] { loadSlot 5 Config.pinKey u with
        line := { (loadSlot 5 Config.pinKey u).line with pin := some (l.text "pin") } })) ∧
    (∀ c, passes vLineNotices l s = true → l.route = .tls c → exec (.lineNotices l) s =
      .next (reply (.tls c) 0 [("on", .n (l.nat "on"))]
        ((noteLine vLineNotices l s).updRoute (.tls c) fun x => { x with notices := l.flag "on" }))) ∧
    (passes vLineShow l s = true → exec (.lineShow l) s = .next (reply l.route 0
      [("addr", .n (s.reg .LINE_ADDR)), ("baud", .n (s.reg .LINE_BAUD)),
       ("level", .c (s.level l.route) (levelName (s.level l.route))), ("strict", .n (s.reg .LINE_STRICT)),
       ("echo", .n (s.reg .LINE_ECHO)), ("fails", .n (lockOf l.route s).fails), ("lock_s", .n (lockLeft (lockOf l.route s) s)),
       ("up", .n (s.line.upstream.getD 0)), ("unit", .x 16 s.sec.otp.ident.unitId)] (noteLine vLineShow l s))) ∧
    (∀ a, s.reg .LINE_ADDR ≠ a → setAddr a s = raise 0x3C3 [("addr", .n a)] (s.setReg .LINE_ADDR a))

/-- The logins (R117 to R121, R233, R244): the PIN that is kept gives OPERATOR and any other fails; a challenge is the eight
random bytes that one LOGIN.OWNER may answer within 60 s, with the owner line key; LOGIN.VENDOR needs the debug authority;
LOGIN.OUT, LINE.IDLE_S and the end of a lock bring a route back; while a lock lasts the LOGIN verbs answer 201. The fifth
failure in a row locks. -/
def Obligations.LoginCommandsComplete : Prop :=
  ∀ (l : Line) (s : State),
    (passes vLoginPin l s = true → (lockOf l.route s).locked = false → useLocked (noteLine vLoginPin l s) 5 = false → ∀ p,
      s.line.pin = some p →
      (l.text "pin" = p → exec (.loginPin l) s = .next (loginDone l.route 1 (noteLine vLoginPin l s))) ∧
      (l.text "pin" ≠ p → exec (.loginPin l) s =
        .next (loginFailed l.route (reply l.route 207 [] (noteLine vLoginPin l s))))) ∧
    (passes vLoginPin l s = true → (lockOf l.route s).locked = true → exec (.loginPin l) s = .next (reply l.route 201
      [("wait_s", .n (lockLeft (lockOf l.route s) s))] (noteLine vLoginPin l s))) ∧
    (passes vLoginChallenge l s = true → (lockOf l.route s).locked = false → s.sec.olk ≠ none → s.sec.trngOk = true →
      ∃ t, exec (.loginChallenge l) s = .next t ∧ t.freeCtr = s.freeCtr + 8 ∧ (l.route = .ring →
        (t.route .ring).nonce = some ⟨randomBytes s 8, s.now⟩)) ∧
    (∀ n k b, passes vLoginOwner l s = true → (lockOf l.route s).locked = false → (s.route l.route).nonce = some n →
      s.now ≤ n.at_ + sec 60 → s.sec.olk = some k → groupBytes 8 (l.text "resp") = some b →
      let u := (noteLine vLoginOwner l s).updRoute l.route fun x => { x with nonce := none }
      (b = (Config.hmacSha256 k (n.bytes ++ unitIdBytes s ++ [l.route.byte])).take 16 →
        exec (.loginOwner l) s = .next (loginDone l.route 2 u)) ∧
      (b ≠ (Config.hmacSha256 k (n.bytes ++ unitIdBytes s ++ [l.route.byte])).take 16 →
        exec (.loginOwner l) s = .next (loginFailed l.route (reply l.route 207 [] u)))) ∧
    (passes vLoginVendor l s = true → (lockOf l.route s).locked = false → debugState s = 2 →
      exec (.loginVendor l) s = .next (loginDone l.route 3 (noteLine vLoginVendor l s))) ∧
    (passes vLoginOut l s = true → (lockOf l.route s).locked = false → exec (.loginOut l) s =
      .next (reply l.route 0 [("level", .c 0 "VIEW")] ((noteLine vLoginOut l s).updRoute l.route fun x =>
        { x with level := 0, auth := false, lcParts := [] }))) ∧
    ((s.route .ring).level ≠ 0 → exec (.loginIdleFallback .ring) s = .next (raise 0x3D0 []
      (s.updRoute .ring fun x => { x with level := 0, auth := false, lcParts := [] }))) ∧
    (∀ n, (s.route (.dkp n)).auth = true → exec (.loginIdleFallback (.dkp n)) s =
      .next (s.updRoute (.dkp n) fun x => { x with auth := false, lcParts := [] })) ∧
    (∀ r, (lockOf r s).locked = true →
      exec (.loginLockExpiry r) s = .next (setLock r { lockOf r s with locked := false } s)) ∧
    (∀ r, (lockOf r s).locked = false → exec (.loginLockExpiry r) s = .next s) ∧
    (loginDone .ring 2 s).line.ringLock = Lock.clear ∧ ((loginDone .ring 2 s).route .ring).level = 2

/-- The SYS verbs (R505, R506, R517): the status has the fields of its mode; SYS.RESET answers and then resets toward Dawn with
cause 1; SYS.DIAG changes nothing, its fields are unspecified and a free value stands for them (log entry 3). -/
def Obligations.SysVerbsComplete : Prop :=
  ∀ (l : Line) (s : State),
    (passes vSysStatus l s = true → exec (.sysStatus l) s =
      .next (reply l.route 0 (statusFields (noteLine vSysStatus l s)) (noteLine vSysStatus l s))) ∧
    ((s.lineMode = .M0 ∨ s.lineMode = .M1 ∨ s.lineMode = .M2) → statusFields s =
      [("mode", .w s.lineMode.text), ("addr", .n (s.reg .LINE_ADDR)), ("unit", .x 16 s.sec.otp.ident.unitId),
       ("latch", .w (latchName s))]) ∧
    (passes vSysReset l s = true → exec (.sysReset l) s = .next (resetToDawn 1 2 (reply l.route 0 [] (noteLine vSysReset l s)))) ∧
    (passes vSysReset l s = true → groupGood s 0 = true → groupGood s 1 = true →
      ∃ t, exec (.sysReset l) s = .next t ∧ t.mode = .M2 ∧ t.sess = [] ∧ t.pwr.on = 7) ∧
    (passes vSysDiag l s = true → ∃ v, exec (.sysDiag l) s =
      .next (reply l.route 0 [("diag", .n v)] (noteLine vSysDiag l s)).tick)


/-! ## The bridge and the loop die (chapters 6 and 7) -/

/-- The bridge (R16, R37, R41, R143, R144, R146). A heartbeat begins SYNC; the load of the mirror makes the bridge UP, copies
every field of the loop die and raises late what was latched there; a loss puts both ends down and fails the writes that
wait; a change reaches the mirror; an acknowledgement answers the oldest unit that has run; a frame that fails its check is
counted. -/
def Obligations.BridgeCommandsComplete : Prop :=
  ∀ s : State, s.noLoop = false →
    (s.loop.started = true → s.firmware = true → s.pwr.failing = false → s.bridge.link = 0 →
      exec .bridgeHeartbeat s = .next ({ s with loop := { s.loop with link := true, hbCount := s.loop.hbCount + 1 }
                                                bridge := { s.bridge with link := 1 } }.emit (.bridge "heartbeat" []))) ∧
    (s.loop.started = true → s.firmware = true → s.pwr.failing = false → s.bridge.link ≠ 0 →
      exec .bridgeHeartbeat s = .next ({ s with loop := { s.loop with link := true, hbCount := s.loop.hbCount + 1 } }.emit
        (.bridge "heartbeat" []))) ∧
    ((s.bridge.link ≠ 0 ∨ s.loop.link = true) →
      exec .bridgeLost s = .next (loopEndLost (coreEndLost (s.setLoop { s.loop with synced := false, freqOk := false })))) ∧
    (s.bridge.link ≠ 0 → (coreEndLost s).bridge.link = 0 ∧ (coreEndLost s).bridge.units = [] ∧
      (coreEndLost s).clk.syncAt = none ∧ (coreEndLost s).bridge.mirror = s.bridge.mirror) ∧
    (s.loop.link = true → (loopEndLost s).loop.link = false ∧ (loopEndLost s).loop.synced = false ∧
      (loopEndLost s).loop.freqOk = false) ∧
    (s.loop.started = true → s.bridge.link = 1 → ∃ t, exec .bridgeMirrorLoaded s = .next t ∧ t.bridge.link = 2 ∧
      t.bridge.mirror = s.loop.snapshot ∧ t.bridge.upSinceDawn = true ∧ t.loop.latched = [] ∧ t.loop.resetSince = false) ∧
    (∀ k i p, loopParam k = some p → s.bridge.link = 2 → exec (.mirrorChangeReport k i) s =
      .next { s with bridge := s.bridge.setReg p (s.loop.get p i) i }) ∧
    (∀ u us r, s.bridge.link = 2 → s.bridge.units = u :: us → u.outcome = some r → r.code ≠ 0 →
      exec .mirroredWriteAck s =
        .next (answerUnit u.route r.code r.kv { s with bridge := { s.bridge with units := us } })) ∧
    (∀ u us r, s.bridge.link = 2 → s.bridge.units = u :: us → u.outcome = some r → r.code = 0 → u.core = [] →
      let t : State := { s with bridge := { s.bridge with units := us, mirror := s.loop.snapshot } }
      exec .mirroredWriteAck s = .next (answerUnit u.route 0 (unitFields t u r) t)) ∧
    (s.loop.started = true → s.firmware = true → s.pwr.failing = false →
      exec .bridgeFrameCheckFail s = .next (raiseCount 0x38C [] s))

/-- Start and reset of the loop die (R128, R129, R138, R153, R156). A start loads the newer of the two banks, has the loop
current at 3.55 mA and begins with a synchronising reset; a reset loses what is volatile: every field but the change
counter and the count of commits (log entry 23) is at its reset value, the banks and OTP stand. A commit that the loss of supply
cut short is found at the start as an image that is not valid, and the image before it is loaded (log entry 113). AUX_ISL and
LOOP_WP are told where the die has started. -/
def Obligations.LoopDieStartAndResetComplete : Prop :=
  ∀ s : State, s.noLoop = false →
    (s.loop.started = false → newerBank s.loop ≠ none → ∃ t, exec (.loopDieStart ⟨true, false⟩) s = .next t ∧ t.loop.started = true ∧
      t.loop.row = 1 ∧ t.loop.setF = 0x455DE000 ∧ t.loop.bankA = s.loop.bankA ∧ t.loop.bankB = s.loop.bankB ∧
      t.loop.buf = [] ∧ t.loop.otp.ok = true) ∧
    (s.loop.started = false → ∃ t, exec (.loopDieStart ⟨false, false⟩) s = .next t ∧ t.loop.started = true ∧ t.loop.cause = 1 ∧
      t.loop.failHigh = false) ∧
    (∀ ok, s.loop.started = false → exec (.loopDieStart ⟨ok, true⟩) s =
      exec (.loopDieStart ⟨ok, false⟩) (s.setLoop (tearBank s.loop))) ∧
    (newerBank s.loop = some 0 → (tearBank s.loop).bankA = s.loop.bankA ∧ (tearBank s.loop).bankB.valid = false) ∧
    (newerBank s.loop ≠ some 0 → (tearBank s.loop).bankB = s.loop.bankB ∧ (tearBank s.loop).bankA.valid = false) ∧
    (s.loop.started = true → ∀ b, exec (.loopDieStart b) s = .next s) ∧
    (s.loop.started = true → ∃ t, exec .loopDieReset s = .next t ∧ t.loop.started = false ∧ t.loop.latched = [] ∧
      t.loop.bankA = s.loop.bankA ∧ t.loop.bankB = s.loop.bankB ∧
      t.loop.otp = s.loop.otp ∧ t.loop.buf = [] ∧
      t.loop.pend4 = none ∧ t.loop.pend20 = none ∧ t.loop.reg .ISL_CC = s.loop.reg .ISL_CC ∧
      (∀ p i, p ≠ .ISL_CC → p ≠ .ISL_MTP_COMMITS → t.loop.reg p i = p.info.reset)) ∧
    (∀ b, s.loop.aux ≠ b → s.loop.started = false →
      exec (.auxIslSourceChange b) s = .next { s with loop := { s.loop with aux := b } }) ∧
    (∀ b, s.loop.aux ≠ b → s.loop.started = true → exec (.auxIslSourceChange b) s = .next (ldRaise 0x38B
      [("src", .c b.toNat (if b then "aux" else "loop"))] { s with loop := { s.loop with aux := b } })) ∧
    (∀ b, s.loop.wp ≠ b → s.loop.started = true → exec (.loopWpChange b) s =
      .next (ldRaise 0x38F [("wp", .n b.toNat)] { s with loop := { s.loop with wp := b } })) ∧
    (∀ b, s.loop.wp = b → exec (.loopWpChange b) s = .next s)

/-- The loop current and its causes (R133, R136, R138, R139, R141, R172, R177): each cause that its event makes active is
judged at once; the end of fixed current restores what the row below it gives; a departure from the setpoint by more than
100 µA that has lasted 100 ms is told, and latched while it lasts. -/
def Obligations.LoopCurrentCommandsComplete : Prop :=
  ∀ s : State, s.noLoop = false → s.loop.started = true →
    (s.loop.startUp = true → s.loop.src = 0 → s.loop.fe.valid = 0 →
      exec .startUpTimeout s = .next (evalLoop (setCause 4 s))) ∧
    (s.loop.startUp = true → s.loop.src ≠ 0 → F.isNaN (s.loop.reg .ISL_MAIN_PV) = true →
      exec .startUpTimeout s = .next (evalLoop (setCause 5 s))) ∧
    (s.loop.startUp = false → exec .startUpTimeout s = .next s) ∧
    (s.loop.fe.valid = 0 → exec .holdMaxExpiry s = .next (evalLoop (setCause 4 s))) ∧
    (s.loop.fe.valid ≠ 0 → exec .holdMaxExpiry s = .next s) ∧
    (s.loop.holding = true → exec .faultHoldToFail s = .next (evalLoop (s.setFe { s.loop.fe with holdFail := true }))) ∧
    (s.loop.holding = false → exec .faultHoldToFail s = .next s) ∧
    exec .mainStale s = .next (evalLoop (setCause 5 s)) ∧
    (s.loop.reg .ISL_FIX_UA ≠ 0 → s.loop.reg .ISL_FIX_TIMEOUT_S ≠ 0 →
      exec .fixTimeout s = .next (evalLoop (setFixed 0 s)) ∧ (setFixed 0 s).loop.reg .ISL_FIX_UA = 0 ∧
      (setFixed 0 s).loop.pend4 = none ∧ (setFixed 0 s).loop.pend20 = none) ∧
    (∀ t later, s.loop.departed = false → s.loop.offSince = some t → t + 1000 ≤ s.loop.tick + later →
      exec (.loopCurrentDeparture later) s = .next (ldRaise 0x38E
        [("set", .n (s.loop.get .ISL_LOOP_SET_UA)), ("meas", .n (s.loop.reg .ISL_LOOP_MEAS_UA))]
        (s.setLoop { s.loop with departed := true }))) ∧
    (∀ later, s.loop.departed = true ∨ s.loop.offSince = none → exec (.loopCurrentDeparture later) s = .next s) ∧
    (∀ t later, s.loop.offSince = some t → s.loop.tick + later < t + 1000 → exec (.loopCurrentDeparture later) s = .next s) ∧
    (s.loop.departed = true → s.loop.off = false → s.bridge.link = 2 →
      noteDeparture s = clearLatch 0x38E (s.setLoop { s.loop with offSince := none, departed := false }))

/-- R136: the loop current is set by the first row of Table 6.3 whose condition holds: in start-up, which lasts until a valid
PV is there, a check has failed or the source's time has run out (R138), 3.55 mA; with the loop current disabled 4 mA; in fixed current what is written; with a
cause active the fail level of the lowest one; otherwise the mapped setpoint, as R135 forms it. The code of the DAC follows
the trims. -/
def Obligations.TheLoopCurrentIsThatOfItsRow : Prop :=
  ∀ s : State,
    let l := (evalLoop s).loop
    let causes := s.loop.activeCauses
    let starting := s.loop.startUp = true ∧ s.loop.startEnds = false
    (starting → l.row = 1 ∧ l.setF = 0x455DE000) ∧
    (¬starting → s.loop.reg .ISL_LOOP_CUR_EN = 0 → l.row = 2 ∧ l.setF = F.ofNat 4000) ∧
    (¬starting → s.loop.reg .ISL_LOOP_CUR_EN ≠ 0 → s.loop.reg .ISL_FIX_UA ≠ 0 →
      l.row = 3 ∧ l.setF = F.ofNat (s.loop.reg .ISL_FIX_UA)) ∧
    (¬starting → s.loop.reg .ISL_LOOP_CUR_EN ≠ 0 → s.loop.reg .ISL_FIX_UA = 0 → ∀ c cs, causes = c :: cs →
      l.row = 4 ∧ l.cause = c ∧
        l.setF = if 3 ≤ c ∧ s.loop.reg .ISL_FAIL_DIR = 1 then F.ofNat 21500 else 0x455DE000) ∧
    (¬starting → s.loop.reg .ISL_LOOP_CUR_EN ≠ 0 → s.loop.reg .ISL_FIX_UA = 0 → causes = [] → F.isNaN s.loop.y = false →
      let p := F.div (F.sub s.loop.y (s.loop.reg .ISL_LRV)) (F.sub (s.loop.reg .ISL_URV) (s.loop.reg .ISL_LRV))
      F.isNaN p = false → l.row = 5 ∧ l.setF = F.mul (mapped p).1 0x447A0000) ∧
    l.code = dacCode l.commanded l.otp.lgain l.otp.lofs

/-- The draw, the amplitude and the outputs of the front end (R41, R130, R147, R160, R162, R168, R170): the governor's new
amplitude waits for its zero crossing; every output is numbered and moves the loop die's time on by what has passed; each
ISL.REC_DIV-th output is recorded; a sync that was asked for an instant resets the front end there. -/
def Obligations.FrontEndCommandsComplete : Prop :=
  ∀ s : State, s.noLoop = false → s.loop.started = true →
    (∀ d e, ∃ t, exec (.drawUpdate d e) s = .next t ∧ t.loop.fe.aNow = s.loop.fe.aNow ∧
      t.loop.reg .ISL_DRAW_UA = F.roundSat (F.mul (F.ofNat d) s.loop.otp.drawGain) 65535 ∧ t.freeCtr = s.freeCtr + 1) ∧
    (∀ a, s.loop.fe.aNext = some a → exec .amplitudeChangeApply s =
      .next (s.setFe { s.loop.fe with aNow := a, aNext := none })) ∧
    (s.loop.fe.aNext = none → exec .amplitudeChangeApply s = .next s) ∧
    (∀ x, ∃ t, exec (.feOutput x) s = .next t ∧ t.loop.fe.outN = s.loop.fe.outN + 1 ∧
      t.loop.tick = s.loop.tick + x.elapsed ∧ t.loop.buf = s.loop.buf ∧
      t.loop.recN = (if s.loop.reg .ISL_REC_DIV = 0 then 0 else s.loop.recN + 1) ∧ t.loop.src = s.loop.reg .ISL_PV_SRC ∧
      t.loop.loopOk = x.loopOk ∧ (s.loop.fe.outN < s.loop.supp → t.loop.fe.valid = s.loop.fe.valid)) ∧
    (s.loop.reg .ISL_REC_DIV ≠ 0 → s.loop.reg .ISL_REC_DIV ≤ s.loop.recN → ∃ t, exec .recordedSampleTaken s = .next t ∧
      t.loop.recN = 0 ∧ t.loop.seq32 = s.loop.seq32 + 1 ∧
      (s.loop.buf.length < 512 → t.loop.buf = s.loop.buf ++ [s.loop.sample] ∧ t.loop.displaced = s.loop.displaced) ∧
      (512 ≤ s.loop.buf.length → t.loop.buf = s.loop.buf.drop 1 ++ [s.loop.sample] ∧
        t.loop.displaced = s.loop.displaced + 1)) ∧
    (s.loop.recN < s.loop.reg .ISL_REC_DIV → exec .recordedSampleTaken s = .next s) ∧
    (∀ at_, s.clk.syncAt = some at_ → at_ ≤ s.clk.tai → s.bridge.link = 2 → ∃ t, exec .scheduledSyncFire s = .next t ∧
      t = syncNow (raise 0x0C8 [("late", .n (s.clk.tai - at_))] { s with clk := { s.clk with syncAt := none } }) ∧
      t.clk.syncAt = none ∧ t.loop.fe.outN = 0 ∧ t.loop.synced = true ∧ t.loop.fe.valid = 0) ∧
    (∀ at_, s.clk.syncAt = some at_ → s.clk.tai < at_ → exec .scheduledSyncFire s = .next s)

/-- Recording and backfill (R147 to R152): a sample that reaches the core die becomes the anchor and is stored where samples
are stored as they come; one that the store refuses waits and is tried again; the backfill is asked for once TAI is valid
and the bridge UP, and ends where all that the loop die holds is stored. -/
def Obligations.RecordingCommandsComplete : Prop :=
  ∀ s : State,
    (∀ x u, recordsLive s = true → s.bridge.taiHeld = false → s.bridge.arrived = [⟨x, none⟩] →
      storeSample x (s.clk.tai - 24000) false { s with bridge := { s.bridge with anchor := some (s.clk.tai - 24000, x.tick) } } =
        (u, true) →
      exec .sampleStore s = .next { u with bridge := { u.bridge with arrived := [] } }) ∧
    (∀ x u, recordsLive s = true → s.bridge.taiHeld = false → s.bridge.arrived = [⟨x, none⟩] →
      storeSample x (s.clk.tai - 24000) false { s with bridge := { s.bridge with anchor := some (s.clk.tai - 24000, x.tick) } } =
        (u, false) →
      exec .sampleStore s = .next { u with bridge := { u.bridge with arrived := [⟨x, some (s.clk.tai - 24000)⟩] } }) ∧
    (s.bridge.arrived = [] → exec .sampleStore s = .next s) ∧
    (∀ x st rest u, s.bridge.arrived = ⟨x, some st⟩ :: rest → recordsLive s = true →
      storeSample x st false s = (u, true) →
      exec .sampleStoreRetry s = .next { u with bridge := { u.bridge with arrived := rest } }) ∧
    (∀ x st rest u, s.bridge.arrived = ⟨x, some st⟩ :: rest → recordsLive s = true →
      storeSample x st false s = (u, false) → exec .sampleStoreRetry s = .next u) ∧
    (records s = true → s.clk.valid = true → s.bridge.link = 2 →
      s.bridge.taiHeld = false → s.bridge.backfill = true → s.bridge.asked = false →
      let u : State := { s with bridge := { s.bridge with arrived := s.bridge.arrived.filter fun a => a.stamp.isNone } }
      exec .backfillStart s = .next { u with bridge := { u.bridge with
        asked := true, fill := heldSamples u, stored := 0, overlap := 0
        lost := if s.loop.resetUnacked then 0xFFFFFFFF else s.loop.displaced } }) ∧
    (records s = true → s.clk.valid = false → s.bridge.taiHeld = false → exec .backfillStart s =
      .next (raise 0x38D [] { s with bridge := { s.bridge with taiHeld := true } })) ∧
    (records s = false → exec .backfillStart s = .next s) ∧
    (records s = true → s.clk.valid = true → s.bridge.backfill = true →
      s.bridge.asked = true → s.bridge.fill = [] → heldSamples s = [] → ∃ t, exec .backfillComplete s = .next t ∧
        t.bridge.backfill = false ∧ t.bridge.asked = false ∧ t.kv = s.kv ∧
        t.reg .ISL_BF_LOST = min s.bridge.lost (2 ^ 32 - 1) ∧ t.reg .ISL_BF_OVERLAP = min s.bridge.overlap 65535) ∧
    (∀ x stamp backfill, throttled s = true → storeSample x stamp backfill s = (s, false)) ∧
    (s.bridge.asked = false → exec .backfillComplete s = .next s)

/-! ## The loop verbs and write units (chapters 6 to 8) -/

/-- ISL, FE and HART verbs (R40, R141, R145, R514). SHOW answers from the mirror: 000 while the bridge is UP, 210 with
link=down from the last copy, 205 before the first; a SET leaves for the loop die as one write unit and its route waits; a
synchronising reset is done at once, or at an instant that lies within its window. With the bridge not UP a change is
answered with 205. -/
def Obligations.LoopVerbsComplete : Prop :=
  ∀ (l : Line) (s : State),
    (passes vIslShow l s = true → s.bridge.link = 2 → exec (.islShow l) s = .next (reply l.route 0
      [("link", .w "up"), ("pv", .f (s.bridge.reg .ISL_PV)), ("status", .x 4 (s.bridge.reg .ISL_PV_STATUS)),
       ("set_ua", .n (s.bridge.reg .ISL_LOOP_SET_UA)), ("meas_ua", .n (s.bridge.reg .ISL_LOOP_MEAS_UA)),
       ("fail", .n (s.bridge.reg .ISL_FAIL_CAUSE)), ("cc", .n (s.bridge.reg .ISL_CC)),
       ("buf", .n (s.bridge.reg .ISL_BUF_FILL)), ("seq", .n (s.bridge.reg .ISL_SEQ))] (noteLine vIslShow l s))) ∧
    (passes vIslShow l s = true → s.bridge.link ≠ 2 → s.bridge.upSinceDawn = false →
      exec (.islShow l) s = .next (reply l.route 205 [] (noteLine vIslShow l s))) ∧
    (passes vFeShow l s = true → s.bridge.link = 2 → exec (.feShow l) s = .next (reply l.route 0
      [("result", .f (s.bridge.reg .FE_RESULT)), ("result_q", .f (s.bridge.reg .FE_RESULT_Q)),
       ("aux", .f (s.bridge.reg .FE_AUX_RESULT)), ("status", .x 4 (s.bridge.reg .FE_STATUS)),
       ("exc_ua", .n (s.bridge.reg .FE_EXC_UA)), ("exc_now_mv", .n (s.bridge.reg .FE_EXC_NOW_MV)),
       ("s", .n (s.bridge.reg .FE_S)), ("settle_ms", .n (s.bridge.reg .FE_SETTLE_MS))] (noteLine vFeShow l s))) ∧
    (passes vHartShow l s = true → s.bridge.link = 2 → exec (.hartShow l) s = .next (reply l.route 0
      [("dev_id", .x 6 (s.bridge.reg .HART_DEV_ID)), ("poll", .n (s.bridge.reg .ISL_POLL_ADDR)),
       ("burst", .n (s.bridge.reg .HART_BURST_EN)), ("period_ms", .n (s.bridge.reg .HART_BURST_PERIOD_MS)),
       ("novelty", .x 2 (s.bridge.reg .HART_NOVELTY)), ("masters", .n (s.bridge.reg .HART_MASTERS)),
       ("frame_errors", .n (s.bridge.reg .HART_FRAME_ERRORS))] (noteLine vHartShow l s))) ∧
    (∀ r kv, s.bridge.link ≠ 2 → s.bridge.upSinceDawn = true → shown r kv s = reply r 210 (kv ++ [("link", .w "down")]) s) ∧
    (∀ b verb, s.bridge.link = 2 → stagedLine b l ≠ [] → (∀ w ∈ stagedLine b l, w.p.info.core = false) →
      runSet b verb l s = postUnit l.route verb (l.nat? "cc") (.fields (stagedLine b l)) [] s) ∧
    (passes (vSet .ISL "ISL.SET" 1) l s = true → s.bridge.link = 2 → exec (.islSet l) s =
      .next (runSet .ISL "ISL.SET" l (noteLine (vSet .ISL "ISL.SET" 1) l s))) ∧
    (passes (vSet .ISL "ISL.SET" 1) l s = true → s.bridge.link ≠ 2 → exec (.islSet l) s =
      .next (reply l.route 205 [("link", .w "down")] (noteLine (vSet .ISL "ISL.SET" 1) l s))) ∧
    (passes (vSet .FE "FE.SET" 1) l s = true → s.bridge.link = 2 → exec (.feSet l) s =
      .next (runSet .FE "FE.SET" l (noteLine (vSet .FE "FE.SET" 1) l s))) ∧
    (passes (vSet .HART "HART.SET" 1) l s = true → l.has "owner_en" = false → s.bridge.link = 2 → exec (.hartSet l) s =
      .next (runSet .HART "HART.SET" l (noteLine (vSet .HART "HART.SET" 1) l s))) ∧
    (passes (vSet .HART "HART.SET" 2) l s = true → l.has "owner_en" = true → s.bridge.link = 2 → exec (.hartSet l) s =
      .next (runSet .HART "HART.SET" l (noteLine (vSet .HART "HART.SET" 2) l s))) ∧
    (passes vIslSync l s = true → s.bridge.link = 2 → l.nat? "at" = none → exec (.islSync l) s =
      .next (reply l.route 0 ((if s.clk.syncAt.isSome then [("replaced", .n 1)] else []) ++ settleFields s)
        (syncNow { noteLine vIslSync l s with clk := { s.clk with syncAt := none } }))) ∧
    (∀ t, passes vIslSync l s = true → s.bridge.link = 2 → l.nat? "at" = some t → s.clk.tai + 10000000 ≤ t →
      t ≤ s.clk.tai + 86400000000000 → s.clk.state = .LOCKED → s.clk.syncAt = none → exec (.islSync l) s =
        .next (reply l.route 0 (settleFields s)
          { noteLine vIslSync l s with clk := { s.clk with syncAt := some t } })) ∧
    (∀ t, passes vIslSync l s = true → s.bridge.link = 2 → l.nat? "at" = some t → t < s.clk.tai + 10000000 →
      exec (.islSync l) s = .next (reply l.route 103 [("arg", .w "at")] (noteLine vIslSync l s)))

/-- The CAL verbs (R145, R186 to R194): each trim, save, restore and clear leaves for the loop die as a write unit that its
route waits for; a table point is staged in the core die, and the commit of n points needs every one of them; CAL.SHOW
writes one line of each field. -/
def Obligations.CalVerbsComplete : Prop :=
  ∀ (l : Line) (s : State),
    (∀ v, v = calVerb "CAL.ZERO" (trimLevel l) [⟨"point", false, .float⟩, forceSpec, ccSpec] → passes v l s = true →
      s.bridge.link = 2 → exec (.calZero l) s = .next (postUnit l.route "CAL.ZERO" (l.nat? "cc")
        (.zero (lineFloat l "point") (l.flag "force")) [] (noteLine v l s))) ∧
    (∀ v, v = calVerb "CAL.SPAN" (trimLevel l) [⟨"point", true, .float⟩, forceSpec, ccSpec] → passes v l s = true →
      s.bridge.link = 2 → exec (.calSpan l) s = .next (postUnit l.route "CAL.SPAN" (l.nat? "cc")
        (.span (lineFloat l "point") (l.flag "force")) [] (noteLine v l s))) ∧
    (∀ v, v = calVerb "CAL.PHASE" (trimLevel l) [⟨"path", true, .word ["A", "B"]⟩, ⟨"point", false, .float⟩, forceSpec, ccSpec] →
      passes v l s = true → s.bridge.link = 2 → exec (.calPhase l) s = .next (postUnit l.route "CAL.PHASE" (l.nat? "cc")
        (.phase (l.isWord "path" "B") (lineFloat l "point") (l.flag "force")) [] (noteLine v l s))) ∧
    (∀ v, v = calVerb "CAL.LOOP" (trimLevel l) [⟨"point", true, .int (-(2 ^ 200)) (2 ^ 200)⟩,
        ⟨"meas_ua", true, .int (-(2 ^ 200)) (2 ^ 200)⟩, forceSpec, ccSpec] → passes v l s = true → s.bridge.link = 2 →
      exec (.calLoop l) s = .next (postUnit l.route "CAL.LOOP" (l.nat? "cc")
        (.loop (l.nat "point") (l.nat "meas_ua") (l.flag "force")) [] (noteLine v l s))) ∧
    (passes vCalTpoint l s = true → ∃ t, exec (.calTpoint l) s = .next t ∧ t = reply l.route 0 [("i", .n (l.nat "i"))]
      { noteLine vCalTpoint l s with bridge := { s.bridge with
          tpoints := tpointPut s.bridge.tpoints (l.nat "i") (lineFloat l "r") (lineFloat l "pv") } }) ∧
    (∀ v pts, v = calVerb "CAL.TCOMMIT" 1 [⟨"n", true, .num 2 16⟩, ccSpec] → passes v l s = true → s.bridge.link = 2 →
      stagedPoints s.bridge.tpoints (l.nat "n") = .ok pts → exec (.calTcommit l) s =
        .next (postUnit l.route "CAL.TCOMMIT" (l.nat? "cc") (.tcommit pts) [] (noteLine v l s))) ∧
    (∀ v k, v = calVerb "CAL.TCOMMIT" 1 [⟨"n", true, .num 2 16⟩, ccSpec] → passes v l s = true → s.bridge.link = 2 →
      stagedPoints s.bridge.tpoints (l.nat "n") = .error k → exec (.calTcommit l) s =
        .next (reply l.route 205 [("arg", .w "i"), ("i", .n k)] (noteLine v l s))) ∧
    (∀ v, v = calVerb "CAL.SAVE" 1 [ccSpec] → passes v l s = true → s.bridge.link = 2 → exec (.calSave l) s =
      .next (postUnit l.route "CAL.SAVE" (l.nat? "cc") .save [] (noteLine v l s))) ∧
    (∀ v, v = calVerb "CAL.RESTORE" 2 [ccSpec] → passes v l s = true → s.bridge.link = 2 → exec (.calRestore l) s =
      .next (postUnit l.route "CAL.RESTORE" (l.nat? "cc") .restore [] (noteLine v l s))) ∧
    (∀ v, v = calVerb "CAL.CLEAR" 2 [⟨"what", true, .word clearWords⟩, ccSpec] → passes v l s = true → s.bridge.link = 2 →
      exec (.calClear l) s = .next (postUnit l.route "CAL.CLEAR" (l.nat? "cc") (.clear (clearCode (l.text "what"))) []
        (noteLine v l s))) ∧
    (passes vCalShow l s = true → s.bridge.link = 2 → exec (.calShow l) s = .next (done l.route
      [("cc", .n (s.bridge.reg .ISL_CC))] (more l.route (calRows s) (noteLine vCalShow l s)))) ∧
    (passes vCalShow l s = true → s.bridge.link ≠ 2 → s.bridge.upSinceDawn = false →
      exec (.calShow l) s = .next (reply l.route 205 [] (noteLine vCalShow l s)))

/-- A write unit on the loop die (R155, R156): write-protect refuses it first with 201, a change counter that does not match
then with 204; fields that are in range are written together, and the configuration that is committed goes to the bank
without the newer image, counts, sets the configuration-changed bits and raises EV 0x388. The register writes of MAIN_PV,
FIX_UA and LOOP_CUR_EN are such units. -/
def Obligations.WriteUnitsComplete : Prop :=
  ∀ s : State,
    (∀ u, s.noLoop = false → s.loop.started = true → s.bridge.units = [u] → u.outcome = none → exec .writeUnit s =
      .next { (runUnit .bridge u.cc u.op s).1 with bridge := { (runUnit .bridge u.cc u.op s).1.bridge with
        units := [{ u with outcome := some ⟨(runUnit .bridge u.cc u.op s).2.1, (runUnit .bridge u.cc u.op s).2.2⟩ }] } }) ∧
    (∀ by_ cc op, s.loop.wp = true → wpRefuses op = true → runUnit by_ cc op s = (s, 201, [("wp", .n 1)])) ∧
    (∀ by_ c op, s.loop.wp = false → c ≠ s.loop.reg .ISL_CC →
      runUnit by_ (some c) op s = (s, 204, [("cc", .n (s.loop.reg .ISL_CC))])) ∧
    (∀ by_ new t, s.loop.reg .ISL_MTP_COMMITS < 99999 → s.loop.bankA.works = true → s.loop.bankB.works = true →
      commitUnit by_ new s = (t, none) → t.loop.reg .ISL_CC = (s.loop.reg .ISL_CC + 1) % 65536 ∧
        t.loop.hart.changed = 3 ∧ t.loop.reg .ISL_MTP_COMMITS = s.loop.reg .ISL_MTP_COMMITS + 1 ∧
        (newerBank s.loop = some 0 → t.loop.bankA = s.loop.bankA ∧ t.loop.bankB.valid = true ∧
          t.loop.bankB.image = new.image) ∧
        (newerBank s.loop ≠ some 0 → t.loop.bankB = s.loop.bankB ∧ t.loop.bankA.valid = true ∧
          t.loop.bankA.image = new.image)) ∧
    (∀ by_ new, s.loop.reg .ISL_MTP_COMMITS < 100000 → s.loop.bankA.works = true → s.loop.bankB.works = true →
      (commitUnit by_ new s).2 = none) ∧
    (∀ by_ new, 100000 ≤ s.loop.reg .ISL_MTP_COMMITS → commitUnit by_ new s = (s, some (209, []))) ∧
    (∀ r v p c, (p, c) ∈ [(Param.ISL_MAIN_PV, Instr.mainPvWrite r v), (.ISL_FIX_UA, .fixUaWrite r v),
        (.ISL_LOOP_CUR_EN, .loopCurEnWrite r v)] → mayWrite r 1 m4to9 s = true →
      (s.noLoop = false → busyOn r s = none → s.bridge.link = 2 → s.bridge.units = [] → s.loop.started = true →
        exec c s = .next (writeUnit (postUnit r "REG.WRITE" none (.fields [⟨p, 0, v⟩]) [] s))) ∧
      (s.noLoop = false → busyOn r s = none → s.bridge.link ≠ 2 →
        exec c s = .next (reply r 205 [("link", .w "down")] s)) ∧
      (s.noLoop = true → exec c s = .next (reply r 205 [] s)))

/-! ## HART (chapter 9) -/

/-- A command that reads (R201 to R206, R211): where the loop die has started and the frame's address is the unit's for that
command, the master is heard and the response code is 0 with the command's data; the response is one frame with its byte
count, its code and the field device status of that master, and it ends that master's cold-start bit. -/
def Obligations.HartReadCommandsComplete : Prop :=
  ∀ (q : HartReq) (s : State), s.noLoop = false → s.loop.started = true →
    let u := hear q.secondary s
    (∀ c n f, (c, n, f) ∈ [(Instr.hartCmd0ReadUniqueId q, 0, identity),
        (.hartCmd1ReadPv q, 1, fun l => l.reg .ISL_UNITS :: be4 l.y), (.hartCmd2ReadCurrentPercent q, 2, currentPercent),
        (.hartCmd3ReadDynamicVars q, 3, dynamicVars), (.hartCmd7ReadLoopConfig q, 7, loopConfig),
        (.hartCmd8ReadClassifications q, 8, fun _ => [0, 1, 2, 3].map classification),
        (.hartCmd12ReadMessage q, 12, messageOf), (.hartCmd13ReadTagDescriptor q, 13, tagOf),
        (.hartCmd14ReadTransducer q, 14, fun l => unstatedBytes 2 0 3 ++ [l.reg .ISL_UNITS] ++ wideLimits ++ be4 0),
        (.hartCmd15ReadDeviceInfo q, 15, deviceInfo), (.hartCmd16ReadFan q, 16, fun l => l.three .HART_FAN),
        (.hartCmd20ReadLongTag q, 20, longTagOf), (.hartCmd48ReadAdditional q, 48, Loop.additional),
        (.hartCmd105BurstConfig q, 105, burstConfig), (.hartCmd128ReadStatus q, 128, loopStatus),
        (.hartCmd129ReadFeResults q, 129, feResults), (.hartCmd130ReadFeConfig q, 130, readLayout feLayout),
        (.hartCmd135ReadScaling q, 135, scalingData), (.hartCmd138ReadSupply q, 138, supplyData)] →
      hartFor s.loop n q.addr = true → exec c s = .next (hartSend q.addr q.secondary n 0 (f u.loop) u)) ∧
    (hartFor s.loop 9 q.addr = true → q.data ≠ [] → (∀ c ∈ q.data.take 8, (deviceVariable u.loop c).isSome = true) →
      exec (.hartCmd9ReadVarsStatus q) s = .next (hartSend q.addr q.secondary 9 0 (varsStatus (q.data.take 8) u.loop) u)) ∧
    (hartFor s.loop 33 q.addr = true → q.data ≠ [] → (∀ c ∈ q.data.take 4, (deviceVariable u.loop c).isSome = true) →
      exec (.hartCmd33ReadDeviceVars q) s = .next (hartSend q.addr q.secondary 33 0
        ((q.data.take 4).flatMap fun c => c :: slotBytes u.loop c) u)) ∧
    (hartFor s.loop 54 q.addr = true → q.data ≠ [] → hartByte q.data 0 ≤ 3 → exec (.hartCmd54ReadVarInfo q) s =
      .next (hartSend q.addr q.secondary 54 0 (varInfo (hartByte q.data 0) u.loop) u)) ∧
    (hartFor s.loop 11 q.addr = true → q.data.take 6 = u.loop.textOf .HART_TAG → exec (.hartCmd11ReadIdByTag q) s =
      .next (hartSend q.addr q.secondary 11 0 (identity u.loop) u)) ∧
    (hartFor s.loop 11 q.addr = true → q.data.take 6 ≠ u.loop.textOf .HART_TAG →
      exec (.hartCmd11ReadIdByTag q) s = .next u) ∧
    (hartFor s.loop 21 q.addr = true → q.data.take 32 = u.loop.textOf .HART_LONG_TAG →
      exec (.hartCmd21ReadIdByLongTag q) s = .next (hartSend q.addr q.secondary 21 0 (identity u.loop) u)) ∧
    (∀ n, n ∉ hartCommands → hartFor s.loop n q.addr = true → exec (.hartUnsupportedCommand n q) s =
      .next (hartSend q.addr q.secondary n 64 [] u)) ∧
    (∀ a m cmd rc data, (hartSend a m cmd rc data s).out = s.out ++ [.hart (addressBytes s.loop a m ++
      [cmd, data.length + 2, rc, s.loop.deviceStatus m (cmd == 48 && rc == 0)] ++ data)] ∧
      bitAt (hartSend a m cmd rc data s).loop.hart.cold m.toNat = false)

/-- A command that writes (R203, R205, R206, R211, R212): it is one write unit of the loop die, and where the unit is
accepted the response code is 0 with the values then in force; too few data bytes return 5, and write-protect 7 before any
other check. -/
def Obligations.HartWriteCommandsComplete : Prop :=
  ∀ (q : HartReq) (s t : State) (kv : List (String × Val)), s.noLoop = false → s.loop.started = true →
    let u := hear q.secondary s
    let d := q.data
    (∀ c n need set f, (c, n, need, set, f) ∈ [
        (Instr.hartCmd17WriteMessage q, 17, 24, textSet .HART_MESSAGE d, messageOf),
        (.hartCmd18WriteTagDescriptor q, 18, 21, textSet .HART_TAG d ++ textSet .HART_DESCRIPTOR (d.drop 6) ++
          [⟨.HART_DATE, 0, beAt d 18 3⟩], tagOf),
        (.hartCmd19WriteFan q, 19, 3, [⟨.HART_FAN, 0, beAt d 0 3⟩], fun l => l.three .HART_FAN),
        (.hartCmd22WriteLongTag q, 22, 32, textSet .HART_LONG_TAG d, longTagOf),
        (.hartCmd59WritePreambles q, 59, 1, [⟨.HART_PREAMBLES, 0, hartByte d 0⟩], fun l => [l.reg .HART_PREAMBLES]),
        (.hartCmd131WriteFeConfig q, 131, 17, writeLayout feLayout d, readLayout feLayout),
        (.hartCmd136WriteScaling q, 136, 17, writeLayout scalingLayout d, scalingData),
        (.hartCmd139WriteFailSettings q, 139, 10, writeLayout failLayout d, readLayout failLayout)] →
      hartFor s.loop n q.addr = true →
      (need ≤ d.length → runUnit .hart none (.fields set) u = (t, 0, kv) →
        exec c s = .next (hartSend q.addr q.secondary n 0 (f t.loop) t)) ∧
      (d.length < need → exec c s = .next (hartSend q.addr q.secondary n 5 [] u))) ∧
    (hartFor s.loop 6 q.addr = true → 1 ≤ d.length → runUnit .hart none (.fields [⟨.ISL_POLL_ADDR, 0, hartByte d 0⟩,
        ⟨.ISL_LOOP_CUR_EN, 0, if 2 ≤ d.length then hartByte d 1 else (hartByte d 0 == 0).toNat⟩]) u = (t, 0, kv) →
      exec (.hartCmd6WritePollingAddr q) s = .next (hartSend q.addr q.secondary 6 0 (loopConfig t.loop) t)) ∧
    (∀ v, hartFor s.loop 34 q.addr = true → 4 ≤ d.length → thousandths (beAt d 0 4) 0 0x42700000 = .ok v →
      runUnit .hart none (.fields [⟨.ISL_DAMP_MS, 0, v⟩]) u = (t, 0, kv) →
      exec (.hartCmd34WriteDamping q) s = .next (hartSend q.addr q.secondary 34 0 (be4 t.loop.dampSec) t)) ∧
    (hartFor s.loop 35 q.addr = true → 9 ≤ d.length → hartByte d 0 = u.loop.reg .ISL_UNITS →
      runUnit .hart none (.fields [⟨.ISL_URV, 0, beAt d 1 4⟩, ⟨.ISL_LRV, 0, beAt d 5 4⟩]) u = (t, 0, kv) →
      exec (.hartCmd35WriteRange q) s = .next (hartSend q.addr q.secondary 35 0 (rangeData t.loop) t)) ∧
    (hartFor s.loop 35 q.addr = true → 9 ≤ d.length → u.loop.wp = false → hartByte d 0 ≠ u.loop.reg .ISL_UNITS →
      exec (.hartCmd35WriteRange q) s = .next (hartSend q.addr q.secondary 35 12 [] u)) ∧
    (∀ c n need, (c, n, need) ∈ [(Instr.hartCmd34WriteDamping q, 34, 4), (.hartCmd35WriteRange q, 35, 9),
        (.hartCmd36SetUrv q, 36, 0), (.hartCmd37SetLrv q, 37, 0), (.hartCmd44WritePvUnits q, 44, 1),
        (.hartCmd103BurstPeriod q, 103, 9), (.hartCmd108BurstCommand q, 108, 1), (.hartCmd109BurstControl q, 109, 1)] →
      hartFor s.loop n q.addr = true → need ≤ d.length → u.loop.wp = true →
      exec c s = .next (hartSend q.addr q.secondary n 7 [] u)) ∧
    (∀ c n p, (c, n, p) ∈ [(Instr.hartCmd36SetUrv q, 36, Param.ISL_URV), (.hartCmd37SetLrv q, 37, .ISL_LRV)] →
      hartFor s.loop n q.addr = true → u.loop.stale = false → u.loop.pvFault = false →
      runUnit .hart none (.fields [⟨p, 0, u.loop.y⟩]) u = (t, 0, kv) →
      exec c s = .next (hartSend q.addr q.secondary n 0 [] t)) ∧
    (∀ v, hartFor s.loop 40 q.addr = true → 4 ≤ d.length → F.isZero (beAt d 0 4) = false →
      thousandths (beAt d 0 4) 0x40633333 0x41AC0000 = .ok v →
      runUnit .hart none (.fields [⟨.ISL_FIX_UA, 0, v⟩]) u = (t, 0, kv) → exec (.hartCmd40FixedCurrent q) s =
        .next (hartSend q.addr q.secondary 40 0 (be4 (F.ofRat (t.loop.reg .ISL_FIX_UA) 1000)) t)) ∧
    (hartFor s.loop 44 q.addr = true → 1 ≤ d.length → hartByte d 0 ≠ 0 → hartByte d 0 ≠ 250 → hartByte d 0 ≤ 253 →
      runUnit .hart none (.fields [⟨.ISL_UNITS, 0, hartByte d 0⟩]) u = (t, 0, kv) → exec (.hartCmd44WritePvUnits q) s =
        .next (hartSend q.addr q.secondary 44 0 [t.loop.reg .ISL_UNITS] t)) ∧
    (hartFor s.loop 103 q.addr = true → 9 ≤ d.length → hartByte d 0 = 0 →
      runUnit .hart none (.fields [⟨.HART_BURST_PERIOD_MS, 0, beAt d 1 4 / 32⟩]) u = (t, 0, kv) →
      exec (.hartCmd103BurstPeriod q) s = .next (hartSend q.addr q.secondary 103 0
        ([0] ++ be4 (32 * t.loop.reg .HART_BURST_PERIOD_MS) ++ (d.drop 5).take 4) t)) ∧
    (hartFor s.loop 108 q.addr = true → 1 ≤ d.length → hartByte d 0 ∈ [1, 2, 3, 9, 48, 128] → hartByte d 1 = 0 →
      runUnit .hart none (.fields [⟨.HART_BURST_CMD, 0, hartByte d 0⟩]) u = (t, 0, kv) →
      exec (.hartCmd108BurstCommand q) s =
        .next (hartSend q.addr q.secondary 108 0 [t.loop.reg .HART_BURST_CMD, 0] t)) ∧
    (hartFor s.loop 109 q.addr = true → 1 ≤ d.length → hartByte d 0 ≤ 1 → hartByte d 1 = 0 →
      runUnit .hart none (.fields [⟨.HART_BURST_EN, 0, hartByte d 0⟩]) u = (t, 0, kv) →
      exec (.hartCmd109BurstControl q) s = .next (hartSend q.addr q.secondary 109 0 [t.loop.reg .HART_BURST_EN, 0] t))

/-- The trims, the sets, the resets and burst mode (R191, R203, R206, R207, R211, R213): a trim that the loop die accepts
returns 0 with its measurement, a forced one without HART.OWNER_EN returns 16; command 42 answers before it resets; command
140 is a synchronising reset that LOOP_WP does not refuse; a burst carries the data of its command and its master bit
alternates; a frame in error is counted. -/
def Obligations.HartTrimAndControlCommandsComplete : Prop :=
  ∀ (q : HartReq) (s t : State) (kv : List (String × Val)), s.noLoop = false → s.loop.started = true →
    let u := hear q.secondary s
    let d := q.data
    (hartFor s.loop 43 q.addr = true → runUnit .hart none (.zero 0 false) u = (t, 0, kv) →
      exec (.hartCmd43SetPvZero q) s = .next (hartSend q.addr q.secondary 43 0 [] t)) ∧
    (∀ c n pt, (c, n, pt) ∈ [(Instr.hartCmd45TrimLoopZero q, 45, 4), (.hartCmd46TrimLoopGain q, 46, 20)] →
      hartFor s.loop n q.addr = true → 4 ≤ d.length →
      (F.isFinite (beAt d 0 4) = true →
        runUnit .hart none (.loop pt (F.round (F.mul (beAt d 0 4) 0x447A0000)).toNat false) u = (t, 0, kv) →
        exec c s = .next (hartSend q.addr q.secondary n 0 (be4 (beAt d 0 4)) t)) ∧
      (F.isFinite (beAt d 0 4) = false → u.loop.wp = false →
        exec c s = .next (hartSend q.addr q.secondary n (if F.lt (beAt d 0 4) 0 then 4 else 3) [] u))) ∧
    (hartFor s.loop 132 q.addr = true → 5 ≤ d.length → hartByte d 4 = 0 →
      runUnit .hart none (.zero (beAt d 0 4) false) u = (t, 0, kv) → exec (.hartCmd132ZeroTrim q) s =
        .next (hartSend q.addr q.secondary 132 0 (trimData (0, kv) ++ be4 (t.loop.reg .CAL_U_OFS)) t)) ∧
    (hartFor s.loop 133 q.addr = true → 5 ≤ d.length → hartByte d 4 = 0 →
      runUnit .hart none (.span (beAt d 0 4) false) u = (t, 0, kv) → exec (.hartCmd133SpanTrim q) s =
        .next (hartSend q.addr q.secondary 133 0
          (trimData (0, kv) ++ be4 (t.loop.reg .CAL_U_SPAN) ++ be4 (t.loop.reg .CAL_U_OFS)) t)) ∧
    (hartFor s.loop 134 q.addr = true → 6 ≤ d.length → hartByte d 0 = 0 → hartByte d 5 = 0 →
      runUnit .hart none (.phase false (beAt d 1 4) false) u = (t, 0, kv) → exec (.hartCmd134PhaseTrim q) s =
        .next (hartSend q.addr q.secondary 134 0 (trimData (0, kv) ++ be2 (t.loop.reg .CAL_U_PH_A)) t)) ∧
    (∀ c n, (c, n) ∈ [(Instr.hartCmd132ZeroTrim q, 132), (.hartCmd133SpanTrim q, 133)] →
      hartFor s.loop n q.addr = true → 5 ≤ d.length → hartByte d 4 ≠ 0 → u.loop.wp = false → u.loop.reg .HART_OWNER_EN = 0 →
      exec c s = .next (hartSend q.addr q.secondary n 16 [] u)) ∧
    (hartFor s.loop 137 q.addr = true → 2 ≤ d.length → hartByte d 0 = 0 → runUnit .hart none .save u = (t, 0, kv) →
      exec (.hartCmd137CalSetAction q) s = .next (hartSend q.addr q.secondary 137 0
        ([t.loop.saved.isSome.toNat, t.loop.reg .CAL_FORCED] ++ be2 (t.loop.reg .ISL_CC)) t)) ∧
    (hartFor s.loop 38 q.addr = true → d.length < 2 → exec (.hartCmd38ResetConfigChanged q) s =
      .next (let v := u.setHart { u.loop.hart with changed := clearBit u.loop.hart.changed q.secondary.toNat }
             hartSend q.addr q.secondary 38 0 (be2 (v.loop.reg .ISL_CC)) v)) ∧
    (hartFor s.loop 38 q.addr = true → 2 ≤ d.length → beAt d 0 2 ≠ u.loop.reg .ISL_CC →
      exec (.hartCmd38ResetConfigChanged q) s = .next (hartSend q.addr q.secondary 38 9 [] u)) ∧
    (hartFor s.loop 104 q.addr = true → 8 ≤ d.length → hartByte d 0 = 0 → hartByte d 1 = 0 → u.loop.wp = false →
      exec (.hartCmd104BurstTrigger q) s = .next (hartSend q.addr q.secondary 104 0 (d.take 8) u)) ∧
    (hartFor s.loop 42 q.addr = true → exec (.hartCmd42DeviceReset q) s =
      .next (resetLoop (ldRaise 0x3B3 [] (hartSend q.addr q.secondary 42 0 [] u)))) ∧
    ((resetLoop s).loop.started = false ∧ (resetLoop s).loop.bankA = s.loop.bankA ∧ (resetLoop s).loop.bankB = s.loop.bankB) ∧
    (hartFor s.loop 140 q.addr = true → exec (.hartCmd140SyncReset q) s =
      .next (hartSend q.addr q.secondary 140 0
        ([(syncNow u).loop.get .FE_S] ++ be2 ((syncNow u).loop.get .FE_SETTLE_MS)) (syncNow u))) ∧
    (s.loop.reg .HART_BURST_EN ≠ 0 → ∃ v, exec .hartBurstSend s = .next v ∧
      v.loop.hart.burstBit = !s.loop.hart.burstBit ∧ v.loop.regs = s.loop.regs ∧ v.out.length = s.out.length + 1) ∧
    (s.loop.reg .HART_BURST_EN = 0 → exec .hartBurstSend s = .next s) ∧
    (s.loop.hart.frameAt = none → ∃ v, exec .hartFrameError s = .next v ∧
      v.loop.reg .HART_FRAME_ERRORS = min 65535 (s.loop.reg .HART_FRAME_ERRORS + 1) ∧
      v.loop.hart.frameAt = some s.now ∧ v.loop.hart.frameN = 0) ∧
    (∀ at_, s.loop.hart.frameAt = some at_ → s.now < at_ + sec 1 → s.bridge.link ≠ 2 → ∃ v,
      exec .hartFrameError s = .next v ∧ v.loop.hart.frameN = s.loop.hart.frameN + 1 ∧ v.evt = s.evt)

/-! ## Dawn, handover, Nightfall, recovery and update (chapter 10) -/

/-- Dawn and handover (R225, R230, R231, R232, R241). The ROM runs once in Dawn, on what the last loss of power left. A
scrapped unit goes to Night; without a NOR that answers the unit goes to Nightfall; the first slot whose image passes every
check has its body loaded and is handed over, and the slot tried last that fails leads to Nightfall. A handover begins Sunrise
at the image's entry offset with the ROM's locks set and the watchdog running; the watchdog's end and the end of Nightfall's
hold-off lead to Dawn with what ended the last start recorded. -/
def Obligations.DawnAndHandoverComplete : Prop :=
  ∀ s : State,
    (∀ nor cut straps, s.runsIn .M2 = true → s.pwr.seq = .idle → s.boot.handover = none →
      exec (.dawn ⟨nor, cut, straps⟩) s = .next (dawn nor (cutShort cut (sampleStraps straps s)))) ∧
    (∀ found, s.mode ≠ .M2 → exec (.dawn found) s = .next s) ∧
    (∀ b, (cutShort (.slot b) s).boot.slotA = (if b then s.boot.slotA else none) ∧
      (cutShort (.slot b) s).boot.slotB = (if b then none else s.boot.slotB)) ∧
    (∀ nor, lifeCycle s = 4 → (dawn nor s).mode = .M11 ∧ (dawn nor s).sec.romLocks = true) ∧
    (lifeCycle s = 0 → s.sec.otp.bad = [] → s.sec.latch = 0 → (dawn .none s).mode = .M10 ∧ (dawn .none s).boot.recov = none) ∧
    (∀ b bs, imageCheck s (slotImage s b) = none → trySlots (b :: bs) s = trace 0x20 (slotNum b) (slotImage s b).svn
      { s with boot := { s.boot with handover := some b, sram := (slotImage s b).body } }) ∧
    (∀ b code, imageCheck s (slotImage s b) = some code → (trySlots [b] s).mode = .M10 ∧
      (trySlots [b] s).boot.lastReject = some (code, b)) ∧
    (∀ b, s.runsIn .M2 = true → s.pwr.seq = .idle → s.boot.handover = some b → ∃ t, exec .handover s = .next t ∧
      t.mode = .M3 ∧ t.boot.started = some ((slotImage s b).field 0x00C 4) ∧ t.boot.handover = none ∧ t.boot.watchdog = true ∧ t.boot.handoverAt = s.now ∧ t.sec.romLocks = true ∧
      t.reg .BOOT_RUN_SLOT = slotNum b ∧ t.reg .BOOT_ATTEMPTS = 0 ∧ t.reg .BOOT_RUN_SVN = (slotImage s b).svn ∧
      t.mem.sunrise.stage = 1 ∧ t.pwr.on = 0x67F) ∧
    (s.boot.watchdog = true → s.coreUp = true → groupGood s 0 = true → groupGood s 1 = true →
      ∃ t, exec .handoverWatchdog s = .next t ∧ t.mode = .M2 ∧ t.reg .BOOT_LAST_END = 2 ∧
      t.boot.watchdog = false ∧ t.sess = [] ∧ t.sec.otp = s.sec.otp) ∧
    (s.boot.watchdog = false → exec .handoverWatchdog s = .next s) ∧
    (s.runsIn .M10 = true → s.pwr.seq = .idle → groupGood s 0 = true → groupGood s 1 = true → holdoffOver s = true →
      ∃ t, exec .nightfallHoldoffExpiry s = .next t ∧ t.mode = .M2 ∧ t.reg .BOOT_LAST_END = 1 ∧
        t.reg .PWR_RESET_CAUSE = 2) ∧
    (s.mode = .M10 → holdoffOver s = false → exec .nightfallHoldoffExpiry s = .next s)

/-- The recovery listener (R233, R234): an image is opened for a slot, grows by the bytes that join on at its end, and is
written with a flag record where every check passes; a commit without an image in assembly is answered with 205. -/
def Obligations.RecoveryVerbsComplete : Prop :=
  ∀ (l : Line) (s : State),
    (passes vRecInfo l s = true → s.boot.selected = none → s.boot.lastReject = none → exec (.recInfo l) s =
      .next (reply l.route 0 [("lc", .w (lcName (lifeCycle s))), ("profile", .w (profileName s)), ("active", .c 0 "a"),
        ("seq", .w "none"), ("last", codeVal 0), ("slot", .w "none"), ("attempts", .n (s.reg .BOOT_ATTEMPTS))]
        (noteLine vRecInfo l s))) ∧
    (∀ v u, v = vRec "REC.OPEN" [slotArg, sizeArg] s → u = noteLine v l s → passes v l s = true → l.nat "size" % 16 = 0 →
      s.boot.selected = none → s.boot.recov = none → exec (.recOpen l) s = .next (reply l.route 0 [("next", .n 0), ("max", .n 96)]
        (raise 0x044 [("slot", slotVal (l.isWord "slot" "b")), ("size", .n (l.nat "size"))]
          (trace 0x31 (slotNum (l.isWord "slot" "b")) (l.nat "size" / 16)
            { u with boot := { u.boot with recov := some ⟨l.isWord "slot" "b", l.nat "size", [], l.route, false⟩ } })))) ∧
    (∀ v u, v = vRec "REC.OPEN" [slotArg, sizeArg] s → u = noteLine v l s → passes v l s = true → l.nat "size" % 16 ≠ 0 →
      exec (.recOpen l) s = .next (reply l.route 103 [("arg", .w "size")] u)) ∧
    (∀ v u x, v = vRec "REC.DATA" dataArgs s → u = noteLine v l s → passes v l s = true → s.boot.recov = some x →
      l.bytes "d" ≠ [] → l.nat "o" = x.bytes.length → x.bytes.length + (l.bytes "d").length ≤ x.size →
      exec (.recData l) s = .next (reply l.route 0 [("next", .n (x.bytes.length + (l.bytes "d").length))]
        { u with boot := { u.boot with recov := some { x with bytes := x.bytes ++ l.bytes "d" } } })) ∧
    (∀ v u x, v = vRec "REC.DATA" dataArgs s → u = noteLine v l s → passes v l s = true → s.boot.recov = some x →
      l.bytes "d" ≠ [] → l.nat "o" ≠ x.bytes.length →
      exec (.recData l) s = .next (reply l.route 204 [("next", .n x.bytes.length)] u)) ∧
    (∀ v u x, v = vRec "REC.COMMIT" [crcArg] s → u = noteLine v l s → passes v l s = true → s.boot.recov = some x →
      commitChecks u x (l.nat "crc") = none → s.boot.norWrites = true → s.reg .BOOT_XSPI_MODE ≠ 0 →
      s.boot.selected = none → s.boot.badPos = [] → ∃ t, exec (.recCommit l) s = .next t ∧ t = recWrite l.route x u ∧ t.boot.recov = none ∧
        (x.slotB = false → t.boot.slotA = some (Image.ofBytes x.bytes) ∧ t.boot.slotB = s.boot.slotB) ∧
        (x.slotB = true → t.boot.slotB = some (Image.ofBytes x.bytes) ∧ t.boot.slotA = s.boot.slotA) ∧
        activeSlot t = x.slotB ∧ t.reg .BOOT_FLAG_SEQ = 0) ∧
    (∀ v, v = vRec "REC.COMMIT" [crcArg] s → passes v l s = true → s.boot.recov = none →
      exec (.recCommit l) s = .next (reply l.route 205 [] (noteLine v l s))) ∧
    (∀ x, x.bytes.length < x.size → commitChecks s x (l.nat "crc") = some (204, [("next", .n x.bytes.length)], none)) ∧
    (∀ v u, v = vRec "REC.ABORT" [] s → u = noteLine v l s → passes v l s = true → s.boot.recov ≠ none →
      exec (.recAbort l) s = .next (reply l.route 0 [] { u with boot := { u.boot with recov := none } })) ∧
    (∀ v, v = vRec "REC.BOOT" [] s → passes v l s = true → groupGood s 0 = true → groupGood s 1 = true → ∃ t, exec (.recBoot l) s = .next t ∧
      t = nightfallRetry 1 (reply l.route 0 [] (noteLine v l s)) ∧ t.mode = .M2 ∧ t.reg .BOOT_LAST_END = 3)

/-- The update of the slot that is not running (R235, R236): as the recovery listener does, by one route instance at a time;
the commit programs the slot and the activation writes the flag record once the image as stored passes every check. -/
def Obligations.BootVerbsComplete : Prop :=
  ∀ (l : Line) (s : State),
    (passes vBootShow l s = true → s.lineMode ≠ .M10 → exec (.bootShow l) s = .next (reply l.route 0
      [("run", slotVal (s.reg .BOOT_RUN_SLOT == 1)), ("active", slotVal (activeSlot s)), ("seq", .n (s.reg .BOOT_FLAG_SEQ)),
       ("svn", .n (s.reg .BOOT_RUN_SVN)), ("fuse_svn", .n s.sec.otp.svnFuses), ("upd", .n (updState s)),
       ("next", .n (updNext s))] (noteLine vBootShow l s))) ∧
    (∀ v u, v = vBoot "BOOT.OPEN" [sizeArg] → u = noteLine v l s → passes v l s = true → l.nat "size" % 16 = 0 →
      s.boot.upd = none → exec (.bootOpen l) s = .next (reply l.route 0
        [("slot", slotVal (s.reg .BOOT_RUN_SLOT == 0)), ("next", .n 0), ("max", .n 96)]
        { u with boot := { u.boot with upd := some ⟨s.reg .BOOT_RUN_SLOT == 0, l.nat "size", [], l.route, false⟩ } })) ∧
    (∀ v u x, v = vBoot "BOOT.OPEN" [sizeArg] → u = noteLine v l s → passes v l s = true → l.nat "size" % 16 = 0 →
      s.boot.upd = some x → x.committed = false → x.route ≠ l.route →
      exec (.bootOpen l) s = .next (reply l.route 204 [("route", routeVal x.route)] u)) ∧
    (∀ v u x, v = vBoot "BOOT.DATA" dataArgs → u = noteLine v l s → passes v l s = true → openUpdate l.route u = .ok x →
      l.bytes "d" ≠ [] → l.nat "o" = x.bytes.length → x.bytes.length + (l.bytes "d").length ≤ x.size →
      exec (.bootData l) s = .next (reply l.route 0 [("next", .n (x.bytes.length + (l.bytes "d").length))]
        { u with boot := { u.boot with upd := some { x with bytes := x.bytes ++ l.bytes "d" } } })) ∧
    (∀ v u w x e, v = vBoot "BOOT.FROMKV" [⟨"ns", true, .num 2 255⟩, keyArg] → u = noteLine v l s → passes v l s = true →
      openUpdate l.route u = .ok x → readKey (l.nat "ns") (l.text "key") u = (w, .ok e) →
      x.bytes.length + e.val.length ≤ x.size →
      exec (.bootFromkv l) s = .next (reply l.route 0 [("next", .n (x.bytes.length + e.val.length))]
        { w with boot := { w.boot with upd := some { x with bytes := x.bytes ++ e.val } } })) ∧
    (∀ v u w x, v = vBoot "BOOT.COMMIT" [crcArg] → u = noteLine v l s → passes v l s = true → openUpdate l.route u = .ok x →
      commitChecks u x (l.nat "crc") = none → programSlot x.slotB x.bytes u = (w, true) →
      exec (.bootCommit l) s = .next (reply l.route 0 [("slot", slotVal x.slotB), ("svn", .n (Image.ofBytes x.bytes).svn)]
        (raise 0x047 [("slot", slotVal x.slotB), ("svn", .n (Image.ofBytes x.bytes).svn)]
          { w with boot := { w.boot with upd := some { x with committed := true } } }))) ∧
    (∀ v u w b seq, v = vBoot "BOOT.ACTIVATE" [⟨"slot", false, .word ["a", "b"]⟩] → u = noteLine v l s →
      passes v l s = true → activateSlot l u = some b → imageCheck u (slotImage u b) = none →
      writeFlag 1 b (slotImage u b) u = (w, .ok seq) → exec (.bootActivate l) s =
        .next (reply l.route 0 [("slot", slotVal b), ("seq", .n seq)] (raise 0x048 [("slot", slotVal b), ("seq", .n seq)] w))) ∧
    (∀ v u b c, v = vBoot "BOOT.ACTIVATE" [⟨"slot", false, .word ["a", "b"]⟩] → u = noteLine v l s →
      passes v l s = true → activateSlot l u = some b → imageCheck u (slotImage u b) = some c →
      exec (.bootActivate l) s = .next (reply l.route 207 [("code", codeVal c)] u)) ∧
    (∀ v u, v = vBoot "BOOT.ABORT" [] → u = noteLine v l s → passes v l s = true → updState s = 1 →
      exec (.bootAbort l) s = .next (reply l.route 0 [] { u with boot := { u.boot with upd := none } }))

/-- The checks of an image in their order (Table 10.5; R220 to R224): a header that does not read, then its magic, its
reserved fields, what it is for, its unit, its size, its signer, its signature, and at the end the hash of its body. -/
def Obligations.TheFirstFailedImageCheckGivesTheCode : Prop :=
  ∀ (s : State) (img : Image),
    (img.headerOk = false → imageCheck s img = some 0x1C) ∧
    (img.headerOk = true → img.part 0 4 ≠ [0x44, 0x58, 0x49, 0x4D] → imageCheck s img = some 0x10) ∧
    (img.headerOk = true → headerCheck s img = none → signerMatches s 0 3 (img.part 0x080 96) = false →
      imageCheck s img = some 0x15) ∧
    (img.headerOk = true → headerCheck s img = none → signerMatches s 0 3 (img.part 0x080 96) = true →
      Config.ecdsaP384 (img.part 0x080 96) (img.part 0x140 96) (img.part 0 0x140) = false →
      imageCheck s img = some 0x16) ∧
    (imageCheck s img = none → img.headerOk = true ∧ img.bodyOk = true ∧ headerCheck s img = none ∧
      signerMatches s 0 3 (img.part 0x080 96) = true ∧ countersign s img = none ∧ s.sec.otp.svnFuses ≤ img.svn ∧
      img.svn ≤ 64 ∧ Config.sha384 img.body = img.part 0x020 48)

/-! ## Keys, life cycle, alarms and Night (chapter 11) -/

/-- Alarms (R253 to R258, R260): a source of class C is recorded alone; one of class B sets the LOCK latch where none is
held; one of class A erases: the ERASE latch names its source, the active seed's revoke fuse is burned and every key but the
persistent-log key is gone. The end of the burn is told, and with no seed left that too. -/
def Obligations.AlarmCommandsComplete : Prop :=
  ∀ s : State,
    (∀ src, src ≤ 8 → armed s src = true → exec (.alarmSourceFires src) s =
      .next (fireAlarm src { s with sec := { s.sec with srcNow := setBit s.sec.srcNow src } })) ∧
    (∀ src, armed s src = false ∨ 8 < src → exec (.alarmSourceFires src) s = .next s) ∧
    (∀ src, classInForce s src = 3 → fireAlarm src s =
      raiseWith (0x080 + src) 1 [("class", .c 3 "C"), ("mode", .n s.mode.num)] false 1 s) ∧
    (∀ src n, classInForce s src = 1 → eraseHeld s = false → activeSeed s = some n → s.mode = .M4 → s.pwr.failing = false →
      s.pwr.held = false → s.pwr.seq = .idle → ∃ t, fireAlarm src s = t ∧ t.sec.latch = 1 ∧ t.sec.latchSrc = src ∧
        bitAt t.sec.otp.revoked n = true ∧ t.sec.burning = some n ∧ t.sec.olk = none ∧ t.sec.kek = none ∧
        (∀ e ∈ t.sec.vault, e.slot = 14) ∧ t.sec.xts = [] ∧ t.sec.recKeys = [] ∧ t.line.pin = none ∧
        t.sec.recordDue = true ∧ t.mode = .M4) ∧
    (∀ src, classInForce s src = 2 → s.sec.latch = 0 → s.mode = .M4 → s.pwr.failing = false → s.pwr.held = false →
      s.pwr.seq = .idle → ∃ t, fireAlarm src s = t ∧ t.sec.latch = 2 ∧ t.sec.latchSrc = src ∧ t.sec.olk = none ∧
        t.sec.otp = s.sec.otp ∧ t.sec.recordDue = true) ∧
    (∀ src, exec (.alarmSourceCleared src) s = .next { s with sec := { s.sec with srcNow := clearBit s.sec.srcNow src } }) ∧
    (∀ us n, s.sec.burning = some n → (activeSeed s).isSome = true → exec (.eraseBurnComplete us) s = .next
      (raise 0x090 [("seed", .n n), ("us", .n us)]
        (({ s with sec := { s.sec with burning := none } } : State).setReg .ALM_ERASE_US (min us 65535)))) ∧
    (∀ us n, s.sec.burning = some n → activeSeed s = none → exec (.eraseBurnComplete us) s = .next (raise 0x094 []
      (raise 0x090 [("seed", .n n), ("us", .n us)]
        (({ s with sec := { s.sec with burning := none } } : State).setReg .ALM_ERASE_US (min us 65535))))) ∧
    (s.sec.recordDue = true → s.firmware = true → groupGood s 0 = true → groupGood s 1 = true →
      ∃ t, exec .alarmRecordWritten s = .next t ∧ t.mode = .M2 ∧ t.sec.recordDue = false ∧ t.sec.latch = s.sec.latch ∧
        t.sec.vault = [] ∧ t.reg .PWR_RESET_CAUSE = 1) ∧
    (s.sec.trngOk = true → exec .trngHealthFail s = .next (raise 0x06D [] { s with sec := { s.sec with trngOk := false } })) ∧
    (s.sec.trngOk = false → exec .trngHealthFail s = .next s) ∧
    exec .trngHealthRecovered s = .next { s with sec := { s.sec with trngOk := true } }

/-- Authority and the moves of the life cycle (R240, R242, R243, R245, R259): a challenge is answered once, in four parts, by
who holds the debug authority key; a move of the life cycle burns its fuse, is told and resets; what it needs is the field of
a 204; keys of signers are added once and revoked with authority. -/
def Obligations.LifeCycleVerbsComplete : Prop :=
  ∀ (l : Line) (s : State),
    (passes vLcShow l s = true → exec (.lcShow l) s = .next (reply l.route 0
      [("state", .c (lifeCycle s) (lcName (lifeCycle s))), ("debug", .c (debugState s) (debugName (debugState s))),
       ("revoked", .x 2 s.sec.otp.revoked), ("comm", .x 2 s.sec.otp.commissioned), ("active", seedVal s),
       ("left", .n (seedsLeft s)), ("owner", .x 2 (ownerSet s)), ("dbg_hash", .n s.sec.otp.debugHash.isSome.toNat),
       ("auth", .n (s.route l.route).auth.toNat)] (noteLine vLcShow l s))) ∧
    (∀ u n, u = noteLine vLcChallenge l s → n = randomBytes u 8 → passes vLcChallenge l s = true → s.sec.trngOk = true →
      exec (.lcChallenge l) s = .next (tickN 8 (reply l.route 0
        [("n", .w (String.ofList ((groupsText n).map Char.ofNat)))]
        (u.updRoute l.route fun x => { x with lcNonce := some ⟨n, s.now⟩, lcParts := [] })))) ∧
    (∀ u n, u = noteLine vLcAuth l s → passes vLcAuth l s = true → (s.route l.route).lcNonce = some n →
      s.now ≤ n.at_ + sec 60 → (s.route l.route).lcParts = [] → exec (.lcAuth l) s = .next (reply l.route 0
        [("part", .w (String.ofList ((l.text "part").map Char.ofNat)))]
        (u.setRoute { u.route l.route with
          lcParts := [(partIndex (l.text "part"), (groupBytes 24 (l.text "d")).getD [])] }))) ∧
    (∀ u v n ps, u = noteLine vLcAuth l s → v = u.setRoute { u.route l.route with lcNonce := none, lcParts := [] } →
      passes vLcAuth l s = true → (s.route l.route).lcNonce = some n → s.now ≤ n.at_ + sec 60 →
      ps = (partIndex (l.text "part"), (groupBytes 24 (l.text "d")).getD []) ::
        (s.route l.route).lcParts.filter (fun p => p.1 != partIndex (l.text "part")) → 4 ≤ ps.length →
      (authProved v n.bytes l.route (l.has "purpose") ps = true → exec (.lcAuth l) s =
        .next (reply l.route 0 [("auth", .n 1)] (grantAuth l.route (l.has "purpose") v))) ∧
      (authProved v n.bytes l.route (l.has "purpose") ps = false → exec (.lcAuth l) s =
        .next (loginFailed l.route (raise 0x062 [("route", routeVal l.route)] (reply l.route 207 [] v))))) ∧
    (∀ u dst, u = noteLine vLcAdvance l s → passes vLcAdvance l s = true → dst = lcTarget (l.text "to") →
      (lifeCycle s, dst) ∈ [(0, 1), (1, 2), (2, 3), (2, 4), (3, 4)] → advanceNeed l.route dst u = none →
      groupGood s 0 = true → groupGood s 1 = true → ∃ t, exec (.lcAdvance l) s = .next t ∧ lifeCycle t = dst ∧ t.mode = .M2 ∧
        t = lcReset (raise 0x060 [("from", .c (lifeCycle s) (lcName (lifeCycle s))), ("to", .c dst (lcName dst))]
          (advanceBurn dst (reply l.route 1
            [("from", .c (lifeCycle s) (lcName (lifeCycle s))), ("to", .c dst (lcName dst))] u)))) ∧
    (∀ u dst f, u = noteLine vLcAdvance l s → passes vLcAdvance l s = true → dst = lcTarget (l.text "to") →
      (lifeCycle s, dst) ∈ [(0, 1), (1, 2), (2, 3), (2, 4), (3, 4)] → advanceNeed l.route dst u = some f →
      exec (.lcAdvance l) s = .next (reply l.route 204 [f] u)) ∧
    (∀ n, passes vLcRecommission l s = true → (s.route l.route).auth = true → lifeCycle s = 2 → activeSeed s = some n →
      bitAt s.sec.otp.commissioned n = false → detecting s 1 = none → groupGood s 0 = true → groupGood s 1 = true → ∃ t, exec (.lcRecommission l) s = .next t ∧
        bitAt t.sec.otp.commissioned n = true ∧ t.sec.latch = 0 ∧ t.mode = .M2) ∧
    (passes vLcDebugkey l s = true → lifeCycle s = 0 → s.sec.otp.debugHash = none → exec (.lcDebugkey l) s =
      .next (reply l.route 0 [] (burn (fun o => { o with debugHash := groupBytes 24 (l.text "hash") })
        (noteLine vLcDebugkey l s)))) ∧
    (passes vLcDebugkey l s = true → lifeCycle s ≠ 0 →
      exec (.lcDebugkey l) s = .next (reply l.route 204 [("need", .w "BLANK")] (noteLine vLcDebugkey l s))) ∧
    (∀ u n, u = noteLine vLcSigner l s → n = signerNum (l.text "idx") → passes vLcSigner l s = true → lifeCycle s = 0 →
      signerHeld s n = false → exec (.lcSigner l) s = .next (reply l.route 0 [("idx", signerVal n)]
        (raise 0x06B [("signer", signerVal n)]
          (burn (fun o => { o with signers := o.signers ++ [(n, (groupBytes 24 (l.text "hash")).getD [])] }) u)))) ∧
    (∀ u n, u = noteLine vLcRevoke l s → n = signerNum (l.text "signer") → passes vLcRevoke l s = true →
      (s.route l.route).auth = true → exec (.lcRevoke l) s = .next (reply l.route 0 [("signer", signerVal n)]
        (raise 0x06C [("signer", signerVal n)]
          (burn (fun o => { o with signerRevoked := setBit o.signerRevoked n }) u))))

/-- The vault (R247, R249, R251, R252, R311 to R316, R515): the owner line key is set once for each seed; the identity, the
PSKs, the trust anchors, the chain and the credential entries are kept in namespace 0 and what was opened through what they
replace closes; locks are set and never cleared. -/
def Obligations.VaultVerbsComplete : Prop :=
  ∀ (l : Line) (s : State),
    (passes vVaultShow l s = true → exec (.vaultShow l) s = .next (reply l.route 0 [("trng", .n s.sec.trngOk.toNat)]
      (more l.route (((List.range 32).filter fun n => bitAt (attrWord s n) 12).map fun n =>
        [("slot", .n n), ("type", .n (attrWord s n % 16)), ("uses", .x 2 (bitsOf (attrWord s n) 11 4)),
         ("locks", .n (bitsOf (attrWord s n) 14 13))]) (noteLine vVaultShow l s)))) ∧
    (∀ u n, u = noteLine vVaultSetowner l s → passes vVaultSetowner l s = true → lifeCycle s ≤ 1 → activeSeed s = some n →
      ownerEntry s n = none → (s.sec.otp.bad.any (· == 48 + n)) = false → ∃ t w, exec (.vaultSetowner l) s = .next t ∧
        t = reply l.route 0 [("seed", .n n)] (raise 0x064 [("seed", .n n)] w) ∧
        w.sec.olk = some ((groupBytes 16 (l.text "key")).getD []) ∧
        w.sec.otp = { s.sec.otp with
          owner := s.sec.otp.owner ++ [(n, xorText ((groupBytes 16 (l.text "key")).getD []) (ownerMask s.sec.otp n))] } ∧
        w = { u with sec := w.sec }) ∧
    (∀ u n, u = noteLine vVaultSetowner l s → passes vVaultSetowner l s = true → lifeCycle s ≤ 1 → activeSeed s = some n →
      (ownerEntry s n).isSome = true → exec (.vaultSetowner l) s = .next (reply l.route 209 [] u)) ∧
    (∀ u w, u = noteLine vVaultGenid l s → passes vVaultGenid l s = true → s.sec.chain = none → changeLocked s 3 = false →
      changeLocked s 4 = false → s.sec.trngOk = true → ns0Record u = (w, none) → ∃ t x, exec (.vaultGenid l) s = .next t ∧
        t = reply l.route 0 [] (raise 0x065 [("seed", seedVal w)] x) ∧ x.sec.identity = true ∧
        x.sec.identNo = w.sec.identNo + 1 ∧ x.sec.slotKey 3 = some ((Config.identityPriv x.sec.identNo).take 32) ∧
        x.sec.slotKey 4 = some ((Config.identityPriv x.sec.identNo).drop 32) ∧ x = { w with sec := x.sec }) ∧
    (∀ u w n, u = noteLine vVaultPsk l s → passes vVaultPsk l s = true → n = l.nat "slot" → changeLocked s (6 + n) = false →
      ns0Record u = (w, none) → exec (.vaultPsk l) s = .next (closeByRef 1 n (reply l.route 0 [("slot", .n n)]
        (loadSlot (6 + n) (l.bytes "key") { w with net := { w.net with psks := w.net.psks.filter (·.slot != n) ++
          [⟨n, l.text "id", l.bytes "key", l.isWord "hash" "SHA-384"⟩] } })))) ∧
    (∀ u x, u = noteLine vVaultCa l s → passes vVaultCa l s = true → l.flag "last" = false →
      appendLoad l (s.route l.route).caLoad (l.nat "idx") 2048 = .ok x → exec (.vaultCa l) s =
        .next (reply l.route 0 [("next", .n x.bytes.length)] (u.updRoute l.route fun y => { y with caLoad := some x }))) ∧
    (∀ u w x, u = noteLine vVaultCa l s → passes vVaultCa l s = true → l.flag "last" = true →
      appendLoad l (s.route l.route).caLoad (l.nat "idx") 2048 = .ok x → Config.certOk x.bytes = true →
      ns0Record (u.updRoute l.route fun y => { y with caLoad := none }) = (w, none) → exec (.vaultCa l) s =
        .next (closeByRef 2 (l.nat "idx") (reply l.route 0 [("idx", .n (l.nat "idx"))]
          { w with net := { w.net with anchors := w.net.anchors.filter (·.1 != l.nat "idx") ++ [(l.nat "idx", x.bytes)] } }))) ∧
    (∀ u x, u = noteLine vVaultCert l s → passes vVaultCert l s = true → l.flag "last" = false →
      appendLoad l (s.route l.route).certLoad 0 6144 = .ok x → exec (.vaultCert l) s =
        .next (reply l.route 0 [("next", .n x.bytes.length)] (u.updRoute l.route fun y => { y with certLoad := some x }))) ∧
    (∀ u v w x n, u = noteLine vVaultCert l s → v = u.updRoute l.route (fun y => { y with certLoad := none }) →
      passes vVaultCert l s = true → l.flag "last" = true → appendLoad l (s.route l.route).certLoad 0 6144 = .ok x →
      chainMatches v x.bytes = some n → ns0Record v = (w, none) → exec (.vaultCert l) s =
        .next (reply l.route 0 [("n", .n n)] { w with sec := { w.sec with chain := some x.bytes } })) ∧
    (∀ u, u = noteLine vVaultCsr l s → passes vVaultCsr l s = true → s.sec.identity = true → useLocked s 3 = false →
      useLocked s 4 = false → exec (.vaultCsr l) s =
        .next (reply l.route 0 [("len", .n (Config.csr s.sec.identNo (l.text "cn")).length)]
          (dataLines l.route 0 255 (Config.csr s.sec.identNo (l.text "cn")) u))) ∧
    (passes (vVaultCred s l) l s = true → l.args.length ≤ 1 → exec (.vaultCred l) s =
      .next (reply l.route 0 (credGet s (l.nat "idx")).fields (noteLine (vVaultCred s l) l s))) ∧
    (∀ u w c, u = noteLine (vVaultCred s l) l s → c = credWith l (credGet s (l.nat "idx")) → passes (vVaultCred s l) l s = true →
      1 < l.args.length → credBad c = none → c.type ≠ 0 → ns0Record u = (w, none) → exec (.vaultCred l) s =
        .next (closeByCred (l.nat "idx") (reply l.route 0 c.fields
          { w with net := { w.net with creds := w.net.creds.filter (·.idx != l.nat "idx") ++ [c] } }))) ∧
    (∀ r v, mayWrite r 2 m4to9 s = true → v < 2 ^ 32 →
      exec (.vaultLockWrite r true v) s = .next (reply r 0 [("value", .n (s.reg .VAULT_LOCK_CHANGE ||| v))]
        (s.setReg .VAULT_LOCK_CHANGE (s.reg .VAULT_LOCK_CHANGE ||| v))) ∧
      exec (.vaultLockWrite r false v) s = .next (reply r 0 [("value", .n (s.reg .VAULT_LOCK_USE ||| v))]
        (s.setReg .VAULT_LOCK_USE (s.reg .VAULT_LOCK_USE ||| v))))

/-- The ALM verbs and the debug port (R242, R262, R523, R524): the latch is shown; a LOCK latch is cleared where no source
of class A or B detects, and the unit resets; an ERASE latch needs recommissioning. The port, while it answers, reads and
writes words; while it does not, nothing happens. -/
def Obligations.AlarmVerbsAndDebugPortComplete : Prop :=
  ∀ (l : Line) (s : State),
    (passes vAlmShow l s = true → s.sec.latch = 0 → exec (.almShow l) s = .next (reply l.route 0
      [("latch", .w (latchName s)), ("src", .c 15 "none"), ("seed", seedVal s), ("left", .n (seedsLeft s))]
      (noteLine vAlmShow l s))) ∧
    (passes vAlmShow l s = true → s.sec.latch ≠ 0 → s.sec.latchSrc ≤ 8 → exec (.almShow l) s = .next (reply l.route 0
      [("latch", .w (latchName s)), ("src", .c s.sec.latchSrc (sourceName s.sec.latchSrc)), ("seed", seedVal s),
       ("left", .n (seedsLeft s))] (noteLine vAlmShow l s))) ∧
    (passes vAlmClear l s = true → eraseHeld s = false → detecting s 2 = none → lifeCycle s ≠ 4 →
      groupGood s 0 = true → groupGood s 1 = true → ∃ t, exec (.almClear l) s = .next t ∧ t.sec.latch = 0 ∧ t.mode = .M2 ∧ t.sec.otp = s.sec.otp) ∧
    (passes vAlmClear l s = true → eraseHeld s = true →
      exec (.almClear l) s = .next (reply l.route 204 [("need", .w "recommission")] (noteLine vAlmClear l s))) ∧
    (∀ a w, debugLive s = false → exec (.debugPortAccess a w) s = .next s) ∧
    (∀ a, debugLive s = true → a % 4 = 0 → fieldsAt a ≠ [] → (∀ x ∈ fieldsAt a, fieldAbsent s x.1 = false) →
      exec (.debugPortAccess a none) s = .next ((readAddr none a s).1.emit (.debug (some (readAddr none a s).2)))) ∧
    (∀ a, debugLive s = true → a % 4 = 0 → fieldsAt a = [] →
      exec (.debugPortAccess a none) s = .next (s.emit (.debug none))) ∧
    (∀ a v set, debugLive s = true → a % 4 = 0 → fieldsAt a ≠ [] → (∀ x ∈ fieldsAt a, fieldAbsent s x.1 = false) →
      (fieldsAt a).any (fun x => x.1.writable) = true → (fieldsAt a).any (fun x => x.1.p.mirrored) = false →
      set = wordChanges a (v % 2 ^ 32) s → classOf set = 0 → setRefusal set s = none → jointRefusal set s = none →
      latchCleared (.address a) v = none → exec (.debugPortAccess a (some v)) s = .next (applyAll 3 set s)) ∧
    (∀ a v, debugLive s = true → a % 4 = 0 → fieldsAt a ≠ [] → (∀ x ∈ fieldsAt a, fieldAbsent s x.1 = false) →
      (fieldsAt a).any (fun x => x.1.writable) = false →
      exec (.debugPortAccess a (some v)) s = .next ((denied 3 a .readOnly s).emit (.debug none)))

/-! ## Sunrise, memories and Dusk's jobs (chapters 4, 12 and 21) -/

/-- Sunrise (R267, R268, R282, R285, R291 to R294, R536): each stage that ends as it should leads to the next, with EV 0x240;
the last leads to Morning; a stage that fails halts with EV 0x241 and its reason, and the retry begins again at stage 2. -/
def Obligations.SunriseCommandsComplete : Prop :=
  ∀ s : State, s.lineMode = .M3 →
    (s.mem.sunrise.halted = false → s.sec.recordDue = false →
      (s.mem.sunrise.stage = 1 → s.pwr.seq = .idle → s.pwr.en = 0x3F →
        exec (.sunriseStageComplete .groups) s = .next (stageDone 2 s)) ∧
      (∀ ids gib fast le ms, s.mem.sunrise.stage = 2 → (∀ x ∈ ids, x = ids.headD 0) → (s.mem.rateKept = 1 → fast = true) →
        ∃ t, exec (.sunriseStageComplete (.dram ids gib fast le none ms)) s = .next t ∧ t.mem.sunrise.stage = 3 ∧
          t.mem.capGib = gib ∧ t.reg .DRAM_LINK_ECC = le.toNat ∧ t.reg .DRAM_TRAIN_MS = min ms 65535) ∧
      (∀ ids gib fast le ms c, s.mem.sunrise.stage = 2 → (∀ x ∈ ids, x = ids.headD 0) → (s.mem.rateKept = 1 → fast = true) →
        exec (.sunriseStageComplete (.dram ids gib fast le (some c) ms)) s = .next (raise 0x241
          [("stage", .n 2), ("reason", .c 3 "train"), ("ch", .n c)]
          { s with mem := { s.mem with sunrise := { s.mem.sunrise with halted := true } } })) ∧
      (∀ found e, s.mem.sunrise.stage = 3 → s.mem.superblock = true → (discover found).2.1 = [] → (discover found).2.2 = none →
        exec (.sunriseStageComplete (.nand found 1 e)) s =
          .next (stageDone 4 { s with mem := { s.mem with targets := [] } })) ∧
      (∀ found e, s.mem.sunrise.stage = 3 → ∃ t, exec (.sunriseStageComplete (.nand found 0 e)) s = .next t ∧
        t.mem.sunrise.stage = 6 ∧ t.kv.keys = [] ∧ t.colls = [] ∧ t.kv.mounted = true) ∧
      (s.mem.sunrise.stage = 4 → lostKeys s = [] → s.kv.keys.length ≤ storedIndexKeys s →
        exec (.sunriseStageComplete .loaded) s = .next (stageDone 5 (loadKeys s))) ∧
      (s.mem.sunrise.stage = 5 → exec (.sunriseStageComplete .loaded) s = .next (finishLoad s) ∧
        (finishLoad s).mem.sunrise.stage = 6 ∧ (finishLoad s).kv.mounted = true) ∧
      (s.mem.sunrise.stage = 6 → exec (.sunriseStageComplete .loaded) s = .next (policyStage s) ∧
        (policyStage s).mem.sunrise.stage = 7) ∧
      (∀ failed short, s.mem.sunrise.stage = 7 → ∃ t, exec (.sunriseStageComplete (.colls failed short)) s = .next t ∧
        t = collStage failed short s ∧ t.mode = .M4 ∧ t.boot.watchdog = (if s.boot.firstM4 then false else s.boot.watchdog))) ∧
    (s.mem.sunrise.halted = true → exec .sunriseHaltRetry s = .next { s with mem := { s.mem with
      sunrise := { s.mem.sunrise with stage := 2, stageAt := s.now, halted := false } } }) ∧
    (s.mem.sunrise.halted = false → exec .sunriseHaltRetry s = .next s) ∧
    (∀ n, stageDone n s = { raise 0x240 [("stage", .n s.mem.sunrise.stage),
        ("ms", .n ((s.now - s.mem.sunrise.stageAt) / ms 1))] s with
      mem := { s.mem with sunrise := { s.mem.sunrise with stage := n, stageAt := s.now, halted := false } } })

/-- DRAM and NAND at work (R269, R276 to R279, R283, R284, R289, R295, R382): one failed retrain is told and a second resets;
stripe k of a region lies on channel k mod 16, in SKETCH displaced by the
chunk's number; a patrol counts what it corrects and resets where SYS or DIRTY cannot be corrected; INDEX and META are rebuilt; a failed program or erase retires its block and wear is told; a
target that does not answer is retired; a checkpoint begins, and its completion takes the log before it out of the replay. -/
def Obligations.MemoryCommandsComplete : Prop :=
  ∀ s : State,
    (∀ ch, ch ≤ 15 → s.firmware = true → (s.mem.sunrise.stage = 0 ∨ 3 ≤ s.mem.sunrise.stage) →
      exec (.dramRetrain ch 1) s = .next (raise (0x280 + 4 * ch + 2) [("ch", .n ch)] s) ∧
      (groupGood s 0 = true → groupGood s 1 = true → ∃ t, exec (.dramRetrain ch 2) s = .next t ∧ t.mode = .M2 ∧ t.sess = [] ∧ t.reg .PWR_RESET_CAUSE = 1)) ∧
    (∀ ch, exec (.dramRetrain ch 0) s = .next s) ∧
    (∀ e, e.region ≠ 5 → errChannel s e = e.stripe % 16) ∧
    (∀ j k, k < 262144 → stripeChannel s 5 (262144 * j + k) = (k + j) % 16) ∧
    (∀ ch n, ch ≤ 15 → s.inService = true → s.day.t < 16 → n ≠ 0 → s.mem.ue = [] → ∃ t,
      exec (.dramPatrolScrub ch ⟨n, [], []⟩) s = .next t ∧
      t = countCorrected ch n s ∧ t.reg .DRAM_CE_COUNT = min (s.reg .DRAM_CE_COUNT + n) (2 ^ 32 - 1)) ∧
    (∀ ch, ch ≤ 15 → s.inService = true → s.mem.ue = [] → exec (.dramPatrolScrub ch ⟨0, [], []⟩) s = .next s) ∧
    (∀ ch found, ch ≤ 15 → s.inService = true → 16 ≤ s.day.t → exec (.dramPatrolScrub ch found) s = .next (arise found s)) ∧
    (∀ n, arise ⟨n, [], []⟩ s = s) ∧
    (∀ n e, e ∉ s.mem.ue → (arise ⟨n, [e], []⟩ s).mem.ue = s.mem.ue ++ [e]) ∧
    (∀ n ups, arise ⟨n, [], ups⟩ s = ups.foldl applyUpset s) ∧
    (∀ ch e, ch ≤ 15 → s.inService = true → s.day.t < 16 → s.mem.ue = [] → errChannel s e = ch → (e.region = 1 ∨ e.region = 2) →
      groupGood s 0 = true → groupGood s 1 = true → ∃ t, exec (.dramPatrolScrub ch ⟨0, [e], []⟩) s = .next t ∧
      t.mode = .M2 ∧ t.sess = []) ∧
    (∀ ch e, ch ≤ 15 → s.inService = true → s.day.t < 16 → s.mem.ue = [] → errChannel s e = ch → (e.region = 3 ∨ e.region = 4) →
      ∃ t, exec (.dramPatrolScrub ch ⟨0, [e], []⟩) s = .next t ∧ t.mode = s.mode ∧ e.region ∈ t.mem.repair ∧ t.mem.ue = [] ∧
        t.reg .DRAM_UE_COUNT = min (s.reg .DRAM_UE_COUNT + 1) 65535) ∧
    (∀ k, exec (.dramStructureRebuilt k) s = .next { s with mem := { s.mem with repair := s.mem.repair.filter (· != k) } }) ∧
    (∀ ch tgt b mean top, nandRuns s = true → wearPct mean s.kv.endurance < 80 →
      exec (.nandOperationComplete ch tgt false ⟨b, []⟩ mean top) s =
      .next { s with kv := { s.kv with eraseMean := mean, eraseMax := top } }) ∧
    (∀ ch tgt b mean top, nandRuns s = true → (s.mem.targets.any fun t => t.ch == ch && t.tgt == tgt && t.used) = true →
      (∀ t ∈ s.mem.targets, t.grown * 20 + 20 ≤ t.blocks) → ∃ t,
        exec (.nandOperationComplete ch tgt true ⟨b, []⟩ mean top) s = .next t ∧
        t = raise (0x200 + 4 * ch + 1) [("ch", .n ch), ("tgt", .n tgt), ("block", .n b)]
          { noteWear mean top s with mem := { s.mem with targets := s.mem.targets.map fun t =>
              if t.ch == ch && t.tgt == tgt then { t with grown := t.grown + 1 } else t } }) ∧
    (∀ ch tgt, nandRuns s = true → (s.mem.targets.any fun t => t.ch == ch && t.tgt == tgt && t.used) = true → ∃ t,
      exec (.nandTargetTimeout ch tgt) s = .next t ∧ (∀ x ∈ t.mem.targets, x.ch = ch → x.tgt = tgt →
        x.used = false ∧ x.retired = true)) ∧
    (∀ ch tgt, (s.mem.targets.any fun t => t.ch == ch && t.tgt == tgt && t.used) = false →
      exec (.nandTargetTimeout ch tgt) s = .next s) ∧
    (∀ n, nandRuns s = true → exec (.blockRelocation n) s = .next (noteWaf 0 n s)) ∧
    (s.inService = true → s.mem.ckptBusy = false → exec .checkpointDue s =
      .next { s with mem := { s.mem with ckptBusy := true, ckptAt := s.now, ckptBytes := s.mem.logBytes } }) ∧
    (∀ n, s.mem.ckptBusy = true → exec (.checkpointComplete n) s = .next (raise 0x245 [("ms", .n n)]
      { s with mem := { s.mem with ckptBusy := false, logBytes := s.mem.logBytes - s.mem.ckptBytes, ckptBytes := 0 } })) ∧
    (s.mem.plpOk = false → s.firmware = true → ∃ t, exec .plpReserveRebuilt s = .next t ∧ t.mem.plpOk = true) ∧
    (s.mem.plpOk = true → exec .plpReserveRebuilt s = .next s)

/-- The jobs of Dusk (R73, R274, R285, R407, R530; log entry 34 says where the model reads more than the rules): the first
job of the queue starts once what it needs holds, and leaves with 209 where it does not; a piece of work that ends takes its
job out of the queue, or for a commit is noted; a commit applies when every piece is done; a stop leaves the queue and moves
on. -/
def Obligations.DuskJobsComplete : Prop :=
  ∀ s : State,
    (s.runsIn .M9 = true →
      (∀ j q, runningJob s = none → s.day.abortTo = none → s.day.queue = j :: q → exec .duskJobStart s = .next (startJob j s)) ∧
      (s.day.queue = [] → exec .duskJobStart s = .next s) ∧
      (∀ d, s.day.abortTo = some d → d ≠ .M4 → ∃ t u, exec .duskJobStopped s = .next t ∧ t = startDrain d u ∧
        u.day.abortTo = none ∧ u.day.queue = s.day.queue.map (fun j => { j with running := false }) ∧
        u = { s with day := u.day, colls := u.colls, collsDisk := u.collsDisk }) ∧
      (s.day.abortTo = some .M4 → ∃ t, exec .duskJobStopped s = .next t ∧ t.mode = .M4) ∧
      (∀ n j, jobGet s n = some j → j.running = true →
        (j.kind = .repartition → exec (.repartitionJob n) s = .next (dropJob n (repartition s))) ∧
        (j.kind = .format → exec (.formatJob n) s = .next (dropJob n (relayStore s))) ∧
        (j.kind = .rebuild → exec (.rebuildJob n) s = .next (dropJob n (rebuildColl j.coll [] s))) ∧
        (j.kind = .commit → needsPartition j.set = true → exec (.repartitionJob n) s = .next (workDone j 0 s)) ∧
        (j.kind = .commit → needsFormat j.set = true → exec (.formatJob n) s = .next (workDone j 1 s)) ∧
        (j.kind = .commit → rebuilds j.set ≠ [] → exec (.rebuildJob n) s = .next (workDone j 2 s)) ∧
        (j.kind = .commit → atBoundary s = true → j.ready = true →
          exec (.duskCommitJob n) s = .next (applyDusk j (dropJob n s))))) ∧
    (s.mode ≠ .M9 → exec .duskJobStart s = .next s ∧ ∀ n, exec (.repartitionJob n) s = .next s ∧
      exec (.formatJob n) s = .next s ∧ exec (.rebuildJob n) s = .next s ∧ exec (.duskCommitJob n) s = .next s) ∧
    (∀ j, jobHolds j s = false → startJob j s = raise 0x24A [("job", .n j.num), ("status", .n 209)] (dropJob j.num s)) ∧
    (∀ j, jobHolds j s = true → j.kind = .format → startJob j s =
      updJob j.num (fun j => { j with running := true, parts := j.parts ||| 8 }) s) ∧
    (∀ n, (dropJob n s).day.queue = s.day.queue.filter fun j => j.num != n)

/-! ## The network (chapter 13) -/

/-- Ports and addresses (R299 to R306, R326). Where the port's link is up: a frame that fails its test is counted as an
error, one that finds no room as a drop, any other is taken; a PAUSE frame holds the transmitter for its quanta, and what is
sent meanwhile waits; a lease is
asked for, held, renewed and lost; a probe without conflict gives the port its address. A link that goes down holds its
sessions for NET.LINK_HOLD_S, one that comes up again lets them go on. -/
def Obligations.NetworkPortCommandsComplete : Prop :=
  ∀ (s : State) (p : Nat), p < 2 → netOn s = true →
    let x := s.port p
    (∀ f, x.link = true → f.uncorr = 0 → f.full = true → exec (.ethernetFrameReceived p f) s = .next (rxDrop p 1 s)) ∧
    (∀ f, x.link = true → f.uncorr = 0 → f.full = false → frameOk s p f = false →
      exec (.ethernetFrameReceived p f) s = .next (rxError p s)) ∧
    (∀ f, x.link = true → f.uncorr = 0 → f.full = false → frameOk s p f = true →
      exec (.ethernetFrameReceived p f) s = .next (takePacket p f.packet s)) ∧
    (∀ c, s.reg .NET_DKP_PORT ≠ 0 → serving s = true → (s.sess.any fun y => y.port == p && y.client == c) = false →
      takePacket p (.udp (s.reg .NET_DKP_PORT) c false) s = raiseCount 0x188 [] (s.incReg .NET_NOSESS_DROPS)) ∧
    (∀ q, x.link = true → x.holds = [] → exec (.pauseFrame p q) s = .next (flushPort (s.setPort p { x with
      pauseUntil := s.now + min q 65535 * quantumBeats s p / 100, pausedBeats := x.paused s.now
      holds := [(s.now, s.now + min q 65535 * quantumBeats s p / 100)] }) p)) ∧
    (∀ o, s.now < x.pauseUntil → portSend p o s = s.setPort p { x with txq := x.txq ++ [o] }) ∧
    (∀ o, x.pauseUntil ≤ s.now → portSend p o s = s.emit o) ∧
    (x.link = false → s.reg .NET_P_EN p = 1 → ∃ t, exec (.linkUp p) s = .next t ∧ (t.port p).link = true ∧
      (t.port p).holding = false ∧ ∀ y ∈ t.sess, y.port = p → y.held = false) ∧
    (x.link = true → s.reg .NET_LINK_HOLD_S ≠ 0 → ∃ t, exec (.linkDown p) s = .next t ∧ (t.port p).link = false ∧
      (t.port p).holding = true ∧ (∀ y ∈ t.sess, y.port = p → y.held = true) ∧ t.sess.length = s.sess.length) ∧
    (x.link = false → exec (.linkDown p) s = .next s) ∧
    (x.link = false → x.holding = true → exec (.linkHoldExpiry p) s = .next (closePort p (s.setPort p { x with holding := false }))) ∧
    (∀ m, x.link = true → m.v6 = false → s.reg .NET_P_V4_MODE p = 2 → x.v4.dhcp = .selecting → m.kind = 2 →
      exec (.dhcpMessage p m) s = .next (netSend p "dhcp4_request" [m.addr]
        (s.setPort p { x with v4 := { x.v4 with dhcp := .requesting } }))) ∧
    (∀ m, x.link = true → m.v6 = false → s.reg .NET_P_V4_MODE p = 2 → x.v4.dhcp = .renewing → m.kind = 5 →
      x.v4.now_ = m.addr → exec (.dhcpMessage p m) s = .next (s.setPort p { x with
        v4 := { x.v4 with leaseEnd := some (s.now + sec m.lease), dhcp := .bound }, gateway := m.router })) ∧
    (∀ m, x.link = true → m.v6 = false → s.reg .NET_P_V4_MODE p = 2 → x.v4.dhcp = .requesting → m.kind = 6 →
      exec (.dhcpMessage p m) s = .next (leaseOver p false 2 s)) ∧
    (x.v4.leaseEnd.isSome = true → x.v4.dhcp = .bound → exec (.dhcpTimer p false 1) s = .next (netSend p "dhcp4_request"
      [x.v4.now_] (s.setPort p { x with v4 := { x.v4 with dhcp := .renewing } }))) ∧
    (∀ v6, (x.addr v6).leaseEnd.isSome = true → exec (.dhcpTimer p v6 3) s = .next (leaseOver p v6 1 s)) ∧
    (∀ v6 a, x.link = true → (x.addr v6).probe = some a → (x.addr v6).dhcp = .init → exec (.addressProbeComplete p v6) s =
      .next (portEv p (if v6 then 5 else 3) [("addr", Val.ip v6 a)]
        (netSend p (if v6 then "unsolicited_na" else "gratuitous_arp") [a]
          (s.setPort p (x.setAddr v6 { x.addr v6 with now_ := a, probe := none }))))) ∧
    (x.link = true → x.v4.conflict = true → x.v6.conflict = false → s.reg .NET_P_V4_MODE p = 1 → s.reg .NET_P_V4_ADDR p ≠ 0 →
      exec (.addressConflictRetry p) s = .next (startProbe p false (s.reg .NET_P_V4_ADDR p) s)) ∧
    (x.link = true → x.v4.conflict = false → x.v6.conflict = false → exec (.addressConflictRetry p) s = .next s) ∧
    (∀ a, exec (.neighbourEntryAge p a) s = .next (s.setPort p { x with
      neigh := x.neigh.filter fun n => !(n.addr == a && n.used + sec 60 ≤ s.now) })) ∧
    (∀ i r, x.reasm.find? (·.ident == i) = some r → exec (.reassemblyTimeout p i) s =
      .next (rxDrop p r.frags (s.setPort p { x with reasm := x.reasm.filter (·.ident != i) }))) ∧
    (∀ i, x.reasm.find? (·.ident == i) = none → exec (.reassemblyTimeout p i) s = .next s) ∧
    (∀ r f a, x.link = true → s.reg .NET_P_V6_MODE p = 3 → exec (.routerAdvertisement p r f a) s =
      .next (s.setPort p { x with router := r })) ∧
    (∀ r f, x.link = true → s.reg .NET_P_V6_MODE p = 2 → x.prefix6 = none → exec (.routerAdvertisement p r f true) s =
      .next (startAddr p true (s.setPort p { x with router := r, prefix6 := some f })))

/-- Handshakes and the openings they lead to (R123, R309, R313 to R319): a hello without its cookie is sent one; with no token
left it is refused with EV 0x182; one that is judged has the profile of Table 13.3 judged in its order; a handshake that
completes opens a session or a command connection at the level of its credential; the rest end as their rules state. -/
def Obligations.HandshakeCommandsComplete : Prop :=
  ∀ s : State,
    (∀ h, netOn s = true → serving s = true → h.port < 2 → (s.port h.port).link = true → h.inside = none →
      (s.net.hs.find? fun x => x.svc == h.svc && x.port == h.port && x.client == h.client) = none →
      let new : Hs := ⟨s.net.nextHs, h.svc, h.port, h.client, h.v6, 0, none, 0, false⟩
      (h.svc = 0 → cookieOk s h = false → exec (.clientHello h) s =
        .next (netSend h.port "hello_retry_request" ([h.svc, h.client] ++ cookieOf s.net.cookieKey h) s)) ∧
      (h.svc = 0 → cookieOk s h = true → min s.net.tokens (s.reg .NET_HS_BURST) = 0 → exec (.clientHello h) s =
        .next (raise 0x182 [("port", .n h.port)] (hsAlert h.port h.svc h.client 80 s))) ∧
      (h.svc = 0 → cookieOk s h = true → min s.net.tokens (s.reg .NET_HS_BURST) ≠ 0 →
        s.sess.length + s.net.hs.length < 1024 → exec (.clientHello h) s = .next (judgeHello h new { s with net := { s.net with
          tokens := min s.net.tokens (s.reg .NET_HS_BURST) - 1, hs := s.net.hs ++ [new], nextHs := s.net.nextHs + 1 } }))) ∧
    (∀ h x, h.tls13 = false → judgeHello h x s = failProfile x 70 (dropHs x.num s)) ∧
    (∀ h x, h.tls13 = true → pickSuite s h.suites = none → judgeHello h x s = failProfile x 40 (dropHs x.num s)) ∧
    (∀ n p x, s.net.hs.find? (·.num == n) = some x → serving s = true → 0 < x.sent →
      exec (.handshakeComplete n p) s = .next (finishHandshake x p s)) ∧
    (∀ n p x, netOn s = true → serving s = true → (s.port 0).link = true → (s.net.hs.find? fun x => x.num == n && x.svc == 1) = some x →
      0 < x.sent → exec (.tlsConnectionOpen 0 n p) s = .next (finishHandshake x p s)) ∧
    (∀ n p, netOn s = true → serving s = true → (s.port 0).link = true → (s.net.hs.find? fun x => x.num == n && x.svc == 1) = none →
      4 ≤ s.line.tlsConns.length → exec (.tlsConnectionOpen 0 n p) s =
        .next (raise 0x3CE [] (netSend 0 "rst" [s.reg .NET_CMD_PORT] s))) ∧
    (∀ x p c slot, x.psk = some slot → p.finished = true → lowestCred ((matching s x p).filter fun c => c.serves x) = some c →
      finishHandshake x p s = if x.svc = 0 then openSession x c (dropHs x.num s) else openTls x c (dropHs x.num s)) ∧
    (∀ x p slot, x.psk = some slot → p.finished = false →
      finishHandshake x p s = failAuth x 51 ((lowestCred (matching s x p)).map (·.idx)) (dropHs x.num s)) ∧
    (∀ x c, (openSession x c s).sess.length = s.sess.length + 1 ∧ (openSession x c s).nextSess = s.nextSess + 1) ∧
    (∀ x c, (∀ r ∈ s.routes, r.route ≠ .dkp s.nextSess) → ((openSession x c s).route (.dkp s.nextSess)).level = c.level ∧
      ((openSession x c s).route (.dkp s.nextSess)).roles = c.roles) ∧
    (∀ x c, (openTls x c s).line.tlsConns = s.line.tlsConns ++ [s.line.nextConn]) ∧
    (∀ n x, s.net.hs.find? (·.num == n) = some x → exec (.handshakeTimeout n) s = .next (raise 0x184
      [("svc", svcVal x.svc), ("port", .n x.port), ("alert", .n 0)] (dropHs n s))) ∧
    (∀ n x, s.net.hs.find? (·.num == n) = some x → x.svc = 0 → 0 < x.sent → x.sent < 6 → exec (.flightRetransmit n) s =
      .next (netSend x.port "flight" [0, x.client] { s with net := { s.net with hs := s.net.hs.map fun y =>
        if y.num == n then { y with sent := y.sent + 1 } else y } })) ∧
    (∀ n x, s.net.hs.find? (·.num == n) = some x → 6 ≤ x.sent → exec (.flightRetransmit n) s = .next s) ∧
    exec .handshakeTokenRefill s = .next { s with net := { s.net with
      tokens := min (s.reg .NET_HS_BURST) (s.net.tokens + s.reg .NET_HS_RATE) } } ∧
    (∃ t, exec .cookieKeyRotate s = .next t ∧ t.net.cookiePrev = s.net.cookieKey ∧ t.freeCtr = s.freeCtr + 1 ∧
      t = { s with net := t.net, freeCtr := t.freeCtr }) ∧
    (∀ c, c ∈ s.line.tlsConns → ∃ t, exec (.tlsConnectionClose c) s = .next t ∧ c ∉ t.line.tlsConns ∧
      t.line.ringLock = s.line.ringLock) ∧
    (∀ c, c ∉ s.line.tlsConns → exec (.tlsConnectionClose c) s = .next s)

/-- Records and the end of sessions (R321 to R323): a record outside its epoch or its window is counted as a replay, one that
does not authenticate as a forgery, the last of 2^20 closing the session; a good one is taken; a record of no session is
counted; a session that stays idle closes with its reason. -/
def Obligations.RecordsAndSessionsComplete : Prop :=
  ∀ (s : State) (n : Nat) (r : DtlsRec),
    (r.early = true → netOn s = true → exec (.dtlsRecordReceived n r) s = .next (raiseCount 0x189 [] s)) ∧
    (r.early = false → s.session n = none → serving s = true →
      exec (.dtlsRecordReceived n r) s = .next (raiseCount 0x188 [] (s.incReg .NET_NOSESS_DROPS))) ∧
    (∀ x, r.early = false → s.session n = some x → x.held = false →
      (r.epoch ≠ x.epoch → exec (.dtlsRecordReceived n r) s = .next (s.incReg .NET_REPLAY_DROPS)) ∧
      (windowNew x r.num = false → exec (.dtlsRecordReceived n r) s = .next (s.incReg .NET_REPLAY_DROPS)) ∧
      (r.epoch = x.epoch → windowNew x r.num = true → r.authentic = false → x.forged + 1 < 2 ^ 20 →
        exec (.dtlsRecordReceived n r) s = .next ((s.incReg .NET_AUTH_DROPS).setSess { x with forged := x.forged + 1 })) ∧
      (r.epoch = x.epoch → windowNew x r.num = true → r.authentic = false → 2 ^ 20 ≤ x.forged + 1 →
        exec (.dtlsRecordReceived n r) s =
          .next (closeSession 6 n ((s.incReg .NET_AUTH_DROPS).setSess { x with forged := x.forged + 1 }))) ∧
      (r.epoch = x.epoch → windowNew x r.num = true → r.authentic = true →
        exec (.dtlsRecordReceived n r) s = .next (takeRecord x r s)) ∧
      (r.kind = .closeNotify → x.recvRecs + 1 < 2 ^ 23 → takeRecord x r s = closeSession 5 x.num
        (s.setSess { windowTake x r.num with recvRecs := x.recvRecs + 1, idleAt := s.now }))) ∧
    (∀ x k, windowNew x k = true → windowNew (windowTake x k) k = false) ∧
    (∀ x, s.session n = some x → x.idleAt + sec (s.reg .NET_IDLE_S) ≤ s.now →
      exec (.sessionIdleTimeout n) s = .next (closeSession 1 n s)) ∧
    (∀ x, s.session n = some x → s.now < x.idleAt + sec (s.reg .NET_IDLE_S) → exec (.sessionIdleTimeout n) s = .next s) ∧
    (∀ k, (closeSession k n s).session n = none) ∧
    (∀ k, s.session n = none → closeSession k n s = s)

/-! ## The DKP port (chapter 14) -/

/-- Segments, acknowledgements and their times (R330 to R337, R339): what is no segment is counted; the checks of the first
segment of a request decide in their order, and what passes them all holds a window entry, a token and its bytes; a request
in one segment runs at once; a cached response is sent again; an acknowledgement of the whole response ends it; a response
that is not acknowledged is sent again or given up with EV 0x194; a request that does not become whole is dropped with EV
0x190. -/
def Obligations.DkpSegmentCommandsComplete : Prop :=
  ∀ (s : State) (x : Sess), s.session x.num = some x → x.held = false →
    (∀ seg, undecodable seg = true → exec (.dkpSegmentReceived x.num seg) s = .next (rekeyCheck x.num (badSegment s))) ∧
    (∀ seg, undecodable seg = true → exec (.dkpAckReceived x.num seg) s = .next (badSegment s)) ∧
    (∀ seg, undecodable seg = false → bitAt (headerOf seg).flags 1 = false →
      (x.asm.find? fun a => a.id == (headerOf seg).id) = none → refusedLately x (headerOf seg) s = false →
      let h := headerOf seg
      let gives := fun (t : State) => exec (.dkpSegmentReceived x.num seg) s = .next (rekeyCheck x.num t)
      (headerBad seg = true → gives (refuseSegment x h 100 (detailOffset 0xFFFFFFFF) s)) ∧
      (headerBad seg = false → (h.op = 0 ∨ 13 < h.op) → gives (refuseSegment x h 101 [] s)) ∧
      (headerBad seg = false → 1 ≤ h.op → h.op ≤ 13 →
        (2359296 < h.len → gives (refuseSegment x h 105 [] s)) ∧
        (∀ c b, h.len ≤ 2359296 → (x.cache.find? fun c => c.id == h.id) = some c → (x.tx.find? fun t => t.id == h.id) = none →
          c.body = some b → gives (sendResponse x.num c.op fRESP c.id c.status b ((s.incReg .DKP_REPLAY_HITS).setSess
            { x with hits := x.hits + 1, refused := (h.id, s.now) :: x.refused.filter fun y => y.1 != h.id }))) ∧
        (h.len ≤ 2359296 → (x.cache.find? fun c => c.id == h.id) = none →
          ((x.admitted.any fun a => a.id == h.id) = true → gives (refuseSegment x h 204 (detailConflict 2 0) s)) ∧
          ((x.admitted.any fun a => a.id == h.id) = false →
            (∀ f, x.floor = some f → serialBelow h.id f = true →
              gives (refuseSegment x h 208 [] (raiseCount 0x193 [("sess", .n x.num)] (s.incReg .DKP_STALE_IDS)))) ∧
            (x.floor = none →
              (256 ≤ x.admitted.length → gives (busySegment x h 1 s)) ∧
              (x.admitted.length < 256 → 8388608 < sumNat (x.admitted.map (·.len)) + h.len → gives (busySegment x h 2 s)) ∧
              (x.admitted.length < 256 → sumNat (x.admitted.map (·.len)) + h.len ≤ 8388608 →
                (65536 ≤ s.reg .DKP_TOKENS → s.day.t < 16 → gives (busySegment x h 3 (raiseCount 0x192 [] s))) ∧
                (s.reg .DKP_TOKENS < 65536 → s.day.t < 16 → gives (enterRequest x h (seg.drop 20) s))))))) ) ∧
    (∀ h b, h.off = 0 → h.len = b.length →
      let y : Sess := { x with
        admitted := x.admitted ++ [{ id := h.id, op := h.op, len := h.len, reexec := false, body := [] }]
        asm := x.asm ++ [{ id := h.id, op := h.op, flags := h.plain, len := h.len, runs := [], sinceAck := 0, at_ := s.now }]
        total := x.total + 1, refused := x.refused.filter fun z => z.1 != h.id }
      enterRequest x h b s = runOp h.op ⟨x.num, h.id, b⟩ (((s.incReg .DKP_TOKENS).setSess y).setSess (y.dropAsm h.id))) ∧
    (∀ seg t, undecodable seg = false → bitAt (headerOf seg).flags 1 = true → 28 ≤ seg.length →
      (x.tx.find? fun t => t.id == (headerOf seg).id && t.op == (headerOf seg).op) = some t → t.sent = t.body.length →
      t.acked ≤ t.body.length → natAt seg 20 4 = t.body.length →
      exec (.dkpAckReceived x.num seg) s = .next (rekeyCheck x.num (s.setSess (x.dropTx t.id))) ∧
      exec (.dkpSegmentReceived x.num seg) s = .next (rekeyCheck x.num (s.setSess (x.dropTx t.id)))) ∧
    (∀ id t, (x.tx.find? fun t => t.id == id) = some t → t.stopped = false →
      (t.resends < s.reg .DKP_RETX_MAX → exec (.dkpResendTimeout x.num id) s = .next (rekeyCheck x.num
        (resendFrom x { t with resends := t.resends + 1 } t.acked 1 (s.setSess (x.putTx { t with resends := t.resends + 1 }))))) ∧
      (s.reg .DKP_RETX_MAX ≤ t.resends → exec (.dkpResendTimeout x.num id) s = .next (raise 0x194
        [("sess", .n x.num), ("id", .n id)]
        ((s.incReg .DKP_RETX_ABANDON).setSess (x.putTx { t with stopped := true }))))) ∧
    (∀ id, (x.tx.find? fun t => t.id == id) = none → exec (.dkpResendTimeout x.num id) s = .next s) ∧
    (∀ id, (x.asm.any fun a => a.id == id) = true → ∃ t u, exec (.dkpReassemblyTimeout x.num id) s = .next (raiseCount 0x190 [] t) ∧
      t = u.setReg .DKP_TOKENS (s.reg .DKP_TOKENS - 1) ∧
      u = (s.setSess { x.dropAsm id with admitted := x.admitted.filter fun a => a.id != id }).incReg .DKP_REASM_DROPS) ∧
    (∀ id, (x.asm.any fun a => a.id == id) = false → exec (.dkpReassemblyTimeout x.num id) s = .next s)

/-- The ops of an admitted request whose body is complete (R335, R340 to R353): a body in error answers 100 with the offset,
a mode that does not serve the op 200; otherwise the op does what its rules state, and its response has the status and body
that they give. -/
def Obligations.DkpOpsComplete : Prop :=
  ∀ (s : State) (q : DkpReq) (x : Sess), s.session q.sess = some x →
    let y : Sess := { x with admitted := x.admitted.map fun a => if a.id == q.id then { a with body := q.body } else a }
    let u := s.setSess y
    let b := q.body
    let holds := fun (op : Nat) => (x.admitted.any fun a => a.id == q.id && a.op == op) = true
    let reads := m4to9.any (· == s.mode) = true
    let writes := m4to7.any (· == s.mode) = true
    let n := byteAt b 2
    (∀ op form modes, holds op →
      (∀ off, form = .error off → dkpRun q op form modes s = respond q.sess q.id op 100 (detailOffset off) 0 u) ∧
      (∀ run, form = .ok run → modes.any (· == s.mode) = false →
        dkpRun q op form modes s = respond q.sess q.id op 200 (detailState s.mode.num (modesMask modes)) 0 u) ∧
      (∀ run, form = .ok run → modes.any (· == s.mode) = true → dkpRun q op form modes s = run y u)) ∧
    (holds 1 → reads → lengthError b (12 + n) = none →
      (∀ t r, getKey (byteAt b 0) (textAt b 12 n) x.roles u = (t, .error r) →
        exec (.dkpGet q) s = .next (respond q.sess q.id 1 r.code r.body 0 t)) ∧
      (∀ t e tag, getKey (byteAt b 0) (textAt b 12 n) x.roles u = (t, .ok (e, tag)) → cachedVer y q.id = none →
        (byteAt b 1 = 1 → exec (.dkpGet q) s = .next (respond q.sess q.id 1 0 (getBody e t.clk.tai tag []) e.ver t)) ∧
        (byteAt b 1 = 0 → natAt b 4 4 < e.val.length → natAt b 8 4 = 0xFFFFFFFF →
          exec (.dkpGet q) s = .next (respond q.sess q.id 1 0 (getBody e t.clk.tai tag (e.val.drop (natAt b 4 4))) e.ver t)) ∧
        (byteAt b 1 = 0 → e.val.length ≤ natAt b 4 4 →
          exec (.dkpGet q) s = .next (respond q.sess q.id 1 2 (getBody e t.clk.tai tag []) e.ver t)))) ∧
    (holds 2 → writes → 12 ≤ b.length → lengthError b (12 + n + natAt b 8 4) = none → exec (.dkpPut q) s =
      .next (dkpWrite q 2 (byteAt b 0)
        { SubOp.plain .put (textAt b 12 n) (b.drop (12 + n)) (ttlGiven (byteAt b 1) (natAt b 4 4)) (bitAt (byteAt b 1) 0) 0 with
          ttlAt := 4, keyAt := 2, valAt := 8 } putBody y u)) ∧
    (holds 3 → writes → lengthError b (4 + n) = none → exec (.dkpDelete q) s = .next (dkpWrite q 3 (byteAt b 0)
      { SubOp.plain .del (textAt b 4 n) [] none false 0 with keyAt := 2 } (fun w _ => leBytes 8 w.ver) y u)) ∧
    (holds 4 → writes → 20 ≤ b.length → lengthError b (20 + n + natAt b 16 4) = none → exec (.dkpCas q) s =
      .next (dkpWrite q 4 (byteAt b 0)
        { SubOp.plain (if bitAt (byteAt b 1) 0 then .casDel else .cas) (textAt b 20 n) (b.drop (20 + n))
            (ttlGiven (byteAt b 1) (natAt b 12 4)) false (natAt b 4 8) with
          ttlAt := 12, keyAt := 2, valAt := 16 } putBody y u)) ∧
    (∀ o, holds 7 → writes → vputForm b = .ok o → exec (.dkpVput q) s = .next (dkpWrite q 7 (byteAt b 0) o
      (fun w p => leBytes 8 w.ver ++ leBytes 8 w.loc ++ [p, 0, 0, 0]) y u)) ∧
    (holds 8 → writes → lengthError b (4 + n) = none → exec (.dkpVdel q) s = .next (dkpWrite q 8 (byteAt b 0)
      { SubOp.plain .vdel (textAt b 4 n) [] none false 0 with coll := byteAt b 1, keep := bitAt (byteAt b 3) 0, keyAt := 2 }
      (fun w _ => leBytes 8 w.ver ++ leBytes 8 w.loc) y u)) ∧
    (∀ op ns o body z v t, 
      (∀ i r, kvWrite ns (some z.roles) [o] v = (t, .error (i, r)) →
        dkpWrite q op ns o body z v = respond q.sess q.id op r.code r.body 0 t) ∧
      (∀ c, kvWrite ns (some z.roles) [o] v = (t, .ok c) → c.through = false → dkpWrite q op ns o body z v =
        respond q.sess q.id op 0 (body (c.wrote.headD ⟨0, 0⟩) (if c.pos ≤ t.kv.diskPos then 1 else 0)) 0 t) ∧
      (∀ c, kvWrite ns (some z.roles) [o] v = (t, .ok c) → c.through = true → t.kv.diskPos < c.pos → op ≠ 12 →
        dkpWrite q op ns o body z v = { t with kv := { t.kv with waits := t.kv.waits ++
          [{ pos := c.pos, route := .dkp q.sess, id := q.id, op := op, verb := "", sync := false, reply := ⟨0, []⟩,
             body := body (c.wrote.headD ⟨0, 0⟩) 1 }] } })) ∧
    (∀ subs, holds 6 → writes → 4 ≤ b.length → batchSubs b (byteAt b 1) 4 = .ok subs → 2 ≤ byteAt b 0 → 1 ≤ byteAt b 1 →
      byteAt b 1 ≤ 64 →
      (∀ t i r, kvWrite (byteAt b 0) (some x.roles) subs u = (t, .error (i, r)) →
        exec (.dkpBatch q) s = .next (respond q.sess q.id 6 r.code ([i, 0, 0, 0] ++ r.body) 0 t)) ∧
      (∀ t c, kvWrite (byteAt b 0) (some x.roles) subs u = (t, .ok c) → c.through = false → exec (.dkpBatch q) s =
        .next (respond q.sess q.id 6 0 ([byteAt b 1, 0, 0, 0] ++ c.wrote.flatMap fun w => leBytes 8 w.ver) 0 t))) ∧
    (holds 5 → reads → lengthError b (16 + byteAt b 2 + byteAt b 3) = none → byteAt b 0 ≠ 0 → 1 ≤ natAt b 4 2 →
      natAt b 4 2 ≤ 4096 → ∀ t z, scan (.dkp q.sess) x.roles (byteAt b 0) (textAt b 16 (byteAt b 2))
        (textAt b (16 + byteAt b 2) (byteAt b 3)) (natAt b 4 2) (bitAt (byteAt b 1) 0) (natAt b 8 8) 65536 u = (t, .ok z) →
      exec (.dkpScan q) s = .next (respond q.sess q.id 5 (if z.stop = 0 then 0 else 2) (scanBody (bitAt (byteAt b 1) 0) z) 0 t)) ∧
    (∀ l, holds 10 → reads → lengthError b 4 = none → statItems (byteAt b 0) (byteAt b 1) y u = .ok l →
      exec (.dkpStat q) s = .next (respond q.sess q.id 10 0 (leBytes 2 l.length ++ [0, 0, 0, 0, 0, 0] ++ itemBytes 1 l) 0 u)) ∧
    (holds 9 → (searchModes s).any (· == s.mode) = true → 20 ≤ b.length →
      (∀ t r, askQuery (searchAsk q x.roles) u = (t, some r) →
        exec (.dkpSearch q) s = .next (respond q.sess q.id 9 r.code r.body 0 t)) ∧
      (∀ t, askQuery (searchAsk q x.roles) u = (t, none) → exec (.dkpSearch q) s = .next t)) ∧
    (holds 11 → reads → lengthError b 16 = none → byteAt b 1 ≤ 3 → natAt b 2 2 ≤ 0x3FF → natAt b 4 2 ≤ 0x3FF →
      (byteAt b 0 = 1 → 1 ≤ natAt b 6 2 → natAt b 6 2 ≤ 2047 → exec (.eventsReadLog q) s = .next (respond q.sess q.id 11 0
        (let l := readLog u (byteAt b 1) (natAt b 2 2) (natAt b 4 2) (natAt b 8 8) (natAt b 6 2); eventsBody l.2 l.1) 0 u)) ∧
      (byteAt b 0 = 2 → exec (.eventsEnd q) s =
        .next (let v := endSub q.sess u; respond q.sess q.id 11 0 (eventsBody v.evt.nextSeq []) 0 v)) ∧
      (∀ z, byteAt b 0 = 0 → (endSub q.sess u).session q.sess = some z → exec (.eventsSubscribe q) s =
        .next (let v := raise 0x196 [("sess", .n q.sess), ("on", .n 1)] ((endSub q.sess u).setSess { z with
                 sub := some ⟨q.id, byteAt b 1, natAt b 2 2, natAt b 4 2, 0, 0, []⟩ })
               respond q.sess q.id 11 0 (eventsBody v.evt.nextSeq []) 0 v))) ∧
    (holds 12 → reads → (u.route (.dkp q.sess)).busy = none → exec (.dkpAdmin q) s = .next (consumeLine (.dkp q.sess)
      (plainLine b) (u.updRoute (.dkp q.sess) fun z => { z with admin := some q.id, lines := [] }))) ∧
    (∀ p, holds 12 → reads → (u.route (.dkp q.sess)).busy = some p → exec (.dkpAdmin q) s = .next (respond q.sess q.id 12 202
      (adminBody (s.reg .LINE_ADDR) [⟨202, [("pending", .w p)]⟩]) 0 u)) ∧
    (holds 13 → reads → byteAt b 0 = 0 → bitAt (byteAt b 1) 2 = false → b.length = 24 →
      let flags := byteAt b 1
      (∀ r, searchRefusal u x.roles (natAt b 2 2) false false (bitAt flags 0) = some r →
        exec (.dkpAssocSearch q) s = .next (respond q.sess q.id 13 r.code r.body 0 u)) ∧
      (searchRefusal u x.roles (natAt b 2 2) false false (bitAt flags 0) = none → exec (.dkpAssocSearch q) s =
        .next (runSearch ⟨.dkp q.sess, q.id, ""⟩ (leNat (b.drop 4)) (natAt b 2 2) false (bitAt flags 0) (bitAt flags 1) u))) ∧
    (holds 13 → reads → byteAt b 0 = 1 → b.length = 2 →
      exec (.dkpAssocStep q) s = .next (runStep ⟨.dkp q.sess, q.id, ""⟩ x.roles (byteAt b 1) u)) ∧
    (∀ t, holds 13 → reads → byteAt b 0 = 2 → b.length = 2 → closeCursor (.dkp q.sess) (byteAt b 1) u = (t, true) →
      exec (.dkpAssocClose q) s = .next (respond q.sess q.id 13 0 [] 0 t)) ∧
    (∀ t, holds 13 → m4to7and9.any (· == s.mode) = true → byteAt b 0 = 3 → bitAt (byteAt b 1) 0 = false → b.length = 56 →
      tableWrite x.roles n (natAt b 4 2) (natAt b 8 20) (natAt b 28 20) (natAt b 48 8) false (bitAt (byteAt b 1) 1) false 48 u =
        (t, none) → exec (.dkpAssocWrite q) s = .next (respond q.sess q.id 13 0 [] 0 t)) ∧
    (∀ p, x.sub = some p → p.queue ≠ [] → x.held = false → p.lost = 0 → exec (.eventPush q.sess) s = .next (sendSegs q.sess
      [segment 11 (fRESP + fPUSH) p.id 0 0
        (leBytes 4 (p.seq % 2 ^ 32) ++ leBytes 2 (sat 16 p.lost) ++ leBytes 2 (p.queue.take ((x.segBytes - 8) / 32)).length ++
          (p.queue.take ((x.segBytes - 8) / 32)).flatMap Record.bytes).length 0
        (leBytes 4 (p.seq % 2 ^ 32) ++ leBytes 2 (sat 16 p.lost) ++ leBytes 2 (p.queue.take ((x.segBytes - 8) / 32)).length ++
          (p.queue.take ((x.segBytes - 8) / 32)).flatMap Record.bytes)]
      (s.setSess { x with sub := some { p with seq := p.seq + 1, lost := 0, queue := p.queue.drop ((x.segBytes - 8) / 32) } }))) ∧
    ((x.sub = none ∨ x.held = true) → exec (.eventPush q.sess) s = .next s)

/-! ## Keys (chapter 15) -/

/-- A request's writes are kept whole or not at all (R343, R345, R367, R373): one that is refused leaves the keys, the
collections, the store position and what is dirty as they were; a plain write of a value takes the next store position, its
key then holds the value at its next version, and every other key stands. -/
def Obligations.AWriteIsKeptWholeOrNotAtAll : Prop :=
  ∀ (ns : Nat) (roles : Option Nat) (subs : List SubOp) (s t : State),
    (∀ e, kvWrite ns roles subs s = (t, .error e) → t.kv.keys = s.kv.keys ∧ t.colls = s.colls ∧ t.kv.pos = s.kv.pos ∧
      t.kv.dirty = s.kv.dirty ∧ t.kv.disk = s.kv.disk) ∧
    (∀ c o, subs = [o] → o.op = .put → kvWrite ns roles subs s = (t, .ok c) →
      t.kv.pos = s.kv.pos + 1 ∧ c.pos = s.kv.pos + 1 ∧ t.kv.diskPos = s.kv.diskPos ∧
      (∃ e, keyGet t.kv.keys ns o.key = some e ∧ e.val = o.val ∧
        e.ver = ((visible s ns o.key).elim 0 (·.ver)) + 1 ∧ e.pos = s.kv.pos + 1) ∧
      (∀ n k, (n, k) ≠ (ns, o.key) → keyGet t.kv.keys n k = keyGet s.kv.keys n k))

/-- The KV verbs and what time and the NAND do to the store (R342 to R345, R356, R360, R369, R370, R373, R375, R380, R381,
R384, R511): a read answers what the store holds, a write its version, at once or once it is programmed; an expired key is
removed; a snapshot ends; the oldest writes are programmed in their order and the replies that waited for them go out. -/
def Obligations.KeyCommandsComplete : Prop :=
  ∀ (l : Line) (s : State),
    (∀ u, u = noteLine vKvGet l s → passes vKvGet l s = true →
      (∀ t r, getKey (l.nat "ns") (l.text "key") (u.roles l.route) u = (t, .error r) →
        exec (.kvGet l) s = .next (reply l.route r.code r.kv t)) ∧
      (∀ t e tag, getKey (l.nat "ns") (l.text "key") (u.roles l.route) u = (t, .ok (e, tag)) → l.has "off" = false →
        l.has "len" = false → e.val ≠ [] → e.val.length ≤ 4096 → exec (.kvGet l) s = .next (reply l.route 0
          [("ver", .n e.ver), ("len", .n e.val.length), ("ttl", .n (e.ttlLeft t.clk.tai)), ("tag", .x 4 tag)]
          (more l.route (byteLines 0 e.val 43) t)))) ∧
    (∀ u, u = noteLine vKvScan l s → passes vKvScan l s = true → l.nat "ns" ≠ 0 →
      ∀ t x, scan l.route (u.roles l.route) (l.nat "ns") (l.text "start") (l.text "end") (l.nat "n" 16) true (l.nat "token")
        65536 u = (t, .ok x) → lineEntries (t.reg .LINE_ADDR) x.token x.entries = (x.entries.map (·.1), false) →
      exec (.kvScan l) s = .next (reply l.route (if x.stop = 0 then 0 else 2)
        [("stop", .n x.stop), ("last", .q (((x.entries.map (·.1)).getLast?.map (·.key)).getD [])), ("token", .x 16 x.token)]
        (more l.route ((x.entries.map (·.1)).map fun e => [("key", .q e.key), ("ver", .n e.ver), ("len", .n e.val.length)]) t))) ∧
    (passes vKvStat l s = true → l.nat "ns" ≠ 0 → exec (.kvStat l) s = .next (reply l.route 0
      [("keys", .n (nsCounts s (l.nat "ns")).1), ("bytes", .n (nsCounts s (l.nat "ns")).2.1),
       ("vectors", .n (nsCounts s (l.nat "ns")).2.2)] (noteLine vKvStat l s))) ∧
    (passes vKvPut l s = true →
      (l.has "val" = true → l.has "hex" = false → exec (.kvPut l) s = .next (lineWrite l "KV.PUT"
        (SubOp.plain .put (l.text "key") (l.text "val") (l.nat? "ttl") (l.flag "absent") 0) (noteLine vKvPut l s))) ∧
      (l.has "val" = false → l.has "hex" = true → exec (.kvPut l) s = .next (lineWrite l "KV.PUT"
        (SubOp.plain .put (l.text "key") (l.bytes "hex") (l.nat? "ttl") (l.flag "absent") 0) (noteLine vKvPut l s))) ∧
      (l.has "val" = false → l.has "hex" = false →
        exec (.kvPut l) s = .next (reply l.route 102 [("arg", .w "val")] (noteLine vKvPut l s))) ∧
      (l.has "val" = true → l.has "hex" = true →
        exec (.kvPut l) s = .next (reply l.route 102 [("arg", .w "hex")] (noteLine vKvPut l s)))) ∧
    (passes vKvCas l s = true →
      (l.has "val" = true → l.has "hex" = false → l.has "del" = false → exec (.kvCas l) s = .next (lineWrite l "KV.CAS"
        (SubOp.plain .cas (l.text "key") (l.text "val") (l.nat? "ttl") false (l.nat "ver")) (noteLine vKvCas l s))) ∧
      (l.has "val" = false → l.has "hex" = false → l.has "del" = true → exec (.kvCas l) s = .next (lineWrite l "KV.CAS"
        (SubOp.plain .casDel (l.text "key") [] (l.nat? "ttl") false (l.nat "ver")) (noteLine vKvCas l s)))) ∧
    (passes vKvDel l s = true → exec (.kvDel l) s = .next (lineWrite l "KV.DEL"
      (SubOp.plain .del (l.text "key") [] none false 0) (noteLine vKvDel l s))) ∧
    (∀ o u t i r, kvWrite (l.nat "ns") (some (u.roles l.route)) [o] u = (t, .error (i, r)) → ∀ verb,
      lineWrite l verb o u = reply l.route r.code r.kv t) ∧
    (∀ o u t c, kvWrite (l.nat "ns") (some (u.roles l.route)) [o] u = (t, .ok c) →
      let f := fun (p : Nat) => [("ver", Val.n ((c.wrote.map (·.ver)).headD 0)), ("persisted", .n p)]
      (c.through = false → lineWrite l "KV.PUT" o u = reply l.route 0 (f (if c.pos ≤ t.kv.diskPos then 1 else 0)) t) ∧
      (c.through = true → t.kv.diskPos < c.pos → lineWrite l "KV.PUT" o u = setBusy l.route "KV.PUT"
        { t with kv := { t.kv with waits := t.kv.waits ++ [⟨c.pos, l.route, 0, 0x0C, "KV.PUT", false, ⟨0, f 1⟩, []⟩] } })) ∧
    (∀ u, u = noteLine vKvSync l s → passes vKvSync l s = true →
      (u.kv.pos ≤ u.kv.diskPos → exec (.kvSync l) s = .next (reply l.route 0 [("pos", .n u.kv.diskPos)] u)) ∧
      (u.kv.diskPos < u.kv.pos → exec (.kvSync l) s = .next (setBusy l.route "KV.SYNC" { u with kv := { u.kv with
        waits := u.kv.waits ++ [⟨u.kv.pos, l.route, 0, 0x0C, "KV.SYNC", true, ⟨0, []⟩, []⟩] } }))) ∧
    (passes (vKvNs l) l s = true → l.nat "ns" ≠ 0 → l.args.length = 1 → exec (.kvNs l) s = .next (reply l.route 0
      [("act", .x 16 (nsWord l (nsAction s (l.nat "ns")))), ("wt", .n (givenOr l "wt" (s.reg .KV_NS_ATTR (l.nat "ns"))))]
      (noteLine (vKvNs l) l s))) ∧
    (∀ u, passes (vKvNs l) l s = true → l.nat "ns" ≠ 0 → 1 < l.args.length →
      let ns := l.nat "ns"
      let w := nsWord l (nsAction s ns)
      let wt := givenOr l "wt" (s.reg .KV_NS_ATTR ns)
      ns0Write [⟨.KV_NS_ACT_LO, ns, w % 2 ^ 32⟩, ⟨.KV_NS_ACT_HI, ns, w / 2 ^ 32⟩, ⟨.KV_NS_ATTR, ns, wt⟩] (noteLine (vKvNs l) l s) =
        (u, none) → w ≠ nsAction s ns → exec (.kvNs l) s = .next (reply l.route 0 [("act", .x 16 w), ("wt", .n wt)]
          (raise 0x250 [("ns", .n ns), ("by", .c l.route.byte (routeWord l.route))]
            (((u.setReg .KV_NS_ACT_LO (w % 2 ^ 32) ns).setReg .KV_NS_ACT_HI (w / 2 ^ 32) ns).setReg .KV_NS_ATTR wt ns)))) ∧
    (∀ ns key e, s.inService = true → keyGet s.kv.keys ns key = some e → e.expired s.clk.tai = true → e.vec = none →
      exec (.keyExpiryRemoval ns key) s = .next ((commitStore [.del ns key] (key.length + 48)
        { s with kv := { s.kv with keys := keyDel s.kv.keys ns key } }).incReg .KV_EXPIRED)) ∧
    (∀ ns key e, keyGet s.kv.keys ns key = some e → e.expired s.clk.tai = false → exec (.keyExpiryRemoval ns key) s = .next s) ∧
    (∀ token, (s.kv.snaps.any fun x => x.token == token && x.used + sec (s.reg .KV_SNAP_S) ≤ s.now) = true →
      exec (.snapshotEnd token false) s = .next (endSnap token 1 s)) ∧
    (∀ token, (s.kv.snaps.any fun x => x.token == token && x.used + sec (s.reg .KV_SNAP_S) ≤ s.now) = false →
      exec (.snapshotEnd token false) s = .next s) ∧
    (∀ token x xs, s.kv.snaps = x :: xs → s.mem.freePermille < s.reg .GOV_GC_LO_PCT * 10 →
      exec (.snapshotEnd token true) s = .next (endSnap x.token 4 s)) ∧
    (∀ token reason, ∃ u, endSnap token reason s = raise 0x256 u
      { s with kv := { s.kv with snaps := s.kv.snaps.filter fun x => x.token != token } }) ∧
    (∀ n, nCh s ≠ 0 → (s.firmware = true ∨ s.pwr.failing = true) → ∃ u, exec (.dirtyDataProgrammed n) s = .next (answerWaits u) ∧ u.kv.dirty = s.kv.dirty.drop n ∧
      u.kv.keys = s.kv.keys ∧ u.kv.pos = s.kv.pos ∧ u.kv.waits = s.kv.waits ∧
      (∀ w, (s.kv.dirty.take n).getLast? = some w → u.kv.diskPos = w.pos)) ∧
    (∀ moved free, s.firmware = true → exec (.garbageCollection moved free) s = .next (noteFree free (noteWaf 0 moved s))) ∧
    (∀ free, free < 10 → s.day.gcHeld = false → noteFree free s = raise 0x3F5 [("free", .n (free / 10))]
      { s with day := { s.day with gcHeld := true }, mem := { s.mem with freePermille := free } }) ∧
    (∀ free, 10 ≤ free → s.reg .GOV_GC_LO_PCT * 10 ≤ free → noteFree free s =
      { s with day := { s.day with gcHeld := false }, mem := { s.mem with freePermille := free } })

/-! ## Collections (chapter 16) -/

/-- The COLL and MAINT verbs, merges and reloads (R84, R293, R385 to R388, R402 to R408, R411, R512): a collection is created
where its number and name are free and the resources of R386 suffice, is dropping at once when it is dropped and gone when
its last vector is; a merge is queued, starts where there is work, builds its next chunk; an offline collection is reloaded
and is online again where none of its chunks failed. -/
def Obligations.CollectionCommandsComplete : Prop :=
  ∀ (l : Line) (s : State),
    (∀ u, passes vCollCreate l s = true → (s.colls.any fun c => (c.num : Int) == (l.int? "coll").getD 0) = false →
      (s.colls.any fun c => c.name == l.text "name") = false → createRange l = none →
      collShort s.colls (newColl l) (noteLine vCollCreate l s) = none → ns0Record (noteLine vCollCreate l s) = (u, none) →
      exec (.collCreate l) s = .next (collEvent (newColl l) 1 (reply l.route 0
        [("coll", .n (newColl l).num), ("name", .q (newColl l).name)]
        { u with colls := collPut u.colls (newColl l), collsDisk := collPut u.collsDisk (newColl l) }))) ∧
    (passes vCollCreate l s = true → (s.colls.any fun c => (c.num : Int) == (l.int? "coll").getD 0) = true →
      exec (.collCreate l) s = .next (reply l.route 204 [("arg", .w "coll")] (noteLine vCollCreate l s))) ∧
    (∀ code w, passes vCollCreate l s = true → (s.colls.any fun c => (c.num : Int) == (l.int? "coll").getD 0) = false →
      (s.colls.any fun c => c.name == l.text "name") = false → createRange l = none →
      collShort s.colls (newColl l) (noteLine vCollCreate l s) = some (code, w) →
      exec (.collCreate l) s = .next (reply l.route 209 [("res", .w w)] (noteLine vCollCreate l s))) ∧
    (∀ c u, passes (vColl "COLL.DROP" 2 true [collArg]) l s = true → namedColl (l.text "coll") s = some c →
      ns0Record (noteLine (vColl "COLL.DROP" 2 true [collArg]) l s) = (u, none) → s.sweep.recallJob = none → s.sweep.watches = [] →
      u.sweep = s.sweep → ∃ t, exec (.collDrop l) s = .next t ∧ t = reply l.route 1 []
        (u.bothColls c.num fun c => { c with state := 4, merge := none, queued := false, reloading := false })) ∧
    (∀ n c, s.coll n = some c → c.state = 4 → ∃ u, exec (.collDropComplete n) s = .next (collEvent c 2 u) ∧
      (∀ x ∈ u.colls, x.num ≠ n) ∧ (∀ x ∈ u.collsDisk, x.num ≠ n) ∧ (∀ e ∈ u.kv.keys, ∀ i, e.vec ≠ some (n, i)) ∧
      u.kv.keys.length = s.kv.keys.length ∧ u = { s with kv := u.kv, colls := u.colls, collsDisk := u.collsDisk, sweep := u.sweep }) ∧
    (∀ n c, s.coll n = some c → c.state ≠ 4 → exec (.collDropComplete n) s = .next s) ∧
    (∀ c u, passes (vColl "COLL.SET" 2 true [collArg, ⟨"max_chunks", true, .num 1 1536⟩]) l s = true →
      namedColl (l.text "coll") s = some c → c.chunks.length ≤ l.nat "max_chunks" → 1 ≤ l.nat "max_chunks" →
      l.nat "max_chunks" ≤ c.maxChunks → l.nat "max_chunks" ≤ 1536 →
      ns0Record (noteLine (vColl "COLL.SET" 2 true [collArg, ⟨"max_chunks", true, .num 1 1536⟩]) l s) = (u, none) →
      exec (.collSet l) s = .next (reply l.route 0 [("max_chunks", .n (l.nat "max_chunks"))]
        (u.bothColls c.num fun c => { c with maxChunks := l.nat "max_chunks" }))) ∧
    (∀ c, passes (vColl "COLL.SHOW" 0 false [collArg]) l s = true → namedColl (l.text "coll") s = some c →
      exec (.collShow l) s = .next (reply l.route 0 [("state", collStateVal c), ("chunks", .n c.chunks.length), ("gen", .n c.gen),
          ("main", .n c.main), ("side", .n c.side.length), ("pub_seq", .n c.pub), ("merge_chunk", .x 8 c.mergeChunk)]
        (reply l.route 4 [("coll", .n c.num), ("name", .q c.name), ("fmt", .w (fmtName c.fmt)), ("w", .n c.w),
          ("tagged", .n c.tagged.toNat), ("src", .w (if c.client then "client" else "device")), ("ns", .n c.ns), ("d", .n c.d),
          ("seed", .x 16 c.seed), ("max_chunks", .n c.maxChunks)] (noteLine (vColl "COLL.SHOW" 0 false [collArg]) l s)))) ∧
    (passes (vColl "COLL.SHOW" 0 false [collArg]) l s = true → namedColl (l.text "coll") s = none →
      exec (.collShow l) s = .next (reply l.route 205 [] (noteLine (vColl "COLL.SHOW" 0 false [collArg]) l s))) ∧
    (passes (vColl "COLL.LIST" 0 false []) l s = true → exec (.collList l) s = .next (reply l.route 0 [] (more l.route
      (s.colls.map fun c => [("coll", .n c.num), ("name", .q c.name), ("state", collStateVal c)])
      (noteLine (vColl "COLL.LIST" 0 false []) l s)))) ∧
    (∀ c, passes (vColl "MAINT.MERGE" 1 true [collArg]) l s = true → namedColl (l.text "coll") s = some c →
      let u := noteLine (vColl "MAINT.MERGE" 1 true [collArg]) l s
      (c.state = 1 → c.merge = none → c.queued = false → c.side ≠ [] →
        exec (.maintMerge l) s = .next (reply l.route 1 [] (u.setColl { c with queued := true }))) ∧
      (c.state = 1 → c.merge = none → c.queued = false → c.side = [] →
        exec (.maintMerge l) s = .next (reply l.route 0 [("gen", .n c.gen)] u)) ∧
      (c.state ≠ 1 → exec (.maintMerge l) s = .next (reply l.route 204 [("state", collStateVal c)] u))) ∧
    (∀ n, mayMerge s = true → (s.coll n).any (·.queued) = true → exec (.mergeStart n) s = .next (startMerge n s)) ∧
    (∀ n c, s.coll n = some c → c.state = 1 → c.merge = none → 1 < c.pub → c.pub ≤ 2 ^ 32 → c.mergeChunks (c.pub - 1) ≠ [] →
      startMerge n s = takeSpare n ⟨nextSide c.gen, c.pub - 1, c.mergeChunks (c.pub - 1), [], 0,
          (c.mergeChunks (c.pub - 1)).length, true, false⟩
        (collEvent c 3 (s.bothColls n fun d => { d with state := 2, queued := false, merge := some ⟨nextSide c.gen, c.pub - 1, c.mergeChunks (c.pub - 1), [], 0, (c.mergeChunks (c.pub - 1)).length, true, false⟩ }))) ∧
    (∀ n c m j js, s.coll n = some c → c.merge = some m → m.chosen = j :: js → c.state = 2 → m.stopped = false →
      m.waiting = false → m.built = [] → nCh s ≠ 0 → s.pwr.failing = false → s.inService = true → exec (.chunkProgrammed n) s =
        .next ((noteWaf 0 67108864 (persistAll s)).bothColls n fun d =>
          { d with merge := some { m with chosen := js, built := [c.buildChunk m.g m.m j] } })) ∧
    (∀ n c, s.coll n = some c → c.merge = none → exec (.chunkProgrammed n) s = .next s) ∧
    (∀ c, passes (vColl "MAINT.RELOAD" 1 true [collArg]) l s = true → namedColl (l.text "coll") s = some c → c.state = 0 →
      exec (.maintReload l) s = .next (reply l.route 1 []
        ((noteLine (vColl "MAINT.RELOAD" 1 true [collArg]) l s).setColl { c with reloading := true }))) ∧
    (∀ n c failed, s.coll n = some c → c.state = 0 → c.reloading = true → s.inService = true →
      let mine := failed.filter fun x => x.coll == n && c.chunks.any fun k => k.num == x.chunk
      let u := s.bothColls n fun c => Coll.queueFull { c with
        state := if mine.isEmpty then 1 else 0, reloading := false
        chunks := c.chunks.map fun k => { k with loaded := !(mine.any fun x => x.chunk == k.num) } }
      (∀ x xs, mine = x :: xs →
        exec (.collectionReloadComplete n failed) s = .next (raise 0x244 [("coll", .n n), ("code", .n x.code)] u)) ∧
      (mine = [] →
        exec (.collectionReloadComplete n failed) s = .next (raise 0x243 [("coll", .n n), ("chunks", .n c.chunks.length)] u))) ∧
    (∀ c, passes vMaintRebuild l s = true → namedColl (l.text "coll") s = some c → exec (.maintRebuild l) s =
      .next (let u := queueJob .rebuild c.num [] (noteLine vMaintRebuild l s); reply l.route 1 [("job", .n u.2)] u.1)) ∧
    (passes (vColl "MAINT.JOBS" 0 false []) l s = true → exec (.maintJobs l) s = .next (reply l.route 0 [] (more l.route
      (s.day.queue.map fun j => [("job", Val.n j.num), ("kind", .w (jobKindName j.kind)),
        ("state", .w (if j.running then "running" else "queued")), ("ms", .n s.free)])
      (noteLine (vColl "MAINT.JOBS" 0 false []) l s))).tick) ∧
    (∀ util c, util < s.reg .GOV_MERGE_IDLE_PCT → 100 ≤ s.day.idleTicks → bitAt (s.reg .GOV_PIN) 1 = false → s.mode = .M5 →
      mayMerge s = true → (s.colls.any (·.queued)) = false → fullest (s.reg .GOV_MERGE_MIN_FILL_PCT) s.colls = some c →
      (((startMerge c.num s).coll c.num).bind (·.merge)).isSome = true →
      exec (.idleMergeCheck util) s = .next (raise 0x3F3 [("coll", .n c.num), ("fill", .n c.fill)] (startMerge c.num s))) ∧
    (∀ util, s.reg .GOV_MERGE_IDLE_PCT ≤ util → exec (.idleMergeCheck util) s = .next s)

/-! ## Search (chapter 17) -/

/-- Batches, the re-rank, watches, recall jobs and the SRCH verbs (R83, R400, R401, R412 to R445, R512): a forming batch becomes
ready; at a boundary every collection publishes what it holds, the chunk switches take effect and the first ready batch
starts; at the end of the pass its queries go to the re-rank with their candidates; a query whose last candidate is ranked is
answered in the order of R347; a watch's run that finds nothing within its threshold raises its event; a recall job answers
the share that it counted. -/
def Obligations.SearchCommandsComplete : Prop :=
  ∀ (l : Line) (s : State),
    (∀ n exact, exec (.batchReady n exact) s =
      .next (nextExact { s with sweep := { s.sweep with forming := makeReady n exact s.now s.sweep.forming } })) ∧
    (s.sweep.exact.isSome = true → nextExact s = s) ∧
    (∀ n f fs, f.coll = n → f.exact = false → f.ready = false → f.openedAt + us f.w ≤ s.now →
      makeReady n false s.now (f :: fs) = { f with ready := true, readyAt := s.now } :: fs) ∧
    (∀ f c, s.sweep.running = none → firstReady false s.sweep.forming = some f → 8 ≤ lanesNow s → s.inService = true →
      runnable (boundary s) f.coll = some c → (boundary s).sweep.forming = s.sweep.forming →
      exec .batchBoundary s = .next (nextExact (beginBatch c f (takeForming f (boundary s))))) ∧
    (∀ c f, ∃ b, (beginBatch c f s).sweep.running = some b ∧ b.num = s.sweep.batchNum ∧ b.coll = c.num ∧ b.pub = c.pub ∧
      b.queries = f.queries ∧ b.lanes = lanesNow s ∧ (beginBatch c f s).sweep.batchNum = (s.sweep.batchNum + 1) % 2 ^ 32 ∧
      (beginBatch c f s).reg .SWEEP_BATCH_NUM = s.sweep.batchNum ∧ (beginBatch c f s).reg .SWEEP_LAST_N = f.queries.length) ∧
    ((s.sweep.running.isSome = true ∨ firstReady false s.sweep.forming = none) → exec .batchBoundary s = .next s) ∧
    (s.sweep.running = none → s.inService = true → exec .idleBoundary s = .next (nextExact (boundary s))) ∧
    (s.colls = [] → s.collsDisk = [] → ∀ w u, s.sweep.nextWindow = some w →
      u = { s.setReg .GOV_WINDOW_US w with sweep := { s.sweep with nextWindow := none } } →
      (w = s.reg .GOV_WINDOW_US → boundary s = u) ∧
      (w ≠ s.reg .GOV_WINDOW_US → boundary s = raiseLimited 0x3F2 (ms 100) (fun _ => [("w", .n w)]) u)) ∧
    (s.sweep.running = none → exec .sweepPassEnd s = .next s) ∧
    (∀ b, s.sweep.running = some b → s.mem.ue = [] → ∃ u, exec .sweepPassEnd s = .next (b.queries.foldl (fun s q =>
        toRerank b (match s.coll b.coll with | some c => c.tagged | none => false) q s) u) ∧
      u = { s.setReg .SWEEP_LAST_PASS_US (sat 32 ((s.now - b.startAt) / us 1)) with sweep := { s.sweep with running := none } }) ∧
    (∀ walk l x, longestReady walk l = some x → x ∈ l ∧ x.ready = true ∧ x.walk = walk ∧
      ∀ y ∈ l, y.ready = true → y.walk = walk → x.since.getD 0 ≤ y.since.getD 0) ∧
    (∀ beat l w r, longestReady true l = some w → longestReady false l = some r →
      issuing beat l = some (if beat % 2 = 0 then w else r)) ∧
    (∀ q r loc, rerankOf s q = some r → fetching q loc s = true → exec (.rerankFetchComplete ⟨q, loc⟩) s =
      .next (fetchCandidate { r with cands := r.cands.filter (· != loc) } loc (freeCtx q loc s))) ∧
    (∀ q loc, fetching q loc s = false → exec (.rerankFetchComplete ⟨q, loc⟩) s = .next s) ∧
    (∀ q, rerankOf s q = none → (∀ loc, exec (.rerankFetchComplete ⟨q, loc⟩) s = .next s) ∧ exec (.queryComplete q) s = .next s) ∧
    (∀ r loc, s.coll r.q.coll = none → fetchCandidate r loc s =
      (s.setRerank (putRerank r.q.num (some { r with dropped := r.dropped + 1 }) s.sweep.rerank)).incReg .RRK_DROPPED_DEL) ∧
    (∀ q r n id, rerankOf s q = some r → r.cands = [] → r.q.asker = .dkp n id → r.degraded = false →
      let float := distKind s r.q
      exec (.queryComplete q) s = .next (respond n id 9 0 (resultBody float r.q.keys
        ⟨0, (sortHits float r.hits).take r.q.k, r.dropped, r.replaced, r.batch⟩) 0
        (s.setRerank (putRerank q none s.sweep.rerank)))) ∧
    (∀ float hits, (sortHits float hits).length = hits.length ∧ (∀ h, h ∈ sortHits float hits ↔ h ∈ hits)) ∧
    (∀ b, s.sweep.exact = some b → engineHeld s = false → s.coll b.coll = none → exec .exactBatchComplete s =
      .next (nextExact (failBatch b.queries { s with sweep := { s.sweep with exact := none } }))) ∧
    (∀ b c, s.sweep.exact = some b → engineHeld s = false → s.coll b.coll = some c → c.slots = [] →
      exec .exactBatchComplete s = .next (nextExact ((b.queries.map fun q =>
        (⟨q, b.num, b.pub, [], [], 0, 0, b.degraded⟩ : Rerank)).foldl (fun s r =>
          answerQuery r.q (distKind s r.q) (resultOf (distKind s r.q) r) s)
        { s with sweep := { s.sweep with exact := none } }))) ∧
    (s.sweep.exact = none → exec .exactBatchComplete s = .next s) ∧
    ((s.sweep.ctxs.any fun c => c.since.isSome) = false →
      exec .walkCtxDrainComplete s = .next { s with day := { s.day with commits := markDrained s.day.commits } }) ∧
    ((s.sweep.ctxs.any fun c => c.since.isSome) = true → exec .walkCtxDrainComplete s = .next s) ∧
    (∀ n w, watchGet s n = some w → watchesRun s = true → w.running = true →
      exec (.watchPeriod n) s = .next (s.setWatch { w with skips := sat 16 (w.skips + 1) })) ∧
    (∀ n w, watchGet s n = some w → watchesRun s = true → w.running = false → exec (.watchPeriod n) s = .next (runWatch w s)) ∧
    (∀ w, s.liveColl w.coll = none → runWatch w s = raise (0x320 + w.n) [("reason", .c 4 "collection")]
      (s.setWatch { w with running := false, reason := 4 })) ∧
    (∀ n w r, watchGet s n = some w → (s.sweep.rerank.find? fun r => r.q.asker == .watch n) = some r → r.cands = [] →
      let u := s.setRerank (putRerank r.q.num none s.sweep.rerank)
      let float := distKind s r.q
      let w' : Watch := { w with running := false, runs := sat 32 (w.runs + 1), last := nearest float r.hits, degraded := r.degraded }
      (r.degraded = true → exec (.watchRunComplete n) s = .next (raiseCount 0x312 [] ((u.setWatch w').incReg .SWEEP_DEGRADED))) ∧
      (r.degraded = false → s.mode = .M8 → exec (.watchRunComplete n) s = .next (u.setWatch w')) ∧
      (r.degraded = false → s.mode ≠ .M8 → beyond float r.hits w.thr = true → exec (.watchRunComplete n) s = .next
        (raiseNovelty w.n (novelFields float r.hits w.thr s.free) (u.setWatch { w' with novel := true })).tick) ∧
      (r.degraded = false → s.mode ≠ .M8 → beyond float r.hits w.thr = false → w.novel = false →
        exec (.watchRunComplete n) s = .next (clearNoveltyOver w.n 1 (u.setWatch w')))) ∧
    (∀ c t body v, passes (vSrch s "SRCH.NEAR" 0 false
        [collArg, nsArg, keyArg, ⟨"k", true, .num 1 16⟩, metricArg, ⟨"c", false, bigInt⟩]) l s = true →
      let u := noteLine (vSrch s "SRCH.NEAR" 0 false
        [collArg, nsArg, keyArg, ⟨"k", true, .num 1 16⟩, metricArg, ⟨"c", false, bigInt⟩]) l s
      namedColl (l.text "coll") u = some c → metricOk c.fmt (metricOf l) false = true →
      (∃ w, readTest (l.nat "ns") (l.text "key") (u.roles l.route) u = (t, .ok w)) →
      vectorOf c (l.nat "ns") (l.text "key") t = (v, .ok body) → l.has "c" = false →
      let a : Ask := ⟨.line l.route, c.num, false, none, none, metricOf l, l.nat "k", 0, none, none, false, true, body,
        some (v.roles l.route), none⟩
      (∀ z r, askQuery a v = (z, some r) → exec (.srchNear l) s = .next (reply l.route r.code r.kv z)) ∧
      (∀ z, askQuery a v = (z, none) → exec (.srchNear l) s = .next (setBusy l.route "SRCH.NEAR" z))) ∧
    (∀ c u, passes (vSrchWatch s) l s = true → namedColl (l.text "coll") s = some c → F.isNaN (floatArg l "thr") = false →
      metricOk c.fmt (metricOf l) false = true → ns0Record (noteLine (vSrchWatch s) l s) = (u, none) →
      exec (.srchWatch l) s = .next (defineWatch (watchFrom l c false) (reply l.route 0
        [("n", .n (l.nat "n")), ("replaced", .n (watchGet u (l.nat "n")).isSome.toNat)] u))) ∧
    (∀ w, watchGet s w.n = none → defineWatch w s =
      runWatch { w with novel := false } (raise (0x328 + w.n) [("what", .c 1 "defined")]
        ((dropAskers (fun a => a == .watch w.n) s).setWatch { w with novel := false }))) ∧
    (∀ w u, passes (vSrch s "SRCH.UNWATCH" 1 true [⟨"n", true, .num 0 7⟩]) l s = true → watchGet s (l.nat "n") = some w →
      ns0Record (noteLine (vSrch s "SRCH.UNWATCH" 1 true [⟨"n", true, .num 0 7⟩]) l s) = (u, none) →
      exec (.srchUnwatch l) s = .next (removeWatch w.n (reply l.route 0 [("n", .n w.n)] u))) ∧
    (∀ n w, watchGet s n = some w → watchGet (removeWatch n s) n = none) ∧
    (passes (vSrch s "SRCH.WATCHES" 0 false []) l s = true → exec (.srchWatches l) s = .next (reply l.route 0 []
      (more l.route (s.sweep.watches.map (watchLine (s.reg .LINE_ADDR))) (noteLine (vSrch s "SRCH.WATCHES" 0 false []) l s)))) ∧
    (∀ v c u, v = vSrch s "SRCH.RECALL" 1 true [collArg, ⟨"n", true, .num 1 256⟩, ⟨"k", true, .num 1 1024⟩,
        ⟨"c", true, .num 0 2048⟩, metricArg, ⟨"seed", false, .num 0 18446744073709551615⟩] → passes v l s = true →
      namedColl (l.text "coll") s = some c → u = noteLine v l s →
      (∀ j, s.sweep.recallJob = some j → exec (.srchRecall l) s = .next (reply l.route 204 [("job", .n j.num)] u)) ∧
      (s.sweep.recallJob = none → c.state ≠ 3 → metricOk c.fmt (metricOf l) false = true →
        (l.nat "c" = 0 ∨ l.nat "k" ≤ l.nat "c") → l.nat "n" + 1 ≤ (c.slots.filter (·.live)).length →
        exec (.srchRecall l) s = .next (startRecall c (l.nat "n") (l.nat "k") (l.nat "c") (metricOf l) (l.nat "seed")
          (reply l.route 1 [("job", .n s.sweep.nextRecall)] u)))) ∧
    (∀ j, s.sweep.recallJob = some j → j.n ≤ j.a.length → j.n ≤ j.x.length →
      let float := match s.coll j.coll with | some c => floatDist c.fmt j.metric false | none => false
      let n := recallCount float j
      n.2 ≠ 0 → ∃ u, exec .recallJobComplete s = .next (raise 0x314
          [("job", .n j.num), ("recall", .n (n.1 * 1000000 / n.2)), ("n", .n j.n)] u) ∧
        u.reg .SWEEP_RECALL_PPM = n.1 * 1000000 / n.2 ∧ u.sweep.recallJob = none ∧
        (∃ x ∈ u.sweep.results, x.job = j.num ∧ x.ppm = n.1 * 1000000 / n.2 ∧ x.n = j.n ∧ x.hits = n.1)) ∧
    (s.sweep.recallJob = none → exec .recallJobComplete s = .next s) ∧
    (∀ x, passes (vSrch s "SRCH.RESULT" 0 false [⟨"job", true, .num 0 65535⟩]) l s = true →
      (s.sweep.results.find? fun x => x.job == l.nat "job") = some x → exec (.srchResult l) s = .next (reply l.route 0
        [("recall", .n x.ppm), ("n", .n x.n), ("hits", .n x.hits), ("deg_a", .n x.degA), ("deg_x", .n x.degX)]
        (noteLine (vSrch s "SRCH.RESULT" 0 false [⟨"job", true, .num 0 65535⟩]) l s)))

/-! ## The associative array and the cascade (chapters 18 and 19) -/

/-- The associative array (R36, R349, R446 to R479, R513): a search answers its confirmed winner, here or by the cascade; a
cursor steps, closes and times out; a table write sets the entry in the shadow and in the array; the policy banks flip at
once; a bank that goes off loses its entries; the scrub and the reload bring the array back to its shadow; a slot of the
rotation carries this member's frame or takes part in another's. -/
def Obligations.AssociativeCommandsComplete : Prop :=
  ∀ (l : Line) (s : State),
    (∀ u, passes (vAssocSearch l) l s = true → l.flag "dw" = false → u = noteLine (vAssocSearch l) l s →
      (∀ x, searchRefusal u (u.roles l.route) (l.nat "banks") false true (l.flag "cascade") = some x →
        exec (.assocSearch l) s = .next (reply l.route x.code x.kv u)) ∧
      (searchRefusal u (u.roles l.route) (l.nat "banks") false true (l.flag "cascade") = none → exec (.assocSearch l) s =
        .next (runSearch ⟨l.route, 0, "ASSOC.SEARCH"⟩ (leNat (l.bytes "key")) (l.nat "banks") false (l.flag "cascade")
          (l.flag "cursor") u))) ∧
    (∀ k key banks dw open_, k.verb ≠ "" → runSearch k key banks dw false open_ s =
      match localSearch k key banks dw open_ false (s.incReg .ASSOC_SEARCHES) with
      | (t, .error r) => reply k.route r.code r.kv t
      | (t, .ok f) => reply k.route 0 (f.fields k.isStep) t) ∧
    (∀ key banks after t e n, searchArray key banks after s = (t, some e, n) →
      e.valid = true ∧ e.suspect = false ∧ Nat.land (Nat.xor key e.value) e.mask = 0 ∧ e.word = e.aWord) ∧
    (∀ e key banks, s.assoc.entries = [e] → bitAt banks e.bank = true → e.hits key = true → e.confirmed key = true → e.code = 0 →
      searchArray key banks none s = (s, some e, 1)) ∧
    (∀ key banks, (∀ e ∈ s.assoc.entries, bitAt banks e.bank = true → e.hits key = false) →
      searchArray key banks none s = (s, none, 0)) ∧
    (passes (vAssoc "ASSOC.STEP" 0 [curArg]) l s = true → exec (.assocStep l) s = .next (runStep ⟨l.route, 0, "ASSOC.STEP"⟩
      (s.roles l.route) (l.nat "cur") (noteLine (vAssoc "ASSOC.STEP" 0 [curArg]) l s))) ∧
    (∀ k roles n c, k.verb ≠ "" → cursorGet s n = some c → c.owner = k.route → c.casc = false →
      ((maskBanks c.banks).any fun b => if b < 4 then k.verb == "" || s.level k.route != 2 else !bankRole s roles b false) = false →
      (cursorStale s c = true → runStep k roles n s = reply k.route 208 [] (cursorDrop n s)) ∧
      (cursorStale s c = false → runStep k roles n s =
        let u := localStep c (s.incReg .ASSOC_SEARCHES)
        reply k.route 0 (u.2.fields k.isStep) u.1)) ∧
    (∀ k roles n, k.verb ≠ "" → cursorGet s n = none → runStep k roles n s = reply k.route 205 [] s) ∧
    (passes (vAssoc "ASSOC.CLOSE" 0 [curArg]) l s = true →
      (∀ c, cursorGet s (l.nat "cur") = some c → c.owner = l.route → exec (.assocClose l) s =
        .next (reply l.route 0 [] (cursorDrop (l.nat "cur") (noteLine (vAssoc "ASSOC.CLOSE" 0 [curArg]) l s)))) ∧
      (cursorGet s (l.nat "cur") = none → exec (.assocClose l) s =
        .next (reply l.route 205 [] (noteLine (vAssoc "ASSOC.CLOSE" 0 [curArg]) l s)))) ∧
    (∀ u, passes (vAssocWrite l) l s = true → u = noteLine (vAssocWrite l) l s →
      let write := tableWrite (u.roles l.route) (l.nat "bank") (l.nat "idx") (leNat (l.bytes "value")) (leNat (l.bytes "mask"))
        (leNat (l.bytes "word")) (l.flag "dw") (l.flag "inv") true 0 u
      (∀ t x, write = (t, some x) → exec (.assocWrite l) s = .next (reply l.route x.code x.kv t)) ∧
      (∀ t, write = (t, none) → exec (.assocWrite l) s = .next (reply l.route 0 [] t))) ∧
    (∀ roles bank idx value mask word dw inv owner n, 4 ≤ bank → writeCheck s roles bank idx word dw inv owner n = none →
      tableWrite roles bank idx value mask word dw inv owner n s = (putEntry bank idx value mask word inv s, none)) ∧
    (∀ bank idx value mask word, bank < 16 → idx < 4096 →
      let e := entryGet (putEntry bank idx value mask word false s).assoc.entries bank idx
      (∀ x ∈ s.assoc.entries, x.idx < 4096) →
      e.valid = true ∧ e.value = Nat.land value mask ∧ e.mask = mask ∧ e.word = word ∧ e.suspect = false ∧
      e.aValid = true ∧ e.aValue = e.value ∧ e.aMask = mask ∧ e.aWord = word) ∧
    (∀ v, v = vAssoc "ASSOC.READ" (if l.nat "bank" < 4 && l.has "bank" then 2 else 1)
        [⟨"bank", true, .num 0 15⟩, ⟨"idx", true, .strict 0 4095⟩] → passes v l s = true →
      dwPair s (l.nat "bank") = false → bankOn s (l.nat "bank") = true →
      (entryGet s.assoc.entries (l.nat "bank") (l.nat "idx")).code = 0 →
      let e := entryGet s.assoc.entries (l.nat "bank") (l.nat "idx")
      exec (.assocRead l) s = .next (reply l.route 0 [("value", .b (leBytes 20 e.value)), ("mask", .b (leBytes 20 e.mask)),
        ("word", .b (leBytes 8 e.word)), ("valid", .n e.valid.toNat), ("suspect", .n e.suspect.toNat)] (noteLine v l s))) ∧
    (passes (vAssoc "ASSOC.SHOW" 0 []) l s = true → exec (.assocShow l) s = .next (reply l.route 0
      ([("on", .x 4 (banksOn s)), ("dw", .x 2 (s.reg .ASSOC_DW * 4)), ("policy", .x 1 (s.reg .ASSOC_POLICY_BANKS)),
        ("state", .n s.assoc.policyState)] ++ validNames.zip ((List.range 16).map fun b => Val.n (validCount s b)))
      (noteLine (vAssoc "ASSOC.SHOW" 0 []) l s))) ∧
    (passes (vAssoc "CASC.SHOW" 0 []) l s = true → exec (.cascShow l) s = .next (reply l.route 0
      [("pos", .n s.assoc.straps), ("size", .n (s.reg .CASC_SIZE)), ("present", .x 2 s.assoc.present),
       ("withdrawn", .x 2 s.assoc.withdrawn), ("covered", .x 2 (coveredSet s)), ("mismatch", .n s.assoc.mismatch.toNat)]
      (noteLine (vAssoc "CASC.SHOW" 0 []) l s))) ∧
    (∀ r v u, mayWrite r 2 m4to9 s = true → v < 16 → ns0Write [⟨.ASSOC_POLICY_BANKS, 0, v⟩] s = (u, none) →
      exec (.policyBanksWrite r v) s = .next (reply r 0 [("value", .n v)]
        (flipPolicy (s.reg .ASSOC_POLICY_BANKS) v (u.setReg .ASSOC_POLICY_BANKS v)))) ∧
    (∀ old new, old ≠ new → s.assoc.entries = [] → s.assoc.policyState = 0 →
      flipPolicy old new s = raise 0x340 [("from", .n old), ("to", .n new)] s) ∧
    (∀ r v u, mayWrite r 1 m4to9 s = true → v < 65536 → (banksOff v s).find? (cursorNames s) = none →
      ns0Write [⟨.ASSOC_BANK_ON, 0, v / 16 * 16 + 15⟩] s = (u, none) → exec (.bankOnWrite r v) s =
        .next (reply r 0 [("value", .n (v / 16 * 16 + 15))] ((banksOff v s).foldl (fun s b => dropBank b s)
          (u.setReg .ASSOC_BANK_ON (v / 16 * 16 + 15))))) ∧
    (∀ r v b, mayWrite r 1 m4to9 s = true → v < 65536 → (banksOff v s).find? (cursorNames s) = some b →
      exec (.bankOnWrite r v) s = .next (reply r 204 [("bank", .n b)] s)) ∧
    (∀ r v u, mayWrite r 1 m4to9 s = true → v < 64 → pairBusy v s = none → ns0Write [⟨.ASSOC_DW, 0, v⟩] s = (u, none) →
      exec (.dwWrite r v) s = .next (reply r 0 [("value", .n v)]
        ((dwChanged s v).foldl (fun s b => dropBank b s) (u.setReg .ASSOC_DW v)))) ∧
    (∀ b, ∀ e ∈ (dropBank b s).assoc.entries, e.bank ≠ b) ∧
    (s.assoc.policyState = 1 → exec .policyReloadComplete s =
      .next { loadPolicy s with assoc := { (loadPolicy s).assoc with policyState := 0 } }) ∧
    (s.assoc.policyState ≠ 1 → exec .policyReloadComplete s = .next s) ∧
    (s.inService = true → exec .scrubPassDue s = .next { s with
      assoc := { s.assoc with scrubDue := true, scrubDueAt := s.now } }) ∧
    (s.assoc.scrubDue = false → exec .scrubPassComplete s = .next s) ∧
    (∀ e, s.assoc.scrubDue = true → s.inService = true → s.assoc.scrubDueAt + passBeats ≤ s.now → s.assoc.entries = [e] → bankOn s e.bank = true → e.code = 0 → e.repaired ≠ e →
      ∃ t, exec .scrubPassComplete s = .next t ∧ t.assoc.entries = [e.repaired] ∧ t.assoc.scrubDue = false ∧
        t.assoc.corr = s.assoc.corr + 1) ∧
    (∀ n c, cursorGet s n = some c → c.at_ + ms (s.reg .ASSOC_CURSOR_MS) ≤ s.now →
      exec (.cursorIdleTimeout n) s = .next (raiseCount 0x348 [] (cursorDrop n s))) ∧
    (∀ n c, cursorGet s n = some c → s.now < c.at_ + ms (s.reg .ASSOC_CURSOR_MS) → exec (.cursorIdleTimeout n) s = .next s) ∧
    (∀ n, cursorGet s n = none → exec (.cursorIdleTimeout n) s = .next s) ∧
    (∀ n, cursorGet (cursorDrop n s) n = none) ∧
    (∀ f, cascN s ≤ 1 → exec (.cascadeSlot f) s = .next (nextTurn s)) ∧
    (∀ f, 1 < cascN s → s.inService = true → s.assoc.turn = s.assoc.straps →
      exec (.cascadeSlot f) s = .next (nextTurn (ownSlot f (countHeader s)))) ∧
    (∀ f, bitAt s.assoc.withdrawn s.assoc.straps = false → isCovered s = true → s.assoc.reqs = [] →
      ownSlot f s = s.emit (.casc [header0 1 s.assoc.straps (cascN s) false])) ∧
    (∀ f q qs, bitAt s.assoc.withdrawn s.assoc.straps = false → isCovered s = true → s.assoc.reqs = q :: qs → q.started = false →
      ownSlot f s = takePart f (askedOf (frameWords s q)) ((({ s with assoc := { s.assoc with
        reqs := { q with started := true } :: qs } } : State).emit (.casc (frameWords s q))).incReg .CASC_FRAMES)) ∧
    (∀ f a, frameSearch a s = (s, .nothing, 0) → takePart f a s = (s.emit (.casc [f.mi])).emit (.casc [min 255 f.miCount])) ∧
    (∀ q qs r, s.assoc.reqs = q :: qs → q.started = true →
      (r.win % 512 = 0x1FE → exec (.cascadeFrameResult r) s = .next
        { s.incReg .CASC_RETRIES with assoc := { s.assoc with reqs := { q with started := false } :: qs } }) ∧
      (r.win % 512 ≠ 0x1FE → exec (.cascadeFrameResult r) s = .next (resolveFrame q r { s with assoc := { s.assoc with reqs := qs } }))) ∧
    (∀ p, p < 8 → bitAt s.assoc.present p = true → exec (.cascadeMemberAbsent p) s = .next (raise (0x350 + p) [("pos", .n p)]
      { s with assoc := { s.assoc with present := clearBit s.assoc.present p } })) ∧
    (∀ p, p < 8 → bitAt s.assoc.present p = false → s.inService = true → exec (.cascadeMemberPresent p) s =
      .next (raise (0x358 + p) [("pos", .n p)] { s with assoc := { s.assoc with present := setBit s.assoc.present p } })) ∧
    (s.assoc.straps ≠ 0 → s.clk.cascLock = true → s.assoc.reqs = [] → exec .cascClkPhaseWithdraw s =
      .next (raise 0x0C5 [] { s with
        clk := { s.clk with cascLock := false, cascLockAt := s.now }
        assoc := { s.assoc with withdrawn := setBit s.assoc.withdrawn s.assoc.straps } })) ∧
    (s.assoc.straps ≠ 0 → s.clk.cascLock = false →
      exec .cascClkPhaseWithdraw s = .next { s with clk := { s.clk with cascLockAt := s.now } }) ∧
    (s.assoc.mismatch = false → s.inService = true → s.clk.cascLock = true → s.clk.cascLockAt + cascWindow ≤ s.now →
      exec .cascLockRejoin s = .next { s with
      assoc := { s.assoc with withdrawn := clearBit s.assoc.withdrawn s.assoc.straps } })

/-! ## Events and registers (chapters 20 and 21) -/

/-- The EVT verbs, latches, pins and the log (R482 to R498, R516, R517): a mask is kept and takes effect, a clear takes the
latch and, where it is asked for, the count, EV 0x38E keeping its latch while its condition lasts; a pulse ends; the staged
records are programmed; an injected event is raised with test=1 and does not reach HART. -/
def Obligations.EventCommandsComplete : Prop :=
  ∀ (l : Line) (s : State),
    (∀ a most, a.key = txt "ev" → a.quoted = false →
      (evRange a.val = none → checkArgs [⟨"ev", true, .events most⟩] [a] = some (102, txt "ev")) ∧
      (∀ lo hi, evRange a.val = some (lo, hi) → checkArgs [⟨"ev", true, .events most⟩] [a] =
        if lo ≤ hi ∧ hi ≤ 0x3FF ∧ hi + 1 - lo ≤ most then none else some (103, txt "ev"))) ∧
    (∀ lo hi, evRange (l.text "ev") = some (lo, hi) → s.lineMode ≠ .M11 →
      (passes vEvtShow l s = true → exec (.evtShow l) s = .next (reply l.route 0 []
        (more l.route ((evIds lo hi).map (evtRow s)) (noteLine vEvtShow l s)))) ∧
      (∀ u, passes vEvtSet l s = true → (∀ id ∈ evIds lo hi, maskRefusal s id (l.nat "mask" + 32 * l.nat "log") = none) →
        ns0Write ((evIds lo hi).map fun id => ⟨.EVT_E, id, (l.nat "mask" + 32 * l.nat "log") % 64⟩) (noteLine vEvtSet l s) = (u, none) →
        exec (.evtSet l) s = .next (reply l.route 0 [] (setMasks (evIds lo hi) (l.nat "mask" + 32 * l.nat "log") u))) ∧
      (passes (vEvtClear l) l s = true → exec (.evtClear l) s =
        .next (let u := clearEvents (evIds lo hi) (l.flag "counters") (noteLine (vEvtClear l) l s)
               reply l.route 0 (keptField u.2) u.1))) ∧
    (∀ id counters, (clearEvents [id] counters s).1 = { s with evt := { s.evt with
        cells := (clearEvents [id] counters s).1.evt.cells } } ∧
      (id = 0x38E → s.loop.departed = true → (evtGet (clearEvents [id] counters s).1.evt.cells id).latch = (evtGet s.evt.cells id).latch) ∧
      (id ≠ 0x38E → evtGet (clearEvents [id] counters s).1.evt.cells id = { evtGet s.evt.cells id with
        latch := false, count := if counters then 0 else (evtGet s.evt.cells id).count }) ∧
      (∀ k, k ≠ id → evtGet (clearEvents [id] counters s).1.evt.cells k = evtGet s.evt.cells k)) ∧
    (∀ ids masks id, id ∈ ids → bitAt masks 4 = true →
      evtGet (setMasks ids masks s).evt.cells id = { evtGet s.evt.cells id with masks := masks % 64 }) ∧
    (passes vEvtList l s = true → s.lineMode ≠ .M11 → ((s.evt.cells.filter (·.latch)).length ≤ 255) → exec (.evtList l) s =
      .next (reply l.route 0 [] (more l.route ((s.evt.cells.filter (·.latch)).map fun c => [("ev", .x 3 c.id)])
        (noteLine vEvtList l s)))) ∧
    (∀ w u, passes vEvtGpio l s = true →
      w = gpioAsked l (gpioGet s (l.nat "k")) (if l.isWord "ev" "none" then none else some (l.nat "ev")) → gpioPut (l.nat "k") w (noteLine vEvtGpio l s) = (u, none) →
      exec (.evtGpio l) s = .next (reply l.route 0 [] u)) ∧
    (∀ k w u, gpioPut k w s = (u, none) → gpioGet u k = w ∧ bitAt u.evt.gpio k = false) ∧
    (passes vEvtLog l s = true → s.lineMode ≠ .M11 → exec (.evtLog l) s = .next (reply l.route 0 [] (more l.route
      ((logFrom s (l.nat "from") (l.nat "n" 16)).map recordRow) (noteLine vEvtLog l s)))) ∧
    (∀ sev, passes vEvtInject l s = true → (l.nat "ev" < 0x060 ∨ 0x0BF < l.nat "ev") → evSeverity (l.nat "ev") = some sev →
      exec (.evtInject l) s = .next (reply l.route 0 []
        { raise (l.nat "ev") [("test", .n 1)] (noteLine vEvtInject l s) with loop := s.loop })) ∧
    (passes vEvtInject l s = true → 0x060 ≤ l.nat "ev" → l.nat "ev" ≤ 0x0BF →
      exec (.evtInject l) s = .next (reply l.route 102 [("arg", .w "ev")] (noteLine vEvtInject l s))) ∧
    (∀ r id, id ≤ 0x3FF → mayWrite r (if within id 0x080 0x0BF then 2 else 1) m4to9 s = true →
      exec (.eventLatchClearWrite r id) s = .next (let u := clearEvents [id] false s
        reply r 0 ([("value", .x 8 (evtWord u.1 id))] ++ keptField u.2) u.1)) ∧
    (∀ k, exec (.gpioPulseEnd k) s = .next { s with evt := { s.evt with gpio := clearBit s.evt.gpio k } }) ∧
    (s.logReady = true → s.evt.log.length + s.evt.staged.length ≤ 65536 → ∃ t, exec .logProgram s = .next t ∧
      t.evt.log = s.evt.log ++ s.evt.staged ∧ t.evt.staged = [] ∧ t = { s with evt := t.evt }) ∧
    (s.logReady = false → exec .logProgram s = .next s)

/-- The REG, CFG and GOV verbs and the boundaries at which a set takes effect (R507 to R510, R518 to R531): a read answers the
field, a dump its words or the first that is refused, counted as denied; a write of class I takes effect at once and the
others wait in the staged set of their route until it is committed; at a boundary every commit that waits takes effect in
order; a pin holds what it names. -/
def Obligations.RegisterCommandsComplete : Prop :=
  ∀ (l : Line) (s : State),
    (∀ f u, passes (vRegRead (aimOf l)) l s = true → aimOf l = .named (.one f) → f.p.words = 1 → fieldAbsent s f = false →
      f.p.mirrored = false → u = noteLine (vRegRead (aimOf l)) l s → exec (.regRead l) s = .next
        (let x := readWord (some l.route) f 0 u; reply l.route 0 [("value", f.render x.2)] x.1)) ∧
    (∀ f, passes (vRegRead (aimOf l)) l s = true → aimOf l = .named (.one f) → fieldAbsent s f = true →
      exec (.regRead l) s = .next (reply l.route 205 [] (noteLine (vRegRead (aimOf l)) l s))) ∧
    (passes vRegDump l s = true →
      let u := noteLine vRegDump l s
      let span := (List.range (l.nat "n")).map fun k => l.nat "addr" + 4 * k
      (∀ b w, firstRefused l.route u span = some (b, w) → exec (.regDump l) s =
        .next (denied l.route.byte b w (reply l.route 206 [("addr", .x 6 b)] u))) ∧
      (firstRefused l.route u span = none → exec (.regDump l) s = .next (let x := readSpan l.route span u
        reply l.route 0 [("n", .n (l.nat "n"))] (more l.route (dumpRows (l.nat "addr") 128 x.2) x.1)))) ∧
    (∀ by_ addr w, (denied by_ addr w s).reg .SYS_DENIED_ADDR = addr ∧
      (denied by_ addr w s).reg .SYS_DENIED = (s.incReg .SYS_DENIED).reg .SYS_DENIED) ∧
    (∀ f, passes (vRegWrite l (aimOf l)) l s = true → aimOf l = .named (.one f) → fieldAbsent s f = false →
      let u := noteLine (vRegWrite l (aimOf l)) l s
      (f.writable = false → exec (.regWrite l) s = .next (denied l.route.byte f.addr .readOnly (reply l.route 206 [] u))) ∧
      (f.writable = true → f.p.mirrored = false → l.has "cc" = false → exec (.regWrite l) s =
        .next (writeFields l.route (.named (.one f)) (l.nat? "cc") (l.text "value") u))) ∧
    (∀ r f t cc set, f.p.mirrored = false → changesOf (.named (.one f)) t s = .ok set →
      (classOf set = 0 → writeFields r (.named (.one f)) cc t s = writeNow r (.named (.one f)) set none s) ∧
      (classOf set ≠ 0 → setRefusal set s = none → writeFields r (.named (.one f)) cc t s = stageWrites r set s)) ∧
    (∀ r f set u, setRefusal set s = none → jointRefusal set s = none → keepSet set s = (u, none) →
      writeNow r (.named (.one f)) set none s = reply r 0 [("value", shownAfter (.named (.one f)) set (applyAll r.byte set u))]
        (applyAll r.byte set u)) ∧
    (∀ r w, (s.route r).staged = [] → stageWrites r [w] s = reply r 3 [("at", .w "commit"), ("staged", .n 1)]
      (s.updRoute r fun x => { x with staged := [w] })) ∧
    (passes (vCfg "CFG.SHOW" 0 false []) l s = true → exec (.cfgShow l) s = .next (reply l.route 0
      [("staged", .n (s.route l.route).staged.length)] (more l.route ((s.route l.route).staged.map fun w =>
        [("name", Val.w (⟨w.p, w.i⟩ : Field).name), ("value", (⟨w.p, w.i⟩ : Field).render w.v), ("apply", .w (applyWord w.p.applyClass))])
        (noteLine (vCfg "CFG.SHOW" 0 false []) l s)))) ∧
    (passes (vCfg "CFG.DISCARD" 1 true []) l s = true → exec (.cfgDiscard l) s = .next (reply l.route 0 [("staged", .n 0)]
      ((noteLine (vCfg "CFG.DISCARD" 1 true []) l s).updRoute l.route fun x => { x with staged := [] }))) ∧
    (∀ u set, passes vCfgCommit l s = true → u = noteLine vCfgCommit l s → set = (s.route l.route).staged →
      (set = [] → exec (.cfgCommit l) s = .next (reply l.route 205 [("arg", .w "staged")] u)) ∧
      (set ≠ [] → jointRefusal set u = none → l.isWord "when" "drain" = false → l.isWord "when" "dusk" = false →
        (notAtomic false set = none → exec (.cfgCommit l) s = .next (setBusy l.route "CFG.COMMIT"
          (addCommit l.route set false (emptyStaged l.route u)))) ∧
        (∀ f need, notAtomic false set = some (f, need) → exec (.cfgCommit l) s =
          .next (reply l.route 203 [("name", .w f.name), ("need", .w need)] u))) ∧
      (set ≠ [] → jointRefusal set u = none → l.isWord "when" "drain" = true → l.isWord "when" "dusk" = false →
        notAtomic true set = none → exec (.cfgCommit l) s = .next (reply l.route 1 [("staged", .n set.length)]
          (addCommit l.route set true (emptyStaged l.route u)))) ∧
      (∀ v, set ≠ [] → jointRefusal set u = none → l.isWord "when" "dusk" = true → ns0Record u = (v, none) →
        exec (.cfgCommit l) s = .next (let j := queueJob .commit 0 set v
          reply l.route 3 [("at", .w "dusk"), ("staged", .n set.length), ("job", .n j.2)] (emptyStaged l.route j.1)))) ∧
    (atBoundary s = true → exec .epochBoundaryApply s = .next ((s.day.commits.filter fun c => !c.drain).foldl commitNow
      { s with day := { s.day with commits := s.day.commits.filter fun c => !(!c.drain) } })) ∧
    (∀ c u, keepSet c.set s = (u, none) → commitNow s c = lateReply c.route 0 [("staged", .n c.set.length)]
      ((applyAll c.route.byte c.set u).incReg .SYS_COMMITS)) ∧
    (∀ c u, s.day.commits = [c] → c.drain = true → c.drained = true → atBoundary s = true →
      keepSet c.set { s with day := { s.day with commits := [] } } = (u, none) → exec .drainCommitApply s =
        .next (let v := (applyAll c.route.byte c.set u).incReg .SYS_COMMITS
               raise 0x313 [("walk", .n (v.reg .RRK_WALK_CTX)), ("us", .n (sat 32 ((v.now - c.at_) / us 1)))] v)) ∧
    ((s.day.commits.find? fun c => c.drain && c.drained) = none → exec .drainCommitApply s = .next s) ∧
    (passes (vCfg "GOV.SHOW" 0 false []) l s = true → exec (.govShow l) s = .next (reply l.route 0
      [("mode", .w s.mode.text), ("t", .n s.day.t), ("w", .n (s.reg .GOV_WINDOW_US)), ("lim_kib", .n (s.reg .GOV_DIRTY_LIMIT_KIB)),
       ("dirty_kib", .n (sat 32 (s.kv.dirtyBytes / 1024))), ("gc", .n (s.reg .GOV_GC_SHARE_PCT)),
       ("scrub", .n (s.reg .GOV_SCRUB_MS)), ("reason", .n (s.reg .GOV_LAST_REASON)), ("pin", .n (s.reg .GOV_PIN))]
      (noteLine (vCfg "GOV.SHOW" 0 false []) l s))) ∧
    (∀ b p v, passes (vGovPin l) l s = true → b = (pinWhats.takeWhile fun w => txt w != l.text "what").length →
      pinParam b = some p → v = l.nat "value" (s.reg p) →
      let u := (noteLine (vGovPin l) l s).setReg .GOV_PIN (putBit (s.reg .GOV_PIN) b (l.flag "on"))
      exec (.govPin l) s = .next (reply l.route 0 [("pin", .n (u.reg .GOV_PIN)), ("value", .n v)] (u.setReg p v))) ∧
    (∀ b, passes (vGovPin l) l s = true → b = (pinWhats.takeWhile fun w => txt w != l.text "what").length → pinParam b = none →
      let u := (noteLine (vGovPin l) l s).setReg .GOV_PIN (putBit (s.reg .GOV_PIN) b (l.flag "on"))
      exec (.govPin l) s = .next (reply l.route 0 [("pin", .n (u.reg .GOV_PIN))] u))
end

