-- ==== Sys2Proof/Laws/Fixed.lean ====
section
/-! SUPPORT. The functions of Ops, Context, Raise, DkpCore, Reply, KvCore, PowerCore, Flags, Power, Clock, Store, AssocCore and CollCore leave the queue of waiting commands and the fused identity
of the unit (R2) as they are: one lemma per function that answers a state or an outcome. -/

namespace Sys2Proof.Machine

/-- What no command may change: the commands that wait, and what the factory fused (R2). -/
def State.fixed (s : State) : List Instr × Ident := (s.pending, s.sec.otp.ident)
@[simp] theorem fixed_mk0 (x : State) (_v0 _v1 _v2 _v3 _v4 _v5 _v6 _v7 _v8 _v9 _v11 _v12 _v13 _v14 _v15 _v16 _v17 _v18 _v19 _v20 _v21) : (State.mk _v0 _v1 _v2 _v3 _v4 _v5 _v6 _v7 _v8 _v9 x.sec _v11 _v12 _v13 _v14 _v15 _v16 _v17 _v18 _v19 _v20 _v21 x.pending).fixed = x.fixed := rfl
@[simp] theorem fixed_mk1 (x : State) (_v0 _v1 _v2 _v3 _v4 _v5 _v6 _v7 _v8 _v9 _w1 _w2 _w3 _w4 _w5 _w6 _w7 _w8 _w9 _w10 _w11 _w12 _w13 _w14 _w15 _w16 _v11 _v12 _v13 _v14 _v15 _v16 _v17 _v18 _v19 _v20 _v21) : (State.mk _v0 _v1 _v2 _v3 _v4 _v5 _v6 _v7 _v8 _v9 (Sec.mk x.sec.otp _w1 _w2 _w3 _w4 _w5 _w6 _w7 _w8 _w9 _w10 _w11 _w12 _w13 _w14 _w15 _w16) _v11 _v12 _v13 _v14 _v15 _v16 _v17 _v18 _v19 _v20 _v21 x.pending).fixed = x.fixed := rfl
@[simp] theorem fixed_mk2 (x : State) (_v0 _v1 _v2 _v3 _v4 _v5 _v6 _v7 _v8 _v9 _u1 _u2 _u3 _u4 _u5 _u6 _u7 _u8 _u9 _u10 _u11 _u12 _w1 _w2 _w3 _w4 _w5 _w6 _w7 _w8 _w9 _w10 _w11 _w12 _w13 _w14 _w15 _w16 _v11 _v12 _v13 _v14 _v15 _v16 _v17 _v18 _v19 _v20 _v21) : (State.mk _v0 _v1 _v2 _v3 _v4 _v5 _v6 _v7 _v8 _v9 (Sec.mk (Otp.mk x.sec.otp.ident _u1 _u2 _u3 _u4 _u5 _u6 _u7 _u8 _u9 _u10 _u11 _u12) _w1 _w2 _w3 _w4 _w5 _w6 _w7 _w8 _w9 _w10 _w11 _w12 _w13 _w14 _w15 _w16) _v11 _v12 _v13 _v14 _v15 _v16 _v17 _v18 _v19 _v20 _v21 x.pending).fixed = x.fixed := rfl

@[simp] theorem foldl_fixed {α : Type} (g : State → α → State) (h : ∀ s x, (g s x).fixed = s.fixed) (l : List α) (s : State) :
    (l.foldl g s).fixed = s.fixed := by
  induction l generalizing s with
  | nil => rfl
  | cons x xs ih => simp [ih, h]
@[simp] theorem ite_fixed (c : Prop) [Decidable c] (a b : State) : (if c then a else b).fixed = if c then a.fixed else b.fixed := by
  split <;> rfl
/-- The outcome, where it is a next state, keeps what no command may change. -/
def Keeps (o : Out) (s : State) : Prop := ∀ t, o = .next t → t.fixed = s.fixed
theorem keeps_next {t s : State} (h : t.fixed = s.fixed) : Keeps (.next t) s := fun _ e => by cases e; exact h

theorem foldl_fst_fixed {α β : Type} (g : State × β → α → State × β) (h : ∀ p x, (g p x).1.fixed = p.1.fixed)
    (l : List α) (p : State × β) : (l.foldl g p).1.fixed = p.1.fixed := by
  induction l generalizing p with
  | nil => rfl
  | cons x xs ih => rw [List.foldl_cons, ih, h]

theorem noneFixed (s : State) : ∀ t, (none : Option State) = some t → t.fixed = s.fixed := by
  intro t h; cases h

theorem someFixed {c : Prop} [Decidable c] {a s : State} {o : Option State} (ha : a.fixed = s.fixed)
    (ho : ∀ t, o = some t → t.fixed = s.fixed) : ∀ t, (if c then some a else o) = some t → t.fixed = s.fixed := by
  intro t h
  split at h
  · cases h; exact ha
  · exact ho t h

@[simp] theorem State.setReg_fixed (a0 : State) a1 a2 a3 : (State.setReg a0 a1 a2 a3).fixed = a0.fixed := by
  unfold State.setReg
  simp

@[simp] theorem State.incReg_fixed (a0 : State) a1 a2 a3 : (State.incReg a0 a1 a2 a3).fixed = a0.fixed := by
  unfold State.incReg
  simp

@[simp] theorem State.tick_fixed (a0 : State) : (State.tick a0).fixed = a0.fixed := by
  unfold State.tick
  simp

@[simp] theorem State.emit_fixed (a0 : State) a1 : (State.emit a0 a1).fixed = a0.fixed := by
  unfold State.emit
  simp

@[simp] theorem State.emits_fixed (a0 : State) a1 : (State.emits a0 a1).fixed = a0.fixed := by
  unfold State.emits
  simp

@[simp] theorem State.setPort_fixed (a0 : State) a1 a2 : (State.setPort a0 a1 a2).fixed = a0.fixed := by
  unfold State.setPort
  simp

@[simp] theorem portSend_fixed a0 a1 (a2 : State) : (portSend a0 a1 a2).fixed = a2.fixed := by
  unfold portSend
  simp

@[simp] theorem flushPort_fixed (a0 : State) a1 : (flushPort a0 a1).fixed = a0.fixed := by
  unfold flushPort
  simp

@[simp] theorem tlsOut_fixed a0 a1 (a2 : State) : (tlsOut a0 a1 a2).fixed = a2.fixed := by
  unfold tlsOut
  (repeat' split) <;> simp

@[simp] theorem ringSend_fixed a0 (a1 : State) : (ringSend a0 a1).fixed = a1.fixed := by
  unfold ringSend
  simp

@[simp] theorem flushOwn_fixed (a0 : State) : (flushOwn a0).fixed = a0.fixed := by
  unfold flushOwn
  simp

@[simp] theorem endHush_fixed (a0 : State) : (endHush a0).fixed = a0.fixed := by
  unfold endHush
  simp

@[simp] theorem State.setRoute_fixed (a0 : State) a1 : (State.setRoute a0 a1).fixed = a0.fixed := by
  unfold State.setRoute
  simp

@[simp] theorem State.updRoute_fixed (a0 : State) a1 (a2 : RouteSt → RouteSt) : (State.updRoute a0 a1 a2).fixed = a0.fixed := by
  unfold State.updRoute
  simp

@[simp] theorem State.setSess_fixed (a0 : State) a1 : (State.setSess a0 a1).fixed = a0.fixed := by
  unfold State.setSess
  simp

@[simp] theorem State.setColl_fixed (a0 : State) a1 : (State.setColl a0 a1).fixed = a0.fixed := by
  unfold State.setColl
  simp

@[simp] theorem engineBeat_fixed (a0 : State) : (engineBeat a0).fixed = a0.fixed := by
  unfold engineBeat
  simp

@[simp] theorem startWalk_fixed (a0 : State) : (startWalk a0).fixed = a0.fixed := by
  unfold startWalk
  simp

@[simp] theorem startRanks_fixed a0 a1 (a2 : State) : (startRanks a0 a1 a2).fixed = a2.fixed := by
  unfold startRanks
  simp

@[simp] theorem State.setRerank_fixed (a0 : State) a1 : (State.setRerank a0 a1).fixed = a0.fixed := by
  unfold State.setRerank
  simp

@[simp] theorem freeCtx_fixed a0 a1 (a2 : State) : (freeCtx a0 a1 a2).fixed = a2.fixed := by
  unfold freeCtx
  simp

@[simp] theorem raiseWith_fixed a0 a1 a2 a3 a4 (a5 : State) : (raiseWith a0 a1 a2 a3 a4 a5).fixed = a5.fixed := by
  unfold raiseWith
  simp

@[simp] theorem raise_fixed a0 a1 (a2 : State) : (raise a0 a1 a2).fixed = a2.fixed := by
  unfold raise
  simp

@[simp] theorem suppressed_fixed a0 (a1 : State) : (suppressed a0 a1).fixed = a1.fixed := by
  unfold suppressed
  simp

@[simp] theorem raiseLimited_fixed a0 a1 (a2 : Nat → List (String × Val)) (a3 : State) : (raiseLimited a0 a1 a2 a3).fixed = a3.fixed := by
  unfold raiseLimited
  (repeat' split) <;> simp

@[simp] theorem raiseCount_fixed a0 a1 (a2 : State) : (raiseCount a0 a1 a2).fixed = a2.fixed := by
  unfold raiseCount
  simp

@[simp] theorem clearLatch_fixed a0 (a1 : State) : (clearLatch a0 a1).fixed = a1.fixed := by
  unfold clearLatch
  simp

@[simp] theorem deliverLate_fixed (a0 : State) : (deliverLate a0).fixed = a0.fixed := by
  unfold deliverLate
  simp

@[simp] theorem cancelSync_fixed (a0 : State) : (cancelSync a0).fixed = a0.fixed := by
  unfold cancelSync
  (repeat' split) <;> simp

@[simp] theorem sendKeyUpdate_fixed a0 a1 a2 (a3 : State) : (sendKeyUpdate a0 a1 a2 a3).fixed = a3.fixed := by
  unfold sendKeyUpdate
  simp

@[simp] theorem State.setTls_fixed (a0 : State) a1 : (State.setTls a0 a1).fixed = a0.fixed := by
  unfold State.setTls
  simp

@[simp] theorem tlsKeyUpdate_fixed a0 a1 (a2 : State) : (tlsKeyUpdate a0 a1 a2).fixed = a2.fixed := by
  unfold tlsKeyUpdate
  (repeat' split) <;> simp

@[simp] theorem tlsSend_fixed a0 a1 (a2 : State) : (tlsSend a0 a1 a2).fixed = a2.fixed := by
  unfold tlsSend
  dsimp only; (repeat' split) <;> simp_all

@[simp] theorem sendSegs_fixed a0 a1 (a2 : State) : (sendSegs a0 a1 a2).fixed = a2.fixed := by
  unfold sendSegs
  (repeat' split) <;> simp

@[simp] theorem sendResponse_fixed a0 a1 a2 a3 a4 a5 (a6 : State) : (sendResponse a0 a1 a2 a3 a4 a5 a6).fixed = a6.fixed := by
  unfold sendResponse
  (repeat' split) <;> simp

@[simp] theorem respond_fixed a0 a1 a2 a3 a4 a5 (a6 : State) : (respond a0 a1 a2 a3 a4 a5 a6).fixed = a6.fixed := by
  unfold respond
  (repeat' split) <;> simp

@[simp] theorem refuseEarly_fixed a0 a1 a2 a3 a4 (a5 : State) : (refuseEarly a0 a1 a2 a3 a4 a5).fixed = a5.fixed := by
  unfold refuseEarly
  simp

@[simp] theorem reply_fixed a0 a1 a2 (a3 : State) : (reply a0 a1 a2 a3).fixed = a3.fixed := by
  unfold reply
  dsimp only; (repeat' split) <;> simp_all

@[simp] theorem done_fixed a0 a1 (a2 : State) : (done a0 a1 a2).fixed = a2.fixed := by
  unfold done
  simp

@[simp] theorem more_fixed a0 a1 (a2 : State) : (more a0 a1 a2).fixed = a2.fixed := by
  unfold more
  simp

@[simp] theorem setBusy_fixed a0 a1 (a2 : State) : (setBusy a0 a1 a2).fixed = a2.fixed := by
  unfold setBusy
  simp

@[simp] theorem freeBusy_fixed a0 (a1 : State) : (freeBusy a0 a1).fixed = a1.fixed := by
  unfold freeBusy
  simp

@[simp] theorem lateReply_fixed a0 a1 a2 (a3 : State) : (lateReply a0 a1 a2 a3).fixed = a3.fixed := by
  unfold lateReply
  simp

@[simp] theorem applyItem_fixed (a0 : State) a1 : (applyItem a0 a1).fixed = a0.fixed := by
  unfold applyItem
  (repeat' split) <;> simp

@[simp] theorem noteWaf_fixed a0 a1 (a2 : State) : (noteWaf a0 a1 a2).fixed = a2.fixed := by
  unfold noteWaf
  simp

@[simp] theorem applyWrite_fixed (a0 : State) a1 : (applyWrite a0 a1).fixed = a0.fixed := by
  unfold applyWrite
  simp

@[simp] theorem answerWaits_fixed (a0 : State) : (answerWaits a0).fixed = a0.fixed := by
  unfold answerWaits
  (repeat' split) <;> grind [foldl_fixed, fixed_mk0, fixed_mk1, fixed_mk2, lateReply_fixed, respond_fixed]

@[simp] theorem programDirty_fixed a0 (a1 : State) : (programDirty a0 a1).fixed = a1.fixed := by
  unfold programDirty
  simp

@[simp] theorem persistAll_fixed (a0 : State) : (persistAll a0).fixed = a0.fixed := by
  unfold persistAll
  simp

@[simp] theorem programLog_fixed (a0 : State) : (programLog a0).fixed = a0.fixed := by
  unfold programLog
  simp

@[simp] theorem loseDirty_fixed a0 (a1 : State) : (loseDirty a0 a1).fixed = a1.fixed := by
  unfold loseDirty
  simp

@[simp] theorem noteBelowWake_fixed (a0 : State) : (noteBelowWake a0).fixed = a0.fixed := by
  unfold noteBelowWake
  (repeat' split) <;> grind [foldl_fixed, fixed_mk0, fixed_mk1, fixed_mk2]

@[simp] theorem fallAsleep_fixed a0 (a1 : State) : (fallAsleep a0 a1).fixed = a1.fixed := by
  unfold fallAsleep
  simp

@[simp] theorem enterMode_fixed a0 (a1 : State) : (enterMode a0 a1).fixed = a1.fixed := by
  unfold enterMode
  simp

@[simp] theorem setDomains_fixed a0 (a1 : State) : (setDomains a0 a1).fixed = a1.fixed := by
  unfold setDomains
  simp

@[simp] theorem domainsReady_fixed (a0 : State) : (domainsReady a0).fixed = a0.fixed := by
  unfold domainsReady
  simp

@[simp] theorem switchOn_fixed a0 (a1 : State) : (switchOn a0 a1).fixed = a1.fixed := by
  unfold switchOn
  simp

@[simp] theorem switchOff_fixed a0 (a1 : State) : (switchOff a0 a1).fixed = a1.fixed := by
  unfold switchOff
  simp

@[simp] theorem dropUpdate_fixed (a0 : State) : (dropUpdate a0).fixed = a0.fixed := by
  unfold dropUpdate
  (repeat' split) <;> simp

@[simp] theorem coreReset_fixed (a0 : State) : (coreReset a0).fixed = a0.fixed := by
  unfold coreReset
  simp

@[simp] theorem endSnapsTold_fixed a0 (a1 : State) : (endSnapsTold a0 a1).fixed = a1.fixed := by
  unfold endSnapsTold
  simp

@[simp] theorem startDawn_fixed (a0 : State) : (startDawn a0).fixed = a0.fixed := by
  unfold startDawn
  simp

@[simp] theorem toDawn_fixed (a0 : State) : (toDawn a0).fixed = a0.fixed := by
  unfold toDawn
  dsimp only; (repeat' split) <;> simp_all

@[simp] theorem resetToDawn_fixed a0 a1 (a2 : State) : (resetToDawn a0 a1 a2).fixed = a2.fixed := by
  unfold resetToDawn
  simp

@[simp] theorem startUp_fixed (a0 : State) : (startUp a0).fixed = a0.fixed := by
  unfold startUp
  simp

@[simp] theorem seePwrFail_fixed (a0 : State) : (seePwrFail a0).fixed = a0.fixed := by
  unfold seePwrFail
  simp

@[simp] theorem resumeGroups_fixed (a0 : State) : (resumeGroups a0).fixed = a0.fixed := by
  unfold resumeGroups
  (repeat' split) <;> simp

@[simp] theorem wake_fixed a0 (a1 : State) : (wake a0 a1).fixed = a1.fixed := by
  unfold wake
  simp

@[simp] theorem holdPins_fixed (a0 : State) : (holdPins a0).fixed = a0.fixed := by
  unfold holdPins
  simp

@[simp] theorem enterMidnight_fixed (a0 : State) : (enterMidnight a0).fixed = a0.fixed := by
  unfold enterMidnight
  simp

@[simp] theorem reachMidnight_fixed (a0 : State) : (reachMidnight a0).fixed = a0.fixed := by
  unfold reachMidnight
  dsimp only; split <;> simp

@[simp] theorem raiseGroups_fixed (a0 : State) : (raiseGroups a0).fixed = a0.fixed := by
  unfold raiseGroups
  (repeat' split) <;> simp

@[simp] theorem powerDown_fixed (a0 : State) : (powerDown a0).fixed = a0.fixed := by
  unfold powerDown
  dsimp only; (repeat' split) <;> simp_all

@[simp] theorem plpDone_fixed (a0 : State) : (plpDone a0).fixed = a0.fixed := by
  unfold plpDone
  simp

@[simp] theorem clearQueries_fixed (a0 : State) : (clearQueries a0).fixed = a0.fixed := by
  unfold clearQueries
  simp

@[simp] theorem dropService_fixed (a0 : State) : (dropService a0).fixed = a0.fixed := by
  unfold dropService
  simp

@[simp] theorem collapse_fixed (a0 : State) : (collapse a0).fixed = a0.fixed := by
  unfold collapse
  simp

@[simp] theorem endFlush_fixed a0 (a1 : State) : (endFlush a0 a1).fixed = a1.fixed := by
  unfold endFlush
  simp

@[simp] theorem powerFail_fixed a0 (a1 : State) : (powerFail a0 a1).fixed = a1.fixed := by
  unfold powerFail
  simp

@[simp] theorem noteLine_fixed a0 a1 (a2 : State) : (noteLine a0 a1 a2).fixed = a2.fixed := by
  unfold noteLine
  simp

@[simp] theorem gateWith_fixed a0 a1 (a2 : State → State) (a3 : State → State) (a4 : State) (ha2 : ∀ x0, (a2 x0).fixed = x0.fixed) (ha3 : ∀ x0, (a3 x0).fixed = x0.fixed) : (gateWith a0 a1 a2 a3 a4).fixed = a4.fixed := by
  unfold gateWith
  dsimp only; (repeat' split) <;> simp_all

@[simp] theorem gate_fixed a0 a1 (a2 : State → State) (a3 : State) (ha2 : ∀ x0, (a2 x0).fixed = x0.fixed) : (gate a0 a1 a2 a3).fixed = a3.fixed := by
  unfold gate
  simp [ha2]

@[simp] theorem denied_fixed a0 a1 a2 (a3 : State) : (denied a0 a1 a2 a3).fixed = a3.fixed := by
  unfold denied
  simp

@[simp] theorem writeGate_fixed a0 a1 a2 a3 (a4 : State → State) (a5 : State) (ha4 : ∀ x0, (a4 x0).fixed = x0.fixed) : (writeGate a0 a1 a2 a3 a4 a5).fixed = a5.fixed := by
  unfold writeGate
  simp [ha4]

@[simp] theorem powerOn_fixed (a0 : State) : (powerOn a0).fixed = a0.fixed := by
  unfold powerOn
  simp

theorem execVaonPowerOnReset_fixed (a0 : State) : Keeps (execVaonPowerOnReset a0) a0 := by
  unfold execVaonPowerOnReset; apply keeps_next
  simp

theorem execVaonLoss_fixed (a0 : State) : Keeps (execVaonLoss a0) a0 := by
  unfold execVaonLoss; apply keeps_next
  simp

theorem execVddioAAbsent_fixed (a0 : State) : Keeps (execVddioAAbsent a0) a0 := by
  unfold execVddioAAbsent; apply keeps_next
  simp

theorem execVddioAReturnRestart_fixed (a0 : State) : Keeps (execVddioAReturnRestart a0) a0 := by
  unfold execVddioAReturnRestart; apply keeps_next
  simp

theorem execSeqPgHigh_fixed a0 (a1 : State) : Keeps (execSeqPgHigh a0 a1) a1 := by
  unfold execSeqPgHigh; apply keeps_next
  simp

theorem execPgTimeout_fixed (a0 : State) : Keeps (execPgTimeout a0) a0 := by
  unfold execPgTimeout; apply keeps_next
  (repeat' split) <;> simp

theorem execPowerGoodLoss_fixed a0 (a1 : State) : Keeps (execPowerGoodLoss a0 a1) a1 := by
  unfold execPowerGoodLoss; apply keeps_next
  simp

theorem execPowerDownEnableStep_fixed (a0 : State) : Keeps (execPowerDownEnableStep a0) a0 := by
  unfold execPowerDownEnableStep; apply keeps_next
  (repeat' split) <;> simp

theorem execSequenceRestart_fixed (a0 : State) : Keeps (execSequenceRestart a0) a0 := by
  unfold execSequenceRestart; apply keeps_next
  simp

theorem execWakeNFall_fixed (a0 : State) : Keeps (execWakeNFall a0) a0 := by
  unfold execWakeNFall; apply keeps_next
  simp

theorem execTaiWake_fixed (a0 : State) : Keeps (execTaiWake a0) a0 := by
  unfold execTaiWake; apply keeps_next
  simp

theorem execResetNAssert_fixed (a0 : State) : Keeps (execResetNAssert a0) a0 := by
  unfold execResetNAssert; apply keeps_next
  simp

theorem execResetNRelease_fixed (a0 : State) : Keeps (execResetNRelease a0) a0 := by
  unfold execResetNRelease; apply keeps_next
  dsimp only; (repeat' split) <;> simp_all

theorem execPwrFailNAccepted_fixed (a0 : State) : Keeps (execPwrFailNAccepted a0) a0 := by
  unfold execPwrFailNAccepted; apply keeps_next
  simp

theorem execPlpFlushComplete_fixed a0 (a1 : State) : Keeps (execPlpFlushComplete a0 a1) a1 := by
  unfold execPlpFlushComplete; apply keeps_next
  simp

theorem execPfDebounceExpiry_fixed (a0 : State) : Keeps (execPfDebounceExpiry a0) a0 := by
  unfold execPfDebounceExpiry; apply keeps_next
  simp

theorem execDomainGated_fixed a0 (a1 : State) : Keeps (execDomainGated a0 a1) a1 := by
  unfold execDomainGated; apply keeps_next
  simp

theorem execDomainOnComplete_fixed a0 (a1 : State) : Keeps (execDomainOnComplete a0 a1) a1 := by
  unfold execDomainOnComplete; apply keeps_next
  simp

@[simp] theorem setTimeState_fixed a0 (a1 : State) : (setTimeState a0 a1).fixed = a1.fixed := by
  unfold setTimeState
  simp

@[simp] theorem clockTick_fixed (a0 : State) : (clockTick a0).fixed = a0.fixed := by
  unfold clockTick
  simp

@[simp] theorem beatTick_fixed (a0 : State) : (beatTick a0).fixed = a0.fixed := by
  unfold beatTick
  simp

@[simp] theorem taiInvalid_fixed (a0 : State) : (taiInvalid a0).fixed = a0.fixed := by
  unfold taiInvalid
  simp

@[simp] theorem setTai_fixed a0 (a1 : State) : (setTai a0 a1).fixed = a1.fixed := by
  unfold setTai
  simp

@[simp] theorem judgeOffset_fixed a0 (a1 : State) : (judgeOffset a0 a1).fixed = a1.fixed := by
  unfold judgeOffset
  dsimp only; (repeat' split) <;> simp_all

@[simp] theorem servo_fixed a0 (a1 : State) : (servo a0 a1).fixed = a1.fixed := by
  unfold servo
  simp

theorem execPtpSync_fixed a0 a1 a2 (a3 : State) : Keeps (execPtpSync a0 a1 a2 a3) a3 := by
  unfold execPtpSync; intro t e; (repeat' split at e) <;> grind [foldl_fixed, fixed_mk0, fixed_mk1, fixed_mk2, State.incReg_fixed, judgeOffset_fixed, servo_fixed, State.setReg_fixed, keeps_next, Keeps]

@[simp] theorem dropMaster_fixed (a0 : State) : (dropMaster a0).fixed = a0.fixed := by
  unfold dropMaster
  (repeat' split) <;> simp

theorem execPtpAnnounce_fixed a0 a1 a2 a3 a4 a5 (a6 : State) : Keeps (execPtpAnnounce a0 a1 a2 a3 a4 a5 a6) a6 := by
  unfold execPtpAnnounce; apply keeps_next
  (repeat' split) <;> grind [foldl_fixed, fixed_mk0, fixed_mk1, fixed_mk2, State.incReg_fixed, raise_fixed, setTimeState_fixed, State.setReg_fixed]

theorem execPtpDelayResp_fixed a0 a1 a2 (a3 : State) : Keeps (execPtpDelayResp a0 a1 a2 a3) a3 := by
  unfold execPtpDelayResp; apply keeps_next
  (repeat' split) <;> simp

theorem execPtpDelayReqSend_fixed (a0 : State) : Keeps (execPtpDelayReqSend a0) a0 := by
  unfold execPtpDelayReqSend; apply keeps_next
  (repeat' split) <;> simp

theorem execAnnounceTimeout_fixed (a0 : State) : Keeps (execAnnounceTimeout a0) a0 := by
  unfold execAnnounceTimeout; apply keeps_next
  (repeat' split) <;> simp

@[simp] theorem taiSetNow_fixed a0 (a1 : State) : (taiSetNow a0 a1).fixed = a1.fixed := by
  unfold taiSetNow
  simp

@[simp] theorem taiSet_fixed a0 a1 (a2 : State) : (taiSet a0 a1 a2).fixed = a2.fixed := by
  unfold taiSet
  (repeat' split) <;> simp

theorem execTaiSet_fixed a0 a1 a2 (a3 : State) : Keeps (execTaiSet a0 a1 a2 a3) a3 := by
  unfold execTaiSet; apply keeps_next
  simp

@[simp] theorem taiInvalidateNow_fixed a0 (a1 : State) : (taiInvalidateNow a0 a1).fixed = a1.fixed := by
  unfold taiInvalidateNow
  simp

@[simp] theorem taiInvalidate_fixed a0 a1 (a2 : State) : (taiInvalidate a0 a1 a2).fixed = a2.fixed := by
  unfold taiInvalidate
  (repeat' split) <;> simp

theorem execTaiInvalidate_fixed a0 a1 (a2 : State) : Keeps (execTaiInvalidate a0 a1 a2) a2 := by
  unfold execTaiInvalidate; apply keeps_next
  simp

theorem execOscTrimWindow_fixed a0 a1 (a2 : State) : Keeps (execOscTrimWindow a0 a1 a2) a2 := by
  unfold execOscTrimWindow; apply keeps_next
  simp

@[simp] theorem recomputeLimit_fixed (a0 : State) : (recomputeLimit a0).fixed = a0.fixed := by
  unfold recomputeLimit
  simp

@[simp] theorem refusalEvent_fixed a0 (a1 : State) : (refusalEvent a0 a1).fixed = a1.fixed := by
  unfold refusalEvent
  simp

@[simp] theorem commitStore_fixed a0 a1 (a2 : State) : (commitStore a0 a1 a2).fixed = a2.fixed := by
  unfold commitStore
  simp

@[simp] theorem ns0Write_fixed a0 (a1 : State) : (ns0Write a0 a1).1.fixed = a1.fixed := by
  unfold ns0Write
  dsimp only; (repeat' split) <;> simp_all

@[simp] theorem ns0Record_fixed (a0 : State) : (ns0Record a0).1.fixed = a0.fixed := by
  unfold ns0Record
  (repeat' split) <;> simp

@[simp] theorem noteFree_fixed a0 (a1 : State) : (noteFree a0 a1).fixed = a1.fixed := by
  unfold noteFree
  simp

@[simp] theorem closeRoute_fixed a0 (a1 : State) : (closeRoute a0 a1).fixed = a1.fixed := by
  unfold closeRoute
  simp

@[simp] theorem closeSession_fixed a0 a1 (a2 : State) : (closeSession a0 a1 a2).fixed = a2.fixed := by
  unfold closeSession
  (repeat' split) <;> simp

@[simp] theorem closeTls_fixed a0 (a1 : State) : (closeTls a0 a1).fixed = a1.fixed := by
  unfold closeTls
  simp

@[simp] theorem closeAll_fixed (a0 : State) : (closeAll a0).fixed = a0.fixed := by
  unfold closeAll
  simp

@[simp] theorem State.setEntry_fixed (a0 : State) a1 : (State.setEntry a0 a1).fixed = a0.fixed := by
  unfold State.setEntry
  simp

@[simp] theorem markWrite_fixed a0 (a1 : State) : (markWrite a0 a1).fixed = a1.fixed := by
  unfold markWrite
  simp

@[simp] theorem policySuspect_fixed a0 (a1 : State) : (policySuspect a0 a1).fixed = a1.fixed := by
  unfold policySuspect
  simp

@[simp] theorem makeSuspect_fixed a0 (a1 : State) : (makeSuspect a0 a1).fixed = a1.fixed := by
  unfold makeSuspect
  simp

@[simp] theorem falseHit_fixed a0 (a1 : State) : (falseHit a0 a1).fixed = a1.fixed := by
  unfold falseHit
  simp

@[simp] theorem correctShadow_fixed a0 (a1 : State) : (correctShadow a0 a1).fixed = a1.fixed := by
  unfold correctShadow
  simp

@[simp] theorem resolve_fixed a0 a1 a2 a3 (a4 : State) : (resolve a0 a1 a2 a3 a4).1.fixed = a4.fixed := by
  induction a3 generalizing a4 with
  | zero => rfl
  | succ n ih =>
    unfold resolve
    dsimp only
    split
    · rfl
    · split
      · rw [ih, makeSuspect_fixed]
      · split
        · dsimp only; split <;> simp
        · rw [ih, falseHit_fixed]; split <;> simp

@[simp] theorem searchArray_fixed a0 a1 a2 (a3 : State) : (searchArray a0 a1 a2 a3).1.fixed = a3.fixed := by
  unfold searchArray
  simp

@[simp] theorem classify_fixed a0 a1 (a2 : State) : (classify a0 a1 a2).1.fixed = a2.fixed := by
  unfold classify
  dsimp only; (repeat' split) <;> simp_all

@[simp] theorem putEntry_fixed a0 a1 a2 a3 a4 a5 (a6 : State) : (putEntry a0 a1 a2 a3 a4 a5 a6).fixed = a6.fixed := by
  unfold putEntry
  simp

@[simp] theorem loadPolicy_fixed (a0 : State) : (loadPolicy a0).fixed = a0.fixed := by
  unfold loadPolicy
  simp

@[simp] theorem placeVec_fixed a0 a1 a2 (a3 : State) : (placeVec a0 a1 a2 a3).1.fixed = a3.fixed := by
  unfold placeVec
  simp

@[simp] theorem collEvent_fixed a0 a1 (a2 : State) : (collEvent a0 a1 a2).fixed = a2.fixed := by
  unfold collEvent
  simp

@[simp] theorem State.bothColls_fixed (a0 : State) a1 (a2 : Coll → Coll) : (State.bothColls a0 a1 a2).fixed = a0.fixed := by
  unfold State.bothColls
  simp

@[simp] theorem abandonMerges_fixed (a0 : State) : (abandonMerges a0).fixed = a0.fixed := by
  unfold abandonMerges
  simp

@[simp] theorem takeSpare_fixed a0 a1 (a2 : State) : (takeSpare a0 a1 a2).fixed = a2.fixed := by
  unfold takeSpare
  simp

@[simp] theorem startMerge_fixed a0 (a1 : State) : (startMerge a0 a1).fixed = a1.fixed := by
  unfold startMerge
  split
  · rfl
  · extract_lets u m s
    generalize (_ || _ || _ : Bool) = b
    cases b
    · exact (takeSpare_fixed _ _ _).trans ((collEvent_fixed _ _ _).trans (State.bothColls_fixed _ _ _))
    · rfl

@[simp] theorem resumeMerges_fixed (a0 : State) : (resumeMerges a0).fixed = a0.fixed := by
  unfold resumeMerges
  (repeat' split) <;> grind [foldl_fixed, fixed_mk0, fixed_mk1, fixed_mk2, takeSpare_fixed, State.bothColls_fixed]

@[simp] theorem afterSwitch_fixed a0 (a1 : State) : (afterSwitch a0 a1).fixed = a1.fixed := by
  unfold afterSwitch
  (repeat' split) <;> simp

@[simp] theorem wakeWaiting_fixed (a0 : State) : (wakeWaiting a0).fixed = a0.fixed := by
  unfold wakeWaiting
  (repeat' split) <;> grind [foldl_fixed, fixed_mk0, fixed_mk1, fixed_mk2, State.bothColls_fixed]

@[simp] theorem switchChunks_fixed (a0 : State) : (switchChunks a0).fixed = a0.fixed := by
  unfold switchChunks
  (repeat' split) <;> grind [foldl_fixed, fixed_mk0, fixed_mk1, fixed_mk2, wakeWaiting_fixed, afterSwitch_fixed, State.bothColls_fixed]

@[simp] theorem applyUpset_fixed (a0 : State) a1 : (applyUpset a0 a1).fixed = a0.fixed := by
  unfold applyUpset
  simp

end Sys2Proof.Machine
end

