-- ==== Sys2Proof/Laws/FixedB.lean ====
section
/-! SUPPORT. The functions of LoopCore, SweepCore, Day, Secure, Pins, Boot and LineRx leave the queue of waiting commands and the fused identity
of the unit (R2) as they are: one lemma per function that answers a state or an outcome. -/

namespace Sys2Proof.Machine

@[simp] theorem ldRaise_fixed a0 a1 (a2 : State) : (ldRaise a0 a1 a2).fixed = a2.fixed := by
  unfold ldRaise
  simp

@[simp] theorem State.setHart_fixed (a0 : State) a1 : (State.setHart a0 a1).fixed = a0.fixed := by
  unfold State.setHart
  simp

@[simp] theorem clearNovelty_fixed a0 a1 (a2 : State) : (clearNovelty a0 a1 a2).fixed = a2.fixed := by
  unfold clearNovelty
  simp

@[simp] theorem clearNoveltyOver_fixed a0 a1 (a2 : State) : (clearNoveltyOver a0 a1 a2).fixed = a2.fixed := by
  unfold clearNoveltyOver
  simp

@[simp] theorem raiseNovelty_fixed a0 a1 (a2 : State) : (raiseNovelty a0 a1 a2).fixed = a2.fixed := by
  unfold raiseNovelty
  simp

@[simp] theorem answerUnit_fixed a0 a1 a2 (a3 : State) : (answerUnit a0 a1 a2 a3).fixed = a3.fixed := by
  unfold answerUnit
  (repeat' split) <;> simp

@[simp] theorem failUnits_fixed (a0 : State) : (failUnits a0).fixed = a0.fixed := by
  unfold failUnits
  simp

@[simp] theorem coreEndDown_fixed (a0 : State) : (coreEndDown a0).fixed = a0.fixed := by
  unfold coreEndDown
  simp

@[simp] theorem State.setWatch_fixed (a0 : State) a1 : (State.setWatch a0 a1).fixed = a0.fixed := by
  unfold State.setWatch
  simp

@[simp] theorem dropAskers_fixed (a0 : Asker → Bool) (a1 : State) : (dropAskers a0 a1).fixed = a1.fixed := by
  unfold dropAskers
  simp

@[simp] theorem forgetNovelty_fixed a0 (a1 : State) : (forgetNovelty a0 a1).fixed = a1.fixed := by
  unfold forgetNovelty
  simp

@[simp] theorem removeWatch_fixed a0 (a1 : State) : (removeWatch a0 a1).fixed = a1.fixed := by
  unfold removeWatch
  (repeat' split) <;> simp

@[simp] theorem dropWatches_fixed a0 (a1 : State) : (dropWatches a0 a1).fixed = a1.fixed := by
  unfold dropWatches
  simp

@[simp] theorem stopRecall_fixed a0 (a1 : State) : (stopRecall a0 a1).fixed = a1.fixed := by
  unfold stopRecall
  (repeat' split) <;> simp

@[simp] theorem stopRecallOf_fixed a0 a1 (a2 : State) : (stopRecallOf a0 a1 a2).fixed = a2.fixed := by
  unfold stopRecallOf
  simp

@[simp] theorem wantDomain_fixed a0 a1 (a2 : State) : (wantDomain a0 a1 a2).fixed = a2.fixed := by
  unfold wantDomain
  simp

@[simp] theorem serviceDomains_fixed a0 (a1 : State) : (serviceDomains a0 a1).fixed = a1.fixed := by
  unfold serviceDomains
  (repeat' split) <;> simp

@[simp] theorem dueBackfill_fixed (a0 : State) : (dueBackfill a0).fixed = a0.fixed := by
  unfold dueBackfill
  simp

@[simp] theorem enterService_fixed a0 (a1 : State) : (enterService a0 a1).fixed = a1.fixed := by
  unfold enterService
  simp

@[simp] theorem doModeShow_fixed a0 (a1 : State) : (doModeShow a0 a1).fixed = a1.fixed := by
  unfold doModeShow
  simp

theorem execModeShow_fixed a0 (a1 : State) : Keeps (execModeShow a0 a1) a1 := by
  unfold execModeShow; apply keeps_next
  simp

@[simp] theorem startDrain_fixed a0 (a1 : State) : (startDrain a0 a1).fixed = a1.fixed := by
  unfold startDrain
  simp

@[simp] theorem modeSet_fixed a0 a1 (a2 : State) : (modeSet a0 a1 a2).fixed = a2.fixed := by
  unfold modeSet
  (repeat' split) <;> simp

@[simp] theorem doModeSet_fixed a0 (a1 : State) : (doModeSet a0 a1).fixed = a1.fixed := by
  unfold doModeSet
  (repeat' split) <;> simp

theorem execModeSet_fixed a0 (a1 : State) : Keeps (execModeSet a0 a1) a1 := by
  unfold execModeSet; apply keeps_next
  simp

@[simp] theorem dropCommits_fixed (a0 : State) : (dropCommits a0).fixed = a0.fixed := by
  unfold dropCommits
  simp

@[simp] theorem coreEmptied_fixed (a0 : State) : (coreEmptied a0).fixed = a0.fixed := by
  unfold coreEmptied
  simp

@[simp] theorem smallHoursPower_fixed (a0 : State) : (smallHoursPower a0).fixed = a0.fixed := by
  unfold smallHoursPower
  simp

@[simp] theorem enterSmallHours_fixed (a0 : State) : (enterSmallHours a0).fixed = a0.fixed := by
  unfold enterSmallHours
  simp

@[simp] theorem leaveEvening_fixed (a0 : State) : (leaveEvening a0).fixed = a0.fixed := by
  unfold leaveEvening
  (repeat' split) <;> simp

theorem execDrainComplete_fixed (a0 : State) : Keeps (execDrainComplete a0) a0 := by
  unfold execDrainComplete; apply keeps_next
  simp

theorem execSmallHoursEntry_fixed (a0 : State) : Keeps (execSmallHoursEntry a0) a0 := by
  unfold execSmallHoursEntry; apply keeps_next
  simp

@[simp] theorem answerAllBusy_fixed a0 (a1 : State) : (answerAllBusy a0 a1).fixed = a1.fixed := by
  unfold answerAllBusy
  simp

theorem execDrainTimeout_fixed (a0 : State) : Keeps (execDrainTimeout a0) a0 := by
  unfold execDrainTimeout; apply keeps_next
  simp

theorem execSmallHoursResume_fixed a0 (a1 : State) : Keeps (execSmallHoursResume a0 a1) a1 := by
  unfold execSmallHoursResume; apply keeps_next
  simp

@[simp] theorem queueJob_fixed a0 a1 a2 (a3 : State) : (queueJob a0 a1 a2 a3).1.fixed = a3.fixed := by
  unfold queueJob
  simp

@[simp] theorem dropJob_fixed a0 (a1 : State) : (dropJob a0 a1).fixed = a1.fixed := by
  unfold dropJob
  simp

@[simp] theorem almanacMove_fixed a0 a1 (a2 : State) : (almanacMove a0 a1 a2).fixed = a2.fixed := by
  unfold almanacMove
  simp

@[simp] theorem setThrottle_fixed a0 (a1 : State) : (setThrottle a0 a1).fixed = a1.fixed := by
  unfold setThrottle
  simp

@[simp] theorem grantMode_fixed a0 a1 (a2 : State) : (grantMode a0 a1 a2).1.fixed = a2.fixed := by
  unfold grantMode
  (repeat' split) <;> simp

@[simp] theorem chooseMode_fixed a0 a1 (a2 : State) : (chooseMode a0 a1 a2).fixed = a2.fixed := by
  unfold chooseMode
  simp

@[simp] theorem longOver_fixed a0 (a1 : State) : (longOver a0 a1).fixed = a1.fixed := by
  unfold longOver
  simp

@[simp] theorem notOver_fixed (a0 : State) : (notOver a0).fixed = a0.fixed := by
  unfold notOver
  simp

@[simp] theorem afternoonTick_fixed a0 a1 (a2 : State) : (afternoonTick a0 a1 a2).fixed = a2.fixed := by
  unfold afternoonTick
  simp

@[simp] theorem throttleTick_fixed a0 a1 (a2 : State) : (throttleTick a0 a1 a2).fixed = a2.fixed := by
  unfold throttleTick
  simp

@[simp] theorem gcTick_fixed a0 (a1 : State) : (gcTick a0 a1).fixed = a1.fixed := by
  unfold gcTick
  simp

@[simp] theorem tempTick_fixed (a0 : State) : (tempTick a0).fixed = a0.fixed := by
  unfold tempTick
  simp

theorem execAlmanacTick_fixed a0 a1 a2 a3 (a4 : State) : Keeps (execAlmanacTick a0 a1 a2 a3 a4) a4 := by
  unfold execAlmanacTick; apply keeps_next
  simp

theorem execScrubPeriodUpdate_fixed (a0 : State) : Keeps (execScrubPeriodUpdate a0) a0 := by
  unfold execScrubPeriodUpdate; apply keeps_next
  simp

@[simp] theorem holdupWrite_fixed a0 a1 (a2 : State) : (holdupWrite a0 a1 a2).fixed = a2.fixed := by
  unfold holdupWrite
  (repeat' split) <;> grind [foldl_fixed, fixed_mk0, fixed_mk1, fixed_mk2, reply_fixed, ns0Write_fixed, done_fixed, recomputeLimit_fixed, State.setReg_fixed]

theorem execFlashHoldupWrite_fixed a0 a1 (a2 : State) : Keeps (execFlashHoldupWrite a0 a1 a2) a2 := by
  unfold execFlashHoldupWrite; apply keeps_next
  simp

@[simp] theorem dirtyMaxMoved_fixed (a0 : State) : (dirtyMaxMoved a0).fixed = a0.fixed := by
  unfold dirtyMaxMoved
  simp

@[simp] theorem dirtyMaxWrite_fixed a0 a1 (a2 : State) : (dirtyMaxWrite a0 a1 a2).fixed = a2.fixed := by
  unfold dirtyMaxWrite
  simp

theorem execDirtyMaxWrite_fixed a0 a1 (a2 : State) : Keeps (execDirtyMaxWrite a0 a1 a2) a2 := by
  unfold execDirtyMaxWrite; apply keeps_next
  simp

@[simp] theorem loadSlot_fixed a0 a1 (a2 : State) : (loadSlot a0 a1 a2).fixed = a2.fixed := by
  unfold loadSlot
  simp

@[simp] theorem loadIdentity_fixed (a0 : State) : (loadIdentity a0).fixed = a0.fixed := by
  unfold loadIdentity
  simp

@[simp] theorem zeroise_fixed (a0 : State) : (zeroise a0).fixed = a0.fixed := by
  unfold zeroise
  simp

@[simp] theorem enterNight_fixed (a0 : State) : (enterNight a0).fixed = a0.fixed := by
  unfold enterNight
  simp

@[simp] theorem alarmCuts_fixed (a0 : State) : (alarmCuts a0).fixed = a0.fixed := by
  unfold alarmCuts
  simp

@[simp] theorem alarmPath_fixed (a0 : State) : (alarmPath a0).fixed = a0.fixed := by
  unfold alarmPath
  (repeat' split) <;> simp

@[simp] theorem fireAlarm_fixed a0 (a1 : State) : (fireAlarm a0 a1).fixed = a1.fixed := by
  unfold fireAlarm
  dsimp only; (repeat' split) <;> simp_all

@[simp] theorem detectSource_fixed a0 (a1 : State) : (detectSource a0 a1).fixed = a1.fixed := by
  unfold detectSource
  simp

@[simp] theorem quietSource_fixed a0 (a1 : State) : (quietSource a0 a1).fixed = a1.fixed := by
  unfold quietSource
  simp

@[simp] theorem authFailure_fixed (a0 : State) : (authFailure a0).fixed = a0.fixed := by
  unfold authFailure
  simp

@[simp] theorem tickN_fixed a0 (a1 : State) : (tickN a0 a1).fixed = a1.fixed := by
  unfold tickN
  simp

@[simp] theorem sampleStraps_fixed a0 (a1 : State) : (sampleStraps a0 a1).fixed = a1.fixed := by
  unfold sampleStraps
  simp

@[simp] theorem trace_fixed a0 a1 a2 (a3 : State) : (trace a0 a1 a2 a3).fixed = a3.fixed := by
  unfold trace
  extract_lets i
  rw [State.setReg_fixed, State.setReg_fixed]

@[simp] theorem showFlag_fixed (a0 : State) : (showFlag a0).fixed = a0.fixed := by
  unfold showFlag
  simp

@[simp] theorem writeFlag_fixed a0 a1 a2 (a3 : State) : (writeFlag a0 a1 a2 a3).1.fixed = a3.fixed := by
  unfold writeFlag
  dsimp only; (repeat' split) <;> simp_all

@[simp] theorem cutShort_fixed a0 (a1 : State) : (cutShort a0 a1).fixed = a1.fixed := by
  unfold cutShort
  (repeat' split) <;> simp

@[simp] theorem programSlot_fixed a0 a1 (a2 : State) : (programSlot a0 a1 a2).1.fixed = a2.fixed := by
  unfold programSlot
  simp

@[simp] theorem readOtp_fixed (a0 : State) : (readOtp a0).fixed = a0.fixed := by
  unfold readOtp
  simp

@[simp] theorem returnedActions_fixed (a0 : State) : (returnedActions a0).fixed = a0.fixed := by
  unfold returnedActions
  simp

@[simp] theorem deriveKeys_fixed (a0 : State) : (deriveKeys a0).fixed = a0.fixed := by
  unfold deriveKeys
  dsimp only; (repeat' split) <;> simp_all

@[simp] theorem enterNightfall_fixed (a0 : State) : (enterNightfall a0).fixed = a0.fixed := by
  unfold enterNightfall
  simp

@[simp] theorem trySlots_fixed a0 (a1 : State) : (trySlots a0 a1).fixed = a1.fixed := by
  induction a0 generalizing a1 with
  | nil => exact enterNightfall_fixed a1
  | cons b bs ih =>
    have k : ∀ (b : Boot) x y z, (trace x y z { a1 with boot := b }).fixed = a1.fixed := fun b x y z => trace_fixed _ _ _ _
    have h : ∀ (y : State) (u : Boot) kv, (trySlots bs (raise 0x041 kv { y with boot := u })).fixed = y.fixed :=
      fun y u kv => (ih _).trans (raise_fixed _ _ _)
    unfold trySlots
    extract_lets img
    split
    · exact k _ _ _ _
    · exact (h _ _ _).trans ((State.setReg_fixed _ _ _ _).trans (trace_fixed _ _ _ _))

@[simp] theorem dawnBoot_fixed a0 (a1 : State) : (dawnBoot a0 a1).fixed = a1.fixed := by
  unfold dawnBoot
  dsimp only; (repeat' split) <;> simp_all

@[simp] theorem dawn_fixed a0 (a1 : State) : (dawn a0 a1).fixed = a1.fixed := by
  unfold dawn
  simp

theorem execDawn_fixed a0 (a1 : State) : Keeps (execDawn a0 a1) a1 := by
  unfold execDawn; intro t e; (repeat' split at e) <;> grind [foldl_fixed, fixed_mk0, fixed_mk1, fixed_mk2, dawn_fixed, cutShort_fixed, sampleStraps_fixed, keeps_next, Keeps]

@[simp] theorem handOver_fixed a0 (a1 : State) : (handOver a0 a1).fixed = a1.fixed := by
  unfold handOver
  simp

theorem execHandover_fixed (a0 : State) : Keeps (execHandover a0) a0 := by
  unfold execHandover; apply keeps_next
  (repeat' split) <;> simp

@[simp] theorem confirmStart_fixed (a0 : State) : (confirmStart a0).fixed = a0.fixed := by
  unfold confirmStart
  simp

theorem execHandoverWatchdog_fixed (a0 : State) : Keeps (execHandoverWatchdog a0) a0 := by
  unfold execHandoverWatchdog; apply keeps_next
  simp

@[simp] theorem nightfallRetry_fixed a0 (a1 : State) : (nightfallRetry a0 a1).fixed = a1.fixed := by
  unfold nightfallRetry
  simp

theorem execNightfallHoldoffExpiry_fixed (a0 : State) : Keeps (execNightfallHoldoffExpiry a0) a0 := by
  unfold execNightfallHoldoffExpiry; apply keeps_next
  simp

@[simp] theorem forwardBytes_fixed a0 (a1 : State) : (forwardBytes a0 a1).fixed = a1.fixed := by
  unfold forwardBytes
  simp

@[simp] theorem endForward_fixed (a0 : State) : (endForward a0).fixed = a0.fixed := by
  unfold endForward
  simp

@[simp] theorem forwardRest_fixed (a0 : State) : (forwardRest a0).fixed = a0.fixed := by
  unfold forwardRest
  simp

@[simp] theorem checkDuplicate_fixed (a0 : State) : (checkDuplicate a0).fixed = a0.fixed := by
  unfold checkDuplicate
  simp

@[simp] theorem bcastByte_fixed a0 (a1 : State) : (bcastByte a0 a1).fixed = a1.fixed := by
  unfold bcastByte
  (repeat' split) <;> simp

@[simp] theorem lineByte_fixed a0 a1 (a2 : State) : (lineByte a0 a1 a2).fixed = a2.fixed := by
  unfold lineByte
  (repeat' split) <;> grind [foldl_fixed, fixed_mk0, fixed_mk1, fixed_mk2, forwardRest_fixed, checkDuplicate_fixed, bcastByte_fixed]

@[simp] theorem consumeEnd_fixed (a0 : State) : (consumeEnd a0).fixed = a0.fixed := by
  unfold consumeEnd
  simp

@[simp] theorem bcastEnd_fixed a0 (a1 : State) : (bcastEnd a0 a1).fixed = a1.fixed := by
  unfold bcastEnd
  simp

@[simp] theorem lineEnd_fixed a0 (a1 : State) : (lineEnd a0 a1).fixed = a1.fixed := by
  unfold lineEnd
  dsimp only; (repeat' split) <;> simp_all

@[simp] theorem runByte_fixed a0 a1 (a2 : State) : (runByte a0 a1 a2).fixed = a2.fixed := by
  unfold runByte
  simp

@[simp] theorem receiveByte_fixed a0 a1 (a2 : State) : (receiveByte a0 a1 a2).fixed = a2.fixed := by
  unfold receiveByte
  simp

theorem execIbianByteReceived_fixed a0 a1 (a2 : State) : Keeps (execIbianByteReceived a0 a1 a2) a2 := by
  unfold execIbianByteReceived; apply keeps_next
  simp

theorem execEchoRelease_fixed (a0 : State) : Keeps (execEchoRelease a0) a0 := by
  unfold execEchoRelease; apply keeps_next
  simp

theorem execPassThroughRunTimeout_fixed (a0 : State) : Keeps (execPassThroughRunTimeout a0) a0 := by
  unfold execPassThroughRunTimeout; apply keeps_next
  simp

theorem execForwardedCrEnd_fixed (a0 : State) : Keeps (execForwardedCrEnd a0) a0 := by
  unfold execForwardedCrEnd; apply keeps_next
  simp

@[simp] theorem breakActs_fixed (a0 : State) : (breakActs a0).fixed = a0.fixed := by
  unfold breakActs
  simp

theorem execBreakReceived_fixed (a0 : State) : Keeps (execBreakReceived a0) a0 := by
  unfold execBreakReceived; apply keeps_next
  simp

@[simp] theorem lossEvent_fixed (a0 : State) : (lossEvent a0).fixed = a0.fixed := by
  unfold lossEvent
  simp

theorem execReceiveLoss_fixed (a0 : State) : Keeps (execReceiveLoss a0) a0 := by
  unfold execReceiveLoss; apply keeps_next
  simp

theorem execReceiveLossRepeat_fixed (a0 : State) : Keeps (execReceiveLossRepeat a0) a0 := by
  unfold execReceiveLossRepeat; apply keeps_next
  simp

theorem execReceiveRestored_fixed (a0 : State) : Keeps (execReceiveRestored a0) a0 := by
  unfold execReceiveRestored; apply keeps_next
  simp

theorem execLineRateSwitch_fixed (a0 : State) : Keeps (execLineRateSwitch a0) a0 := by
  unfold execLineRateSwitch; apply keeps_next
  (repeat' split) <;> simp

theorem execRateRevert_fixed (a0 : State) : Keeps (execRateRevert a0) a0 := by
  unfold execRateRevert; apply keeps_next
  (repeat' split) <;> simp

@[simp] theorem sendNotice_fixed a0 (a1 : State) : (sendNotice a0 a1).fixed = a1.fixed := by
  unfold sendNotice
  dsimp only; (repeat' split) <;> simp_all

theorem execNoticeSend_fixed a0 (a1 : State) : Keeps (execNoticeSend a0 a1) a1 := by
  unfold execNoticeSend; apply keeps_next
  (repeat' split) <;> simp

end Sys2Proof.Machine
end

