-- ==== Sys2Proof/Laws/FixedC.lean ====
section
/-! SUPPORT. The functions of LineVerbs, Events, KvOps, KvVerbs and DkpOps leave the queue of waiting commands and the fused identity
of the unit (R2) as they are: one lemma per function that answers a state or an outcome. -/

namespace Sys2Proof.Machine

@[simp] theorem setAddr_fixed a0 (a1 : State) : (setAddr a0 a1).fixed = a1.fixed := by
  unfold setAddr
  simp

@[simp] theorem forwardRewritten_fixed a0 a1 (a2 : State) : (forwardRewritten a0 a1 a2).fixed = a2.fixed := by
  unfold forwardRewritten
  simp

@[simp] theorem doAddrChain_fixed a0 (a1 : State) : (doAddrChain a0 a1).fixed = a1.fixed := by
  unfold doAddrChain
  (repeat' split) <;> simp

theorem execAddrChain_fixed a0 (a1 : State) : Keeps (execAddrChain a0 a1) a1 := by
  unfold execAddrChain; apply keeps_next
  simp

@[simp] theorem doAddrSet_fixed a0 (a1 : State) : (doAddrSet a0 a1).fixed = a1.fixed := by
  unfold doAddrSet
  simp

theorem execAddrSet_fixed a0 (a1 : State) : Keeps (execAddrSet a0 a1) a1 := by
  unfold execAddrSet; apply keeps_next
  simp

@[simp] theorem doRingProbe_fixed a0 (a1 : State) : (doRingProbe a0 a1).fixed = a1.fixed := by
  unfold doRingProbe
  simp

theorem execRingProbe_fixed a0 (a1 : State) : Keeps (execRingProbe a0 a1) a1 := by
  unfold execRingProbe; apply keeps_next
  simp

@[simp] theorem doLineRate_fixed a0 (a1 : State) : (doLineRate a0 a1).fixed = a1.fixed := by
  unfold doLineRate
  simp

theorem execLineRate_fixed a0 (a1 : State) : Keeps (execLineRate a0 a1) a1 := by
  unfold execLineRate; apply keeps_next
  simp

@[simp] theorem doLineSetpin_fixed a0 (a1 : State) : (doLineSetpin a0 a1).fixed = a1.fixed := by
  unfold doLineSetpin
  (repeat' split) <;> grind [foldl_fixed, fixed_mk0, fixed_mk1, fixed_mk2, gate_fixed, reply_fixed, ns0Record_fixed, loadSlot_fixed, done_fixed]

theorem execLineSetpin_fixed a0 (a1 : State) : Keeps (execLineSetpin a0 a1) a1 := by
  unfold execLineSetpin; apply keeps_next
  simp

@[simp] theorem doLineNotices_fixed a0 (a1 : State) : (doLineNotices a0 a1).fixed = a1.fixed := by
  unfold doLineNotices
  (repeat' split) <;> simp

theorem execLineNotices_fixed a0 (a1 : State) : Keeps (execLineNotices a0 a1) a1 := by
  unfold execLineNotices; apply keeps_next
  simp

@[simp] theorem setLock_fixed a0 a1 (a2 : State) : (setLock a0 a1 a2).fixed = a2.fixed := by
  unfold setLock
  (repeat' split) <;> simp

@[simp] theorem doLineShow_fixed a0 (a1 : State) : (doLineShow a0 a1).fixed = a1.fixed := by
  unfold doLineShow
  simp

theorem execLineShow_fixed a0 (a1 : State) : Keeps (execLineShow a0 a1) a1 := by
  unfold execLineShow; apply keeps_next
  simp

@[simp] theorem loginFailed_fixed a0 (a1 : State) : (loginFailed a0 a1).fixed = a1.fixed := by
  unfold loginFailed
  simp

@[simp] theorem loginDone_fixed a0 a1 (a2 : State) : (loginDone a0 a1 a2).fixed = a2.fixed := by
  unfold loginDone
  simp

@[simp] theorem whileLocked_fixed a0 (a1 : State → State) (a2 : State) (ha1 : ∀ x0, (a1 x0).fixed = x0.fixed) : (whileLocked a0 a1 a2).fixed = a2.fixed := by
  unfold whileLocked
  simp [ha1]

@[simp] theorem doLoginPin_fixed a0 (a1 : State) : (doLoginPin a0 a1).fixed = a1.fixed := by
  unfold doLoginPin
  (repeat' split) <;> grind [foldl_fixed, fixed_mk0, fixed_mk1, fixed_mk2, gate_fixed, whileLocked_fixed, reply_fixed, loginDone_fixed, loginFailed_fixed]

theorem execLoginPin_fixed a0 (a1 : State) : Keeps (execLoginPin a0 a1) a1 := by
  unfold execLoginPin; apply keeps_next
  simp

@[simp] theorem doLoginChallenge_fixed a0 (a1 : State) : (doLoginChallenge a0 a1).fixed = a1.fixed := by
  unfold doLoginChallenge
  simp

theorem execLoginChallenge_fixed a0 (a1 : State) : Keeps (execLoginChallenge a0 a1) a1 := by
  unfold execLoginChallenge; apply keeps_next
  simp

@[simp] theorem doLoginOwner_fixed a0 (a1 : State) : (doLoginOwner a0 a1).fixed = a1.fixed := by
  unfold doLoginOwner
  refine gate_fixed _ _ _ _ fun x => whileLocked_fixed _ _ _ fun y => ?_
  split
  · exact reply_fixed _ _ _ _
  · extract_lets s
    have h : s.fixed = y.fixed := State.updRoute_fixed _ _ _
    split
    · exact (reply_fixed _ _ _ _).trans h
    · split
      · exact (loginDone_fixed _ _ _).trans h
      · exact (loginFailed_fixed _ _).trans ((reply_fixed _ _ _ _).trans h)

theorem execLoginOwner_fixed a0 (a1 : State) : Keeps (execLoginOwner a0 a1) a1 := by
  unfold execLoginOwner; apply keeps_next
  simp

@[simp] theorem doLoginVendor_fixed a0 (a1 : State) : (doLoginVendor a0 a1).fixed = a1.fixed := by
  unfold doLoginVendor
  simp

theorem execLoginVendor_fixed a0 (a1 : State) : Keeps (execLoginVendor a0 a1) a1 := by
  unfold execLoginVendor; apply keeps_next
  simp

@[simp] theorem fallBack_fixed a0 (a1 : State) : (fallBack a0 a1).fixed = a1.fixed := by
  unfold fallBack
  simp

@[simp] theorem doLoginOut_fixed a0 (a1 : State) : (doLoginOut a0 a1).fixed = a1.fixed := by
  unfold doLoginOut
  simp

theorem execLoginOut_fixed a0 (a1 : State) : Keeps (execLoginOut a0 a1) a1 := by
  unfold execLoginOut; apply keeps_next
  simp

theorem execLoginIdleFallback_fixed a0 (a1 : State) : Keeps (execLoginIdleFallback a0 a1) a1 := by
  unfold execLoginIdleFallback; apply keeps_next
  (repeat' split) <;> simp

theorem execLoginLockExpiry_fixed a0 (a1 : State) : Keeps (execLoginLockExpiry a0 a1) a1 := by
  unfold execLoginLockExpiry; apply keeps_next
  simp

@[simp] theorem doSysStatus_fixed a0 (a1 : State) : (doSysStatus a0 a1).fixed = a1.fixed := by
  unfold doSysStatus
  simp

theorem execSysStatus_fixed a0 (a1 : State) : Keeps (execSysStatus a0 a1) a1 := by
  unfold execSysStatus; apply keeps_next
  simp

@[simp] theorem doSysReset_fixed a0 (a1 : State) : (doSysReset a0 a1).fixed = a1.fixed := by
  unfold doSysReset
  simp

theorem execSysReset_fixed a0 (a1 : State) : Keeps (execSysReset a0 a1) a1 := by
  unfold execSysReset; apply keeps_next
  simp

@[simp] theorem doSysDiag_fixed a0 (a1 : State) : (doSysDiag a0 a1).fixed = a1.fixed := by
  unfold doSysDiag
  simp

theorem execSysDiag_fixed a0 (a1 : State) : Keeps (execSysDiag a0 a1) a1 := by
  unfold execSysDiag; apply keeps_next
  simp

@[simp] theorem setMasks_fixed a0 a1 (a2 : State) : (setMasks a0 a1 a2).fixed = a2.fixed := by
  unfold setMasks
  simp

@[simp] theorem writeMasks_fixed a0 a1 (a2 : State) : (writeMasks a0 a1 a2).1.fixed = a2.fixed := by
  unfold writeMasks
  (repeat' split) <;> grind [foldl_fixed, fixed_mk0, fixed_mk1, fixed_mk2, ns0Write_fixed, setMasks_fixed]

@[simp] theorem clearEvents_fixed a0 a1 (a2 : State) : (clearEvents a0 a1 a2).1.fixed = a2.fixed := by
  unfold clearEvents
  simp

@[simp] theorem doEvtShow_fixed a0 (a1 : State) : (doEvtShow a0 a1).fixed = a1.fixed := by
  unfold doEvtShow
  (repeat' split) <;> simp

theorem execEvtShow_fixed a0 (a1 : State) : Keeps (execEvtShow a0 a1) a1 := by
  unfold execEvtShow; apply keeps_next
  simp

@[simp] theorem doEvtList_fixed a0 (a1 : State) : (doEvtList a0 a1).fixed = a1.fixed := by
  unfold doEvtList
  simp

theorem execEvtList_fixed a0 (a1 : State) : Keeps (execEvtList a0 a1) a1 := by
  unfold execEvtList; apply keeps_next
  simp

@[simp] theorem doEvtSet_fixed a0 (a1 : State) : (doEvtSet a0 a1).fixed = a1.fixed := by
  unfold doEvtSet
  (repeat' split) <;> grind [foldl_fixed, fixed_mk0, fixed_mk1, fixed_mk2, gate_fixed, writeMasks_fixed, reply_fixed, done_fixed]

theorem execEvtSet_fixed a0 (a1 : State) : Keeps (execEvtSet a0 a1) a1 := by
  unfold execEvtSet; apply keeps_next
  simp

@[simp] theorem doEvtClear_fixed a0 (a1 : State) : (doEvtClear a0 a1).fixed = a1.fixed := by
  unfold doEvtClear
  simp

theorem execEvtClear_fixed a0 (a1 : State) : Keeps (execEvtClear a0 a1) a1 := by
  unfold execEvtClear; apply keeps_next
  simp

@[simp] theorem gpioPut_fixed a0 a1 (a2 : State) : (gpioPut a0 a1 a2).1.fixed = a2.fixed := by
  unfold gpioPut
  (repeat' split) <;> grind [foldl_fixed, fixed_mk0, fixed_mk1, fixed_mk2, ns0Write_fixed, State.setReg_fixed]

@[simp] theorem doEvtGpio_fixed a0 (a1 : State) : (doEvtGpio a0 a1).fixed = a1.fixed := by
  unfold doEvtGpio
  (repeat' split) <;> grind [foldl_fixed, fixed_mk0, fixed_mk1, fixed_mk2, gate_fixed, gpioPut_fixed, reply_fixed, done_fixed]

theorem execEvtGpio_fixed a0 (a1 : State) : Keeps (execEvtGpio a0 a1) a1 := by
  unfold execEvtGpio; apply keeps_next
  simp

theorem execLogProgram_fixed (a0 : State) : Keeps (execLogProgram a0) a0 := by
  unfold execLogProgram; apply keeps_next
  simp

@[simp] theorem doEvtLog_fixed a0 (a1 : State) : (doEvtLog a0 a1).fixed = a1.fixed := by
  unfold doEvtLog
  simp

theorem execEvtLog_fixed a0 (a1 : State) : Keeps (execEvtLog a0 a1) a1 := by
  unfold execEvtLog; apply keeps_next
  simp

@[simp] theorem doEvtInject_fixed a0 (a1 : State) : (doEvtInject a0 a1).fixed = a1.fixed := by
  unfold doEvtInject
  dsimp only; (repeat' split) <;> simp_all

theorem execEvtInject_fixed a0 (a1 : State) : Keeps (execEvtInject a0 a1) a1 := by
  unfold execEvtInject; apply keeps_next
  simp

@[simp] theorem latchClearWrite_fixed a0 a1 (a2 : State) : (latchClearWrite a0 a1 a2).fixed = a2.fixed := by
  unfold latchClearWrite
  simp

theorem execEventLatchClearWrite_fixed a0 a1 (a2 : State) : Keeps (execEventLatchClearWrite a0 a1 a2) a2 := by
  unfold execEventLatchClearWrite; apply keeps_next
  simp

theorem execGpioPulseEnd_fixed a0 (a1 : State) : Keeps (execGpioPulseEnd a0 a1) a1 := by
  unfold execGpioPulseEnd; apply keeps_next
  simp

@[simp] theorem busyEstimate_fixed a0 (a1 : State) : (busyEstimate a0 a1).1.fixed = a1.fixed := by
  unfold busyEstimate
  simp

@[simp] theorem structureRefusal_fixed a0 (a1 : State) : (structureRefusal a0 a1).1.fixed = a1.fixed := by
  unfold structureRefusal
  dsimp only; (repeat' split) <;> simp_all

@[simp] theorem recordRefusal_fixed a0 (a1 : State) : (recordRefusal a0 a1).1.fixed = a1.fixed := by
  unfold recordRefusal
  (repeat' split) <;> simp

@[simp] theorem readKey_fixed a0 a1 (a2 : State) : (readKey a0 a1 a2).1.fixed = a2.fixed := by
  unfold readKey
  (repeat' split) <;> grind [foldl_fixed, fixed_mk0, fixed_mk1, fixed_mk2, structureRefusal_fixed, startWalk_fixed, recordRefusal_fixed]

@[simp] theorem readTest_fixed a0 a1 a2 (a3 : State) : (readTest a0 a1 a2 a3).1.fixed = a3.fixed := by
  unfold readTest
  (repeat' split) <;> grind [foldl_fixed, fixed_mk0, fixed_mk1, fixed_mk2, classify_fixed, busyEstimate_fixed]

@[simp] theorem getKey_fixed a0 a1 a2 (a3 : State) : (getKey a0 a1 a2 a3).1.fixed = a3.fixed := by
  unfold getKey
  (repeat' split) <;> grind [foldl_fixed, fixed_mk0, fixed_mk1, fixed_mk2, readTest_fixed, readKey_fixed]

@[simp] theorem collRefusal_fixed a0 (a1 : State) : (collRefusal a0 a1).1.fixed = a1.fixed := by
  unfold collRefusal
  dsimp only; (repeat' split) <;> simp_all

@[simp] theorem sideRefusal_fixed a0 (a1 : State) : (sideRefusal a0 a1).1.fixed = a1.fixed := by
  unfold sideRefusal
  dsimp only; (repeat' split) <;> simp_all

@[simp] theorem dropVec_fixed a0 (a1 : State) : (dropVec a0 a1).1.fixed = a1.fixed := by
  unfold dropVec
  (repeat' split) <;> grind [foldl_fixed, fixed_mk0, fixed_mk1, fixed_mk2, structureRefusal_fixed, sideRefusal_fixed, placeVec_fixed]

@[simp] theorem vectorSlot_fixed a0 a1 (a2 : State) : (vectorSlot a0 a1 a2).1.fixed = a2.fixed := by
  unfold vectorSlot
  (repeat' split) <;> simp

@[simp] theorem storeVec_fixed a0 a1 a2 a3 a4 a5 a6 (a7 : State) : (storeVec a0 a1 a2 a3 a4 a5 a6 a7).1.fixed = a7.fixed := by
  unfold storeVec
  (repeat' split) <;> grind [foldl_fixed, fixed_mk0, fixed_mk1, fixed_mk2, collRefusal_fixed, structureRefusal_fixed, sideRefusal_fixed, vectorSlot_fixed, placeVec_fixed]

@[simp] theorem limitRefusal_fixed a0 a1 (a2 : State) : (limitRefusal a0 a1 a2).1.fixed = a2.fixed := by
  unfold limitRefusal
  dsimp only; (repeat' split) <;> simp_all

@[simp] theorem storeKey_fixed a0 a1 a2 a3 a4 a5 a6 a7 (a8 : State) : (storeKey a0 a1 a2 a3 a4 a5 a6 a7 a8).1.fixed = a8.fixed := by
  unfold storeKey
  (repeat' split) <;> grind [foldl_fixed, fixed_mk0, fixed_mk1, fixed_mk2, raiseCount_fixed, dropVec_fixed, storeVec_fixed, limitRefusal_fixed]

@[simp] theorem removeKey_fixed a0 a1 a2 a3 a4 (a5 : State) : (removeKey a0 a1 a2 a3 a4 a5).1.fixed = a5.fixed := by
  unfold removeKey
  (repeat' split) <;> grind [foldl_fixed, fixed_mk0, fixed_mk1, fixed_mk2, dropVec_fixed]

@[simp] theorem keepKey_fixed a0 a1 a2 a3 a4 (a5 : State) : (keepKey a0 a1 a2 a3 a4 a5).1.fixed = a5.fixed := by
  unfold keepKey
  (repeat' split) <;> grind [foldl_fixed, fixed_mk0, fixed_mk1, fixed_mk2, raiseCount_fixed, dropVec_fixed]

@[simp] theorem noVector_fixed a0 a1 (a2 : State) : (noVector a0 a1 a2).1.fixed = a2.fixed := by
  unfold noVector
  (repeat' split) <;> simp

@[simp] theorem runSub_fixed a0 a1 a2 a3 a4 (a5 : State) : (runSub a0 a1 a2 a3 a4 a5).1.fixed = a5.fixed := by
  unfold runSub
  (repeat' split) <;> grind [foldl_fixed, fixed_mk0, fixed_mk1, fixed_mk2, structureRefusal_fixed, startWalk_fixed, removeKey_fixed, noVector_fixed, keepKey_fixed, storeKey_fixed]

@[simp] theorem judgeSub_fixed a0 a1 a2 a3 (a4 : State) : (judgeSub a0 a1 a2 a3 a4).1.fixed = a4.fixed := by
  unfold judgeSub
  (repeat' split) <;> grind [foldl_fixed, fixed_mk0, fixed_mk1, fixed_mk2, classify_fixed, busyEstimate_fixed, runSub_fixed]

@[simp] theorem judgeSubs_fixed a0 a1 a2 a3 a4 a5 (a6 : State) : (judgeSubs a0 a1 a2 a3 a4 a5 a6).1.fixed = a6.fixed := by
  induction a2 generalizing a3 a4 a5 a6 with
  | nil => rfl
  | cons o os ih =>
    unfold judgeSubs
    split
    · rfl
    · have h := judgeSub_fixed a0 a1 o a5 a6
      split
      · rename_i e; rw [e] at h; exact h
      · rename_i e; rw [e] at h; rw [ih]; exact h

@[simp] theorem kvWrite_fixed a0 a1 a2 (a3 : State) : (kvWrite a0 a1 a2 a3).1.fixed = a3.fixed := by
  unfold kvWrite
  (repeat' split) <;> grind [foldl_fixed, fixed_mk0, fixed_mk1, fixed_mk2, judgeSubs_fixed, refusalEvent_fixed, commitStore_fixed, raise_fixed]

@[simp] theorem endSnap_fixed a0 a1 (a2 : State) : (endSnap a0 a1 a2).fixed = a2.fixed := by
  unfold endSnap
  simp

@[simp] theorem openSnap_fixed a0 a1 (a2 : State) : (openSnap a0 a1 a2).1.fixed = a2.fixed := by
  unfold openSnap
  (repeat' split) <;> simp

@[simp] theorem scanKeys_fixed a0 a1 a2 a3 a4 a5 a6 (a7 : State) : (scanKeys a0 a1 a2 a3 a4 a5 a6 a7).1.fixed = a7.fixed := by
  induction a3 generalizing a4 a5 a6 a7 with
  | nil => rfl
  | cons e es ih =>
    cases a4 with
    | zero => rfl
    | succ n =>
      unfold scanKeys
      have h := classify_fixed e.ns e.key a7
      split
      · rename_i q; rw [q] at h; simpa using h
      · rename_i q; rw [q] at h
        replace h := congrArg id h
        dsimp only [id] at h
        split
        · exact h
        · split
          · exact h
          · split
            · rename_i q; split at q
              · cases q
              · grind [recordRefusal_fixed]
            · rename_i q; rw [ih]; split at q
              · cases q; exact h
              · grind [recordRefusal_fixed]

@[simp] theorem scan_fixed a0 a1 a2 a3 a4 a5 a6 a7 a8 (a9 : State) : (scan a0 a1 a2 a3 a4 a5 a6 a7 a8 a9).1.fixed = a9.fixed := by
  unfold scan
  (repeat' split) <;> grind [foldl_fixed, fixed_mk0, fixed_mk1, fixed_mk2, structureRefusal_fixed, openSnap_fixed, scanKeys_fixed]

theorem execKeyExpiryRemoval_fixed a0 a1 (a2 : State) : Keeps (execKeyExpiryRemoval a0 a1 a2) a2 := by
  unfold execKeyExpiryRemoval; apply keeps_next
  (repeat' split) <;> grind [foldl_fixed, fixed_mk0, fixed_mk1, fixed_mk2, dropVec_fixed, State.incReg_fixed, commitStore_fixed]

theorem execSnapshotEnd_fixed a0 a1 (a2 : State) : Keeps (execSnapshotEnd a0 a1 a2) a2 := by
  unfold execSnapshotEnd; apply keeps_next
  (repeat' split) <;> simp

theorem execDirtyDataProgrammed_fixed a0 (a1 : State) : Keeps (execDirtyDataProgrammed a0 a1) a1 := by
  unfold execDirtyDataProgrammed; apply keeps_next
  simp

theorem execGarbageCollection_fixed a0 a1 (a2 : State) : Keeps (execGarbageCollection a0 a1 a2) a2 := by
  unfold execGarbageCollection; apply keeps_next
  simp

@[simp] theorem waitFor_fixed a0 (a1 : State) : (waitFor a0 a1).fixed = a1.fixed := by
  unfold waitFor
  simp

@[simp] theorem replyWrite_fixed a0 a1 a2 (a3 : Nat → List (String × Val)) (a4 : State) : (replyWrite a0 a1 a2 a3 a4).fixed = a4.fixed := by
  unfold replyWrite
  simp

@[simp] theorem refuse_fixed a0 a1 (a2 : State) : (refuse a0 a1 a2).fixed = a2.fixed := by
  unfold refuse
  simp

@[simp] theorem doKvGet_fixed a0 (a1 : State) : (doKvGet a0 a1).fixed = a1.fixed := by
  unfold doKvGet
  (repeat' split) <;> grind [foldl_fixed, fixed_mk0, fixed_mk1, fixed_mk2, gate_fixed, getKey_fixed, refuse_fixed, more_fixed, reply_fixed, done_fixed]

theorem execKvGet_fixed a0 (a1 : State) : Keeps (execKvGet a0 a1) a1 := by
  unfold execKvGet; apply keeps_next
  simp

@[simp] theorem doKvScan_fixed a0 (a1 : State) : (doKvScan a0 a1).fixed = a1.fixed := by
  unfold doKvScan
  (repeat' split) <;> grind [foldl_fixed, fixed_mk0, fixed_mk1, fixed_mk2, gate_fixed, refuse_fixed, scan_fixed, more_fixed, reply_fixed]

theorem execKvScan_fixed a0 (a1 : State) : Keeps (execKvScan a0 a1) a1 := by
  unfold execKvScan; apply keeps_next
  simp

@[simp] theorem doKvStat_fixed a0 (a1 : State) : (doKvStat a0 a1).fixed = a1.fixed := by
  unfold doKvStat
  simp

theorem execKvStat_fixed a0 (a1 : State) : Keeps (execKvStat a0 a1) a1 := by
  unfold execKvStat; apply keeps_next
  simp

@[simp] theorem lineWrite_fixed a0 a1 a2 (a3 : State) : (lineWrite a0 a1 a2 a3).fixed = a3.fixed := by
  unfold lineWrite
  (repeat' split) <;> grind [foldl_fixed, fixed_mk0, fixed_mk1, fixed_mk2, kvWrite_fixed, refuse_fixed, replyWrite_fixed]

@[simp] theorem doKvPut_fixed a0 (a1 : State) : (doKvPut a0 a1).fixed = a1.fixed := by
  unfold doKvPut
  (repeat' split) <;> simp

theorem execKvPut_fixed a0 (a1 : State) : Keeps (execKvPut a0 a1) a1 := by
  unfold execKvPut; apply keeps_next
  simp

@[simp] theorem doKvCas_fixed a0 (a1 : State) : (doKvCas a0 a1).fixed = a1.fixed := by
  unfold doKvCas
  (repeat' split) <;> simp

theorem execKvCas_fixed a0 (a1 : State) : Keeps (execKvCas a0 a1) a1 := by
  unfold execKvCas; apply keeps_next
  simp

@[simp] theorem doKvDel_fixed a0 (a1 : State) : (doKvDel a0 a1).fixed = a1.fixed := by
  unfold doKvDel
  simp

theorem execKvDel_fixed a0 (a1 : State) : Keeps (execKvDel a0 a1) a1 := by
  unfold execKvDel; apply keeps_next
  simp

@[simp] theorem doKvSync_fixed a0 (a1 : State) : (doKvSync a0 a1).fixed = a1.fixed := by
  unfold doKvSync
  simp

theorem execKvSync_fixed a0 (a1 : State) : Keeps (execKvSync a0 a1) a1 := by
  unfold execKvSync; apply keeps_next
  simp

@[simp] theorem nsChanged_fixed a0 a1 (a2 : State) : (nsChanged a0 a1 a2).fixed = a2.fixed := by
  unfold nsChanged
  simp

@[simp] theorem doKvNs_fixed a0 (a1 : State) : (doKvNs a0 a1).fixed = a1.fixed := by
  unfold doKvNs
  (repeat' split) <;> grind [foldl_fixed, fixed_mk0, fixed_mk1, fixed_mk2, gate_fixed, refuse_fixed, done_fixed, ns0Write_fixed, State.setReg_fixed, nsChanged_fixed]

theorem execKvNs_fixed a0 (a1 : State) : Keeps (execKvNs a0 a1) a1 := by
  unfold execKvNs; apply keeps_next
  simp

@[simp] theorem dkpRun_fixed a0 a1 (a2 : Except Nat (Sess → State → State)) a3 (a4 : State) (ha2 : ∀ r, a2 = .ok r → ∀ x s, (r x s).fixed = s.fixed) : (dkpRun a0 a1 a2 a3 a4).fixed = a4.fixed := by
  unfold dkpRun
  (repeat' split) <;> simp [ha2]

@[simp] theorem dkpRefuse_fixed a0 a1 a2 (a3 : State) : (dkpRefuse a0 a1 a2 a3).fixed = a3.fixed := by
  unfold dkpRefuse
  simp

@[simp] theorem doDkpGet_fixed a0 (a1 : State) : (doDkpGet a0 a1).fixed = a1.fixed := by
  unfold doDkpGet
  (repeat' split) <;> grind [foldl_fixed, fixed_mk0, fixed_mk1, fixed_mk2, getKey_fixed, dkpRefuse_fixed, respond_fixed, dkpRun_fixed]

theorem execDkpGet_fixed a0 (a1 : State) : Keeps (execDkpGet a0 a1) a1 := by
  unfold execDkpGet; apply keeps_next
  simp

@[simp] theorem dkpWrote_fixed a0 a1 a2 (a3 : Nat → Text) (a4 : State) : (dkpWrote a0 a1 a2 a3 a4).fixed = a4.fixed := by
  unfold dkpWrote
  simp

@[simp] theorem dkpWrite_fixed a0 a1 a2 a3 (a4 : Wrote → Nat → Text) a5 (a6 : State) : (dkpWrite a0 a1 a2 a3 a4 a5 a6).fixed = a6.fixed := by
  unfold dkpWrite
  (repeat' split) <;> grind [foldl_fixed, fixed_mk0, fixed_mk1, fixed_mk2, kvWrite_fixed, dkpRefuse_fixed, dkpWrote_fixed]

@[simp] theorem doDkpPut_fixed a0 (a1 : State) : (doDkpPut a0 a1).fixed = a1.fixed := by
  unfold doDkpPut
  dsimp only; (repeat' split) <;> simp_all

theorem execDkpPut_fixed a0 (a1 : State) : Keeps (execDkpPut a0 a1) a1 := by
  unfold execDkpPut; apply keeps_next
  simp

@[simp] theorem doDkpDelete_fixed a0 (a1 : State) : (doDkpDelete a0 a1).fixed = a1.fixed := by
  unfold doDkpDelete
  dsimp only; (repeat' split) <;> simp_all

theorem execDkpDelete_fixed a0 (a1 : State) : Keeps (execDkpDelete a0 a1) a1 := by
  unfold execDkpDelete; apply keeps_next
  simp

@[simp] theorem doDkpCas_fixed a0 (a1 : State) : (doDkpCas a0 a1).fixed = a1.fixed := by
  unfold doDkpCas
  dsimp only; (repeat' split) <;> simp_all

theorem execDkpCas_fixed a0 (a1 : State) : Keeps (execDkpCas a0 a1) a1 := by
  unfold execDkpCas; apply keeps_next
  simp

@[simp] theorem runBatch_fixed a0 a1 a2 (a3 : State) : (runBatch a0 a1 a2 a3).fixed = a3.fixed := by
  unfold runBatch
  (repeat' split) <;> grind [foldl_fixed, fixed_mk0, fixed_mk1, fixed_mk2, respond_fixed, dkpRefuse_fixed, kvWrite_fixed, dkpWrote_fixed]

@[simp] theorem doDkpBatch_fixed a0 (a1 : State) : (doDkpBatch a0 a1).fixed = a1.fixed := by
  unfold doDkpBatch
  (repeat' split) <;> simp

theorem execDkpBatch_fixed a0 (a1 : State) : Keeps (execDkpBatch a0 a1) a1 := by
  unfold execDkpBatch; apply keeps_next
  simp

@[simp] theorem doDkpVput_fixed a0 (a1 : State) : (doDkpVput a0 a1).fixed = a1.fixed := by
  unfold doDkpVput
  (repeat' split) <;> simp

theorem execDkpVput_fixed a0 (a1 : State) : Keeps (execDkpVput a0 a1) a1 := by
  unfold execDkpVput; apply keeps_next
  simp

@[simp] theorem doDkpVdel_fixed a0 (a1 : State) : (doDkpVdel a0 a1).fixed = a1.fixed := by
  unfold doDkpVdel
  dsimp only; (repeat' split) <;> simp_all

theorem execDkpVdel_fixed a0 (a1 : State) : Keeps (execDkpVdel a0 a1) a1 := by
  unfold execDkpVdel; apply keeps_next
  simp

@[simp] theorem doDkpScan_fixed a0 (a1 : State) : (doDkpScan a0 a1).fixed = a1.fixed := by
  unfold doDkpScan
  (repeat' split) <;> grind [foldl_fixed, fixed_mk0, fixed_mk1, fixed_mk2, dkpRefuse_fixed, scan_fixed, respond_fixed, dkpRun_fixed]

theorem execDkpScan_fixed a0 (a1 : State) : Keeps (execDkpScan a0 a1) a1 := by
  unfold execDkpScan; apply keeps_next
  simp

@[simp] theorem doDkpStat_fixed a0 (a1 : State) : (doDkpStat a0 a1).fixed = a1.fixed := by
  unfold doDkpStat
  (repeat' split) <;> grind [foldl_fixed, fixed_mk0, fixed_mk1, fixed_mk2, dkpRefuse_fixed, respond_fixed, dkpRun_fixed]

theorem execDkpStat_fixed a0 (a1 : State) : Keeps (execDkpStat a0 a1) a1 := by
  unfold execDkpStat; apply keeps_next
  simp

@[simp] theorem endSub_fixed a0 (a1 : State) : (endSub a0 a1).fixed = a1.fixed := by
  unfold endSub
  (repeat' split) <;> simp

@[simp] theorem eventsOp_fixed a0 a1 (a2 : Sess → State → State) (a3 : State) (ha2 : ∀ x0 x1, (a2 x0 x1).fixed = x1.fixed) : (eventsOp a0 a1 a2 a3).fixed = a3.fixed := by
  unfold eventsOp
  dsimp only; (repeat' split) <;> simp_all

@[simp] theorem doEventsSubscribe_fixed a0 (a1 : State) : (doEventsSubscribe a0 a1).fixed = a1.fixed := by
  unfold doEventsSubscribe
  (repeat' split) <;> grind [foldl_fixed, fixed_mk0, fixed_mk1, fixed_mk2, eventsOp_fixed, endSub_fixed, raise_fixed, State.setSess_fixed, respond_fixed]

theorem execEventsSubscribe_fixed a0 (a1 : State) : Keeps (execEventsSubscribe a0 a1) a1 := by
  unfold execEventsSubscribe; apply keeps_next
  simp

@[simp] theorem doEventsReadLog_fixed a0 (a1 : State) : (doEventsReadLog a0 a1).fixed = a1.fixed := by
  unfold doEventsReadLog
  simp

theorem execEventsReadLog_fixed a0 (a1 : State) : Keeps (execEventsReadLog a0 a1) a1 := by
  unfold execEventsReadLog; apply keeps_next
  simp

@[simp] theorem doEventsEnd_fixed a0 (a1 : State) : (doEventsEnd a0 a1).fixed = a1.fixed := by
  unfold doEventsEnd
  simp

theorem execEventsEnd_fixed a0 (a1 : State) : Keeps (execEventsEnd a0 a1) a1 := by
  unfold execEventsEnd; apply keeps_next
  simp

theorem execEventPush_fixed a0 (a1 : State) : Keeps (execEventPush a0 a1) a1 := by
  unfold execEventPush; apply keeps_next
  (repeat' split) <;> simp

end Sys2Proof.Machine
end

