-- ==== Sys2Proof/Laws/FixedD.lean ====
section
/-! SUPPORT. The functions of Assoc, Night, BootVerbs and Loop leave the queue of waiting commands and the fused identity
of the unit (R2) as they are: one lemma per function that answers a state or an outcome. -/

namespace Sys2Proof.Machine

@[simp] theorem tellFound_fixed a0 a1 a2 (a3 : State) : (tellFound a0 a1 a2 a3).fixed = a3.fixed := by
  unfold tellFound
  (repeat' split) <;> simp

@[simp] theorem tellLate_fixed a0 a1 a2 (a3 : State) : (tellLate a0 a1 a2 a3).fixed = a3.fixed := by
  unfold tellLate
  simp

@[simp] theorem refuseSeeker_fixed a0 a1 a2 (a3 : State) : (refuseSeeker a0 a1 a2 a3).fixed = a3.fixed := by
  unfold refuseSeeker
  (repeat' split) <;> simp

@[simp] theorem cursorDrop_fixed a0 (a1 : State) : (cursorDrop a0 a1).fixed = a1.fixed := by
  unfold cursorDrop
  simp

@[simp] theorem cursorPut_fixed a0 (a1 : State) : (cursorPut a0 a1).fixed = a1.fixed := by
  unfold cursorPut
  simp

@[simp] theorem openCursor_fixed a0 a1 a2 a3 a4 a5 (a6 : State) : (openCursor a0 a1 a2 a3 a4 a5 a6).1.fixed = a6.fixed := by
  unfold openCursor
  dsimp only; (repeat' split) <;> simp_all

@[simp] theorem stepCursor_fixed a0 a1 a2 (a3 : State) : (stepCursor a0 a1 a2 a3).1.fixed = a3.fixed := by
  unfold stepCursor
  dsimp only; (repeat' split) <;> simp_all

@[simp] theorem localSearch_fixed a0 a1 a2 a3 a4 a5 (a6 : State) : (localSearch a0 a1 a2 a3 a4 a5 a6).1.fixed = a6.fixed := by
  unfold localSearch
  dsimp only; (repeat' split) <;> simp_all

@[simp] theorem localStep_fixed a0 (a1 : State) : (localStep a0 a1).1.fixed = a1.fixed := by
  unfold localStep
  dsimp only; (repeat' split) <;> simp_all

@[simp] theorem runSearch_fixed a0 a1 a2 a3 a4 a5 (a6 : State) : (runSearch a0 a1 a2 a3 a4 a5 a6).fixed = a6.fixed := by
  unfold runSearch
  (repeat' split) <;> grind [foldl_fixed, fixed_mk0, fixed_mk1, fixed_mk2, State.incReg_fixed, setBusy_fixed, localSearch_fixed, refuseSeeker_fixed, tellFound_fixed]

@[simp] theorem runStep_fixed a0 a1 a2 (a3 : State) : (runStep a0 a1 a2 a3).fixed = a3.fixed := by
  unfold runStep
  (repeat' split) <;> simp

@[simp] theorem closeCursor_fixed a0 a1 (a2 : State) : (closeCursor a0 a1 a2).1.fixed = a2.fixed := by
  unfold closeCursor
  (repeat' split) <;> simp

@[simp] theorem tableWrite_fixed a0 a1 a2 a3 a4 a5 a6 a7 a8 a9 (a10 : State) : (tableWrite a0 a1 a2 a3 a4 a5 a6 a7 a8 a9 a10).1.fixed = a10.fixed := by
  unfold tableWrite
  (repeat' split) <;> grind [foldl_fixed, fixed_mk0, fixed_mk1, fixed_mk2, ns0Record_fixed, putEntry_fixed]

@[simp] theorem doAssocSearch_fixed a0 (a1 : State) : (doAssocSearch a0 a1).fixed = a1.fixed := by
  unfold doAssocSearch
  (repeat' split) <;> grind [foldl_fixed, fixed_mk0, fixed_mk1, fixed_mk2, gate_fixed, reply_fixed, refuse_fixed, runSearch_fixed]

theorem execAssocSearch_fixed a0 (a1 : State) : Keeps (execAssocSearch a0 a1) a1 := by
  unfold execAssocSearch; apply keeps_next
  simp

@[simp] theorem doAssocStep_fixed a0 (a1 : State) : (doAssocStep a0 a1).fixed = a1.fixed := by
  unfold doAssocStep
  simp

theorem execAssocStep_fixed a0 (a1 : State) : Keeps (execAssocStep a0 a1) a1 := by
  unfold execAssocStep; apply keeps_next
  simp

@[simp] theorem doAssocClose_fixed a0 (a1 : State) : (doAssocClose a0 a1).fixed = a1.fixed := by
  unfold doAssocClose
  (repeat' split) <;> grind [foldl_fixed, fixed_mk0, fixed_mk1, fixed_mk2, gate_fixed, closeCursor_fixed, done_fixed, refuse_fixed]

theorem execAssocClose_fixed a0 (a1 : State) : Keeps (execAssocClose a0 a1) a1 := by
  unfold execAssocClose; apply keeps_next
  simp

@[simp] theorem doAssocWrite_fixed a0 (a1 : State) : (doAssocWrite a0 a1).fixed = a1.fixed := by
  unfold doAssocWrite
  (repeat' split) <;> grind [foldl_fixed, fixed_mk0, fixed_mk1, fixed_mk2, gate_fixed, reply_fixed, tableWrite_fixed, refuse_fixed, done_fixed]

theorem execAssocWrite_fixed a0 (a1 : State) : Keeps (execAssocWrite a0 a1) a1 := by
  unfold execAssocWrite; apply keeps_next
  simp

@[simp] theorem checkShadow_fixed a0 (a1 : State) : (checkShadow a0 a1).fixed = a1.fixed := by
  unfold checkShadow
  (repeat' split) <;> simp

@[simp] theorem doAssocRead_fixed a0 (a1 : State) : (doAssocRead a0 a1).fixed = a1.fixed := by
  unfold doAssocRead
  simp

theorem execAssocRead_fixed a0 (a1 : State) : Keeps (execAssocRead a0 a1) a1 := by
  unfold execAssocRead; apply keeps_next
  simp

@[simp] theorem doAssocShow_fixed a0 (a1 : State) : (doAssocShow a0 a1).fixed = a1.fixed := by
  unfold doAssocShow
  simp

theorem execAssocShow_fixed a0 (a1 : State) : Keeps (execAssocShow a0 a1) a1 := by
  unfold execAssocShow; apply keeps_next
  simp

@[simp] theorem doCascShow_fixed a0 (a1 : State) : (doCascShow a0 a1).fixed = a1.fixed := by
  unfold doCascShow
  simp

theorem execCascShow_fixed a0 (a1 : State) : Keeps (execCascShow a0 a1) a1 := by
  unfold execCascShow; apply keeps_next
  simp

@[simp] theorem keepAssoc_fixed a0 a1 a2 a3 (a4 : State → State) (a5 : State) (ha4 : ∀ x0, (a4 x0).fixed = x0.fixed) : (keepAssoc a0 a1 a2 a3 a4 a5).fixed = a5.fixed := by
  unfold keepAssoc
  (repeat' split) <;> grind [foldl_fixed, fixed_mk0, fixed_mk1, fixed_mk2, ns0Write_fixed, refuse_fixed, done_fixed, State.setReg_fixed]

@[simp] theorem flipPolicy_fixed a0 a1 (a2 : State) : (flipPolicy a0 a1 a2).fixed = a2.fixed := by
  unfold flipPolicy
  simp

@[simp] theorem policyBanks_fixed a0 a1 (a2 : State) : (policyBanks a0 a1 a2).fixed = a2.fixed := by
  unfold policyBanks
  simp

theorem execPolicyBanksWrite_fixed a0 a1 (a2 : State) : Keeps (execPolicyBanksWrite a0 a1 a2) a2 := by
  unfold execPolicyBanksWrite; apply keeps_next
  simp

@[simp] theorem dropBank_fixed a0 (a1 : State) : (dropBank a0 a1).fixed = a1.fixed := by
  unfold dropBank
  simp

@[simp] theorem bankPower_fixed a0 a1 (a2 : State) : (bankPower a0 a1 a2).fixed = a2.fixed := by
  unfold bankPower
  dsimp only; (repeat' split) <;> simp_all

theorem execBankOnWrite_fixed a0 a1 (a2 : State) : Keeps (execBankOnWrite a0 a1 a2) a2 := by
  unfold execBankOnWrite; apply keeps_next
  simp

@[simp] theorem pairWidths_fixed a0 a1 (a2 : State) : (pairWidths a0 a1 a2).fixed = a2.fixed := by
  unfold pairWidths
  (repeat' split) <;> simp

theorem execDwWrite_fixed a0 a1 (a2 : State) : Keeps (execDwWrite a0 a1 a2) a2 := by
  unfold execDwWrite; apply keeps_next
  simp

theorem execPolicyReloadComplete_fixed (a0 : State) : Keeps (execPolicyReloadComplete a0) a0 := by
  unfold execPolicyReloadComplete; apply keeps_next
  simp

theorem execScrubPassDue_fixed (a0 : State) : Keeps (execScrubPassDue a0) a0 := by
  unfold execScrubPassDue; intro t e; (repeat' split at e) <;> grind [foldl_fixed, fixed_mk0, fixed_mk1, fixed_mk2, keeps_next, Keeps]

@[simp] theorem scrubEntry_fixed a0 (a1 : State) : (scrubEntry a0 a1).fixed = a1.fixed := by
  unfold scrubEntry
  simp

theorem execScrubPassComplete_fixed (a0 : State) : Keeps (execScrubPassComplete a0) a0 := by
  unfold execScrubPassComplete; apply keeps_next
  simp

theorem execCursorIdleTimeout_fixed a0 (a1 : State) : Keeps (execCursorIdleTimeout a0 a1) a1 := by
  unfold execCursorIdleTimeout; apply keeps_next
  (repeat' split) <;> simp

@[simp] theorem assocOp_fixed a0 a1 a2 (a3 : Except Nat (Sess → State → State)) (a4 : State) (ha3 : ∀ r, a3 = .ok r → ∀ x s, (r x s).fixed = s.fixed) : (assocOp a0 a1 a2 a3 a4).fixed = a4.fixed := by
  unfold assocOp
  simp; (repeat' split) <;> simp_all

@[simp] theorem doDkpAssocSearch_fixed a0 (a1 : State) : (doDkpAssocSearch a0 a1).fixed = a1.fixed := by
  unfold doDkpAssocSearch
  (repeat' split) <;> grind [foldl_fixed, fixed_mk0, fixed_mk1, fixed_mk2, assocOp_fixed, dkpRefuse_fixed, runSearch_fixed]

theorem execDkpAssocSearch_fixed a0 (a1 : State) : Keeps (execDkpAssocSearch a0 a1) a1 := by
  unfold execDkpAssocSearch; apply keeps_next
  simp

@[simp] theorem doDkpAssocStep_fixed a0 (a1 : State) : (doDkpAssocStep a0 a1).fixed = a1.fixed := by
  unfold doDkpAssocStep
  (repeat' split) <;> simp

theorem execDkpAssocStep_fixed a0 (a1 : State) : Keeps (execDkpAssocStep a0 a1) a1 := by
  unfold execDkpAssocStep; apply keeps_next
  simp

@[simp] theorem doDkpAssocClose_fixed a0 (a1 : State) : (doDkpAssocClose a0 a1).fixed = a1.fixed := by
  unfold doDkpAssocClose
  (repeat' split) <;> grind [foldl_fixed, fixed_mk0, fixed_mk1, fixed_mk2, assocOp_fixed, closeCursor_fixed, respond_fixed, dkpRefuse_fixed]

theorem execDkpAssocClose_fixed a0 (a1 : State) : Keeps (execDkpAssocClose a0 a1) a1 := by
  unfold execDkpAssocClose; apply keeps_next
  simp

@[simp] theorem doDkpAssocWrite_fixed a0 (a1 : State) : (doDkpAssocWrite a0 a1).fixed = a1.fixed := by
  unfold doDkpAssocWrite
  (repeat' split) <;> grind [foldl_fixed, fixed_mk0, fixed_mk1, fixed_mk2, assocOp_fixed, tableWrite_fixed, dkpRefuse_fixed, respond_fixed]

theorem execDkpAssocWrite_fixed a0 (a1 : State) : Keeps (execDkpAssocWrite a0 a1) a1 := by
  unfold execDkpAssocWrite; apply keeps_next
  simp

@[simp] theorem frameSearch_fixed a0 (a1 : State) : (frameSearch a0 a1).1.fixed = a1.fixed := by
  unfold frameSearch
  dsimp only; (repeat' split) <;> simp_all

@[simp] theorem takePart_fixed a0 a1 (a2 : State) : (takePart a0 a1 a2).fixed = a2.fixed := by
  unfold takePart
  dsimp only; (repeat' split) <;> simp_all

@[simp] theorem countHeader_fixed (a0 : State) : (countHeader a0).fixed = a0.fixed := by
  unfold countHeader
  simp

@[simp] theorem withdraw_fixed (a0 : State) : (withdraw a0).fixed = a0.fixed := by
  unfold withdraw
  simp

@[simp] theorem answerHere_fixed a0 (a1 : State) : (answerHere a0 a1).fixed = a1.fixed := by
  unfold answerHere
  (repeat' split) <;> grind [foldl_fixed, fixed_mk0, fixed_mk1, fixed_mk2, localSearch_fixed, refuseSeeker_fixed, tellLate_fixed, cursorDrop_fixed, localStep_fixed]

@[simp] theorem answerAllHere_fixed (a0 : State) : (answerAllHere a0).fixed = a0.fixed := by
  unfold answerAllHere
  simp

theorem execCascClkPhaseWithdraw_fixed (a0 : State) : Keeps (execCascClkPhaseWithdraw a0) a0 := by
  unfold execCascClkPhaseWithdraw; apply keeps_next
  simp

theorem execCascLockRejoin_fixed (a0 : State) : Keeps (execCascLockRejoin a0) a0 := by
  unfold execCascLockRejoin; apply keeps_next
  simp

@[simp] theorem ownSlot_fixed a0 (a1 : State) : (ownSlot a0 a1).fixed = a1.fixed := by
  unfold ownSlot
  (repeat' split) <;> simp

@[simp] theorem sizeMismatch_fixed a0 (a1 : State) : (sizeMismatch a0 a1).fixed = a1.fixed := by
  unfold sizeMismatch
  simp

@[simp] theorem strapCheck_fixed (a0 : State) : (strapCheck a0).fixed = a0.fixed := by
  unfold strapCheck
  simp

@[simp] theorem nextTurn_fixed (a0 : State) : (nextTurn a0).fixed = a0.fixed := by
  unfold nextTurn
  simp

@[simp] theorem otherSlot_fixed a0 (a1 : State) : (otherSlot a0 a1).fixed = a1.fixed := by
  unfold otherSlot
  simp

theorem execCascadeSlot_fixed a0 (a1 : State) : Keeps (execCascadeSlot a0 a1) a1 := by
  unfold execCascadeSlot; apply keeps_next
  simp

@[simp] theorem resolveFrame_fixed a0 a1 (a2 : State) : (resolveFrame a0 a1 a2).fixed = a2.fixed := by
  unfold resolveFrame
  (repeat' split) <;> grind [foldl_fixed, fixed_mk0, fixed_mk1, fixed_mk2, State.tick_fixed, openCursor_fixed, refuseSeeker_fixed, tellLate_fixed, cursorDrop_fixed, stepCursor_fixed]

theorem execCascadeFrameResult_fixed a0 (a1 : State) : Keeps (execCascadeFrameResult a0 a1) a1 := by
  unfold execCascadeFrameResult; apply keeps_next
  (repeat' split) <;> simp

theorem execCascadeMemberAbsent_fixed a0 (a1 : State) : Keeps (execCascadeMemberAbsent a0 a1) a1 := by
  unfold execCascadeMemberAbsent; apply keeps_next
  simp

theorem execCascadeMemberPresent_fixed a0 (a1 : State) : Keeps (execCascadeMemberPresent a0 a1) a1 := by
  unfold execCascadeMemberPresent; apply keeps_next
  simp

theorem execAlarmSourceFires_fixed a0 (a1 : State) : Keeps (execAlarmSourceFires a0 a1) a1 := by
  unfold execAlarmSourceFires; apply keeps_next
  simp

theorem execAlarmSourceCleared_fixed a0 (a1 : State) : Keeps (execAlarmSourceCleared a0 a1) a1 := by
  unfold execAlarmSourceCleared; apply keeps_next
  simp

theorem execEraseBurnComplete_fixed a0 (a1 : State) : Keeps (execEraseBurnComplete a0 a1) a1 := by
  unfold execEraseBurnComplete; apply keeps_next
  (repeat' split) <;> simp

theorem execAlarmRecordWritten_fixed (a0 : State) : Keeps (execAlarmRecordWritten a0) a0 := by
  unfold execAlarmRecordWritten; apply keeps_next
  simp

theorem execTrngHealthFail_fixed (a0 : State) : Keeps (execTrngHealthFail a0) a0 := by
  unfold execTrngHealthFail; apply keeps_next
  simp

theorem execTrngHealthRecovered_fixed (a0 : State) : Keeps (execTrngHealthRecovered a0) a0 := by
  unfold execTrngHealthRecovered; apply keeps_next
  simp

@[simp] theorem conflictNeed_fixed a0 a1 (a2 : State) : (conflictNeed a0 a1 a2).fixed = a2.fixed := by
  unfold conflictNeed
  simp

@[simp] theorem doLcShow_fixed a0 (a1 : State) : (doLcShow a0 a1).fixed = a1.fixed := by
  unfold doLcShow
  simp

theorem execLcShow_fixed a0 (a1 : State) : Keeps (execLcShow a0 a1) a1 := by
  unfold execLcShow; apply keeps_next
  simp

@[simp] theorem doLcChallenge_fixed a0 (a1 : State) : (doLcChallenge a0 a1).fixed = a1.fixed := by
  unfold doLcChallenge
  simp

theorem execLcChallenge_fixed a0 (a1 : State) : Keeps (execLcChallenge a0 a1) a1 := by
  unfold execLcChallenge; apply keeps_next
  simp

@[simp] theorem grantAuth_fixed a0 a1 (a2 : State) : (grantAuth a0 a1 a2).fixed = a2.fixed := by
  unfold grantAuth
  simp

@[simp] theorem doLcAuth_fixed a0 (a1 : State) : (doLcAuth a0 a1).fixed = a1.fixed := by
  unfold doLcAuth
  refine gate_fixed _ _ _ _ fun x => ?_
  extract_lets r i ps s d
  have h : s.fixed = x.fixed := State.setRoute_fixed _ _
  split
  · exact reply_fixed _ _ _ _
  · split
    · exact (reply_fixed _ _ _ _).trans (State.setRoute_fixed _ _)
    ·
      split
      · exact (done_fixed _ _ _).trans (State.setRoute_fixed _ _)
      · split
        · exact (done_fixed _ _ _).trans ((grantAuth_fixed _ _ _).trans h)
        · exact (loginFailed_fixed _ _).trans ((raise_fixed _ _ _).trans ((reply_fixed _ _ _ _).trans h))

theorem execLcAuth_fixed a0 (a1 : State) : Keeps (execLcAuth a0 a1) a1 := by
  unfold execLcAuth; apply keeps_next
  simp

@[simp] theorem burn_fixed (a0 : Otp → Otp) (a1 : State) (ha0 : ∀ o, (a0 o).ident = o.ident) : (burn a0 a1).fixed = a1.fixed := by
  simp [burn, State.fixed, ha0]

@[simp] theorem lcReset_fixed (a0 : State) : (lcReset a0).fixed = a0.fixed := by
  unfold lcReset
  simp

@[simp] theorem advanceBurn_fixed a0 (a1 : State) : (advanceBurn a0 a1).fixed = a1.fixed := by
  unfold advanceBurn
  simp

@[simp] theorem doLcAdvance_fixed a0 (a1 : State) : (doLcAdvance a0 a1).fixed = a1.fixed := by
  unfold doLcAdvance
  (repeat' split) <;> grind [foldl_fixed, fixed_mk0, fixed_mk1, fixed_mk2, gate_fixed, reply_fixed, lcReset_fixed, raise_fixed, advanceBurn_fixed]

theorem execLcAdvance_fixed a0 (a1 : State) : Keeps (execLcAdvance a0 a1) a1 := by
  unfold execLcAdvance; apply keeps_next
  simp

@[simp] theorem nightState_fixed a0 (a1 : State) : (nightState a0 a1).fixed = a1.fixed := by
  unfold nightState
  simp

@[simp] theorem srcConflict_fixed a0 a1 (a2 : State) : (srcConflict a0 a1 a2).fixed = a2.fixed := by
  unfold srcConflict
  simp

@[simp] theorem doLcRecommission_fixed a0 (a1 : State) : (doLcRecommission a0 a1).fixed = a1.fixed := by
  unfold doLcRecommission
  (repeat' split) <;> grind [foldl_fixed, fixed_mk0, fixed_mk1, fixed_mk2, gate_fixed, conflictNeed_fixed, nightState_fixed, reply_fixed, srcConflict_fixed, burn_fixed, lcReset_fixed, raise_fixed]

theorem execLcRecommission_fixed a0 (a1 : State) : Keeps (execLcRecommission a0 a1) a1 := by
  unfold execLcRecommission; apply keeps_next
  simp

@[simp] theorem doLcDebugkey_fixed a0 (a1 : State) : (doLcDebugkey a0 a1).fixed = a1.fixed := by
  unfold doLcDebugkey
  simp

theorem execLcDebugkey_fixed a0 (a1 : State) : Keeps (execLcDebugkey a0 a1) a1 := by
  unfold execLcDebugkey; apply keeps_next
  simp

@[simp] theorem doLcSigner_fixed a0 (a1 : State) : (doLcSigner a0 a1).fixed = a1.fixed := by
  unfold doLcSigner
  (repeat' split) <;> grind [foldl_fixed, fixed_mk0, fixed_mk1, fixed_mk2, gate_fixed, conflictNeed_fixed, reply_fixed, burn_fixed, done_fixed, raise_fixed]

theorem execLcSigner_fixed a0 (a1 : State) : Keeps (execLcSigner a0 a1) a1 := by
  unfold execLcSigner; apply keeps_next
  simp

@[simp] theorem doLcRevoke_fixed a0 (a1 : State) : (doLcRevoke a0 a1).fixed = a1.fixed := by
  unfold doLcRevoke
  simp

theorem execLcRevoke_fixed a0 (a1 : State) : Keeps (execLcRevoke a0 a1) a1 := by
  unfold execLcRevoke; apply keeps_next
  simp

@[simp] theorem doVaultShow_fixed a0 (a1 : State) : (doVaultShow a0 a1).fixed = a1.fixed := by
  unfold doVaultShow
  simp

theorem execVaultShow_fixed a0 (a1 : State) : Keeps (execVaultShow a0 a1) a1 := by
  unfold execVaultShow; apply keeps_next
  simp

@[simp] theorem doVaultSetowner_fixed a0 (a1 : State) : (doVaultSetowner a0 a1).fixed = a1.fixed := by
  unfold doVaultSetowner
  (repeat' split) <;> grind [foldl_fixed, fixed_mk0, fixed_mk1, fixed_mk2, gate_fixed, conflictNeed_fixed, reply_fixed, loadSlot_fixed, burn_fixed, done_fixed, raise_fixed]

theorem execVaultSetowner_fixed a0 (a1 : State) : Keeps (execVaultSetowner a0 a1) a1 := by
  unfold execVaultSetowner; apply keeps_next
  simp

@[simp] theorem doVaultGenid_fixed a0 (a1 : State) : (doVaultGenid a0 a1).fixed = a1.fixed := by
  unfold doVaultGenid
  (repeat' split) <;> grind [foldl_fixed, fixed_mk0, fixed_mk1, fixed_mk2, gate_fixed, conflictNeed_fixed, reply_fixed, ns0Record_fixed, loadIdentity_fixed, done_fixed, raise_fixed]

theorem execVaultGenid_fixed a0 (a1 : State) : Keeps (execVaultGenid a0 a1) a1 := by
  unfold execVaultGenid; apply keeps_next
  simp

@[simp] theorem lockWrite_fixed a0 a1 a2 (a3 : State) : (lockWrite a0 a1 a2 a3).fixed = a3.fixed := by
  unfold lockWrite
  simp

theorem execVaultLockWrite_fixed a0 a1 a2 (a3 : State) : Keeps (execVaultLockWrite a0 a1 a2 a3) a3 := by
  unfold execVaultLockWrite; apply keeps_next
  simp

@[simp] theorem doAlmShow_fixed a0 (a1 : State) : (doAlmShow a0 a1).fixed = a1.fixed := by
  unfold doAlmShow
  simp

theorem execAlmShow_fixed a0 (a1 : State) : Keeps (execAlmShow a0 a1) a1 := by
  unfold execAlmShow; apply keeps_next
  simp

@[simp] theorem doAlmClear_fixed a0 (a1 : State) : (doAlmClear a0 a1).fixed = a1.fixed := by
  unfold doAlmClear
  (repeat' split) <;> grind [foldl_fixed, fixed_mk0, fixed_mk1, fixed_mk2, gate_fixed, conflictNeed_fixed, srcConflict_fixed, nightState_fixed, lcReset_fixed, raise_fixed, reply_fixed]

theorem execAlmClear_fixed a0 (a1 : State) : Keeps (execAlmClear a0 a1) a1 := by
  unfold execAlmClear; apply keeps_next
  simp

@[simp] theorem doRecInfo_fixed a0 (a1 : State) : (doRecInfo a0 a1).fixed = a1.fixed := by
  unfold doRecInfo
  simp

theorem execRecInfo_fixed a0 (a1 : State) : Keeps (execRecInfo a0 a1) a1 := by
  unfold execRecInfo; apply keeps_next
  simp

@[simp] theorem doRecOpen_fixed a0 (a1 : State) : (doRecOpen a0 a1).fixed = a1.fixed := by
  unfold doRecOpen
  simp

theorem execRecOpen_fixed a0 (a1 : State) : Keeps (execRecOpen a0 a1) a1 := by
  unfold execRecOpen; apply keeps_next
  simp

@[simp] theorem doRecData_fixed a0 (a1 : State) : (doRecData a0 a1).fixed = a1.fixed := by
  unfold doRecData
  (repeat' split) <;> grind [foldl_fixed, fixed_mk0, fixed_mk1, fixed_mk2, gate_fixed, reply_fixed, done_fixed]

theorem execRecData_fixed a0 (a1 : State) : Keeps (execRecData a0 a1) a1 := by
  unfold execRecData; apply keeps_next
  simp

@[simp] theorem recWrite_fixed a0 a1 (a2 : State) : (recWrite a0 a1 a2).fixed = a2.fixed := by
  unfold recWrite
  (repeat' split) <;> grind [foldl_fixed, fixed_mk0, fixed_mk1, fixed_mk2, programSlot_fixed, reply_fixed, writeFlag_fixed, trace_fixed, done_fixed, raise_fixed]

@[simp] theorem doRecCommit_fixed a0 (a1 : State) : (doRecCommit a0 a1).fixed = a1.fixed := by
  unfold doRecCommit
  (repeat' split) <;> grind [foldl_fixed, fixed_mk0, fixed_mk1, fixed_mk2, gate_fixed, reply_fixed, trace_fixed, raise_fixed, recWrite_fixed]

theorem execRecCommit_fixed a0 (a1 : State) : Keeps (execRecCommit a0 a1) a1 := by
  unfold execRecCommit; apply keeps_next
  simp

@[simp] theorem doRecAbort_fixed a0 (a1 : State) : (doRecAbort a0 a1).fixed = a1.fixed := by
  unfold doRecAbort
  simp

theorem execRecAbort_fixed a0 (a1 : State) : Keeps (execRecAbort a0 a1) a1 := by
  unfold execRecAbort; apply keeps_next
  simp

@[simp] theorem doRecBoot_fixed a0 (a1 : State) : (doRecBoot a0 a1).fixed = a1.fixed := by
  unfold doRecBoot
  simp

theorem execRecBoot_fixed a0 (a1 : State) : Keeps (execRecBoot a0 a1) a1 := by
  unfold execRecBoot; apply keeps_next
  simp

@[simp] theorem doBootOpen.opened_fixed a0 a1 a2 (a3 : State) : (doBootOpen.opened a0 a1 a2 a3).fixed = a3.fixed := by
  unfold doBootOpen.opened
  simp

@[simp] theorem doBootShow_fixed a0 (a1 : State) : (doBootShow a0 a1).fixed = a1.fixed := by
  unfold doBootShow
  simp

theorem execBootShow_fixed a0 (a1 : State) : Keeps (execBootShow a0 a1) a1 := by
  unfold execBootShow; apply keeps_next
  simp

@[simp] theorem doBootOpen_fixed a0 (a1 : State) : (doBootOpen a0 a1).fixed = a1.fixed := by
  unfold doBootOpen
  refine gate_fixed _ _ _ _ fun x => ?_
  have ho : ∀ r n w (y : State), (doBootOpen.opened r n w y).fixed = y.fixed := by
    intro r n w y
    unfold doBootOpen.opened
    extract_lets
    exact (done_fixed _ _ _).trans rfl
  extract_lets size held
  generalize held = h
  split
  · exact reply_fixed _ _ _ _
  · split
    · split
      · exact reply_fixed _ _ _ _
      · exact ho _ _ _ _
    · exact ho _ _ _ _

theorem execBootOpen_fixed a0 (a1 : State) : Keeps (execBootOpen a0 a1) a1 := by
  unfold execBootOpen; apply keeps_next
  simp

@[simp] theorem doBootData_fixed a0 (a1 : State) : (doBootData a0 a1).fixed = a1.fixed := by
  unfold doBootData
  (repeat' split) <;> grind [foldl_fixed, fixed_mk0, fixed_mk1, fixed_mk2, gate_fixed, reply_fixed, done_fixed]

theorem execBootData_fixed a0 (a1 : State) : Keeps (execBootData a0 a1) a1 := by
  unfold execBootData; apply keeps_next
  simp

@[simp] theorem doBootFromkv_fixed a0 (a1 : State) : (doBootFromkv a0 a1).fixed = a1.fixed := by
  unfold doBootFromkv
  (repeat' split) <;> grind [foldl_fixed, fixed_mk0, fixed_mk1, fixed_mk2, gate_fixed, reply_fixed, readKey_fixed, refuse_fixed, done_fixed]

theorem execBootFromkv_fixed a0 (a1 : State) : Keeps (execBootFromkv a0 a1) a1 := by
  unfold execBootFromkv; apply keeps_next
  simp

@[simp] theorem doBootCommit_fixed a0 (a1 : State) : (doBootCommit a0 a1).fixed = a1.fixed := by
  unfold doBootCommit
  (repeat' split) <;> grind [foldl_fixed, fixed_mk0, fixed_mk1, fixed_mk2, gate_fixed, reply_fixed, raise_fixed, programSlot_fixed, done_fixed]

theorem execBootCommit_fixed a0 (a1 : State) : Keeps (execBootCommit a0 a1) a1 := by
  unfold execBootCommit; apply keeps_next
  simp

@[simp] theorem doBootActivate_fixed a0 (a1 : State) : (doBootActivate a0 a1).fixed = a1.fixed := by
  unfold doBootActivate
  (repeat' split) <;> grind [foldl_fixed, fixed_mk0, fixed_mk1, fixed_mk2, gate_fixed, reply_fixed, writeFlag_fixed, done_fixed, raise_fixed]

theorem execBootActivate_fixed a0 (a1 : State) : Keeps (execBootActivate a0 a1) a1 := by
  unfold execBootActivate; apply keeps_next
  simp

@[simp] theorem doBootAbort_fixed a0 (a1 : State) : (doBootAbort a0 a1).fixed = a1.fixed := by
  unfold doBootAbort
  simp

theorem execBootAbort_fixed a0 (a1 : State) : Keeps (execBootAbort a0 a1) a1 := by
  unfold execBootAbort; apply keeps_next
  simp

@[simp] theorem State.setLoop_fixed (a0 : State) a1 : (State.setLoop a0 a1).fixed = a0.fixed := by
  unfold State.setLoop
  simp

@[simp] theorem State.setFe_fixed (a0 : State) a1 : (State.setFe a0 a1).fixed = a0.fixed := by
  unfold State.setFe
  simp

@[simp] theorem onLoop_fixed (a0 : State → State) (a1 : State) (ha0 : ∀ x0, (a0 x0).fixed = x0.fixed) : (onLoop a0 a1).fixed = a1.fixed := by
  unfold onLoop
  simp [ha0]

@[simp] theorem evalLoop_fixed (a0 : State) : (evalLoop a0).fixed = a0.fixed := by
  unfold evalLoop
  simp

@[simp] theorem setCause_fixed a0 (a1 : State) : (setCause a0 a1).fixed = a1.fixed := by
  unfold setCause
  simp

@[simp] theorem clearCause_fixed a0 (a1 : State) : (clearCause a0 a1).fixed = a1.fixed := by
  unfold clearCause
  simp

@[simp] theorem dropPending_fixed (a0 : State) : (dropPending a0).fixed = a0.fixed := by
  unfold dropPending
  simp

@[simp] theorem setFixed_fixed a0 (a1 : State) : (setFixed a0 a1).fixed = a1.fixed := by
  unfold setFixed
  simp

theorem execFixTimeout_fixed (a0 : State) : Keeps (execFixTimeout a0) a0 := by
  unfold execFixTimeout; apply keeps_next
  simp

@[simp] theorem syncReset_fixed a0 (a1 : State) : (syncReset a0 a1).fixed = a1.fixed := by
  unfold syncReset
  simp

@[simp] theorem syncNow_fixed (a0 : State) : (syncNow a0).fixed = a0.fixed := by
  unfold syncNow
  simp

theorem execScheduledSyncFire_fixed (a0 : State) : Keeps (execScheduledSyncFire a0) a0 := by
  unfold execScheduledSyncFire; apply keeps_next
  (repeat' split) <;> simp

@[simp] theorem startLoop_fixed a0 (a1 : State) : (startLoop a0 a1).fixed = a1.fixed := by
  unfold startLoop
  simp

theorem execLoopDieStart_fixed a0 (a1 : State) : Keeps (execLoopDieStart a0 a1) a1 := by
  unfold execLoopDieStart; apply keeps_next
  simp

@[simp] theorem resetLoop_fixed (a0 : State) : (resetLoop a0).fixed = a0.fixed := by
  unfold resetLoop
  simp

theorem execLoopDieReset_fixed (a0 : State) : Keeps (execLoopDieReset a0) a0 := by
  unfold execLoopDieReset; intro t e; (repeat' split at e) <;> grind [foldl_fixed, fixed_mk0, fixed_mk1, fixed_mk2, onLoop_fixed, resetLoop_fixed, State.setLoop_fixed, keeps_next, Keeps]

theorem execStartUpTimeout_fixed (a0 : State) : Keeps (execStartUpTimeout a0) a0 := by
  unfold execStartUpTimeout; apply keeps_next
  simp

theorem execHoldMaxExpiry_fixed (a0 : State) : Keeps (execHoldMaxExpiry a0) a0 := by
  unfold execHoldMaxExpiry; apply keeps_next
  simp

theorem execFaultHoldToFail_fixed (a0 : State) : Keeps (execFaultHoldToFail a0) a0 := by
  unfold execFaultHoldToFail; apply keeps_next
  simp

theorem execMainStale_fixed (a0 : State) : Keeps (execMainStale a0) a0 := by
  unfold execMainStale; apply keeps_next
  simp

@[simp] theorem noteDeparture_fixed (a0 : State) : (noteDeparture a0).fixed = a0.fixed := by
  unfold noteDeparture
  simp

theorem execLoopCurrentDeparture_fixed a0 (a1 : State) : Keeps (execLoopCurrentDeparture a0 a1) a1 := by
  unfold execLoopCurrentDeparture; intro t e; (repeat' split at e) <;> grind [foldl_fixed, fixed_mk0, fixed_mk1, fixed_mk2, onLoop_fixed, ldRaise_fixed, State.setLoop_fixed, keeps_next, Keeps]

theorem execAuxIslSourceChange_fixed a0 (a1 : State) : Keeps (execAuxIslSourceChange a0 a1) a1 := by
  unfold execAuxIslSourceChange; apply keeps_next
  simp

theorem execLoopWpChange_fixed a0 (a1 : State) : Keeps (execLoopWpChange a0 a1) a1 := by
  unfold execLoopWpChange; apply keeps_next
  simp

@[simp] theorem drawUpdate_fixed a0 a1 (a2 : State) : (drawUpdate a0 a1 a2).fixed = a2.fixed := by
  unfold drawUpdate
  simp

theorem execDrawUpdate_fixed a0 a1 (a2 : State) : Keeps (execDrawUpdate a0 a1 a2) a2 := by
  unfold execDrawUpdate; apply keeps_next
  simp

theorem execAmplitudeChangeApply_fixed (a0 : State) : Keeps (execAmplitudeChangeApply a0) a0 := by
  unfold execAmplitudeChangeApply; apply keeps_next
  (repeat' split) <;> grind [foldl_fixed, fixed_mk0, fixed_mk1, fixed_mk2, onLoop_fixed, State.setFe_fixed]

theorem execBridgeHeartbeat_fixed (a0 : State) : Keeps (execBridgeHeartbeat a0) a0 := by
  unfold execBridgeHeartbeat; apply keeps_next
  simp

@[simp] theorem mirrorLoaded_fixed (a0 : State) : (mirrorLoaded a0).fixed = a0.fixed := by
  unfold mirrorLoaded
  simp

theorem execBridgeMirrorLoaded_fixed (a0 : State) : Keeps (execBridgeMirrorLoaded a0) a0 := by
  unfold execBridgeMirrorLoaded; apply keeps_next
  simp

@[simp] theorem coreEndLost_fixed (a0 : State) : (coreEndLost a0).fixed = a0.fixed := by
  unfold coreEndLost
  simp

@[simp] theorem loopEndLost_fixed (a0 : State) : (loopEndLost a0).fixed = a0.fixed := by
  unfold loopEndLost
  simp

theorem execBridgeLost_fixed (a0 : State) : Keeps (execBridgeLost a0) a0 := by
  unfold execBridgeLost; apply keeps_next
  simp

theorem execBridgeFrameCheckFail_fixed (a0 : State) : Keeps (execBridgeFrameCheckFail a0) a0 := by
  unfold execBridgeFrameCheckFail; apply keeps_next
  simp

theorem execMirrorChangeReport_fixed a0 a1 (a2 : State) : Keeps (execMirrorChangeReport a0 a1 a2) a2 := by
  unfold execMirrorChangeReport; apply keeps_next
  (repeat' split) <;> simp

end Sys2Proof.Machine
end

