-- ==== Sys2Proof/Laws/FixedE.lean ====
section
/-! SUPPORT. The functions of FrontEnd, Calib, Coll, LoopVerbs and Hart leave the queue of waiting commands and the fused identity
of the unit (R2) as they are: one lemma per function that answers a state or an outcome. -/

namespace Sys2Proof.Machine

@[simp] theorem judgeFaults_fixed a0 (a1 : State) : (judgeFaults a0 a1).fixed = a1.fixed := by
  unfold judgeFaults
  simp

@[simp] theorem pvOutput_fixed a0 a1 (a2 : State) : (pvOutput a0 a1 a2).fixed = a2.fixed := by
  unfold pvOutput
  simp

@[simp] theorem feOutput_fixed a0 (a1 : State) : (feOutput a0 a1).fixed = a1.fixed := by
  unfold feOutput
  simp

theorem execFeOutput_fixed a0 (a1 : State) : Keeps (execFeOutput a0 a1) a1 := by
  unfold execFeOutput; apply keeps_next
  simp

@[simp] theorem takeSample_fixed (a0 : State) : (takeSample a0).fixed = a0.fixed := by
  unfold takeSample
  simp

theorem execRecordedSampleTaken_fixed (a0 : State) : Keeps (execRecordedSampleTaken a0) a0 := by
  unfold execRecordedSampleTaken; apply keeps_next
  simp

@[simp] theorem acceptUnit_fixed a0 a1 (a2 : State) : (acceptUnit a0 a1 a2).fixed = a2.fixed := by
  unfold acceptUnit
  simp

@[simp] theorem commitUnit_fixed a0 a1 (a2 : State) : (commitUnit a0 a1 a2).1.fixed = a2.fixed := by
  unfold commitUnit
  dsimp only; (repeat' split) <;> simp_all

@[simp] theorem afterFields_fixed a0 a1 (a2 : State) : (afterFields a0 a1 a2).fixed = a2.fixed := by
  unfold afterFields
  simp

@[simp] theorem runFields_fixed a0 a1 (a2 : State) : (runFields a0 a1 a2).1.fixed = a2.fixed := by
  unfold runFields
  (repeat' split) <;> grind [foldl_fixed, fixed_mk0, fixed_mk1, fixed_mk2, commitUnit_fixed, afterFields_fixed, acceptUnit_fixed]

@[simp] theorem reject_fixed a0 a1 a2 (a3 : State) : (reject a0 a1 a2 a3).1.fixed = a3.fixed := by
  unfold reject
  simp

theorem trimReady_fixed (n : Nat) (s : State) (r) (h : trimReady n s = some r) : r.1.fixed = s.fixed := by
  unfold trimReady at h
  dsimp only at h
  split at h
  · cases h; exact reject_fixed _ _ _ _
  · split at h
    · cases h; exact reject_fixed _ _ _ _
    · split at h
      · cases h; exact reject_fixed _ _ _ _
      · cases h

@[simp] theorem runTrim_fixed a0 a1 a2 (a3 : Loop → List (String × Val)) (a4 : State → State) (a5 : State) (ha4 : ∀ x0, (a4 x0).fixed = x0.fixed) : (runTrim a0 a1 a2 a3 a4 a5).1.fixed = a5.fixed := by
  unfold runTrim
  (repeat' split) <;> grind [foldl_fixed, fixed_mk0, fixed_mk1, fixed_mk2, reject_fixed, commitUnit_fixed, ldRaise_fixed, evalLoop_fixed]

@[simp] theorem runZero_fixed a0 a1 a2 (a3 : State) : (runZero a0 a1 a2 a3).1.fixed = a3.fixed := by
  unfold runZero
  split
  · rfl
  · split
    · rename_i e; exact trimReady_fixed _ _ _ e
    · exact runTrim_fixed _ _ _ _ _ _ (fun _ => rfl)

@[simp] theorem runSpan_fixed a0 a1 a2 (a3 : State) : (runSpan a0 a1 a2 a3).1.fixed = a3.fixed := by
  unfold runSpan
  extract_lets l z0 m0
  split
  · rfl
  · split
    · rfl
    · split
      · rename_i e; exact trimReady_fixed _ _ _ e
      · exact runTrim_fixed _ _ _ _ _ _ (fun _ => rfl)

@[simp] theorem runPhase_fixed a0 a1 a2 a3 (a4 : State) : (runPhase a0 a1 a2 a3 a4).1.fixed = a4.fixed := by
  unfold runPhase
  extract_lets l mags
  split
  · rfl
  · split
    · rfl
    · split
      · exact reject_fixed _ _ _ _
      · split
        · rename_i e; exact trimReady_fixed _ _ _ e
        · exact runTrim_fixed _ _ _ _ _ _ (fun _ => syncReset_fixed _ _)

@[simp] theorem runLoop_fixed a0 a1 a2 a3 (a4 : State) : (runLoop a0 a1 a2 a3 a4).1.fixed = a4.fixed := by
  have hs : ∀ x kv, (reject 4 x kv a4).1.fixed = a4.fixed := fun x kv => reject_fixed _ _ _ _
  unfold runLoop
  extract_lets l ms pp mp here p4 p20
  split
  · rfl
  · split
    · rfl
    · split
      · exact hs _ _
      · split
        · rfl
        · split
          · exact hs _ _
          · split
            · exact hs _ _
            · generalize p4 = x, p20 = y
              rcases x with _ | ⟨m4, c4, f4⟩
              · exact State.setLoop_fixed _ _
              · rcases y with _ | ⟨m20, c20, f20⟩
                · exact State.setLoop_fixed _ _
                · generalize hgo : loopTrim _ _ _ _ = go
                  obtain ⟨g, o⟩ := go
                  dsimp only
                  rw [hgo]
                  split
                  · exact hs _ _
                  · split
                    · exact hs _ _
                    · split
                      · rename_i e
                        exact (congrArg (fun p => p.1.fixed) e).symm.trans (commitUnit_fixed _ _ _)
                      · rename_i e
                        have h := (congrArg (fun p => p.1.fixed) e).symm.trans (commitUnit_fixed _ _ _)
                        refine (evalLoop_fixed _).trans ?_
                        split <;> simp [h]

@[simp] theorem runTable_fixed a0 a1 (a2 : State) : (runTable a0 a1 a2).1.fixed = a2.fixed := by
  unfold runTable
  (repeat' split) <;> grind [foldl_fixed, fixed_mk0, fixed_mk1, fixed_mk2, commitUnit_fixed]

@[simp] theorem runSave_fixed a0 (a1 : State) : (runSave a0 a1).1.fixed = a1.fixed := by
  unfold runSave
  (repeat' split) <;> grind [foldl_fixed, fixed_mk0, fixed_mk1, fixed_mk2, commitUnit_fixed, ldRaise_fixed]

@[simp] theorem runRestore_fixed a0 (a1 : State) : (runRestore a0 a1).1.fixed = a1.fixed := by
  unfold runRestore
  (repeat' split) <;> grind [foldl_fixed, fixed_mk0, fixed_mk1, fixed_mk2, commitUnit_fixed, ldRaise_fixed, evalLoop_fixed, syncReset_fixed]

@[simp] theorem runClear_fixed a0 a1 (a2 : State) : (runClear a0 a1 a2).1.fixed = a2.fixed := by
  unfold runClear
  (repeat' split) <;> grind [foldl_fixed, fixed_mk0, fixed_mk1, fixed_mk2, commitUnit_fixed, dropPending_fixed, ldRaise_fixed, evalLoop_fixed]

@[simp] theorem runUnit_fixed a0 a1 a2 (a3 : State) : (runUnit a0 a1 a2 a3).1.fixed = a3.fixed := by
  unfold runUnit
  dsimp only; (repeat' split) <;> simp_all

@[simp] theorem runFirst_fixed a0 (a1 : State) : (runFirst a0 a1).1.fixed = a1.fixed := by
  induction a0 generalizing a1 with
  | nil => rfl
  | cons u us ih =>
    unfold runFirst
    split
    · exact ih a1
    · exact runUnit_fixed _ _ _ _

@[simp] theorem writeUnit_fixed (a0 : State) : (writeUnit a0).fixed = a0.fixed := by
  unfold writeUnit
  simp

theorem execWriteUnit_fixed (a0 : State) : Keeps (execWriteUnit a0) a0 := by
  unfold execWriteUnit; apply keeps_next
  simp

@[simp] theorem unitAck_fixed (a0 : State) : (unitAck a0).fixed = a0.fixed := by
  unfold unitAck
  (repeat' split) <;> simp

theorem execMirroredWriteAck_fixed (a0 : State) : Keeps (execMirroredWriteAck a0) a0 := by
  unfold execMirroredWriteAck; apply keeps_next
  simp

@[simp] theorem postUnit_fixed a0 a1 a2 a3 a4 (a5 : State) : (postUnit a0 a1 a2 a3 a4 a5).fixed = a5.fixed := by
  unfold postUnit
  simp

@[simp] theorem onColl_fixed a0 a1 (a2 : Coll → State → State) (a3 : State) (ha2 : ∀ x0 x1, (a2 x0 x1).fixed = x1.fixed) : (onColl a0 a1 a2 a3).fixed = a3.fixed := by
  unfold onColl
  (repeat' split) <;> grind [foldl_fixed, fixed_mk0, fixed_mk1, fixed_mk2, gate_fixed, reply_fixed]

@[simp] theorem doCollCreate_fixed a0 (a1 : State) : (doCollCreate a0 a1).fixed = a1.fixed := by
  unfold doCollCreate
  (repeat' split) <;> grind [foldl_fixed, fixed_mk0, fixed_mk1, fixed_mk2, gate_fixed, reply_fixed, refuse_fixed, ns0Record_fixed, collEvent_fixed, done_fixed]

theorem execCollCreate_fixed a0 (a1 : State) : Keeps (execCollCreate a0 a1) a1 := by
  unfold execCollCreate; apply keeps_next
  simp

@[simp] theorem doCollDrop_fixed a0 (a1 : State) : (doCollDrop a0 a1).fixed = a1.fixed := by
  unfold doCollDrop
  (repeat' split) <;> grind [foldl_fixed, fixed_mk0, fixed_mk1, fixed_mk2, onColl_fixed, ns0Record_fixed, refuse_fixed, State.bothColls_fixed, dropWatches_fixed, stopRecallOf_fixed, reply_fixed]

theorem execCollDrop_fixed a0 (a1 : State) : Keeps (execCollDrop a0 a1) a1 := by
  unfold execCollDrop; apply keeps_next
  simp

theorem execCollDropComplete_fixed a0 (a1 : State) : Keeps (execCollDropComplete a0 a1) a1 := by
  unfold execCollDropComplete; apply keeps_next
  (repeat' split) <;> simp

@[simp] theorem setMaxChunks_fixed a0 a1 (a2 : State) : (setMaxChunks a0 a1 a2).fixed = a2.fixed := by
  unfold setMaxChunks
  simp

@[simp] theorem doCollSet_fixed a0 (a1 : State) : (doCollSet a0 a1).fixed = a1.fixed := by
  unfold doCollSet
  (repeat' split) <;> grind [foldl_fixed, fixed_mk0, fixed_mk1, fixed_mk2, onColl_fixed, refuse_fixed, ns0Record_fixed, done_fixed, setMaxChunks_fixed]

theorem execCollSet_fixed a0 (a1 : State) : Keeps (execCollSet a0 a1) a1 := by
  unfold execCollSet; apply keeps_next
  simp

@[simp] theorem doCollShow_fixed a0 (a1 : State) : (doCollShow a0 a1).fixed = a1.fixed := by
  unfold doCollShow
  simp

theorem execCollShow_fixed a0 (a1 : State) : Keeps (execCollShow a0 a1) a1 := by
  unfold execCollShow; apply keeps_next
  simp

@[simp] theorem doCollList_fixed a0 (a1 : State) : (doCollList a0 a1).fixed = a1.fixed := by
  unfold doCollList
  simp

theorem execCollList_fixed a0 (a1 : State) : Keeps (execCollList a0 a1) a1 := by
  unfold execCollList; apply keeps_next
  simp

@[simp] theorem doMaintMerge_fixed a0 (a1 : State) : (doMaintMerge a0 a1).fixed = a1.fixed := by
  unfold doMaintMerge
  simp

theorem execMaintMerge_fixed a0 (a1 : State) : Keeps (execMaintMerge a0 a1) a1 := by
  unfold execMaintMerge; apply keeps_next
  simp

theorem execMergeStart_fixed a0 (a1 : State) : Keeps (execMergeStart a0 a1) a1 := by
  unfold execMergeStart; apply keeps_next
  simp

theorem execIdleMergeCheck_fixed a0 (a1 : State) : Keeps (execIdleMergeCheck a0 a1) a1 := by
  unfold execIdleMergeCheck; apply keeps_next
  (repeat' split) <;> simp

theorem execChunkProgrammed_fixed a0 (a1 : State) : Keeps (execChunkProgrammed a0 a1) a1 := by
  unfold execChunkProgrammed; apply keeps_next
  (repeat' split) <;> simp

@[simp] theorem doMaintReload_fixed a0 (a1 : State) : (doMaintReload a0 a1).fixed = a1.fixed := by
  unfold doMaintReload
  simp

theorem execMaintReload_fixed a0 (a1 : State) : Keeps (execMaintReload a0 a1) a1 := by
  unfold execMaintReload; apply keeps_next
  simp

@[simp] theorem reloadColl_fixed a0 a1 (a2 : State) : (reloadColl a0 a1 a2).fixed = a2.fixed := by
  unfold reloadColl
  dsimp only; (repeat' split) <;> simp_all

theorem execCollectionReloadComplete_fixed a0 a1 (a2 : State) : Keeps (execCollectionReloadComplete a0 a1 a2) a2 := by
  unfold execCollectionReloadComplete; apply keeps_next
  simp

@[simp] theorem doMaintRebuild_fixed a0 (a1 : State) : (doMaintRebuild a0 a1).fixed = a1.fixed := by
  unfold doMaintRebuild
  simp

theorem execMaintRebuild_fixed a0 (a1 : State) : Keeps (execMaintRebuild a0 a1) a1 := by
  unfold execMaintRebuild; apply keeps_next
  simp

@[simp] theorem doMaintJobs_fixed a0 (a1 : State) : (doMaintJobs a0 a1).fixed = a1.fixed := by
  unfold doMaintJobs
  simp

theorem execMaintJobs_fixed a0 (a1 : State) : Keeps (execMaintJobs a0 a1) a1 := by
  unfold execMaintJobs; apply keeps_next
  simp

@[simp] theorem rebuildColl_fixed a0 a1 (a2 : State) : (rebuildColl a0 a1 a2).fixed = a2.fixed := by
  unfold rebuildColl
  dsimp only; (repeat' split) <;> simp_all

@[simp] theorem whenUp_fixed a0 (a1 : State → State) (a2 : State) (ha1 : ∀ x0, (a1 x0).fixed = x0.fixed) : (whenUp a0 a1 a2).fixed = a2.fixed := by
  unfold whenUp
  simp [ha1]

@[simp] theorem shown_fixed a0 a1 (a2 : State) : (shown a0 a1 a2).fixed = a2.fixed := by
  unfold shown
  simp

@[simp] theorem doIslShow_fixed a0 (a1 : State) : (doIslShow a0 a1).fixed = a1.fixed := by
  unfold doIslShow
  simp

theorem execIslShow_fixed a0 (a1 : State) : Keeps (execIslShow a0 a1) a1 := by
  unfold execIslShow; apply keeps_next
  simp

@[simp] theorem doFeShow_fixed a0 (a1 : State) : (doFeShow a0 a1).fixed = a1.fixed := by
  unfold doFeShow
  simp

theorem execFeShow_fixed a0 (a1 : State) : Keeps (execFeShow a0 a1) a1 := by
  unfold execFeShow; apply keeps_next
  simp

@[simp] theorem doHartShow_fixed a0 (a1 : State) : (doHartShow a0 a1).fixed = a1.fixed := by
  unfold doHartShow
  simp

theorem execHartShow_fixed a0 (a1 : State) : Keeps (execHartShow a0 a1) a1 := by
  unfold execHartShow; apply keeps_next
  simp

@[simp] theorem runSet_fixed a0 a1 a2 (a3 : State) : (runSet a0 a1 a2 a3).fixed = a3.fixed := by
  unfold runSet
  dsimp only; (repeat' split) <;> simp_all

@[simp] theorem doIslSet_fixed a0 (a1 : State) : (doIslSet a0 a1).fixed = a1.fixed := by
  unfold doIslSet
  simp

theorem execIslSet_fixed a0 (a1 : State) : Keeps (execIslSet a0 a1) a1 := by
  unfold execIslSet; apply keeps_next
  simp

@[simp] theorem doFeSet_fixed a0 (a1 : State) : (doFeSet a0 a1).fixed = a1.fixed := by
  unfold doFeSet
  simp

theorem execFeSet_fixed a0 (a1 : State) : Keeps (execFeSet a0 a1) a1 := by
  unfold execFeSet; apply keeps_next
  simp

@[simp] theorem doHartSet_fixed a0 (a1 : State) : (doHartSet a0 a1).fixed = a1.fixed := by
  unfold doHartSet
  simp

theorem execHartSet_fixed a0 (a1 : State) : Keeps (execHartSet a0 a1) a1 := by
  unfold execHartSet; apply keeps_next
  simp

@[simp] theorem islSync_fixed a0 (a1 : State) : (islSync a0 a1).fixed = a1.fixed := by
  unfold islSync
  (repeat' split) <;> simp

@[simp] theorem doIslSync_fixed a0 (a1 : State) : (doIslSync a0 a1).fixed = a1.fixed := by
  unfold doIslSync
  simp

theorem execIslSync_fixed a0 (a1 : State) : Keeps (execIslSync a0 a1) a1 := by
  unfold execIslSync; apply keeps_next
  simp

@[simp] theorem doCalZero_fixed a0 (a1 : State) : (doCalZero a0 a1).fixed = a1.fixed := by
  unfold doCalZero
  simp

theorem execCalZero_fixed a0 (a1 : State) : Keeps (execCalZero a0 a1) a1 := by
  unfold execCalZero; apply keeps_next
  simp

@[simp] theorem doCalSpan_fixed a0 (a1 : State) : (doCalSpan a0 a1).fixed = a1.fixed := by
  unfold doCalSpan
  simp

theorem execCalSpan_fixed a0 (a1 : State) : Keeps (execCalSpan a0 a1) a1 := by
  unfold execCalSpan; apply keeps_next
  simp

@[simp] theorem doCalPhase_fixed a0 (a1 : State) : (doCalPhase a0 a1).fixed = a1.fixed := by
  unfold doCalPhase
  simp

theorem execCalPhase_fixed a0 (a1 : State) : Keeps (execCalPhase a0 a1) a1 := by
  unfold execCalPhase; apply keeps_next
  simp

@[simp] theorem doCalLoop_fixed a0 (a1 : State) : (doCalLoop a0 a1).fixed = a1.fixed := by
  unfold doCalLoop
  simp

theorem execCalLoop_fixed a0 (a1 : State) : Keeps (execCalLoop a0 a1) a1 := by
  unfold execCalLoop; apply keeps_next
  simp

@[simp] theorem doCalTpoint_fixed a0 (a1 : State) : (doCalTpoint a0 a1).fixed = a1.fixed := by
  unfold doCalTpoint
  simp

theorem execCalTpoint_fixed a0 (a1 : State) : Keeps (execCalTpoint a0 a1) a1 := by
  unfold execCalTpoint; apply keeps_next
  simp

@[simp] theorem doCalTcommit_fixed a0 (a1 : State) : (doCalTcommit a0 a1).fixed = a1.fixed := by
  unfold doCalTcommit
  (repeat' split) <;> grind [foldl_fixed, fixed_mk0, fixed_mk1, fixed_mk2, gate_fixed, whenUp_fixed, reply_fixed, postUnit_fixed]

theorem execCalTcommit_fixed a0 (a1 : State) : Keeps (execCalTcommit a0 a1) a1 := by
  unfold execCalTcommit; apply keeps_next
  simp

@[simp] theorem doCalSave_fixed a0 (a1 : State) : (doCalSave a0 a1).fixed = a1.fixed := by
  unfold doCalSave
  simp

theorem execCalSave_fixed a0 (a1 : State) : Keeps (execCalSave a0 a1) a1 := by
  unfold execCalSave; apply keeps_next
  simp

@[simp] theorem doCalRestore_fixed a0 (a1 : State) : (doCalRestore a0 a1).fixed = a1.fixed := by
  unfold doCalRestore
  simp

theorem execCalRestore_fixed a0 (a1 : State) : Keeps (execCalRestore a0 a1) a1 := by
  unfold execCalRestore; apply keeps_next
  simp

@[simp] theorem doCalClear_fixed a0 (a1 : State) : (doCalClear a0 a1).fixed = a1.fixed := by
  unfold doCalClear
  simp

theorem execCalClear_fixed a0 (a1 : State) : Keeps (execCalClear a0 a1) a1 := by
  unfold execCalClear; apply keeps_next
  simp

@[simp] theorem doCalShow_fixed a0 (a1 : State) : (doCalShow a0 a1).fixed = a1.fixed := by
  unfold doCalShow
  simp

theorem execCalShow_fixed a0 (a1 : State) : Keeps (execCalShow a0 a1) a1 := by
  unfold execCalShow; apply keeps_next
  simp

@[simp] theorem mirroredWrite_fixed a0 a1 a2 (a3 : State) : (mirroredWrite a0 a1 a2 a3).fixed = a3.fixed := by
  unfold mirroredWrite
  (repeat' split) <;> grind [foldl_fixed, fixed_mk0, fixed_mk1, fixed_mk2, writeGate_fixed, reply_fixed, whenUp_fixed, postUnit_fixed, writeUnit_fixed]

theorem execMainPvWrite_fixed a0 a1 (a2 : State) : Keeps (execMainPvWrite a0 a1 a2) a2 := by
  unfold execMainPvWrite; apply keeps_next
  simp

theorem execFixUaWrite_fixed a0 a1 (a2 : State) : Keeps (execFixUaWrite a0 a1 a2) a2 := by
  unfold execFixUaWrite; apply keeps_next
  simp

theorem execLoopCurEnWrite_fixed a0 a1 (a2 : State) : Keeps (execLoopCurEnWrite a0 a1 a2) a2 := by
  unfold execLoopCurEnWrite; apply keeps_next
  simp

@[simp] theorem hear_fixed a0 (a1 : State) : (hear a0 a1).fixed = a1.fixed := by
  unfold hear
  simp

@[simp] theorem hartSend_fixed a0 a1 a2 a3 a4 (a5 : State) : (hartSend a0 a1 a2 a3 a4 a5).fixed = a5.fixed := by
  unfold hartSend
  simp

@[simp] theorem hartRun_fixed a0 a1 (a2 : Text → State → State × HartAns) (a3 : State) (ha2 : ∀ x0 x1, (a2 x0 x1).1.fixed = x1.fixed) : (hartRun a0 a1 a2 a3).fixed = a3.fixed := by
  unfold hartRun
  (repeat' split) <;> grind [foldl_fixed, fixed_mk0, fixed_mk1, fixed_mk2, onLoop_fixed, hear_fixed, hartSend_fixed]

@[simp] theorem hartRead_fixed a0 a1 (a2 : Loop → Text) (a3 : State) : (hartRead a0 a1 a2 a3).fixed = a3.fixed := by
  unfold hartRead
  simp

@[simp] theorem needing_fixed a0 (a1 : Text → State → State × HartAns) a2 (a3 : State) (ha1 : ∀ x0 x1, (a1 x0 x1).1.fixed = x1.fixed) : (needing a0 a1 a2 a3).1.fixed = a3.fixed := by
  unfold needing
  (repeat' split) <;> simp [ha1]

@[simp] theorem unlessWp_fixed (a0 : Text → State → State × HartAns) a1 (a2 : State) (h : ∀ d s, (a0 d s).1.fixed = s.fixed) :
    (unlessWp a0 a1 a2).1.fixed = a2.fixed := by
  unfold unlessWp
  split
  · rfl
  · exact h _ _

@[simp] theorem hartWrite_fixed a0 (a1 : Loop → Text) (a2 : State) : (hartWrite a0 a1 a2).1.fixed = a2.fixed := by
  unfold hartWrite
  simp

theorem execHartCmd0ReadUniqueId_fixed a0 (a1 : State) : Keeps (execHartCmd0ReadUniqueId a0 a1) a1 := by
  unfold execHartCmd0ReadUniqueId; apply keeps_next
  simp

theorem execHartCmd1ReadPv_fixed a0 (a1 : State) : Keeps (execHartCmd1ReadPv a0 a1) a1 := by
  unfold execHartCmd1ReadPv; apply keeps_next
  simp

theorem execHartCmd2ReadCurrentPercent_fixed a0 (a1 : State) : Keeps (execHartCmd2ReadCurrentPercent a0 a1) a1 := by
  unfold execHartCmd2ReadCurrentPercent; apply keeps_next
  simp

theorem execHartCmd3ReadDynamicVars_fixed a0 (a1 : State) : Keeps (execHartCmd3ReadDynamicVars a0 a1) a1 := by
  unfold execHartCmd3ReadDynamicVars; apply keeps_next
  simp

theorem execHartCmd6WritePollingAddr_fixed a0 (a1 : State) : Keeps (execHartCmd6WritePollingAddr a0 a1) a1 := by
  unfold execHartCmd6WritePollingAddr; apply keeps_next
  simp

theorem execHartCmd7ReadLoopConfig_fixed a0 (a1 : State) : Keeps (execHartCmd7ReadLoopConfig a0 a1) a1 := by
  unfold execHartCmd7ReadLoopConfig; apply keeps_next
  simp

theorem execHartCmd8ReadClassifications_fixed a0 (a1 : State) : Keeps (execHartCmd8ReadClassifications a0 a1) a1 := by
  unfold execHartCmd8ReadClassifications; apply keeps_next
  simp

@[simp] theorem withCodes_fixed a0 (a1 : List Nat → Loop → Text) a2 (a3 : State) : (withCodes a0 a1 a2 a3).1.fixed = a3.fixed := by
  unfold withCodes
  dsimp only; (repeat' split) <;> simp_all

theorem execHartCmd9ReadVarsStatus_fixed a0 (a1 : State) : Keeps (execHartCmd9ReadVarsStatus a0 a1) a1 := by
  unfold execHartCmd9ReadVarsStatus; apply keeps_next
  simp

@[simp] theorem byTag_fixed a0 a1 (a2 : State) : (byTag a0 a1 a2).1.fixed = a2.fixed := by
  unfold byTag
  simp

theorem execHartCmd11ReadIdByTag_fixed a0 (a1 : State) : Keeps (execHartCmd11ReadIdByTag a0 a1) a1 := by
  unfold execHartCmd11ReadIdByTag; apply keeps_next
  simp

theorem execHartCmd12ReadMessage_fixed a0 (a1 : State) : Keeps (execHartCmd12ReadMessage a0 a1) a1 := by
  unfold execHartCmd12ReadMessage; apply keeps_next
  simp

theorem execHartCmd13ReadTagDescriptor_fixed a0 (a1 : State) : Keeps (execHartCmd13ReadTagDescriptor a0 a1) a1 := by
  unfold execHartCmd13ReadTagDescriptor; apply keeps_next
  simp

theorem execHartCmd14ReadTransducer_fixed a0 (a1 : State) : Keeps (execHartCmd14ReadTransducer a0 a1) a1 := by
  unfold execHartCmd14ReadTransducer; apply keeps_next
  simp

theorem execHartCmd15ReadDeviceInfo_fixed a0 (a1 : State) : Keeps (execHartCmd15ReadDeviceInfo a0 a1) a1 := by
  unfold execHartCmd15ReadDeviceInfo; apply keeps_next
  simp

theorem execHartCmd16ReadFan_fixed a0 (a1 : State) : Keeps (execHartCmd16ReadFan a0 a1) a1 := by
  unfold execHartCmd16ReadFan; apply keeps_next
  simp

theorem execHartCmd17WriteMessage_fixed a0 (a1 : State) : Keeps (execHartCmd17WriteMessage a0 a1) a1 := by
  unfold execHartCmd17WriteMessage; apply keeps_next
  simp

theorem execHartCmd18WriteTagDescriptor_fixed a0 (a1 : State) : Keeps (execHartCmd18WriteTagDescriptor a0 a1) a1 := by
  unfold execHartCmd18WriteTagDescriptor; apply keeps_next
  simp

theorem execHartCmd19WriteFan_fixed a0 (a1 : State) : Keeps (execHartCmd19WriteFan a0 a1) a1 := by
  unfold execHartCmd19WriteFan; apply keeps_next
  simp

theorem execHartCmd20ReadLongTag_fixed a0 (a1 : State) : Keeps (execHartCmd20ReadLongTag a0 a1) a1 := by
  unfold execHartCmd20ReadLongTag; apply keeps_next
  simp

theorem execHartCmd21ReadIdByLongTag_fixed a0 (a1 : State) : Keeps (execHartCmd21ReadIdByLongTag a0 a1) a1 := by
  unfold execHartCmd21ReadIdByLongTag; apply keeps_next
  simp

theorem execHartCmd22WriteLongTag_fixed a0 (a1 : State) : Keeps (execHartCmd22WriteLongTag a0 a1) a1 := by
  unfold execHartCmd22WriteLongTag; apply keeps_next
  simp

theorem execHartCmd33ReadDeviceVars_fixed a0 (a1 : State) : Keeps (execHartCmd33ReadDeviceVars a0 a1) a1 := by
  unfold execHartCmd33ReadDeviceVars; apply keeps_next
  simp

theorem execHartCmd34WriteDamping_fixed a0 (a1 : State) : Keeps (execHartCmd34WriteDamping a0 a1) a1 := by
  unfold execHartCmd34WriteDamping; apply keeps_next
  (repeat' split) <;> grind [foldl_fixed, fixed_mk0, fixed_mk1, fixed_mk2, hartRun_fixed, needing_fixed, unlessWp_fixed, hartWrite_fixed]

theorem execHartCmd35WriteRange_fixed a0 (a1 : State) : Keeps (execHartCmd35WriteRange a0 a1) a1 := by
  unfold execHartCmd35WriteRange; apply keeps_next
  (repeat' split) <;> grind [foldl_fixed, fixed_mk0, fixed_mk1, fixed_mk2, hartRun_fixed, needing_fixed, unlessWp_fixed, hartWrite_fixed]

@[simp] theorem rangeHere_fixed a0 a1 (a2 : State) : (rangeHere a0 a1 a2).1.fixed = a2.fixed := by
  unfold rangeHere
  (repeat' split) <;> simp

theorem execHartCmd36SetUrv_fixed a0 (a1 : State) : Keeps (execHartCmd36SetUrv a0 a1) a1 := by
  unfold execHartCmd36SetUrv; apply keeps_next
  simp

theorem execHartCmd37SetLrv_fixed a0 (a1 : State) : Keeps (execHartCmd37SetLrv a0 a1) a1 := by
  unfold execHartCmd37SetLrv; apply keeps_next
  simp

theorem execHartCmd38ResetConfigChanged_fixed a0 (a1 : State) : Keeps (execHartCmd38ResetConfigChanged a0 a1) a1 := by
  unfold execHartCmd38ResetConfigChanged; apply keeps_next
  (repeat' split) <;> grind [foldl_fixed, fixed_mk0, fixed_mk1, fixed_mk2, hartRun_fixed, State.setHart_fixed]

theorem execHartCmd40FixedCurrent_fixed a0 (a1 : State) : Keeps (execHartCmd40FixedCurrent a0 a1) a1 := by
  unfold execHartCmd40FixedCurrent; apply keeps_next
  (repeat' split) <;> grind [foldl_fixed, fixed_mk0, fixed_mk1, fixed_mk2, hartRun_fixed, needing_fixed, hartWrite_fixed]

theorem execHartCmd42DeviceReset_fixed a0 (a1 : State) : Keeps (execHartCmd42DeviceReset a0 a1) a1 := by
  unfold execHartCmd42DeviceReset; apply keeps_next
  simp

@[simp] theorem hartTrim_fixed a0 a1 a2 (a3 : Verdict → Loop → Text) (a4 : State) : (hartTrim a0 a1 a2 a3 a4).1.fixed = a4.fixed := by
  unfold hartTrim
  simp

theorem execHartCmd43SetPvZero_fixed a0 (a1 : State) : Keeps (execHartCmd43SetPvZero a0 a1) a1 := by
  unfold execHartCmd43SetPvZero; apply keeps_next
  simp

theorem execHartCmd44WritePvUnits_fixed a0 (a1 : State) : Keeps (execHartCmd44WritePvUnits a0 a1) a1 := by
  unfold execHartCmd44WritePvUnits; apply keeps_next
  (repeat' split) <;> grind [foldl_fixed, fixed_mk0, fixed_mk1, fixed_mk2, hartRun_fixed, needing_fixed, unlessWp_fixed, hartWrite_fixed]

@[simp] theorem meterReading_fixed a0 a1 (a2 : State) : (meterReading a0 a1 a2).1.fixed = a2.fixed := by
  unfold meterReading
  simp

theorem execHartCmd45TrimLoopZero_fixed a0 (a1 : State) : Keeps (execHartCmd45TrimLoopZero a0 a1) a1 := by
  unfold execHartCmd45TrimLoopZero; apply keeps_next
  simp

theorem execHartCmd46TrimLoopGain_fixed a0 (a1 : State) : Keeps (execHartCmd46TrimLoopGain a0 a1) a1 := by
  unfold execHartCmd46TrimLoopGain; apply keeps_next
  simp

theorem execHartCmd48ReadAdditional_fixed a0 (a1 : State) : Keeps (execHartCmd48ReadAdditional a0 a1) a1 := by
  unfold execHartCmd48ReadAdditional; apply keeps_next
  simp

theorem execHartCmd54ReadVarInfo_fixed a0 (a1 : State) : Keeps (execHartCmd54ReadVarInfo a0 a1) a1 := by
  unfold execHartCmd54ReadVarInfo; apply keeps_next
  (repeat' split) <;> grind [foldl_fixed, fixed_mk0, fixed_mk1, fixed_mk2, hartRun_fixed, needing_fixed]

theorem execHartCmd59WritePreambles_fixed a0 (a1 : State) : Keeps (execHartCmd59WritePreambles a0 a1) a1 := by
  unfold execHartCmd59WritePreambles; apply keeps_next
  simp

theorem execHartCmd103BurstPeriod_fixed a0 (a1 : State) : Keeps (execHartCmd103BurstPeriod a0 a1) a1 := by
  unfold execHartCmd103BurstPeriod; apply keeps_next
  (repeat' split) <;> grind [foldl_fixed, fixed_mk0, fixed_mk1, fixed_mk2, hartRun_fixed, needing_fixed, unlessWp_fixed, hartWrite_fixed]

theorem execHartCmd104BurstTrigger_fixed a0 (a1 : State) : Keeps (execHartCmd104BurstTrigger a0 a1) a1 := by
  unfold execHartCmd104BurstTrigger; apply keeps_next
  (repeat' split) <;> grind [foldl_fixed, fixed_mk0, fixed_mk1, fixed_mk2, hartRun_fixed, needing_fixed, unlessWp_fixed]

theorem execHartCmd105BurstConfig_fixed a0 (a1 : State) : Keeps (execHartCmd105BurstConfig a0 a1) a1 := by
  unfold execHartCmd105BurstConfig; apply keeps_next
  simp

theorem execHartCmd108BurstCommand_fixed a0 (a1 : State) : Keeps (execHartCmd108BurstCommand a0 a1) a1 := by
  unfold execHartCmd108BurstCommand; apply keeps_next
  (repeat' split) <;> grind [foldl_fixed, fixed_mk0, fixed_mk1, fixed_mk2, hartRun_fixed, needing_fixed, unlessWp_fixed, hartWrite_fixed]

theorem execHartCmd109BurstControl_fixed a0 (a1 : State) : Keeps (execHartCmd109BurstControl a0 a1) a1 := by
  unfold execHartCmd109BurstControl; apply keeps_next
  (repeat' split) <;> grind [foldl_fixed, fixed_mk0, fixed_mk1, fixed_mk2, hartRun_fixed, needing_fixed, unlessWp_fixed, hartWrite_fixed]

theorem execHartCmd128ReadStatus_fixed a0 (a1 : State) : Keeps (execHartCmd128ReadStatus a0 a1) a1 := by
  unfold execHartCmd128ReadStatus; apply keeps_next
  simp

theorem execHartCmd129ReadFeResults_fixed a0 (a1 : State) : Keeps (execHartCmd129ReadFeResults a0 a1) a1 := by
  unfold execHartCmd129ReadFeResults; apply keeps_next
  simp

theorem execHartCmd130ReadFeConfig_fixed a0 (a1 : State) : Keeps (execHartCmd130ReadFeConfig a0 a1) a1 := by
  unfold execHartCmd130ReadFeConfig; apply keeps_next
  simp

theorem execHartCmd131WriteFeConfig_fixed a0 (a1 : State) : Keeps (execHartCmd131WriteFeConfig a0 a1) a1 := by
  unfold execHartCmd131WriteFeConfig; apply keeps_next
  simp

@[simp] theorem ownerOnly_fixed a0 (a1 : State → State × HartAns) (a2 : State) (ha1 : ∀ x0, (a1 x0).1.fixed = x0.fixed) : (ownerOnly a0 a1 a2).1.fixed = a2.fixed := by
  unfold ownerOnly
  (repeat' split) <;> simp [ha1]

theorem execHartCmd132ZeroTrim_fixed a0 (a1 : State) : Keeps (execHartCmd132ZeroTrim a0 a1) a1 := by
  unfold execHartCmd132ZeroTrim; apply keeps_next
  (repeat' split) <;> grind [foldl_fixed, fixed_mk0, fixed_mk1, fixed_mk2, hartRun_fixed, needing_fixed, ownerOnly_fixed, hartTrim_fixed]

theorem execHartCmd133SpanTrim_fixed a0 (a1 : State) : Keeps (execHartCmd133SpanTrim a0 a1) a1 := by
  unfold execHartCmd133SpanTrim; apply keeps_next
  (repeat' split) <;> grind [foldl_fixed, fixed_mk0, fixed_mk1, fixed_mk2, hartRun_fixed, needing_fixed, ownerOnly_fixed, hartTrim_fixed]

theorem execHartCmd134PhaseTrim_fixed a0 (a1 : State) : Keeps (execHartCmd134PhaseTrim a0 a1) a1 := by
  unfold execHartCmd134PhaseTrim; apply keeps_next
  (repeat' split) <;> grind [foldl_fixed, fixed_mk0, fixed_mk1, fixed_mk2, hartRun_fixed, needing_fixed, unlessWp_fixed, ownerOnly_fixed, hartTrim_fixed]

theorem execHartCmd135ReadScaling_fixed a0 (a1 : State) : Keeps (execHartCmd135ReadScaling a0 a1) a1 := by
  unfold execHartCmd135ReadScaling; apply keeps_next
  simp

theorem execHartCmd136WriteScaling_fixed a0 (a1 : State) : Keeps (execHartCmd136WriteScaling a0 a1) a1 := by
  unfold execHartCmd136WriteScaling; apply keeps_next
  simp

@[simp] theorem calAction_fixed a0 (a1 : State) : (calAction a0 a1).1.fixed = a1.fixed := by
  unfold calAction
  (repeat' split) <;> simp

theorem execHartCmd137CalSetAction_fixed a0 (a1 : State) : Keeps (execHartCmd137CalSetAction a0 a1) a1 := by
  unfold execHartCmd137CalSetAction; apply keeps_next
  (repeat' split) <;> grind [foldl_fixed, fixed_mk0, fixed_mk1, fixed_mk2, hartRun_fixed, needing_fixed, unlessWp_fixed, calAction_fixed]

theorem execHartCmd138ReadSupply_fixed a0 (a1 : State) : Keeps (execHartCmd138ReadSupply a0 a1) a1 := by
  unfold execHartCmd138ReadSupply; apply keeps_next
  simp

theorem execHartCmd139WriteFailSettings_fixed a0 (a1 : State) : Keeps (execHartCmd139WriteFailSettings a0 a1) a1 := by
  unfold execHartCmd139WriteFailSettings; apply keeps_next
  simp

theorem execHartCmd140SyncReset_fixed a0 (a1 : State) : Keeps (execHartCmd140SyncReset a0 a1) a1 := by
  unfold execHartCmd140SyncReset; apply keeps_next
  simp

theorem execHartUnsupportedCommand_fixed a0 a1 (a2 : State) : Keeps (execHartUnsupportedCommand a0 a1 a2) a2 := by
  unfold execHartUnsupportedCommand; apply keeps_next
  simp

theorem execHartBurstSend_fixed (a0 : State) : Keeps (execHartBurstSend a0) a0 := by
  unfold execHartBurstSend; apply keeps_next
  simp

theorem execHartFrameError_fixed (a0 : State) : Keeps (execHartFrameError a0) a0 := by
  unfold execHartFrameError; apply keeps_next
  simp

end Sys2Proof.Machine
end

