-- ==== Sys2Proof/Laws/FixedF.lean ====
section
/-! SUPPORT. The functions of Memory, Net, Sunrise, SweepQuery and Sweep leave the queue of waiting commands and the fused identity
of the unit (R2) as they are: one lemma per function that answers a state or an outcome. -/

namespace Sys2Proof.Machine

theorem execDramRetrain_fixed a0 a1 (a2 : State) : Keeps (execDramRetrain a0 a1 a2) a2 := by
  unfold execDramRetrain; apply keeps_next
  simp

@[simp] theorem countCorrected_fixed a0 a1 (a2 : State) : (countCorrected a0 a1 a2).fixed = a2.fixed := by
  unfold countCorrected
  simp

@[simp] theorem loseBlock_fixed a0 (a1 : State) : (loseBlock a0 a1).fixed = a1.fixed := by
  unfold loseBlock
  (repeat' split) <;> simp

@[simp] theorem uncorrectable_fixed a0 (a1 : State) : (uncorrectable a0 a1).fixed = a1.fixed := by
  unfold uncorrectable
  (repeat' split) <;> simp

@[simp] theorem arise_fixed a0 (a1 : State) : (arise a0 a1).fixed = a1.fixed := by
  unfold arise
  simp

theorem execDramPatrolScrub_fixed a0 a1 (a2 : State) : Keeps (execDramPatrolScrub a0 a1 a2) a2 := by
  unfold execDramPatrolScrub; intro t e; (repeat' split at e) <;> grind [foldl_fixed, fixed_mk0, fixed_mk1, fixed_mk2, arise_fixed, countCorrected_fixed, uncorrectable_fixed, keeps_next, Keeps]

theorem execDramStructureRebuilt_fixed a0 (a1 : State) : Keeps (execDramStructureRebuilt a0 a1) a1 := by
  unfold execDramStructureRebuilt; apply keeps_next
  simp

@[simp] theorem retireTarget_fixed a0 a1 (a2 : State) : (retireTarget a0 a1 a2).fixed = a2.fixed := by
  unfold retireTarget
  simp

@[simp] theorem noteWear_fixed a0 a1 (a2 : State) : (noteWear a0 a1 a2).fixed = a2.fixed := by
  unfold noteWear
  simp

@[simp] theorem applyDecay_fixed (a0 : State) a1 : (applyDecay a0 a1).fixed = a0.fixed := by
  unfold applyDecay
  (repeat' split) <;> simp

theorem execNandOperationComplete_fixed a0 a1 a2 a3 a4 a5 (a6 : State) : Keeps (execNandOperationComplete a0 a1 a2 a3 a4 a5 a6) a6 := by
  unfold execNandOperationComplete; intro t e; (repeat' split at e) <;> grind [foldl_fixed, fixed_mk0, fixed_mk1, fixed_mk2, noteWear_fixed, applyDecay_fixed, raise_fixed, retireTarget_fixed, keeps_next, Keeps]

theorem execBlockRelocation_fixed a0 (a1 : State) : Keeps (execBlockRelocation a0 a1) a1 := by
  unfold execBlockRelocation; apply keeps_next
  simp

theorem execNandTargetTimeout_fixed a0 a1 (a2 : State) : Keeps (execNandTargetTimeout a0 a1 a2) a2 := by
  unfold execNandTargetTimeout; apply keeps_next
  simp

theorem execCheckpointDue_fixed (a0 : State) : Keeps (execCheckpointDue a0) a0 := by
  unfold execCheckpointDue; apply keeps_next
  simp

theorem execCheckpointComplete_fixed a0 (a1 : State) : Keeps (execCheckpointComplete a0 a1) a1 := by
  unfold execCheckpointComplete; apply keeps_next
  simp

theorem execPlpReserveRebuilt_fixed (a0 : State) : Keeps (execPlpReserveRebuilt a0) a0 := by
  unfold execPlpReserveRebuilt; apply keeps_next
  simp

@[simp] theorem portEv_fixed a0 a1 a2 (a3 : State) : (portEv a0 a1 a2 a3).fixed = a3.fixed := by
  unfold portEv
  simp

@[simp] theorem netSend_fixed a0 a1 a2 (a3 : State) : (netSend a0 a1 a2 a3).fixed = a3.fixed := by
  unfold netSend
  simp

@[simp] theorem rxDrop_fixed a0 a1 (a2 : State) : (rxDrop a0 a1 a2).fixed = a2.fixed := by
  unfold rxDrop
  simp

@[simp] theorem rxError_fixed a0 (a1 : State) : (rxError a0 a1).fixed = a1.fixed := by
  unfold rxError
  simp

@[simp] theorem startProbe_fixed a0 a1 a2 (a3 : State) : (startProbe a0 a1 a2 a3).fixed = a3.fixed := by
  unfold startProbe
  simp

@[simp] theorem startAddr_fixed a0 a1 (a2 : State) : (startAddr a0 a1 a2).fixed = a2.fixed := by
  unfold startAddr
  dsimp only; (repeat' split) <;> simp_all

@[simp] theorem loseAddr_fixed a0 a1 a2 (a3 : State) : (loseAddr a0 a1 a2 a3).fixed = a3.fixed := by
  unfold loseAddr
  simp

@[simp] theorem conflictAt_fixed a0 a1 a2 (a3 : State) : (conflictAt a0 a1 a2 a3).fixed = a3.fixed := by
  unfold conflictAt
  simp

theorem execAddressProbeComplete_fixed a0 a1 (a2 : State) : Keeps (execAddressProbeComplete a0 a1 a2) a2 := by
  unfold execAddressProbeComplete; apply keeps_next
  dsimp only; (repeat' split) <;> simp_all

theorem execAddressConflictRetry_fixed a0 (a1 : State) : Keeps (execAddressConflictRetry a0 a1) a1 := by
  unfold execAddressConflictRetry; apply keeps_next
  simp

@[simp] theorem closePort_fixed a0 (a1 : State) : (closePort a0 a1).fixed = a1.fixed := by
  unfold closePort
  simp

@[simp] theorem leaseOver_fixed a0 a1 a2 (a3 : State) : (leaseOver a0 a1 a2 a3).fixed = a3.fixed := by
  unfold leaseOver
  simp

theorem execDhcpMessage_fixed a0 a1 (a2 : State) : Keeps (execDhcpMessage a0 a1 a2) a2 := by
  unfold execDhcpMessage; apply keeps_next
  simp

theorem execDhcpTimer_fixed a0 a1 a2 (a3 : State) : Keeps (execDhcpTimer a0 a1 a2 a3) a3 := by
  unfold execDhcpTimer; apply keeps_next
  simp

theorem execRouterAdvertisement_fixed a0 a1 a2 a3 (a4 : State) : Keeps (execRouterAdvertisement a0 a1 a2 a3 a4) a4 := by
  unfold execRouterAdvertisement; apply keeps_next
  simp

@[simp] theorem confirm_fixed a0 a1 a2 a3 (a4 : State) : (confirm a0 a1 a2 a3 a4).fixed = a4.fixed := by
  unfold confirm
  simp

@[simp] theorem limited_fixed a0 (a1 : State → State) (a2 : State) (ha1 : ∀ x0, (a1 x0).fixed = x0.fixed) : (limited a0 a1 a2).fixed = a2.fixed := by
  unfold limited
  simp [ha1]

@[simp] theorem netResolve_fixed a0 a1 a2 a3 a4 a5 (a6 : State) : (netResolve a0 a1 a2 a3 a4 a5 a6).fixed = a6.fixed := by
  unfold netResolve
  simp

@[simp] theorem reassemble_fixed a0 a1 a2 a3 a4 (a5 : State) : (reassemble a0 a1 a2 a3 a4 a5).fixed = a5.fixed := by
  unfold reassemble
  simp

@[simp] theorem lowerMtu_fixed a0 a1 a2 (a3 : State) : (lowerMtu a0 a1 a2 a3).fixed = a3.fixed := by
  unfold lowerMtu
  (repeat' split) <;> simp

@[simp] theorem takePacket_fixed a0 a1 (a2 : State) : (takePacket a0 a1 a2).fixed = a2.fixed := by
  unfold takePacket
  (repeat' split) <;> simp

theorem execEthernetFrameReceived_fixed a0 a1 (a2 : State) : Keeps (execEthernetFrameReceived a0 a1 a2) a2 := by
  unfold execEthernetFrameReceived; apply keeps_next
  simp

theorem execNeighbourEntryAge_fixed a0 a1 (a2 : State) : Keeps (execNeighbourEntryAge a0 a1 a2) a2 := by
  unfold execNeighbourEntryAge; apply keeps_next
  simp

theorem execReassemblyTimeout_fixed a0 a1 (a2 : State) : Keeps (execReassemblyTimeout a0 a1 a2) a2 := by
  unfold execReassemblyTimeout; apply keeps_next
  dsimp only; (repeat' split) <;> simp_all

theorem execPauseFrame_fixed a0 a1 (a2 : State) : Keeps (execPauseFrame a0 a1 a2) a2 := by
  unfold execPauseFrame; apply keeps_next
  simp

theorem execLinkUp_fixed a0 (a1 : State) : Keeps (execLinkUp a0 a1) a1 := by
  unfold execLinkUp; apply keeps_next
  simp

@[simp] theorem linkLost_fixed a0 (a1 : State) : (linkLost a0 a1).fixed = a1.fixed := by
  unfold linkLost
  simp

theorem execLinkDown_fixed a0 (a1 : State) : Keeps (execLinkDown a0 a1) a1 := by
  unfold execLinkDown; apply keeps_next
  simp

theorem execLinkHoldExpiry_fixed a0 (a1 : State) : Keeps (execLinkHoldExpiry a0 a1) a1 := by
  unfold execLinkHoldExpiry; apply keeps_next
  simp

@[simp] theorem netApplied_fixed (a0 : State) (a1 : State) : (netApplied a0 a1).fixed = a1.fixed := by
  unfold netApplied
  simp

@[simp] theorem hsAlert_fixed a0 a1 a2 a3 (a4 : State) : (hsAlert a0 a1 a2 a3 a4).fixed = a4.fixed := by
  unfold hsAlert
  simp

@[simp] theorem failProfile_fixed a0 a1 (a2 : State) : (failProfile a0 a1 a2).fixed = a2.fixed := by
  unfold failProfile
  simp

@[simp] theorem failAuth_fixed a0 a1 a2 (a3 : State) : (failAuth a0 a1 a2 a3).fixed = a3.fixed := by
  unfold failAuth
  dsimp only; (repeat' split) <;> simp_all

@[simp] theorem dropHs_fixed a0 (a1 : State) : (dropHs a0 a1).fixed = a1.fixed := by
  unfold dropHs
  simp

@[simp] theorem judgeHello_fixed a0 a1 (a2 : State) : (judgeHello a0 a1 a2).fixed = a2.fixed := by
  have hr : ∀ d, (failProfile a1 d (dropHs a1.num a2)).fixed = a2.fixed :=
    fun d => (failProfile_fixed _ _ _).trans (dropHs_fixed _ _)
  have ha : ∀ d n, (failAuth a1 d n (dropHs a1.num a2)).fixed = a2.fixed :=
    fun d n => (failAuth_fixed _ _ _ _).trans (dropHs_fixed _ _)
  have hn : ∀ p k l n, (netSend p k l { a2 with net := n }).fixed = a2.fixed :=
    fun p k l n => netSend_fixed _ _ _ _
  unfold judgeHello
  repeat' (first | extract_lets | split)
  all_goals
    first
    | exact hr _
    | exact ha _ _
    | exact hn _ _ _ _
    | (rename_i u f _ _ _ _ _ _ _ _ _
       clear_value u
       rcases u with _ | ⟨⟨k, b⟩, t⟩
       · exact hr _
       · dsimp only
         split
         · exact hn _ _ _ _
         · exact ha _ _)

theorem execClientHello_fixed a0 (a1 : State) : Keeps (execClientHello a0 a1) a1 := by
  unfold execClientHello; apply keeps_next
  (repeat' split) <;> simp

theorem execHandshakeTokenRefill_fixed (a0 : State) : Keeps (execHandshakeTokenRefill a0) a0 := by
  unfold execHandshakeTokenRefill; apply keeps_next
  simp

theorem execCookieKeyRotate_fixed (a0 : State) : Keeps (execCookieKeyRotate a0) a0 := by
  unfold execCookieKeyRotate; apply keeps_next
  simp

theorem execFlightRetransmit_fixed a0 (a1 : State) : Keeps (execFlightRetransmit a0 a1) a1 := by
  unfold execFlightRetransmit; apply keeps_next
  (repeat' split) <;> simp

theorem execHandshakeTimeout_fixed a0 (a1 : State) : Keeps (execHandshakeTimeout a0 a1) a1 := by
  unfold execHandshakeTimeout; apply keeps_next
  (repeat' split) <;> simp

@[simp] theorem openSession_fixed a0 a1 (a2 : State) : (openSession a0 a1 a2).fixed = a2.fixed := by
  unfold openSession
  simp

@[simp] theorem openTls_fixed a0 a1 (a2 : State) : (openTls a0 a1 a2).fixed = a2.fixed := by
  unfold openTls
  simp

@[simp] theorem finishHandshake_fixed a0 a1 (a2 : State) : (finishHandshake a0 a1 a2).fixed = a2.fixed := by
  unfold finishHandshake
  dsimp only; (repeat' split) <;> simp_all

theorem execHandshakeComplete_fixed a0 a1 (a2 : State) : Keeps (execHandshakeComplete a0 a1 a2) a2 := by
  unfold execHandshakeComplete; apply keeps_next
  (repeat' split) <;> simp

theorem execTlsConnectionOpen_fixed a0 a1 a2 (a3 : State) : Keeps (execTlsConnectionOpen a0 a1 a2 a3) a3 := by
  unfold execTlsConnectionOpen; apply keeps_next
  (repeat' split) <;> simp

theorem execTlsConnectionClose_fixed a0 (a1 : State) : Keeps (execTlsConnectionClose a0 a1) a1 := by
  unfold execTlsConnectionClose; apply keeps_next
  simp

@[simp] theorem closeAtLimit_fixed a0 (a1 : State) : (closeAtLimit a0 a1).fixed = a1.fixed := by
  unfold closeAtLimit
  simp

@[simp] theorem rekeyCheck_fixed a0 (a1 : State) : (rekeyCheck a0 a1).fixed = a1.fixed := by
  unfold rekeyCheck
  (repeat' split) <;> simp

@[simp] theorem takeRecord_fixed a0 a1 (a2 : State) : (takeRecord a0 a1 a2).fixed = a2.fixed := by
  unfold takeRecord
  dsimp only; (repeat' split) <;> simp_all

theorem execDtlsRecordReceived_fixed a0 a1 (a2 : State) : Keeps (execDtlsRecordReceived a0 a1 a2) a2 := by
  unfold execDtlsRecordReceived; apply keeps_next
  (repeat' split) <;> simp

theorem execSessionIdleTimeout_fixed a0 (a1 : State) : Keeps (execSessionIdleTimeout a0 a1) a1 := by
  unfold execSessionIdleTimeout; apply keeps_next
  (repeat' split) <;> simp

@[simp] theorem closeByCred_fixed a0 (a1 : State) : (closeByCred a0 a1).fixed = a1.fixed := by
  unfold closeByCred
  simp

@[simp] theorem closeByRef_fixed a0 a1 (a2 : State) : (closeByRef a0 a1 a2).fixed = a2.fixed := by
  unfold closeByRef
  simp

@[simp] theorem doVaultPsk_fixed a0 (a1 : State) : (doVaultPsk a0 a1).fixed = a1.fixed := by
  unfold doVaultPsk
  (repeat' split) <;> grind [foldl_fixed, fixed_mk0, fixed_mk1, fixed_mk2, gate_fixed, reply_fixed, ns0Record_fixed, loadSlot_fixed, closeByRef_fixed, done_fixed]

theorem execVaultPsk_fixed a0 (a1 : State) : Keeps (execVaultPsk a0 a1) a1 := by
  unfold execVaultPsk; apply keeps_next
  simp

@[simp] theorem doVaultCa_fixed a0 (a1 : State) : (doVaultCa a0 a1).fixed = a1.fixed := by
  unfold doVaultCa
  (repeat' split) <;> grind [foldl_fixed, fixed_mk0, fixed_mk1, fixed_mk2, gate_fixed, reply_fixed, done_fixed, State.updRoute_fixed, ns0Record_fixed, closeByRef_fixed]

theorem execVaultCa_fixed a0 (a1 : State) : Keeps (execVaultCa a0 a1) a1 := by
  unfold execVaultCa; apply keeps_next
  simp

@[simp] theorem doVaultCert_fixed a0 (a1 : State) : (doVaultCert a0 a1).fixed = a1.fixed := by
  unfold doVaultCert
  (repeat' split) <;> grind [foldl_fixed, fixed_mk0, fixed_mk1, fixed_mk2, gate_fixed, reply_fixed, done_fixed, State.updRoute_fixed, ns0Record_fixed]

theorem execVaultCert_fixed a0 (a1 : State) : Keeps (execVaultCert a0 a1) a1 := by
  unfold execVaultCert; apply keeps_next
  simp

@[simp] theorem dataLines_fixed a0 a1 a2 a3 (a4 : State) : (dataLines a0 a1 a2 a3 a4).fixed = a4.fixed := by
  induction a2 generalizing a1 a3 a4 with
  | zero => rfl
  | succ n ih =>
    unfold dataLines
    split
    · rfl
    · rw [ih, reply_fixed]

@[simp] theorem doVaultCsr_fixed a0 (a1 : State) : (doVaultCsr a0 a1).fixed = a1.fixed := by
  unfold doVaultCsr
  simp

theorem execVaultCsr_fixed a0 (a1 : State) : Keeps (execVaultCsr a0 a1) a1 := by
  unfold execVaultCsr; apply keeps_next
  simp

@[simp] theorem doVaultCred_fixed a0 (a1 : State) : (doVaultCred a0 a1).fixed = a1.fixed := by
  unfold doVaultCred
  (repeat' split) <;> grind [foldl_fixed, fixed_mk0, fixed_mk1, fixed_mk2, gate_fixed, done_fixed, reply_fixed, ns0Record_fixed, closeByCred_fixed]

theorem execVaultCred_fixed a0 (a1 : State) : Keeps (execVaultCred a0 a1) a1 := by
  unfold execVaultCred; apply keeps_next
  simp

@[simp] theorem stageDone_fixed a0 (a1 : State) : (stageDone a0 a1).fixed = a1.fixed := by
  unfold stageDone
  simp

@[simp] theorem haltStage_fixed a0 a1 (a2 : State) : (haltStage a0 a1 a2).fixed = a2.fixed := by
  unfold haltStage
  simp

@[simp] theorem dramStage_fixed a0 a1 a2 a3 a4 a5 (a6 : State) : (dramStage a0 a1 a2 a3 a4 a5 a6).fixed = a6.fixed := by
  unfold dramStage
  (repeat' split) <;> simp

@[simp] theorem newKeys_fixed a0 (a1 : State) : (newKeys a0 a1).fixed = a1.fixed := by
  unfold newKeys
  simp

@[simp] theorem loadKeys_fixed (a0 : State) : (loadKeys a0).fixed = a0.fixed := by
  unfold loadKeys
  simp

@[simp] theorem dropSecrets_fixed (a0 : State) : (dropSecrets a0).fixed = a0.fixed := by
  unfold dropSecrets
  simp

@[simp] theorem clearSpaces_fixed a0 (a1 : State) : (clearSpaces a0 a1).fixed = a1.fixed := by
  unfold clearSpaces
  simp

@[simp] theorem formatStore_fixed a0 (a1 : State) : (formatStore a0 a1).fixed = a1.fixed := by
  unfold formatStore
  (repeat' split) <;> grind [foldl_fixed, fixed_mk0, fixed_mk1, fixed_mk2, dropSecrets_fixed, loadKeys_fixed, newKeys_fixed, State.setReg_fixed, raise_fixed]

@[simp] theorem loadField_fixed (a0 : State) a1 : (loadField a0 a1).fixed = a0.fixed := by
  unfold loadField
  simp

@[simp] theorem loadVault_fixed (a0 : State) : (loadVault a0).fixed = a0.fixed := by
  unfold loadVault
  simp

@[simp] theorem finishLoad_fixed (a0 : State) : (finishLoad a0).fixed = a0.fixed := by
  unfold finishLoad
  simp

@[simp] theorem nandStage_fixed a0 a1 a2 (a3 : State) : (nandStage a0 a1 a2 a3).fixed = a3.fixed := by
  unfold nandStage
  (repeat' split) <;> simp

@[simp] theorem checkpointStage_fixed (a0 : State) : (checkpointStage a0).fixed = a0.fixed := by
  unfold checkpointStage
  simp

@[simp] theorem policyStage_fixed (a0 : State) : (policyStage a0).fixed = a0.fixed := by
  unfold policyStage
  (repeat' split) <;> simp

@[simp] theorem enterMorning_fixed a0 (a1 : State) : (enterMorning a0 a1).fixed = a1.fixed := by
  have k : ∀ y : State, (confirmStart (enterService .M4 { y with day := { y.day with target := .M4 } })).fixed = y.fixed :=
    fun y => (confirmStart_fixed _).trans (enterService_fixed _ _)
  have q : ∀ (y : State) v w, ((stageDone 0 y).setReg .FLASH_SUNRISE_MS v w).fixed = y.fixed :=
    fun y v w => (State.setReg_fixed _ _ _ _).trans (stageDone_fixed _ _)
  have r : ∀ (y : State) v w, (({ y with mem := { y.mem with plpOk := true } } : State).setReg .FLASH_PLP_MIB v w).fixed = y.fixed :=
    fun y v w => State.setReg_fixed _ _ _ _
  have n : ∀ (y : State) kv v w, (raise 0x248 kv
      (({ y with mem := { y.mem with plpOk := false } } : State).setReg .FLASH_PLP_MIB v w)).fixed = y.fixed :=
    fun y kv v w => (raise_fixed _ _ _).trans (State.setReg_fixed _ _ _ _)
  unfold enterMorning
  cases a0
  · exact (k _).trans ((q _ _ _).trans (r _ _ _))
  · exact (k _).trans ((q _ _ _).trans ((n _ _ _ _).trans (r _ _ _)))

@[simp] theorem collStage_fixed a0 a1 (a2 : State) : (collStage a0 a1 a2).fixed = a2.fixed := by
  unfold collStage
  simp

theorem execSunriseStageComplete_fixed a0 (a1 : State) : Keeps (execSunriseStageComplete a0 a1) a1 := by
  unfold execSunriseStageComplete; apply keeps_next
  (repeat' split) <;> simp

theorem execSunriseHaltRetry_fixed (a0 : State) : Keeps (execSunriseHaltRetry a0) a0 := by
  unfold execSunriseHaltRetry; apply keeps_next
  simp

@[simp] theorem judgeAsk_fixed a0 (a1 : State) : (judgeAsk a0 a1).1.fixed = a1.fixed := by
  unfold judgeAsk
  (repeat' split) <;> grind [foldl_fixed, fixed_mk0, fixed_mk1, fixed_mk2, busyEstimate_fixed, raiseCount_fixed, structureRefusal_fixed]

@[simp] theorem enqueue_fixed a0 a1 (a2 : State) : (enqueue a0 a1 a2).fixed = a2.fixed := by
  unfold enqueue
  simp

@[simp] theorem askQuery_fixed a0 (a1 : State) : (askQuery a0 a1).1.fixed = a1.fixed := by
  unfold askQuery
  (repeat' split) <;> grind [foldl_fixed, fixed_mk0, fixed_mk1, fixed_mk2, judgeAsk_fixed, enqueue_fixed]

@[simp] theorem failQuery_fixed a0 a1 (a2 : State) : (failQuery a0 a1 a2).fixed = a2.fixed := by
  unfold failQuery
  (repeat' split) <;> simp

@[simp] theorem countDegraded_fixed a0 (a1 : State) : (countDegraded a0 a1).fixed = a1.fixed := by
  unfold countDegraded
  simp

@[simp] theorem answerQuery_fixed a0 a1 a2 (a3 : State) : (answerQuery a0 a1 a2 a3).fixed = a3.fixed := by
  unfold answerQuery
  (repeat' split) <;> simp

@[simp] theorem readable_fixed a0 a1 (a2 : State) : (readable a0 a1 a2).1.fixed = a2.fixed := by
  unfold readable
  (repeat' split) <;> grind [foldl_fixed, fixed_mk0, fixed_mk1, fixed_mk2, classify_fixed]

@[simp] theorem cacheFetch_fixed a0 a1 (a2 : State) : (cacheFetch a0 a1 a2).1.fixed = a2.fixed := by
  unfold cacheFetch
  dsimp only; (repeat' split) <;> simp_all

@[simp] theorem mediaEvent_fixed (a0 : State) : (mediaEvent a0).fixed = a0.fixed := by
  unfold mediaEvent
  simp

@[simp] theorem takeForming_fixed a0 (a1 : State) : (takeForming a0 a1).fixed = a1.fixed := by
  unfold takeForming
  simp

@[simp] theorem failBatch_fixed a0 (a1 : State) : (failBatch a0 a1).fixed = a1.fixed := by
  unfold failBatch
  (repeat' split) <;> grind [foldl_fixed, fixed_mk0, fixed_mk1, fixed_mk2, failQuery_fixed, busyEstimate_fixed]

@[simp] theorem beginBatch_fixed a0 a1 (a2 : State) : (beginBatch a0 a1 a2).fixed = a2.fixed := by
  unfold beginBatch
  simp

@[simp] theorem startBatch_fixed a0 (a1 : State) : (startBatch a0 a1).fixed = a1.fixed := by
  induction a0 generalizing a1 with
  | zero => rfl
  | succ n ih =>
    unfold startBatch
    split
    · rfl
    · dsimp only
      split
      · simp only [beginBatch_fixed, takeForming_fixed]
      · simp only [ih, failBatch_fixed, takeForming_fixed]

@[simp] theorem beginExact_fixed a0 a1 (a2 : State) : (beginExact a0 a1 a2).fixed = a2.fixed := by
  unfold beginExact
  simp

@[simp] theorem startExact_fixed a0 (a1 : State) : (startExact a0 a1).fixed = a1.fixed := by
  induction a0 generalizing a1 with
  | zero => rfl
  | succ n ih =>
    unfold startExact
    split
    · rfl
    · split
      · rfl
      · dsimp only
        split
        · simp only [beginExact_fixed, takeForming_fixed]
        · simp only [ih, failBatch_fixed, takeForming_fixed]

@[simp] theorem nextExact_fixed (a0 : State) : (nextExact a0).fixed = a0.fixed := by
  unfold nextExact
  simp

theorem execBatchReady_fixed a0 a1 (a2 : State) : Keeps (execBatchReady a0 a1 a2) a2 := by
  unfold execBatchReady; apply keeps_next
  simp

@[simp] theorem boundary_fixed (a0 : State) : (boundary a0).fixed = a0.fixed := by
  unfold boundary
  dsimp only; (repeat' split) <;> simp_all

theorem execBatchBoundary_fixed (a0 : State) : Keeps (execBatchBoundary a0) a0 := by
  unfold execBatchBoundary; apply keeps_next
  simp

theorem execIdleBoundary_fixed (a0 : State) : Keeps (execIdleBoundary a0) a0 := by
  unfold execIdleBoundary; apply keeps_next
  simp

@[simp] theorem toRerank_fixed a0 a1 a2 (a3 : State) : (toRerank a0 a1 a2 a3).fixed = a3.fixed := by
  unfold toRerank
  simp

@[simp] theorem meetErrors_fixed a0 (a1 : State) : (meetErrors a0 a1).fixed = a1.fixed := by
  unfold meetErrors
  simp

theorem execSweepPassEnd_fixed (a0 : State) : Keeps (execSweepPassEnd a0) a0 := by
  unfold execSweepPassEnd; apply keeps_next
  dsimp only; (repeat' split) <;> simp_all

@[simp] theorem judgeRecord_fixed a0 a1 a2 a3 a4 (a5 : State) : (judgeRecord a0 a1 a2 a3 a4 a5).1.fixed = a5.fixed := by
  unfold judgeRecord
  (repeat' split) <;> grind [foldl_fixed, fixed_mk0, fixed_mk1, fixed_mk2, readable_fixed, busyEstimate_fixed, State.incReg_fixed]

@[simp] theorem dropDeleted_fixed a0 (a1 : State) : (dropDeleted a0 a1).fixed = a1.fixed := by
  unfold dropDeleted
  simp

@[simp] theorem fetchCandidate_fixed a0 a1 (a2 : State) : (fetchCandidate a0 a1 a2).fixed = a2.fixed := by
  unfold fetchCandidate
  (repeat' split) <;> grind [foldl_fixed, fixed_mk0, fixed_mk1, fixed_mk2, dropDeleted_fixed, cacheFetch_fixed, failQuery_fixed, mediaEvent_fixed, State.setRerank_fixed, judgeRecord_fixed]

theorem execRerankFetchComplete_fixed a0 (a1 : State) : Keeps (execRerankFetchComplete a0 a1) a1 := by
  unfold execRerankFetchComplete; intro t e; (repeat' split at e) <;> grind [foldl_fixed, fixed_mk0, fixed_mk1, fixed_mk2, fetchCandidate_fixed, freeCtx_fixed, keeps_next, Keeps]

theorem execQueryComplete_fixed a0 (a1 : State) : Keeps (execQueryComplete a0 a1) a1 := by
  unfold execQueryComplete; apply keeps_next
  (repeat' split) <;> simp

@[simp] theorem exactSlot_fixed a0 a1 a2 (a3 : State) : (exactSlot a0 a1 a2 a3).1.fixed = a3.fixed := by
  unfold exactSlot
  refine foldl_fst_fixed _ (fun acc r => ?_) _ _
  have h := judgeRecord_fixed a0 true false a2 r acc.1
  split
  · rename_i e; rw [e] at h; simpa using h
  · rename_i e; rw [e] at h; exact h

@[simp] theorem exactPass_fixed a0 a1 a2 (a3 : State) : (exactPass a0 a1 a2 a3).1.fixed = a3.fixed := by
  induction a1 generalizing a2 a3 with
  | nil => rfl
  | cons x xs ih =>
    unfold exactPass
    have h := cacheFetch_fixed a0.num x.idx a3
    split
    rename_i e
    rw [e] at h
    split
    · rw [ih]; exact h
    · split
      · rw [foldl_fixed _ (fun y r => failQuery_fixed _ _ _), mediaEvent_fixed]; exact h
      · have g := exactSlot_fixed a0 a2 x ‹State›
        split
        rename_i q
        rw [q] at g
        rw [ih]
        exact g.trans h

theorem execExactBatchComplete_fixed (a0 : State) : Keeps (execExactBatchComplete a0) a0 := by
  unfold execExactBatchComplete; apply keeps_next
  dsimp only; (repeat' split) <;> simp_all

theorem execWalkCtxDrainComplete_fixed (a0 : State) : Keeps (execWalkCtxDrainComplete a0) a0 := by
  unfold execWalkCtxDrainComplete; apply keeps_next
  simp

@[simp] theorem vectorOf_fixed a0 a1 a2 (a3 : State) : (vectorOf a0 a1 a2 a3).1.fixed = a3.fixed := by
  unfold vectorOf
  (repeat' split) <;> grind [foldl_fixed, fixed_mk0, fixed_mk1, fixed_mk2, readKey_fixed]

@[simp] theorem watchFails_fixed a0 a1 (a2 : State) : (watchFails a0 a1 a2).fixed = a2.fixed := by
  unfold watchFails
  simp

@[simp] theorem runWatch_fixed a0 (a1 : State) : (runWatch a0 a1).fixed = a1.fixed := by
  unfold runWatch
  (repeat' split) <;> grind [foldl_fixed, fixed_mk0, fixed_mk1, fixed_mk2, watchFails_fixed, vectorOf_fixed, askQuery_fixed, State.setWatch_fixed]

theorem execWatchPeriod_fixed a0 (a1 : State) : Keeps (execWatchPeriod a0 a1) a1 := by
  unfold execWatchPeriod; apply keeps_next
  (repeat' split) <;> simp

@[simp] theorem judgeRun_fixed a0 a1 a2 (a3 : State) : (judgeRun a0 a1 a2 a3).fixed = a3.fixed := by
  unfold judgeRun
  simp

theorem execWatchRunComplete_fixed a0 (a1 : State) : Keeps (execWatchRunComplete a0 a1) a1 := by
  unfold execWatchRunComplete; apply keeps_next
  (repeat' split) <;> simp

@[simp] theorem doSrchNear_fixed a0 (a1 : State) : (doSrchNear a0 a1).fixed = a1.fixed := by
  unfold doSrchNear
  (repeat' split) <;> grind [foldl_fixed, fixed_mk0, fixed_mk1, fixed_mk2, onColl_fixed, reply_fixed, readTest_fixed, refuse_fixed, vectorOf_fixed, askQuery_fixed, setBusy_fixed]

theorem execSrchNear_fixed a0 (a1 : State) : Keeps (execSrchNear a0 a1) a1 := by
  unfold execSrchNear; apply keeps_next
  simp

@[simp] theorem defineWatch_fixed a0 (a1 : State) : (defineWatch a0 a1).fixed = a1.fixed := by
  unfold defineWatch
  simp

@[simp] theorem doSrchWatch_fixed a0 (a1 : State) : (doSrchWatch a0 a1).fixed = a1.fixed := by
  unfold doSrchWatch
  (repeat' split) <;> grind [foldl_fixed, fixed_mk0, fixed_mk1, fixed_mk2, onColl_fixed, reply_fixed, ns0Record_fixed, refuse_fixed, defineWatch_fixed, done_fixed]

theorem execSrchWatch_fixed a0 (a1 : State) : Keeps (execSrchWatch a0 a1) a1 := by
  unfold execSrchWatch; apply keeps_next
  simp

@[simp] theorem doSrchUnwatch_fixed a0 (a1 : State) : (doSrchUnwatch a0 a1).fixed = a1.fixed := by
  unfold doSrchUnwatch
  (repeat' split) <;> grind [foldl_fixed, fixed_mk0, fixed_mk1, fixed_mk2, gate_fixed, refuse_fixed, ns0Record_fixed, removeWatch_fixed, done_fixed]

theorem execSrchUnwatch_fixed a0 (a1 : State) : Keeps (execSrchUnwatch a0 a1) a1 := by
  unfold execSrchUnwatch; apply keeps_next
  simp

@[simp] theorem doSrchWatches_fixed a0 (a1 : State) : (doSrchWatches a0 a1).fixed = a1.fixed := by
  unfold doSrchWatches
  simp

theorem execSrchWatches_fixed a0 (a1 : State) : Keeps (execSrchWatches a0 a1) a1 := by
  unfold execSrchWatches; apply keeps_next
  simp

@[simp] theorem startRecall_fixed a0 a1 a2 a3 a4 a5 (a6 : State) : (startRecall a0 a1 a2 a3 a4 a5 a6).fixed = a6.fixed := by
  unfold startRecall
  simp

@[simp] theorem doSrchRecall_fixed a0 (a1 : State) : (doSrchRecall a0 a1).fixed = a1.fixed := by
  unfold doSrchRecall
  (repeat' split) <;> grind [foldl_fixed, fixed_mk0, fixed_mk1, fixed_mk2, onColl_fixed, reply_fixed, busyEstimate_fixed, refuse_fixed, startRecall_fixed]

theorem execSrchRecall_fixed a0 (a1 : State) : Keeps (execSrchRecall a0 a1) a1 := by
  unfold execSrchRecall; apply keeps_next
  simp

theorem execRecallJobComplete_fixed (a0 : State) : Keeps (execRecallJobComplete a0) a0 := by
  unfold execRecallJobComplete; apply keeps_next
  (repeat' split) <;> simp

@[simp] theorem doSrchResult_fixed a0 (a1 : State) : (doSrchResult a0 a1).fixed = a1.fixed := by
  unfold doSrchResult
  (repeat' split) <;> grind [foldl_fixed, fixed_mk0, fixed_mk1, fixed_mk2, gate_fixed, refuse_fixed, done_fixed]

theorem execSrchResult_fixed a0 (a1 : State) : Keeps (execSrchResult a0 a1) a1 := by
  unfold execSrchResult; apply keeps_next
  simp

@[simp] theorem doDkpSearch_fixed a0 (a1 : State) : (doDkpSearch a0 a1).fixed = a1.fixed := by
  unfold doDkpSearch
  (repeat' split) <;> grind [foldl_fixed, fixed_mk0, fixed_mk1, fixed_mk2, askQuery_fixed, dkpRefuse_fixed, dkpRun_fixed]

theorem execDkpSearch_fixed a0 (a1 : State) : Keeps (execDkpSearch a0 a1) a1 := by
  unfold execDkpSearch; apply keeps_next
  simp

end Sys2Proof.Machine
end

