-- ==== Sys2Proof/Laws/FixedG.lean ====
section
/-! SUPPORT. The functions of RegCore, Regs, Jobs, Monitors, Verbs, Segments and Record leave the queue of waiting commands and the fused identity
of the unit (R2) as they are: one lemma per function that answers a state or an outcome. -/

namespace Sys2Proof.Machine

@[simp] theorem setLatchedHi_fixed a0 a1 a2 (a3 : State) : (setLatchedHi a0 a1 a2 a3).fixed = a3.fixed := by
  unfold setLatchedHi
  simp

@[simp] theorem readWord_fixed a0 a1 a2 (a3 : State) : (readWord a0 a1 a2 a3).1.fixed = a3.fixed := by
  unfold readWord
  dsimp only; (repeat' split) <;> simp_all

@[simp] theorem readAddr_fixed a0 a1 (a2 : State) : (readAddr a0 a1 a2).1.fixed = a2.fixed := by
  unfold readAddr
  refine foldl_fst_fixed _ (fun acc r => ?_) _ _
  exact readWord_fixed _ _ _ _

@[simp] theorem lowRefused_fixed a0 a1 (a2 : State) : (lowRefused a0 a1 a2).fixed = a2.fixed := by
  unfold lowRefused
  simp

@[simp] theorem readDone_fixed a0 a1 a2 (a3 : State) : (readDone a0 a1 a2 a3).fixed = a3.fixed := by
  unfold readDone
  simp

@[simp] theorem readNamed_fixed a0 a1 a2 (a3 : State) : (readNamed a0 a1 a2 a3).fixed = a3.fixed := by
  unfold readNamed
  dsimp only; (repeat' split) <;> simp_all

@[simp] theorem doRegRead_fixed a0 (a1 : State) : (doRegRead a0 a1).fixed = a1.fixed := by
  unfold doRegRead
  dsimp only; (repeat' split) <;> simp_all

theorem execRegRead_fixed a0 (a1 : State) : Keeps (execRegRead a0 a1) a1 := by
  unfold execRegRead; apply keeps_next
  simp

@[simp] theorem readSpan_fixed a0 a1 (a2 : State) : (readSpan a0 a1 a2).1.fixed = a2.fixed := by
  induction a1 generalizing a2 with
  | nil => rfl
  | cons x xs ih =>
    unfold readSpan
    exact (ih _).trans (readAddr_fixed _ _ _)

@[simp] theorem doRegDump_fixed a0 (a1 : State) : (doRegDump a0 a1).fixed = a1.fixed := by
  unfold doRegDump
  (repeat' split) <;> grind [foldl_fixed, fixed_mk0, fixed_mk1, fixed_mk2, gateWith_fixed, lowRefused_fixed, reply_fixed, denied_fixed, readSpan_fixed, done_fixed, more_fixed]

theorem execRegDump_fixed a0 (a1 : State) : Keeps (execRegDump a0 a1) a1 := by
  unfold execRegDump; apply keeps_next
  simp

theorem applyActing_fixed (by_ : Nat) (f : Field) (v : Nat) (s : State) :
    ∀ t, applyActing by_ f v s = some t → t.fixed = s.fixed := by
  unfold applyActing
  extract_lets old set
  have hs : set.fixed = s.fixed := State.setReg_fixed _ _ _ _
  have hc : ∀ c, ({ set with clk := c } : State).fixed = s.fixed := fun _ => hs
  refine someFixed rfl ?_
  refine someFixed (taiSetNow_fixed _ _) ?_
  refine someFixed (taiInvalidateNow_fixed _ _) ?_
  refine someFixed ?_ ?_
  · split
    · exact (dropMaster_fixed _).trans hs
    · exact hs
  refine someFixed ?_ ?_
  · split
    · exact hs
    · exact (dropMaster_fixed _).trans hs
  refine someFixed hs ?_
  refine someFixed ((noteBelowWake_fixed _).trans hs) ?_
  refine someFixed ((recomputeLimit_fixed _).trans hs) ?_
  refine someFixed ((dirtyMaxMoved_fixed _).trans hs) ?_
  refine someFixed ((flipPolicy_fixed _ _ _).trans hs) ?_
  refine someFixed ((foldl_fixed _ (fun s b => dropBank_fixed _ _) _ _).trans (State.setReg_fixed _ _ _ _)) ?_
  refine someFixed ((foldl_fixed _ (fun s b => dropBank_fixed _ _) _ _).trans hs) ?_
  refine someFixed ?_ ?_
  · split
    · exact hs
    · exact (raise_fixed _ _ _).trans hs
  refine someFixed (setMasks_fixed _ _ _) ?_
  refine someFixed ?_ ?_
  · cases s.liveColl f.inst
    · rfl
    · exact setMaxChunks_fixed _ _ _
  refine someFixed hs ?_
  refine someFixed hs ?_
  exact noneFixed _

@[simp] theorem applyField_fixed a0 a1 a2 (a3 : State) : (applyField a0 a1 a2 a3).fixed = a3.fixed := by
  unfold applyField
  extract_lets set
  have hs : set.fixed = a3.fixed := State.setReg_fixed _ _ _ _
  split
  · rename_i e; exact applyActing_fixed _ _ _ _ _ e
  · split
    · exact hs
    · split
      · rfl
      · exact hs

@[simp] theorem applyAll_fixed a0 a1 (a2 : State) : (applyAll a0 a1 a2).fixed = a2.fixed := by
  unfold applyAll
  simp

@[simp] theorem keepSet_fixed a0 (a1 : State) : (keepSet a0 a1).1.fixed = a1.fixed := by
  unfold keepSet
  (repeat' split) <;> grind [foldl_fixed, fixed_mk0, fixed_mk1, fixed_mk2, ns0Write_fixed, ns0Record_fixed]

@[simp] theorem stageWrites_fixed a0 a1 (a2 : State) : (stageWrites a0 a1 a2).fixed = a2.fixed := by
  unfold stageWrites
  simp

@[simp] theorem writeNow_fixed a0 a1 a2 a3 (a4 : State) : (writeNow a0 a1 a2 a3 a4).fixed = a4.fixed := by
  unfold writeNow
  (repeat' split) <;> grind [foldl_fixed, fixed_mk0, fixed_mk1, fixed_mk2, reply_fixed, keepSet_fixed, applyAll_fixed, clearEvents_fixed, done_fixed]

@[simp] theorem writeMirrored_fixed a0 a1 a2 a3 (a4 : State) : (writeMirrored a0 a1 a2 a3 a4).fixed = a4.fixed := by
  unfold writeMirrored
  simp

@[simp] theorem writeFields_fixed a0 a1 a2 a3 (a4 : State) : (writeFields a0 a1 a2 a3 a4).fixed = a4.fixed := by
  unfold writeFields
  (repeat' split) <;> simp

@[simp] theorem doRegWrite_fixed a0 (a1 : State) : (doRegWrite a0 a1).fixed = a1.fixed := by
  unfold doRegWrite
  dsimp only; (repeat' split) <;> simp_all

theorem execRegWrite_fixed a0 (a1 : State) : Keeps (execRegWrite a0 a1) a1 := by
  unfold execRegWrite; apply keeps_next
  simp

@[simp] theorem doCfgShow_fixed a0 (a1 : State) : (doCfgShow a0 a1).fixed = a1.fixed := by
  unfold doCfgShow
  simp

theorem execCfgShow_fixed a0 (a1 : State) : Keeps (execCfgShow a0 a1) a1 := by
  unfold execCfgShow; apply keeps_next
  simp

@[simp] theorem doCfgDiscard_fixed a0 (a1 : State) : (doCfgDiscard a0 a1).fixed = a1.fixed := by
  unfold doCfgDiscard
  simp

theorem execCfgDiscard_fixed a0 (a1 : State) : Keeps (execCfgDiscard a0 a1) a1 := by
  unfold execCfgDiscard; apply keeps_next
  simp

@[simp] theorem emptyStaged_fixed a0 (a1 : State) : (emptyStaged a0 a1).fixed = a1.fixed := by
  unfold emptyStaged
  simp

@[simp] theorem addCommit_fixed a0 a1 a2 (a3 : State) : (addCommit a0 a1 a2 a3).fixed = a3.fixed := by
  unfold addCommit
  simp

@[simp] theorem commitDusk_fixed a0 a1 (a2 : State) : (commitDusk a0 a1 a2).fixed = a2.fixed := by
  unfold commitDusk
  (repeat' split) <;> grind [foldl_fixed, fixed_mk0, fixed_mk1, fixed_mk2, ns0Record_fixed, reply_fixed, queueJob_fixed, emptyStaged_fixed]

@[simp] theorem doCfgCommit_fixed a0 (a1 : State) : (doCfgCommit a0 a1).fixed = a1.fixed := by
  unfold doCfgCommit
  (repeat' split) <;> grind [foldl_fixed, fixed_mk0, fixed_mk1, fixed_mk2, gate_fixed, reply_fixed, commitDusk_fixed, addCommit_fixed, emptyStaged_fixed, setBusy_fixed]

theorem execCfgCommit_fixed a0 (a1 : State) : Keeps (execCfgCommit a0 a1) a1 := by
  unfold execCfgCommit; apply keeps_next
  simp

@[simp] theorem applySet_fixed a0 a1 (a2 : State) : (applySet a0 a1 a2).1.fixed = a2.fixed := by
  unfold applySet
  (repeat' split) <;> grind [foldl_fixed, fixed_mk0, fixed_mk1, fixed_mk2, keepSet_fixed, State.incReg_fixed, applyAll_fixed]

@[simp] theorem commitNow_fixed (a0 : State) a1 : (commitNow a0 a1).fixed = a0.fixed := by
  unfold commitNow
  (repeat' split) <;> grind [foldl_fixed, fixed_mk0, fixed_mk1, fixed_mk2, applySet_fixed, State.updRoute_fixed, lateReply_fixed]

theorem execEpochBoundaryApply_fixed (a0 : State) : Keeps (execEpochBoundaryApply a0) a0 := by
  unfold execEpochBoundaryApply; apply keeps_next
  simp

theorem execDrainCommitApply_fixed (a0 : State) : Keeps (execDrainCommitApply a0) a0 := by
  unfold execDrainCommitApply; apply keeps_next
  (repeat' split) <;> grind [foldl_fixed, fixed_mk0, fixed_mk1, fixed_mk2, applySet_fixed, raise_fixed]

@[simp] theorem doGovShow_fixed a0 (a1 : State) : (doGovShow a0 a1).fixed = a1.fixed := by
  unfold doGovShow
  simp

theorem execGovShow_fixed a0 (a1 : State) : Keeps (execGovShow a0 a1) a1 := by
  unfold execGovShow; apply keeps_next
  simp

@[simp] theorem doGovPin_fixed a0 (a1 : State) : (doGovPin a0 a1).fixed = a1.fixed := by
  unfold doGovPin
  dsimp only; (repeat' split) <;> simp_all

theorem execGovPin_fixed a0 (a1 : State) : Keeps (execGovPin a0 a1) a1 := by
  unfold execGovPin; apply keeps_next
  simp

@[simp] theorem debugWrite_fixed a0 a1 (a2 : State) : (debugWrite a0 a1 a2).fixed = a2.fixed := by
  unfold debugWrite
  (repeat' split) <;> simp

theorem execDebugPortAccess_fixed a0 a1 (a2 : State) : Keeps (execDebugPortAccess a0 a1 a2) a2 := by
  unfold execDebugPortAccess; apply keeps_next
  dsimp only; (repeat' split) <;> simp_all

@[simp] theorem updJob_fixed a0 (a1 : Job → Job) (a2 : State) : (updJob a0 a1 a2).fixed = a2.fixed := by
  unfold updJob
  simp

@[simp] theorem jobFails_fixed a0 a1 (a2 : State) : (jobFails a0 a1 a2).fixed = a2.fixed := by
  unfold jobFails
  simp

@[simp] theorem pendRecords_fixed a0 (a1 : State) : (pendRecords a0 a1).1.fixed = a1.fixed := by
  unfold pendRecords
  dsimp only; (repeat' split) <;> simp_all

@[simp] theorem startRebuild_fixed (a0 : State) a1 : (startRebuild a0 a1).fixed = a0.fixed := by
  unfold startRebuild
  simp

@[simp] theorem startJob_fixed a0 (a1 : State) : (startJob a0 a1).fixed = a1.fixed := by
  unfold startJob
  (repeat' split) <;> grind [foldl_fixed, fixed_mk0, fixed_mk1, fixed_mk2, jobFails_fixed, pendRecords_fixed, updJob_fixed, startRebuild_fixed]

theorem execDuskJobStart_fixed (a0 : State) : Keeps (execDuskJobStart a0) a0 := by
  unfold execDuskJobStart; apply keeps_next
  (repeat' split) <;> simp

theorem execDuskJobStopped_fixed (a0 : State) : Keeps (execDuskJobStopped a0) a0 := by
  unfold execDuskJobStopped; apply keeps_next
  (repeat' split) <;> simp

@[simp] theorem workDone_fixed a0 a1 (a2 : State) : (workDone a0 a1 a2).fixed = a2.fixed := by
  unfold workDone
  simp

@[simp] theorem repartition_fixed (a0 : State) : (repartition a0).fixed = a0.fixed := by
  unfold repartition
  simp

@[simp] theorem relayStore_fixed (a0 : State) : (relayStore a0).fixed = a0.fixed := by
  have h : ∀ (m : Mem) g, (({ a0 with mem := m } : State).setReg .FLASH_USER_GIB g).fixed = a0.fixed :=
    fun m g => State.setReg_fixed _ _ _ _
  exact h _ _

theorem execRepartitionJob_fixed a0 (a1 : State) : Keeps (execRepartitionJob a0 a1) a1 := by
  unfold execRepartitionJob; apply keeps_next
  (repeat' split) <;> simp

theorem execFormatJob_fixed a0 (a1 : State) : Keeps (execFormatJob a0 a1) a1 := by
  unfold execFormatJob; apply keeps_next
  (repeat' split) <;> simp

theorem execRebuildJob_fixed a0 (a1 : State) : Keeps (execRebuildJob a0 a1) a1 := by
  unfold execRebuildJob; apply keeps_next
  (repeat' split) <;> simp

@[simp] theorem applyDusk_fixed a0 (a1 : State) : (applyDusk a0 a1).fixed = a1.fixed := by
  unfold applyDusk
  simp

theorem execDuskCommitJob_fixed a0 (a1 : State) : Keeps (execDuskCommitJob a0 a1) a1 := by
  unfold execDuskCommitJob; apply keeps_next
  (repeat' split) <;> simp

theorem execRefclkLoss_fixed (a0 : State) : Keeps (execRefclkLoss a0) a0 := by
  unfold execRefclkLoss; apply keeps_next
  simp

theorem execRefclkReturn_fixed (a0 : State) : Keeps (execRefclkReturn a0) a0 := by
  unfold execRefclkReturn; apply keeps_next
  simp

@[simp] theorem reportReadings_fixed a0 (a1 : State) : (reportReadings a0 a1).fixed = a1.fixed := by
  unfold reportReadings
  simp

@[simp] theorem takeReadings_fixed a0 (a1 : State) : (takeReadings a0 a1).fixed = a1.fixed := by
  unfold takeReadings
  simp

@[simp] theorem thermalTrip_fixed (a0 : State) : (thermalTrip a0).fixed = a0.fixed := by
  unfold thermalTrip
  simp

@[simp] theorem judgeWindow_fixed (a0 : State) : (judgeWindow a0).fixed = a0.fixed := by
  unfold judgeWindow
  simp

theorem execTemperatureReading_fixed a0 (a1 : State) : Keeps (execTemperatureReading a0 a1) a1 := by
  unfold execTemperatureReading; apply keeps_next
  simp

theorem execSensorDisagreement_fixed (a0 : State) : Keeps (execSensorDisagreement a0) a0 := by
  unfold execSensorDisagreement; apply keeps_next
  simp

theorem execPowerMeasurementUpdate_fixed a0 a1 (a2 : State) : Keeps (execPowerMeasurementUpdate a0 a1 a2) a2 := by
  unfold execPowerMeasurementUpdate; apply keeps_next
  simp

theorem verbsA_fixed : ∀ x ∈ verbsA, ∀ l s, (x.2 l s).fixed = s.fixed := by
  simp only [verbsA, List.forall_mem_cons]
  exact ⟨doIslSync_fixed, doIslShow_fixed, doIslSet_fixed, doModeSet_fixed, doModeShow_fixed, doAddrChain_fixed,
    doAddrSet_fixed, doRingProbe_fixed, doLineRate_fixed, doLineSetpin_fixed, doLineNotices_fixed,
    doLineShow_fixed, doLoginPin_fixed, doLoginChallenge_fixed, doLoginOwner_fixed, doLoginVendor_fixed,
    doLoginOut_fixed, doSysStatus_fixed, doSysReset_fixed, doSysDiag_fixed, doFeShow_fixed, doFeSet_fixed,
    doHartShow_fixed, doHartSet_fixed, nofun⟩

theorem verbsB_fixed : ∀ x ∈ verbsB, ∀ l s, (x.2 l s).fixed = s.fixed := by
  simp only [verbsB, List.forall_mem_cons]
  exact ⟨doCalZero_fixed, doCalSpan_fixed, doCalPhase_fixed, doCalLoop_fixed, doCalTpoint_fixed, doCalTcommit_fixed,
    doCalSave_fixed, doCalRestore_fixed, doCalClear_fixed, doCalShow_fixed, doRecInfo_fixed, doRecOpen_fixed,
    doRecData_fixed, doRecCommit_fixed, doRecAbort_fixed, doRecBoot_fixed, doBootShow_fixed, doBootOpen_fixed,
    doBootData_fixed, doBootFromkv_fixed, doBootCommit_fixed, doBootActivate_fixed, doBootAbort_fixed,
    doLcShow_fixed, doLcChallenge_fixed, doLcAuth_fixed, doLcAdvance_fixed, doLcRecommission_fixed,
    doLcDebugkey_fixed, doLcSigner_fixed, doLcRevoke_fixed, nofun⟩

theorem verbsC_fixed : ∀ x ∈ verbsC, ∀ l s, (x.2 l s).fixed = s.fixed := by
  simp only [verbsC, List.forall_mem_cons]
  exact ⟨doVaultShow_fixed, doVaultSetowner_fixed, doVaultGenid_fixed, doVaultPsk_fixed, doVaultCa_fixed,
    doVaultCert_fixed, doVaultCsr_fixed, doVaultCred_fixed, doAlmShow_fixed, doAlmClear_fixed, doKvGet_fixed,
    doKvScan_fixed, doKvStat_fixed, doKvPut_fixed, doKvCas_fixed, doKvDel_fixed, doKvSync_fixed, doKvNs_fixed,
    doCollCreate_fixed, doCollDrop_fixed, doCollSet_fixed, doCollShow_fixed, doCollList_fixed, doMaintMerge_fixed,
    doMaintReload_fixed, doMaintRebuild_fixed, doMaintJobs_fixed, nofun⟩

theorem verbsD_fixed : ∀ x ∈ verbsD, ∀ l s, (x.2 l s).fixed = s.fixed := by
  simp only [verbsD, List.forall_mem_cons]
  exact ⟨doSrchNear_fixed, doSrchWatch_fixed, doSrchUnwatch_fixed, doSrchWatches_fixed, doSrchRecall_fixed,
    doSrchResult_fixed, doAssocSearch_fixed, doAssocStep_fixed, doAssocClose_fixed, doAssocWrite_fixed,
    doAssocRead_fixed, doAssocShow_fixed, doCascShow_fixed, doEvtShow_fixed, doEvtList_fixed, doEvtSet_fixed,
    doEvtClear_fixed, doEvtGpio_fixed, doEvtLog_fixed, doEvtInject_fixed, doRegRead_fixed, doRegDump_fixed,
    doRegWrite_fixed, doCfgShow_fixed, doCfgCommit_fixed, doCfgDiscard_fixed, nofun⟩

theorem verbsE_fixed : ∀ x ∈ verbsE, ∀ l s, (x.2 l s).fixed = s.fixed := by
  simp only [verbsE, List.forall_mem_cons]
  exact ⟨doGovShow_fixed, doGovPin_fixed, nofun⟩

theorem verbNamed_fixed (v : Text) (run : Line → State → State) (h : verbNamed v = some run) (l : Line) (s : State) :
    (run l s).fixed = s.fixed := by
  unfold verbNamed at h
  rw [Option.map_eq_some_iff] at h
  obtain ⟨x, hx, rfl⟩ := h
  have hm := List.mem_of_find?_eq_some hx
  simp only [verbs, List.mem_append] at hm
  rcases hm with (((hm | hm) | hm) | hm) | hm
  · exact verbsA_fixed x hm l s
  · exact verbsB_fixed x hm l s
  · exact verbsC_fixed x hm l s
  · exact verbsD_fixed x hm l s
  · exact verbsE_fixed x hm l s

@[simp] theorem noteConsumed_fixed a0 a1 (a2 : State) : (noteConsumed a0 a1 a2).fixed = a2.fixed := by
  unfold noteConsumed
  simp

@[simp] theorem noteChecksum_fixed a0 a1 (a2 : State) : (noteChecksum a0 a1 a2).fixed = a2.fixed := by
  unfold noteChecksum
  simp

@[simp] theorem consumeLine_fixed a0 a1 (a2 : State) : (consumeLine a0 a1 a2).fixed = a2.fixed := by
  unfold consumeLine
  split
  · exact (reply_fixed _ _ _ _).trans (noteConsumed_fixed _ _ _)
  · split
    · exact (noteChecksum_fixed _ _ _).trans ((reply_fixed _ _ _ _).trans (noteConsumed_fixed _ _ _))
    · split
      · exact (reply_fixed _ _ _ _).trans (noteConsumed_fixed _ _ _)
      · rename_i e
        exact verbNamed_fixed _ _ e _ _

@[simp] theorem takeTls_fixed a0 (a1 : State → State) (a2 : State) (ha1 : ∀ x0, (a1 x0).fixed = x0.fixed) :
    (takeTls a0 a1 a2).fixed = a2.fixed := by
  unfold takeTls
  dsimp only; (repeat' split) <;> simp [ha1]

@[simp] theorem tlsKeyed_fixed a0 a1 (a2 : State) : (tlsKeyed a0 a1 a2).fixed = a2.fixed := by
  unfold tlsKeyed
  (repeat' split) <;> simp

theorem execIbianLineReceived_fixed a0 (a1 : State) : Keeps (execIbianLineReceived a0 a1) a1 := by
  unfold execIbianLineReceived; apply keeps_next
  (repeat' split) <;> simp

@[simp] theorem doDkpAdmin_fixed a0 (a1 : State) : (doDkpAdmin a0 a1).fixed = a1.fixed := by
  unfold doDkpAdmin
  (repeat' split) <;> grind [foldl_fixed, fixed_mk0, fixed_mk1, fixed_mk2, dkpRun_fixed, respond_fixed, consumeLine_fixed, State.updRoute_fixed]

theorem execDkpAdmin_fixed a0 (a1 : State) : Keeps (execDkpAdmin a0 a1) a1 := by
  unfold execDkpAdmin; apply keeps_next
  simp

@[simp] theorem badSegment_fixed (a0 : State) : (badSegment a0).fixed = a0.fixed := by
  unfold badSegment
  simp

@[simp] theorem refuseSegment_fixed a0 a1 a2 a3 (a4 : State) : (refuseSegment a0 a1 a2 a3 a4).fixed = a4.fixed := by
  unfold refuseSegment
  simp

@[simp] theorem busySegment_fixed a0 a1 a2 (a3 : State) : (busySegment a0 a1 a2 a3).fixed = a3.fixed := by
  unfold busySegment
  simp

@[simp] theorem resendFrom_fixed a0 a1 a2 a3 (a4 : State) : (resendFrom a0 a1 a2 a3 a4).fixed = a4.fixed := by
  unfold resendFrom
  simp

@[simp] theorem runOp_fixed a0 a1 (a2 : State) : (runOp a0 a1 a2).fixed = a2.fixed := by
  unfold runOp
  (repeat' split) <;> simp

@[simp] theorem replay_fixed a0 a1 a2 (a3 : State) : (replay a0 a1 a2 a3).fixed = a3.fixed := by
  unfold replay
  dsimp only; (repeat' split) <;> simp_all

@[simp] theorem failAsm_fixed a0 a1 (a2 : State) : (failAsm a0 a1 a2).fixed = a2.fixed := by
  unfold failAsm
  simp

@[simp] theorem takeSegment_fixed a0 a1 a2 a3 (a4 : State) : (takeSegment a0 a1 a2 a3 a4).fixed = a4.fixed := by
  unfold takeSegment
  simp

@[simp] theorem enterRequest_fixed a0 a1 a2 (a3 : State) : (enterRequest a0 a1 a2 a3).fixed = a3.fixed := by
  unfold enterRequest
  simp

@[simp] theorem judge_fixed a0 a1 (a2 : State) : (judge a0 a1 a2).fixed = a2.fixed := by
  unfold judge
  dsimp only; (repeat' split) <;> simp_all

@[simp] theorem abandonTx_fixed a0 a1 (a2 : State) : (abandonTx a0 a1 a2).fixed = a2.fixed := by
  unfold abandonTx
  simp

@[simp] theorem takeAck_fixed a0 a1 (a2 : State) : (takeAck a0 a1 a2).fixed = a2.fixed := by
  unfold takeAck
  dsimp only; (repeat' split) <;> simp_all

@[simp] theorem segmentIn_fixed a0 a1 (a2 : State) : (segmentIn a0 a1 a2).fixed = a2.fixed := by
  unfold segmentIn
  dsimp only; (repeat' split) <;> simp_all

theorem execDkpSegmentReceived_fixed a0 a1 (a2 : State) : Keeps (execDkpSegmentReceived a0 a1 a2) a2 := by
  unfold execDkpSegmentReceived; apply keeps_next
  (repeat' split) <;> simp

theorem execDkpAckReceived_fixed a0 a1 (a2 : State) : Keeps (execDkpAckReceived a0 a1 a2) a2 := by
  unfold execDkpAckReceived; apply keeps_next
  (repeat' split) <;> simp

theorem execDkpResendTimeout_fixed a0 a1 (a2 : State) : Keeps (execDkpResendTimeout a0 a1 a2) a2 := by
  unfold execDkpResendTimeout; apply keeps_next
  (repeat' split) <;> simp

theorem execDkpReassemblyTimeout_fixed a0 a1 (a2 : State) : Keeps (execDkpReassemblyTimeout a0 a1 a2) a2 := by
  unfold execDkpReassemblyTimeout; apply keeps_next
  (repeat' split) <;> simp

@[simp] theorem ackSample_fixed a0 (a1 : State) : (ackSample a0 a1).fixed = a1.fixed := by
  unfold ackSample
  simp

@[simp] theorem storeSample_fixed a0 a1 a2 (a3 : State) : (storeSample a0 a1 a2 a3).1.fixed = a3.fixed := by
  unfold storeSample
  (repeat' split) <;> grind [foldl_fixed, fixed_mk0, fixed_mk1, fixed_mk2, kvWrite_fixed, ackSample_fixed, persistAll_fixed]

@[simp] theorem noteTai_fixed (a0 : State) : (noteTai a0).fixed = a0.fixed := by
  unfold noteTai
  simp

@[simp] theorem arriveSample_fixed a0 a1 a2 (a3 : State) : (arriveSample a0 a1 a2 a3).fixed = a3.fixed := by
  unfold arriveSample
  (repeat' split) <;> grind [foldl_fixed, fixed_mk0, fixed_mk1, fixed_mk2, noteTai_fixed, storeSample_fixed]

theorem execSampleStore_fixed (a0 : State) : Keeps (execSampleStore a0) a0 := by
  unfold execSampleStore; apply keeps_next
  (repeat' split) <;> simp

theorem execSampleStoreRetry_fixed (a0 : State) : Keeps (execSampleStoreRetry a0) a0 := by
  unfold execSampleStoreRetry; apply keeps_next
  (repeat' split) <;> grind [foldl_fixed, fixed_mk0, fixed_mk1, fixed_mk2, storeSample_fixed]

theorem execBackfillStart_fixed (a0 : State) : Keeps (execBackfillStart a0) a0 := by
  unfold execBackfillStart; apply keeps_next
  simp

@[simp] theorem storeFill_fixed a0 a1 a2 a3 a4 (a5 : State) : (storeFill a0 a1 a2 a3 a4 a5).1.fixed = a5.fixed := by
  induction a2 generalizing a3 a4 a5 with
  | nil => rfl
  | cons x xs ih =>
    unfold storeFill
    dsimp only
    split
    · rw [ih, ackSample_fixed]
    · have h := storeSample_fixed x (backStamp a0 x.tick) a1 a5
      split
      · rename_i e; rw [e] at h; rw [ih]; exact h
      · rename_i e; rw [e] at h; exact h

@[simp] theorem storeRest_fixed a0 a1 (a2 : State) : (storeRest a0 a1 a2).1.fixed = a2.fixed := by
  induction a1 generalizing a2 with
  | nil => rfl
  | cons x xs ih =>
    unfold storeRest
    have h := storeSample_fixed x (backStamp a0 x.tick) false a2
    split
    · rename_i e; rw [e] at h; rw [ih]; exact h
    · rename_i e; rw [e] at h; exact h

@[simp] theorem runBackfill_fixed (a0 : State) : (runBackfill a0).fixed = a0.fixed := by
  unfold runBackfill
  simp

theorem execBackfillComplete_fixed (a0 : State) : Keeps (execBackfillComplete a0) a0 := by
  unfold execBackfillComplete; apply keeps_next
  simp

end Sys2Proof.Machine
end

