-- ==== Sys2Proof/Laws/State.lean ====
section
/-! SUPPORT. One lemma per field that an update of the state leaves alone, and the updated field itself where it is plain. -/

namespace Sys2Proof.Machine

@[simp] theorem State.setReg_pwr (s : State) (p : Param) (v i : Nat) : (s.setReg p v i).pwr = s.pwr := rfl
@[simp] theorem State.setReg_clk (s : State) (p : Param) (v i : Nat) : (s.setReg p v i).clk = s.clk := rfl
@[simp] theorem State.setReg_day (s : State) (p : Param) (v i : Nat) : (s.setReg p v i).day = s.day := rfl
@[simp] theorem State.setReg_line (s : State) (p : Param) (v i : Nat) : (s.setReg p v i).line = s.line := rfl
@[simp] theorem State.setReg_routes (s : State) (p : Param) (v i : Nat) : (s.setReg p v i).routes = s.routes := rfl
@[simp] theorem State.setReg_evt (s : State) (p : Param) (v i : Nat) : (s.setReg p v i).evt = s.evt := rfl
@[simp] theorem State.setReg_loop (s : State) (p : Param) (v i : Nat) : (s.setReg p v i).loop = s.loop := rfl
@[simp] theorem State.setReg_bridge (s : State) (p : Param) (v i : Nat) : (s.setReg p v i).bridge = s.bridge := rfl
@[simp] theorem State.setReg_boot (s : State) (p : Param) (v i : Nat) : (s.setReg p v i).boot = s.boot := rfl
@[simp] theorem State.setReg_sec (s : State) (p : Param) (v i : Nat) : (s.setReg p v i).sec = s.sec := rfl
@[simp] theorem State.setReg_mem (s : State) (p : Param) (v i : Nat) : (s.setReg p v i).mem = s.mem := rfl
@[simp] theorem State.setReg_net (s : State) (p : Param) (v i : Nat) : (s.setReg p v i).net = s.net := rfl
@[simp] theorem State.setReg_sess (s : State) (p : Param) (v i : Nat) : (s.setReg p v i).sess = s.sess := rfl
@[simp] theorem State.setReg_nextSess (s : State) (p : Param) (v i : Nat) : (s.setReg p v i).nextSess = s.nextSess := rfl
@[simp] theorem State.setReg_kv (s : State) (p : Param) (v i : Nat) : (s.setReg p v i).kv = s.kv := rfl
@[simp] theorem State.setReg_colls (s : State) (p : Param) (v i : Nat) : (s.setReg p v i).colls = s.colls := rfl
@[simp] theorem State.setReg_collsDisk (s : State) (p : Param) (v i : Nat) : (s.setReg p v i).collsDisk = s.collsDisk := rfl
@[simp] theorem State.setReg_sweep (s : State) (p : Param) (v i : Nat) : (s.setReg p v i).sweep = s.sweep := rfl
@[simp] theorem State.setReg_assoc (s : State) (p : Param) (v i : Nat) : (s.setReg p v i).assoc = s.assoc := rfl
@[simp] theorem State.setReg_out (s : State) (p : Param) (v i : Nat) : (s.setReg p v i).out = s.out := rfl
@[simp] theorem State.setReg_freeCtr (s : State) (p : Param) (v i : Nat) : (s.setReg p v i).freeCtr = s.freeCtr := rfl
@[simp] theorem State.setReg_pending (s : State) (p : Param) (v i : Nat) : (s.setReg p v i).pending = s.pending := rfl

@[simp] theorem State.incReg_pwr (s : State) (p : Param) (n i : Nat) : (s.incReg p n i).pwr = s.pwr := rfl
@[simp] theorem State.incReg_clk (s : State) (p : Param) (n i : Nat) : (s.incReg p n i).clk = s.clk := rfl
@[simp] theorem State.incReg_day (s : State) (p : Param) (n i : Nat) : (s.incReg p n i).day = s.day := rfl
@[simp] theorem State.incReg_line (s : State) (p : Param) (n i : Nat) : (s.incReg p n i).line = s.line := rfl
@[simp] theorem State.incReg_routes (s : State) (p : Param) (n i : Nat) : (s.incReg p n i).routes = s.routes := rfl
@[simp] theorem State.incReg_evt (s : State) (p : Param) (n i : Nat) : (s.incReg p n i).evt = s.evt := rfl
@[simp] theorem State.incReg_loop (s : State) (p : Param) (n i : Nat) : (s.incReg p n i).loop = s.loop := rfl
@[simp] theorem State.incReg_bridge (s : State) (p : Param) (n i : Nat) : (s.incReg p n i).bridge = s.bridge := rfl
@[simp] theorem State.incReg_boot (s : State) (p : Param) (n i : Nat) : (s.incReg p n i).boot = s.boot := rfl
@[simp] theorem State.incReg_sec (s : State) (p : Param) (n i : Nat) : (s.incReg p n i).sec = s.sec := rfl
@[simp] theorem State.incReg_mem (s : State) (p : Param) (n i : Nat) : (s.incReg p n i).mem = s.mem := rfl
@[simp] theorem State.incReg_net (s : State) (p : Param) (n i : Nat) : (s.incReg p n i).net = s.net := rfl
@[simp] theorem State.incReg_sess (s : State) (p : Param) (n i : Nat) : (s.incReg p n i).sess = s.sess := rfl
@[simp] theorem State.incReg_nextSess (s : State) (p : Param) (n i : Nat) : (s.incReg p n i).nextSess = s.nextSess := rfl
@[simp] theorem State.incReg_kv (s : State) (p : Param) (n i : Nat) : (s.incReg p n i).kv = s.kv := rfl
@[simp] theorem State.incReg_colls (s : State) (p : Param) (n i : Nat) : (s.incReg p n i).colls = s.colls := rfl
@[simp] theorem State.incReg_collsDisk (s : State) (p : Param) (n i : Nat) : (s.incReg p n i).collsDisk = s.collsDisk := rfl
@[simp] theorem State.incReg_sweep (s : State) (p : Param) (n i : Nat) : (s.incReg p n i).sweep = s.sweep := rfl
@[simp] theorem State.incReg_assoc (s : State) (p : Param) (n i : Nat) : (s.incReg p n i).assoc = s.assoc := rfl
@[simp] theorem State.incReg_out (s : State) (p : Param) (n i : Nat) : (s.incReg p n i).out = s.out := rfl
@[simp] theorem State.incReg_freeCtr (s : State) (p : Param) (n i : Nat) : (s.incReg p n i).freeCtr = s.freeCtr := rfl
@[simp] theorem State.incReg_pending (s : State) (p : Param) (n i : Nat) : (s.incReg p n i).pending = s.pending := rfl

@[simp] theorem State.tick_regs (s : State) : (s.tick).regs = s.regs := rfl
@[simp] theorem State.tick_pwr (s : State) : (s.tick).pwr = s.pwr := rfl
@[simp] theorem State.tick_clk (s : State) : (s.tick).clk = s.clk := rfl
@[simp] theorem State.tick_day (s : State) : (s.tick).day = s.day := rfl
@[simp] theorem State.tick_line (s : State) : (s.tick).line = s.line := rfl
@[simp] theorem State.tick_routes (s : State) : (s.tick).routes = s.routes := rfl
@[simp] theorem State.tick_evt (s : State) : (s.tick).evt = s.evt := rfl
@[simp] theorem State.tick_loop (s : State) : (s.tick).loop = s.loop := rfl
@[simp] theorem State.tick_bridge (s : State) : (s.tick).bridge = s.bridge := rfl
@[simp] theorem State.tick_boot (s : State) : (s.tick).boot = s.boot := rfl
@[simp] theorem State.tick_sec (s : State) : (s.tick).sec = s.sec := rfl
@[simp] theorem State.tick_mem (s : State) : (s.tick).mem = s.mem := rfl
@[simp] theorem State.tick_net (s : State) : (s.tick).net = s.net := rfl
@[simp] theorem State.tick_sess (s : State) : (s.tick).sess = s.sess := rfl
@[simp] theorem State.tick_nextSess (s : State) : (s.tick).nextSess = s.nextSess := rfl
@[simp] theorem State.tick_kv (s : State) : (s.tick).kv = s.kv := rfl
@[simp] theorem State.tick_colls (s : State) : (s.tick).colls = s.colls := rfl
@[simp] theorem State.tick_collsDisk (s : State) : (s.tick).collsDisk = s.collsDisk := rfl
@[simp] theorem State.tick_sweep (s : State) : (s.tick).sweep = s.sweep := rfl
@[simp] theorem State.tick_assoc (s : State) : (s.tick).assoc = s.assoc := rfl
@[simp] theorem State.tick_out (s : State) : (s.tick).out = s.out := rfl
@[simp] theorem State.tick_pending (s : State) : (s.tick).pending = s.pending := rfl

@[simp] theorem State.emit_regs (s : State) (o : Output) : (s.emit o).regs = s.regs := rfl
@[simp] theorem State.emit_pwr (s : State) (o : Output) : (s.emit o).pwr = s.pwr := rfl
@[simp] theorem State.emit_clk (s : State) (o : Output) : (s.emit o).clk = s.clk := rfl
@[simp] theorem State.emit_day (s : State) (o : Output) : (s.emit o).day = s.day := rfl
@[simp] theorem State.emit_line (s : State) (o : Output) : (s.emit o).line = s.line := rfl
@[simp] theorem State.emit_routes (s : State) (o : Output) : (s.emit o).routes = s.routes := rfl
@[simp] theorem State.emit_evt (s : State) (o : Output) : (s.emit o).evt = s.evt := rfl
@[simp] theorem State.emit_loop (s : State) (o : Output) : (s.emit o).loop = s.loop := rfl
@[simp] theorem State.emit_bridge (s : State) (o : Output) : (s.emit o).bridge = s.bridge := rfl
@[simp] theorem State.emit_boot (s : State) (o : Output) : (s.emit o).boot = s.boot := rfl
@[simp] theorem State.emit_sec (s : State) (o : Output) : (s.emit o).sec = s.sec := rfl
@[simp] theorem State.emit_mem (s : State) (o : Output) : (s.emit o).mem = s.mem := rfl
@[simp] theorem State.emit_net (s : State) (o : Output) : (s.emit o).net = s.net := rfl
@[simp] theorem State.emit_sess (s : State) (o : Output) : (s.emit o).sess = s.sess := rfl
@[simp] theorem State.emit_nextSess (s : State) (o : Output) : (s.emit o).nextSess = s.nextSess := rfl
@[simp] theorem State.emit_kv (s : State) (o : Output) : (s.emit o).kv = s.kv := rfl
@[simp] theorem State.emit_colls (s : State) (o : Output) : (s.emit o).colls = s.colls := rfl
@[simp] theorem State.emit_collsDisk (s : State) (o : Output) : (s.emit o).collsDisk = s.collsDisk := rfl
@[simp] theorem State.emit_sweep (s : State) (o : Output) : (s.emit o).sweep = s.sweep := rfl
@[simp] theorem State.emit_assoc (s : State) (o : Output) : (s.emit o).assoc = s.assoc := rfl
@[simp] theorem State.emit_freeCtr (s : State) (o : Output) : (s.emit o).freeCtr = s.freeCtr := rfl
@[simp] theorem State.emit_pending (s : State) (o : Output) : (s.emit o).pending = s.pending := rfl

@[simp] theorem State.emits_regs (s : State) (os : List Output) : (s.emits os).regs = s.regs := rfl
@[simp] theorem State.emits_pwr (s : State) (os : List Output) : (s.emits os).pwr = s.pwr := rfl
@[simp] theorem State.emits_clk (s : State) (os : List Output) : (s.emits os).clk = s.clk := rfl
@[simp] theorem State.emits_day (s : State) (os : List Output) : (s.emits os).day = s.day := rfl
@[simp] theorem State.emits_line (s : State) (os : List Output) : (s.emits os).line = s.line := rfl
@[simp] theorem State.emits_routes (s : State) (os : List Output) : (s.emits os).routes = s.routes := rfl
@[simp] theorem State.emits_evt (s : State) (os : List Output) : (s.emits os).evt = s.evt := rfl
@[simp] theorem State.emits_loop (s : State) (os : List Output) : (s.emits os).loop = s.loop := rfl
@[simp] theorem State.emits_bridge (s : State) (os : List Output) : (s.emits os).bridge = s.bridge := rfl
@[simp] theorem State.emits_boot (s : State) (os : List Output) : (s.emits os).boot = s.boot := rfl
@[simp] theorem State.emits_sec (s : State) (os : List Output) : (s.emits os).sec = s.sec := rfl
@[simp] theorem State.emits_mem (s : State) (os : List Output) : (s.emits os).mem = s.mem := rfl
@[simp] theorem State.emits_net (s : State) (os : List Output) : (s.emits os).net = s.net := rfl
@[simp] theorem State.emits_sess (s : State) (os : List Output) : (s.emits os).sess = s.sess := rfl
@[simp] theorem State.emits_nextSess (s : State) (os : List Output) : (s.emits os).nextSess = s.nextSess := rfl
@[simp] theorem State.emits_kv (s : State) (os : List Output) : (s.emits os).kv = s.kv := rfl
@[simp] theorem State.emits_colls (s : State) (os : List Output) : (s.emits os).colls = s.colls := rfl
@[simp] theorem State.emits_collsDisk (s : State) (os : List Output) : (s.emits os).collsDisk = s.collsDisk := rfl
@[simp] theorem State.emits_sweep (s : State) (os : List Output) : (s.emits os).sweep = s.sweep := rfl
@[simp] theorem State.emits_assoc (s : State) (os : List Output) : (s.emits os).assoc = s.assoc := rfl
@[simp] theorem State.emits_freeCtr (s : State) (os : List Output) : (s.emits os).freeCtr = s.freeCtr := rfl
@[simp] theorem State.emits_pending (s : State) (os : List Output) : (s.emits os).pending = s.pending := rfl

@[simp] theorem State.setRoute_regs (s : State) (x : RouteSt) : (s.setRoute x).regs = s.regs := rfl
@[simp] theorem State.setRoute_pwr (s : State) (x : RouteSt) : (s.setRoute x).pwr = s.pwr := rfl
@[simp] theorem State.setRoute_clk (s : State) (x : RouteSt) : (s.setRoute x).clk = s.clk := rfl
@[simp] theorem State.setRoute_day (s : State) (x : RouteSt) : (s.setRoute x).day = s.day := rfl
@[simp] theorem State.setRoute_line (s : State) (x : RouteSt) : (s.setRoute x).line = s.line := rfl
@[simp] theorem State.setRoute_evt (s : State) (x : RouteSt) : (s.setRoute x).evt = s.evt := rfl
@[simp] theorem State.setRoute_loop (s : State) (x : RouteSt) : (s.setRoute x).loop = s.loop := rfl
@[simp] theorem State.setRoute_bridge (s : State) (x : RouteSt) : (s.setRoute x).bridge = s.bridge := rfl
@[simp] theorem State.setRoute_boot (s : State) (x : RouteSt) : (s.setRoute x).boot = s.boot := rfl
@[simp] theorem State.setRoute_sec (s : State) (x : RouteSt) : (s.setRoute x).sec = s.sec := rfl
@[simp] theorem State.setRoute_mem (s : State) (x : RouteSt) : (s.setRoute x).mem = s.mem := rfl
@[simp] theorem State.setRoute_net (s : State) (x : RouteSt) : (s.setRoute x).net = s.net := rfl
@[simp] theorem State.setRoute_sess (s : State) (x : RouteSt) : (s.setRoute x).sess = s.sess := rfl
@[simp] theorem State.setRoute_nextSess (s : State) (x : RouteSt) : (s.setRoute x).nextSess = s.nextSess := rfl
@[simp] theorem State.setRoute_kv (s : State) (x : RouteSt) : (s.setRoute x).kv = s.kv := rfl
@[simp] theorem State.setRoute_colls (s : State) (x : RouteSt) : (s.setRoute x).colls = s.colls := rfl
@[simp] theorem State.setRoute_collsDisk (s : State) (x : RouteSt) : (s.setRoute x).collsDisk = s.collsDisk := rfl
@[simp] theorem State.setRoute_sweep (s : State) (x : RouteSt) : (s.setRoute x).sweep = s.sweep := rfl
@[simp] theorem State.setRoute_assoc (s : State) (x : RouteSt) : (s.setRoute x).assoc = s.assoc := rfl
@[simp] theorem State.setRoute_out (s : State) (x : RouteSt) : (s.setRoute x).out = s.out := rfl
@[simp] theorem State.setRoute_freeCtr (s : State) (x : RouteSt) : (s.setRoute x).freeCtr = s.freeCtr := rfl
@[simp] theorem State.setRoute_pending (s : State) (x : RouteSt) : (s.setRoute x).pending = s.pending := rfl

@[simp] theorem State.updRoute_regs (s : State) (r : Route) (f : RouteSt → RouteSt) : (s.updRoute r f).regs = s.regs := rfl
@[simp] theorem State.updRoute_pwr (s : State) (r : Route) (f : RouteSt → RouteSt) : (s.updRoute r f).pwr = s.pwr := rfl
@[simp] theorem State.updRoute_clk (s : State) (r : Route) (f : RouteSt → RouteSt) : (s.updRoute r f).clk = s.clk := rfl
@[simp] theorem State.updRoute_day (s : State) (r : Route) (f : RouteSt → RouteSt) : (s.updRoute r f).day = s.day := rfl
@[simp] theorem State.updRoute_line (s : State) (r : Route) (f : RouteSt → RouteSt) : (s.updRoute r f).line = s.line := rfl
@[simp] theorem State.updRoute_evt (s : State) (r : Route) (f : RouteSt → RouteSt) : (s.updRoute r f).evt = s.evt := rfl
@[simp] theorem State.updRoute_loop (s : State) (r : Route) (f : RouteSt → RouteSt) : (s.updRoute r f).loop = s.loop := rfl
@[simp] theorem State.updRoute_bridge (s : State) (r : Route) (f : RouteSt → RouteSt) : (s.updRoute r f).bridge = s.bridge := rfl
@[simp] theorem State.updRoute_boot (s : State) (r : Route) (f : RouteSt → RouteSt) : (s.updRoute r f).boot = s.boot := rfl
@[simp] theorem State.updRoute_sec (s : State) (r : Route) (f : RouteSt → RouteSt) : (s.updRoute r f).sec = s.sec := rfl
@[simp] theorem State.updRoute_mem (s : State) (r : Route) (f : RouteSt → RouteSt) : (s.updRoute r f).mem = s.mem := rfl
@[simp] theorem State.updRoute_net (s : State) (r : Route) (f : RouteSt → RouteSt) : (s.updRoute r f).net = s.net := rfl
@[simp] theorem State.updRoute_sess (s : State) (r : Route) (f : RouteSt → RouteSt) : (s.updRoute r f).sess = s.sess := rfl
@[simp] theorem State.updRoute_nextSess (s : State) (r : Route) (f : RouteSt → RouteSt) : (s.updRoute r f).nextSess = s.nextSess := rfl
@[simp] theorem State.updRoute_kv (s : State) (r : Route) (f : RouteSt → RouteSt) : (s.updRoute r f).kv = s.kv := rfl
@[simp] theorem State.updRoute_colls (s : State) (r : Route) (f : RouteSt → RouteSt) : (s.updRoute r f).colls = s.colls := rfl
@[simp] theorem State.updRoute_collsDisk (s : State) (r : Route) (f : RouteSt → RouteSt) : (s.updRoute r f).collsDisk = s.collsDisk := rfl
@[simp] theorem State.updRoute_sweep (s : State) (r : Route) (f : RouteSt → RouteSt) : (s.updRoute r f).sweep = s.sweep := rfl
@[simp] theorem State.updRoute_assoc (s : State) (r : Route) (f : RouteSt → RouteSt) : (s.updRoute r f).assoc = s.assoc := rfl
@[simp] theorem State.updRoute_out (s : State) (r : Route) (f : RouteSt → RouteSt) : (s.updRoute r f).out = s.out := rfl
@[simp] theorem State.updRoute_freeCtr (s : State) (r : Route) (f : RouteSt → RouteSt) : (s.updRoute r f).freeCtr = s.freeCtr := rfl
@[simp] theorem State.updRoute_pending (s : State) (r : Route) (f : RouteSt → RouteSt) : (s.updRoute r f).pending = s.pending := rfl

@[simp] theorem State.setSess_regs (s : State) (x : Sess) : (s.setSess x).regs = s.regs := rfl
@[simp] theorem State.setSess_pwr (s : State) (x : Sess) : (s.setSess x).pwr = s.pwr := rfl
@[simp] theorem State.setSess_clk (s : State) (x : Sess) : (s.setSess x).clk = s.clk := rfl
@[simp] theorem State.setSess_day (s : State) (x : Sess) : (s.setSess x).day = s.day := rfl
@[simp] theorem State.setSess_line (s : State) (x : Sess) : (s.setSess x).line = s.line := rfl
@[simp] theorem State.setSess_routes (s : State) (x : Sess) : (s.setSess x).routes = s.routes := rfl
@[simp] theorem State.setSess_evt (s : State) (x : Sess) : (s.setSess x).evt = s.evt := rfl
@[simp] theorem State.setSess_loop (s : State) (x : Sess) : (s.setSess x).loop = s.loop := rfl
@[simp] theorem State.setSess_bridge (s : State) (x : Sess) : (s.setSess x).bridge = s.bridge := rfl
@[simp] theorem State.setSess_boot (s : State) (x : Sess) : (s.setSess x).boot = s.boot := rfl
@[simp] theorem State.setSess_sec (s : State) (x : Sess) : (s.setSess x).sec = s.sec := rfl
@[simp] theorem State.setSess_mem (s : State) (x : Sess) : (s.setSess x).mem = s.mem := rfl
@[simp] theorem State.setSess_net (s : State) (x : Sess) : (s.setSess x).net = s.net := rfl
@[simp] theorem State.setSess_nextSess (s : State) (x : Sess) : (s.setSess x).nextSess = s.nextSess := rfl
@[simp] theorem State.setSess_kv (s : State) (x : Sess) : (s.setSess x).kv = s.kv := rfl
@[simp] theorem State.setSess_colls (s : State) (x : Sess) : (s.setSess x).colls = s.colls := rfl
@[simp] theorem State.setSess_collsDisk (s : State) (x : Sess) : (s.setSess x).collsDisk = s.collsDisk := rfl
@[simp] theorem State.setSess_sweep (s : State) (x : Sess) : (s.setSess x).sweep = s.sweep := rfl
@[simp] theorem State.setSess_assoc (s : State) (x : Sess) : (s.setSess x).assoc = s.assoc := rfl
@[simp] theorem State.setSess_out (s : State) (x : Sess) : (s.setSess x).out = s.out := rfl
@[simp] theorem State.setSess_freeCtr (s : State) (x : Sess) : (s.setSess x).freeCtr = s.freeCtr := rfl
@[simp] theorem State.setSess_pending (s : State) (x : Sess) : (s.setSess x).pending = s.pending := rfl

@[simp] theorem State.setColl_regs (s : State) (x : Coll) : (s.setColl x).regs = s.regs := rfl
@[simp] theorem State.setColl_pwr (s : State) (x : Coll) : (s.setColl x).pwr = s.pwr := rfl
@[simp] theorem State.setColl_clk (s : State) (x : Coll) : (s.setColl x).clk = s.clk := rfl
@[simp] theorem State.setColl_day (s : State) (x : Coll) : (s.setColl x).day = s.day := rfl
@[simp] theorem State.setColl_line (s : State) (x : Coll) : (s.setColl x).line = s.line := rfl
@[simp] theorem State.setColl_routes (s : State) (x : Coll) : (s.setColl x).routes = s.routes := rfl
@[simp] theorem State.setColl_evt (s : State) (x : Coll) : (s.setColl x).evt = s.evt := rfl
@[simp] theorem State.setColl_loop (s : State) (x : Coll) : (s.setColl x).loop = s.loop := rfl
@[simp] theorem State.setColl_bridge (s : State) (x : Coll) : (s.setColl x).bridge = s.bridge := rfl
@[simp] theorem State.setColl_boot (s : State) (x : Coll) : (s.setColl x).boot = s.boot := rfl
@[simp] theorem State.setColl_sec (s : State) (x : Coll) : (s.setColl x).sec = s.sec := rfl
@[simp] theorem State.setColl_mem (s : State) (x : Coll) : (s.setColl x).mem = s.mem := rfl
@[simp] theorem State.setColl_net (s : State) (x : Coll) : (s.setColl x).net = s.net := rfl
@[simp] theorem State.setColl_sess (s : State) (x : Coll) : (s.setColl x).sess = s.sess := rfl
@[simp] theorem State.setColl_nextSess (s : State) (x : Coll) : (s.setColl x).nextSess = s.nextSess := rfl
@[simp] theorem State.setColl_kv (s : State) (x : Coll) : (s.setColl x).kv = s.kv := rfl
@[simp] theorem State.setColl_collsDisk (s : State) (x : Coll) : (s.setColl x).collsDisk = s.collsDisk := rfl
@[simp] theorem State.setColl_sweep (s : State) (x : Coll) : (s.setColl x).sweep = s.sweep := rfl
@[simp] theorem State.setColl_assoc (s : State) (x : Coll) : (s.setColl x).assoc = s.assoc := rfl
@[simp] theorem State.setColl_out (s : State) (x : Coll) : (s.setColl x).out = s.out := rfl
@[simp] theorem State.setColl_freeCtr (s : State) (x : Coll) : (s.setColl x).freeCtr = s.freeCtr := rfl
@[simp] theorem State.setColl_pending (s : State) (x : Coll) : (s.setColl x).pending = s.pending := rfl

@[simp] theorem State.bothColls_regs (s : State) (n : Nat) (f : Coll → Coll) : (s.bothColls n f).regs = s.regs := rfl
@[simp] theorem State.bothColls_pwr (s : State) (n : Nat) (f : Coll → Coll) : (s.bothColls n f).pwr = s.pwr := rfl
@[simp] theorem State.bothColls_clk (s : State) (n : Nat) (f : Coll → Coll) : (s.bothColls n f).clk = s.clk := rfl
@[simp] theorem State.bothColls_day (s : State) (n : Nat) (f : Coll → Coll) : (s.bothColls n f).day = s.day := rfl
@[simp] theorem State.bothColls_line (s : State) (n : Nat) (f : Coll → Coll) : (s.bothColls n f).line = s.line := rfl
@[simp] theorem State.bothColls_routes (s : State) (n : Nat) (f : Coll → Coll) : (s.bothColls n f).routes = s.routes := rfl
@[simp] theorem State.bothColls_evt (s : State) (n : Nat) (f : Coll → Coll) : (s.bothColls n f).evt = s.evt := rfl
@[simp] theorem State.bothColls_loop (s : State) (n : Nat) (f : Coll → Coll) : (s.bothColls n f).loop = s.loop := rfl
@[simp] theorem State.bothColls_bridge (s : State) (n : Nat) (f : Coll → Coll) : (s.bothColls n f).bridge = s.bridge := rfl
@[simp] theorem State.bothColls_boot (s : State) (n : Nat) (f : Coll → Coll) : (s.bothColls n f).boot = s.boot := rfl
@[simp] theorem State.bothColls_sec (s : State) (n : Nat) (f : Coll → Coll) : (s.bothColls n f).sec = s.sec := rfl
@[simp] theorem State.bothColls_mem (s : State) (n : Nat) (f : Coll → Coll) : (s.bothColls n f).mem = s.mem := rfl
@[simp] theorem State.bothColls_net (s : State) (n : Nat) (f : Coll → Coll) : (s.bothColls n f).net = s.net := rfl
@[simp] theorem State.bothColls_sess (s : State) (n : Nat) (f : Coll → Coll) : (s.bothColls n f).sess = s.sess := rfl
@[simp] theorem State.bothColls_nextSess (s : State) (n : Nat) (f : Coll → Coll) : (s.bothColls n f).nextSess = s.nextSess := rfl
@[simp] theorem State.bothColls_kv (s : State) (n : Nat) (f : Coll → Coll) : (s.bothColls n f).kv = s.kv := rfl
@[simp] theorem State.bothColls_sweep (s : State) (n : Nat) (f : Coll → Coll) : (s.bothColls n f).sweep = s.sweep := rfl
@[simp] theorem State.bothColls_assoc (s : State) (n : Nat) (f : Coll → Coll) : (s.bothColls n f).assoc = s.assoc := rfl
@[simp] theorem State.bothColls_out (s : State) (n : Nat) (f : Coll → Coll) : (s.bothColls n f).out = s.out := rfl
@[simp] theorem State.bothColls_freeCtr (s : State) (n : Nat) (f : Coll → Coll) : (s.bothColls n f).freeCtr = s.freeCtr := rfl
@[simp] theorem State.bothColls_pending (s : State) (n : Nat) (f : Coll → Coll) : (s.bothColls n f).pending = s.pending := rfl

@[simp] theorem State.setLoop_regs (s : State) (l : Loop) : (s.setLoop l).regs = s.regs := rfl
@[simp] theorem State.setLoop_pwr (s : State) (l : Loop) : (s.setLoop l).pwr = s.pwr := rfl
@[simp] theorem State.setLoop_clk (s : State) (l : Loop) : (s.setLoop l).clk = s.clk := rfl
@[simp] theorem State.setLoop_day (s : State) (l : Loop) : (s.setLoop l).day = s.day := rfl
@[simp] theorem State.setLoop_line (s : State) (l : Loop) : (s.setLoop l).line = s.line := rfl
@[simp] theorem State.setLoop_routes (s : State) (l : Loop) : (s.setLoop l).routes = s.routes := rfl
@[simp] theorem State.setLoop_evt (s : State) (l : Loop) : (s.setLoop l).evt = s.evt := rfl
@[simp] theorem State.setLoop_bridge (s : State) (l : Loop) : (s.setLoop l).bridge = s.bridge := rfl
@[simp] theorem State.setLoop_boot (s : State) (l : Loop) : (s.setLoop l).boot = s.boot := rfl
@[simp] theorem State.setLoop_sec (s : State) (l : Loop) : (s.setLoop l).sec = s.sec := rfl
@[simp] theorem State.setLoop_mem (s : State) (l : Loop) : (s.setLoop l).mem = s.mem := rfl
@[simp] theorem State.setLoop_net (s : State) (l : Loop) : (s.setLoop l).net = s.net := rfl
@[simp] theorem State.setLoop_sess (s : State) (l : Loop) : (s.setLoop l).sess = s.sess := rfl
@[simp] theorem State.setLoop_nextSess (s : State) (l : Loop) : (s.setLoop l).nextSess = s.nextSess := rfl
@[simp] theorem State.setLoop_kv (s : State) (l : Loop) : (s.setLoop l).kv = s.kv := rfl
@[simp] theorem State.setLoop_colls (s : State) (l : Loop) : (s.setLoop l).colls = s.colls := rfl
@[simp] theorem State.setLoop_collsDisk (s : State) (l : Loop) : (s.setLoop l).collsDisk = s.collsDisk := rfl
@[simp] theorem State.setLoop_sweep (s : State) (l : Loop) : (s.setLoop l).sweep = s.sweep := rfl
@[simp] theorem State.setLoop_assoc (s : State) (l : Loop) : (s.setLoop l).assoc = s.assoc := rfl
@[simp] theorem State.setLoop_out (s : State) (l : Loop) : (s.setLoop l).out = s.out := rfl
@[simp] theorem State.setLoop_freeCtr (s : State) (l : Loop) : (s.setLoop l).freeCtr = s.freeCtr := rfl
@[simp] theorem State.setLoop_pending (s : State) (l : Loop) : (s.setLoop l).pending = s.pending := rfl

@[simp] theorem State.setFe_regs (s : State) (f : Front) : (s.setFe f).regs = s.regs := rfl
@[simp] theorem State.setFe_pwr (s : State) (f : Front) : (s.setFe f).pwr = s.pwr := rfl
@[simp] theorem State.setFe_clk (s : State) (f : Front) : (s.setFe f).clk = s.clk := rfl
@[simp] theorem State.setFe_day (s : State) (f : Front) : (s.setFe f).day = s.day := rfl
@[simp] theorem State.setFe_line (s : State) (f : Front) : (s.setFe f).line = s.line := rfl
@[simp] theorem State.setFe_routes (s : State) (f : Front) : (s.setFe f).routes = s.routes := rfl
@[simp] theorem State.setFe_evt (s : State) (f : Front) : (s.setFe f).evt = s.evt := rfl
@[simp] theorem State.setFe_bridge (s : State) (f : Front) : (s.setFe f).bridge = s.bridge := rfl
@[simp] theorem State.setFe_boot (s : State) (f : Front) : (s.setFe f).boot = s.boot := rfl
@[simp] theorem State.setFe_sec (s : State) (f : Front) : (s.setFe f).sec = s.sec := rfl
@[simp] theorem State.setFe_mem (s : State) (f : Front) : (s.setFe f).mem = s.mem := rfl
@[simp] theorem State.setFe_net (s : State) (f : Front) : (s.setFe f).net = s.net := rfl
@[simp] theorem State.setFe_sess (s : State) (f : Front) : (s.setFe f).sess = s.sess := rfl
@[simp] theorem State.setFe_nextSess (s : State) (f : Front) : (s.setFe f).nextSess = s.nextSess := rfl
@[simp] theorem State.setFe_kv (s : State) (f : Front) : (s.setFe f).kv = s.kv := rfl
@[simp] theorem State.setFe_colls (s : State) (f : Front) : (s.setFe f).colls = s.colls := rfl
@[simp] theorem State.setFe_collsDisk (s : State) (f : Front) : (s.setFe f).collsDisk = s.collsDisk := rfl
@[simp] theorem State.setFe_sweep (s : State) (f : Front) : (s.setFe f).sweep = s.sweep := rfl
@[simp] theorem State.setFe_assoc (s : State) (f : Front) : (s.setFe f).assoc = s.assoc := rfl
@[simp] theorem State.setFe_out (s : State) (f : Front) : (s.setFe f).out = s.out := rfl
@[simp] theorem State.setFe_freeCtr (s : State) (f : Front) : (s.setFe f).freeCtr = s.freeCtr := rfl
@[simp] theorem State.setFe_pending (s : State) (f : Front) : (s.setFe f).pending = s.pending := rfl

@[simp] theorem State.setHart_regs (s : State) (h : Hart) : (s.setHart h).regs = s.regs := rfl
@[simp] theorem State.setHart_pwr (s : State) (h : Hart) : (s.setHart h).pwr = s.pwr := rfl
@[simp] theorem State.setHart_clk (s : State) (h : Hart) : (s.setHart h).clk = s.clk := rfl
@[simp] theorem State.setHart_day (s : State) (h : Hart) : (s.setHart h).day = s.day := rfl
@[simp] theorem State.setHart_line (s : State) (h : Hart) : (s.setHart h).line = s.line := rfl
@[simp] theorem State.setHart_routes (s : State) (h : Hart) : (s.setHart h).routes = s.routes := rfl
@[simp] theorem State.setHart_evt (s : State) (h : Hart) : (s.setHart h).evt = s.evt := rfl
@[simp] theorem State.setHart_bridge (s : State) (h : Hart) : (s.setHart h).bridge = s.bridge := rfl
@[simp] theorem State.setHart_boot (s : State) (h : Hart) : (s.setHart h).boot = s.boot := rfl
@[simp] theorem State.setHart_sec (s : State) (h : Hart) : (s.setHart h).sec = s.sec := rfl
@[simp] theorem State.setHart_mem (s : State) (h : Hart) : (s.setHart h).mem = s.mem := rfl
@[simp] theorem State.setHart_net (s : State) (h : Hart) : (s.setHart h).net = s.net := rfl
@[simp] theorem State.setHart_sess (s : State) (h : Hart) : (s.setHart h).sess = s.sess := rfl
@[simp] theorem State.setHart_nextSess (s : State) (h : Hart) : (s.setHart h).nextSess = s.nextSess := rfl
@[simp] theorem State.setHart_kv (s : State) (h : Hart) : (s.setHart h).kv = s.kv := rfl
@[simp] theorem State.setHart_colls (s : State) (h : Hart) : (s.setHart h).colls = s.colls := rfl
@[simp] theorem State.setHart_collsDisk (s : State) (h : Hart) : (s.setHart h).collsDisk = s.collsDisk := rfl
@[simp] theorem State.setHart_sweep (s : State) (h : Hart) : (s.setHart h).sweep = s.sweep := rfl
@[simp] theorem State.setHart_assoc (s : State) (h : Hart) : (s.setHart h).assoc = s.assoc := rfl
@[simp] theorem State.setHart_out (s : State) (h : Hart) : (s.setHart h).out = s.out := rfl
@[simp] theorem State.setHart_freeCtr (s : State) (h : Hart) : (s.setHart h).freeCtr = s.freeCtr := rfl
@[simp] theorem State.setHart_pending (s : State) (h : Hart) : (s.setHart h).pending = s.pending := rfl

@[simp] theorem State.setRerank_regs (s : State) (l : List Rerank) : (s.setRerank l).regs = s.regs := rfl
@[simp] theorem State.setRerank_pwr (s : State) (l : List Rerank) : (s.setRerank l).pwr = s.pwr := rfl
@[simp] theorem State.setRerank_clk (s : State) (l : List Rerank) : (s.setRerank l).clk = s.clk := rfl
@[simp] theorem State.setRerank_day (s : State) (l : List Rerank) : (s.setRerank l).day = s.day := rfl
@[simp] theorem State.setRerank_line (s : State) (l : List Rerank) : (s.setRerank l).line = s.line := rfl
@[simp] theorem State.setRerank_routes (s : State) (l : List Rerank) : (s.setRerank l).routes = s.routes := rfl
@[simp] theorem State.setRerank_evt (s : State) (l : List Rerank) : (s.setRerank l).evt = s.evt := rfl
@[simp] theorem State.setRerank_loop (s : State) (l : List Rerank) : (s.setRerank l).loop = s.loop := rfl
@[simp] theorem State.setRerank_bridge (s : State) (l : List Rerank) : (s.setRerank l).bridge = s.bridge := rfl
@[simp] theorem State.setRerank_boot (s : State) (l : List Rerank) : (s.setRerank l).boot = s.boot := rfl
@[simp] theorem State.setRerank_sec (s : State) (l : List Rerank) : (s.setRerank l).sec = s.sec := rfl
@[simp] theorem State.setRerank_mem (s : State) (l : List Rerank) : (s.setRerank l).mem = s.mem := rfl
@[simp] theorem State.setRerank_net (s : State) (l : List Rerank) : (s.setRerank l).net = s.net := rfl
@[simp] theorem State.setRerank_sess (s : State) (l : List Rerank) : (s.setRerank l).sess = s.sess := rfl
@[simp] theorem State.setRerank_nextSess (s : State) (l : List Rerank) : (s.setRerank l).nextSess = s.nextSess := rfl
@[simp] theorem State.setRerank_kv (s : State) (l : List Rerank) : (s.setRerank l).kv = s.kv := rfl
@[simp] theorem State.setRerank_colls (s : State) (l : List Rerank) : (s.setRerank l).colls = s.colls := rfl
@[simp] theorem State.setRerank_collsDisk (s : State) (l : List Rerank) : (s.setRerank l).collsDisk = s.collsDisk := rfl
@[simp] theorem State.setRerank_assoc (s : State) (l : List Rerank) : (s.setRerank l).assoc = s.assoc := rfl
@[simp] theorem State.setRerank_out (s : State) (l : List Rerank) : (s.setRerank l).out = s.out := rfl
@[simp] theorem State.setRerank_freeCtr (s : State) (l : List Rerank) : (s.setRerank l).freeCtr = s.freeCtr := rfl
@[simp] theorem State.setRerank_pending (s : State) (l : List Rerank) : (s.setRerank l).pending = s.pending := rfl

@[simp] theorem State.setWatch_regs (s : State) (w : Watch) : (s.setWatch w).regs = s.regs := rfl
@[simp] theorem State.setWatch_pwr (s : State) (w : Watch) : (s.setWatch w).pwr = s.pwr := rfl
@[simp] theorem State.setWatch_clk (s : State) (w : Watch) : (s.setWatch w).clk = s.clk := rfl
@[simp] theorem State.setWatch_day (s : State) (w : Watch) : (s.setWatch w).day = s.day := rfl
@[simp] theorem State.setWatch_line (s : State) (w : Watch) : (s.setWatch w).line = s.line := rfl
@[simp] theorem State.setWatch_routes (s : State) (w : Watch) : (s.setWatch w).routes = s.routes := rfl
@[simp] theorem State.setWatch_evt (s : State) (w : Watch) : (s.setWatch w).evt = s.evt := rfl
@[simp] theorem State.setWatch_loop (s : State) (w : Watch) : (s.setWatch w).loop = s.loop := rfl
@[simp] theorem State.setWatch_bridge (s : State) (w : Watch) : (s.setWatch w).bridge = s.bridge := rfl
@[simp] theorem State.setWatch_boot (s : State) (w : Watch) : (s.setWatch w).boot = s.boot := rfl
@[simp] theorem State.setWatch_sec (s : State) (w : Watch) : (s.setWatch w).sec = s.sec := rfl
@[simp] theorem State.setWatch_mem (s : State) (w : Watch) : (s.setWatch w).mem = s.mem := rfl
@[simp] theorem State.setWatch_net (s : State) (w : Watch) : (s.setWatch w).net = s.net := rfl
@[simp] theorem State.setWatch_sess (s : State) (w : Watch) : (s.setWatch w).sess = s.sess := rfl
@[simp] theorem State.setWatch_nextSess (s : State) (w : Watch) : (s.setWatch w).nextSess = s.nextSess := rfl
@[simp] theorem State.setWatch_kv (s : State) (w : Watch) : (s.setWatch w).kv = s.kv := rfl
@[simp] theorem State.setWatch_colls (s : State) (w : Watch) : (s.setWatch w).colls = s.colls := rfl
@[simp] theorem State.setWatch_collsDisk (s : State) (w : Watch) : (s.setWatch w).collsDisk = s.collsDisk := rfl
@[simp] theorem State.setWatch_assoc (s : State) (w : Watch) : (s.setWatch w).assoc = s.assoc := rfl
@[simp] theorem State.setWatch_out (s : State) (w : Watch) : (s.setWatch w).out = s.out := rfl
@[simp] theorem State.setWatch_freeCtr (s : State) (w : Watch) : (s.setWatch w).freeCtr = s.freeCtr := rfl
@[simp] theorem State.setWatch_pending (s : State) (w : Watch) : (s.setWatch w).pending = s.pending := rfl

@[simp] theorem setTai_regs (v : Nat) (s : State) : (setTai v s).regs = s.regs := rfl
@[simp] theorem setTai_day (v : Nat) (s : State) : (setTai v s).day = s.day := rfl
@[simp] theorem setTai_line (v : Nat) (s : State) : (setTai v s).line = s.line := rfl
@[simp] theorem setTai_routes (v : Nat) (s : State) : (setTai v s).routes = s.routes := rfl
@[simp] theorem setTai_evt (v : Nat) (s : State) : (setTai v s).evt = s.evt := rfl
@[simp] theorem setTai_loop (v : Nat) (s : State) : (setTai v s).loop = s.loop := rfl
@[simp] theorem setTai_bridge (v : Nat) (s : State) : (setTai v s).bridge = s.bridge := rfl
@[simp] theorem setTai_boot (v : Nat) (s : State) : (setTai v s).boot = s.boot := rfl
@[simp] theorem setTai_sec (v : Nat) (s : State) : (setTai v s).sec = s.sec := rfl
@[simp] theorem setTai_mem (v : Nat) (s : State) : (setTai v s).mem = s.mem := rfl
@[simp] theorem setTai_net (v : Nat) (s : State) : (setTai v s).net = s.net := rfl
@[simp] theorem setTai_sess (v : Nat) (s : State) : (setTai v s).sess = s.sess := rfl
@[simp] theorem setTai_nextSess (v : Nat) (s : State) : (setTai v s).nextSess = s.nextSess := rfl
@[simp] theorem setTai_kv (v : Nat) (s : State) : (setTai v s).kv = s.kv := rfl
@[simp] theorem setTai_colls (v : Nat) (s : State) : (setTai v s).colls = s.colls := rfl
@[simp] theorem setTai_collsDisk (v : Nat) (s : State) : (setTai v s).collsDisk = s.collsDisk := rfl
@[simp] theorem setTai_sweep (v : Nat) (s : State) : (setTai v s).sweep = s.sweep := rfl
@[simp] theorem setTai_assoc (v : Nat) (s : State) : (setTai v s).assoc = s.assoc := rfl
@[simp] theorem setTai_out (v : Nat) (s : State) : (setTai v s).out = s.out := rfl
@[simp] theorem setTai_freeCtr (v : Nat) (s : State) : (setTai v s).freeCtr = s.freeCtr := rfl
@[simp] theorem setTai_pending (v : Nat) (s : State) : (setTai v s).pending = s.pending := rfl

@[simp] theorem setDomains_regs (on : Nat) (s : State) : (setDomains on s).regs = s.regs := rfl
@[simp] theorem setDomains_clk (on : Nat) (s : State) : (setDomains on s).clk = s.clk := rfl
@[simp] theorem setDomains_day (on : Nat) (s : State) : (setDomains on s).day = s.day := rfl
@[simp] theorem setDomains_line (on : Nat) (s : State) : (setDomains on s).line = s.line := rfl
@[simp] theorem setDomains_routes (on : Nat) (s : State) : (setDomains on s).routes = s.routes := rfl
@[simp] theorem setDomains_evt (on : Nat) (s : State) : (setDomains on s).evt = s.evt := rfl
@[simp] theorem setDomains_loop (on : Nat) (s : State) : (setDomains on s).loop = s.loop := rfl
@[simp] theorem setDomains_bridge (on : Nat) (s : State) : (setDomains on s).bridge = s.bridge := rfl
@[simp] theorem setDomains_boot (on : Nat) (s : State) : (setDomains on s).boot = s.boot := rfl
@[simp] theorem setDomains_sec (on : Nat) (s : State) : (setDomains on s).sec = s.sec := rfl
@[simp] theorem setDomains_mem (on : Nat) (s : State) : (setDomains on s).mem = s.mem := rfl
@[simp] theorem setDomains_net (on : Nat) (s : State) : (setDomains on s).net = s.net := rfl
@[simp] theorem setDomains_sess (on : Nat) (s : State) : (setDomains on s).sess = s.sess := rfl
@[simp] theorem setDomains_nextSess (on : Nat) (s : State) : (setDomains on s).nextSess = s.nextSess := rfl
@[simp] theorem setDomains_kv (on : Nat) (s : State) : (setDomains on s).kv = s.kv := rfl
@[simp] theorem setDomains_colls (on : Nat) (s : State) : (setDomains on s).colls = s.colls := rfl
@[simp] theorem setDomains_collsDisk (on : Nat) (s : State) : (setDomains on s).collsDisk = s.collsDisk := rfl
@[simp] theorem setDomains_sweep (on : Nat) (s : State) : (setDomains on s).sweep = s.sweep := rfl
@[simp] theorem setDomains_assoc (on : Nat) (s : State) : (setDomains on s).assoc = s.assoc := rfl
@[simp] theorem setDomains_out (on : Nat) (s : State) : (setDomains on s).out = s.out := rfl
@[simp] theorem setDomains_freeCtr (on : Nat) (s : State) : (setDomains on s).freeCtr = s.freeCtr := rfl
@[simp] theorem setDomains_pending (on : Nat) (s : State) : (setDomains on s).pending = s.pending := rfl

@[simp] theorem domainsReady_regs (s : State) : (domainsReady s).regs = s.regs := rfl
@[simp] theorem domainsReady_clk (s : State) : (domainsReady s).clk = s.clk := rfl
@[simp] theorem domainsReady_day (s : State) : (domainsReady s).day = s.day := rfl
@[simp] theorem domainsReady_line (s : State) : (domainsReady s).line = s.line := rfl
@[simp] theorem domainsReady_routes (s : State) : (domainsReady s).routes = s.routes := rfl
@[simp] theorem domainsReady_evt (s : State) : (domainsReady s).evt = s.evt := rfl
@[simp] theorem domainsReady_loop (s : State) : (domainsReady s).loop = s.loop := rfl
@[simp] theorem domainsReady_bridge (s : State) : (domainsReady s).bridge = s.bridge := rfl
@[simp] theorem domainsReady_boot (s : State) : (domainsReady s).boot = s.boot := rfl
@[simp] theorem domainsReady_sec (s : State) : (domainsReady s).sec = s.sec := rfl
@[simp] theorem domainsReady_mem (s : State) : (domainsReady s).mem = s.mem := rfl
@[simp] theorem domainsReady_net (s : State) : (domainsReady s).net = s.net := rfl
@[simp] theorem domainsReady_sess (s : State) : (domainsReady s).sess = s.sess := rfl
@[simp] theorem domainsReady_nextSess (s : State) : (domainsReady s).nextSess = s.nextSess := rfl
@[simp] theorem domainsReady_kv (s : State) : (domainsReady s).kv = s.kv := rfl
@[simp] theorem domainsReady_colls (s : State) : (domainsReady s).colls = s.colls := rfl
@[simp] theorem domainsReady_collsDisk (s : State) : (domainsReady s).collsDisk = s.collsDisk := rfl
@[simp] theorem domainsReady_sweep (s : State) : (domainsReady s).sweep = s.sweep := rfl
@[simp] theorem domainsReady_assoc (s : State) : (domainsReady s).assoc = s.assoc := rfl
@[simp] theorem domainsReady_out (s : State) : (domainsReady s).out = s.out := rfl
@[simp] theorem domainsReady_freeCtr (s : State) : (domainsReady s).freeCtr = s.freeCtr := rfl
@[simp] theorem domainsReady_pending (s : State) : (domainsReady s).pending = s.pending := rfl

@[simp] theorem holdPins_regs (s : State) : (holdPins s).regs = s.regs := rfl
@[simp] theorem holdPins_pwr (s : State) : (holdPins s).pwr = s.pwr := rfl
@[simp] theorem holdPins_clk (s : State) : (holdPins s).clk = s.clk := rfl
@[simp] theorem holdPins_day (s : State) : (holdPins s).day = s.day := rfl
@[simp] theorem holdPins_line (s : State) : (holdPins s).line = s.line := rfl
@[simp] theorem holdPins_routes (s : State) : (holdPins s).routes = s.routes := rfl
@[simp] theorem holdPins_loop (s : State) : (holdPins s).loop = s.loop := rfl
@[simp] theorem holdPins_bridge (s : State) : (holdPins s).bridge = s.bridge := rfl
@[simp] theorem holdPins_boot (s : State) : (holdPins s).boot = s.boot := rfl
@[simp] theorem holdPins_sec (s : State) : (holdPins s).sec = s.sec := rfl
@[simp] theorem holdPins_mem (s : State) : (holdPins s).mem = s.mem := rfl
@[simp] theorem holdPins_net (s : State) : (holdPins s).net = s.net := rfl
@[simp] theorem holdPins_sess (s : State) : (holdPins s).sess = s.sess := rfl
@[simp] theorem holdPins_nextSess (s : State) : (holdPins s).nextSess = s.nextSess := rfl
@[simp] theorem holdPins_kv (s : State) : (holdPins s).kv = s.kv := rfl
@[simp] theorem holdPins_colls (s : State) : (holdPins s).colls = s.colls := rfl
@[simp] theorem holdPins_collsDisk (s : State) : (holdPins s).collsDisk = s.collsDisk := rfl
@[simp] theorem holdPins_sweep (s : State) : (holdPins s).sweep = s.sweep := rfl
@[simp] theorem holdPins_assoc (s : State) : (holdPins s).assoc = s.assoc := rfl
@[simp] theorem holdPins_out (s : State) : (holdPins s).out = s.out := rfl
@[simp] theorem holdPins_freeCtr (s : State) : (holdPins s).freeCtr = s.freeCtr := rfl
@[simp] theorem holdPins_pending (s : State) : (holdPins s).pending = s.pending := rfl

@[simp] theorem clearLatch_regs (id : Nat) (s : State) : (clearLatch id s).regs = s.regs := rfl
@[simp] theorem clearLatch_pwr (id : Nat) (s : State) : (clearLatch id s).pwr = s.pwr := rfl
@[simp] theorem clearLatch_clk (id : Nat) (s : State) : (clearLatch id s).clk = s.clk := rfl
@[simp] theorem clearLatch_day (id : Nat) (s : State) : (clearLatch id s).day = s.day := rfl
@[simp] theorem clearLatch_line (id : Nat) (s : State) : (clearLatch id s).line = s.line := rfl
@[simp] theorem clearLatch_routes (id : Nat) (s : State) : (clearLatch id s).routes = s.routes := rfl
@[simp] theorem clearLatch_loop (id : Nat) (s : State) : (clearLatch id s).loop = s.loop := rfl
@[simp] theorem clearLatch_bridge (id : Nat) (s : State) : (clearLatch id s).bridge = s.bridge := rfl
@[simp] theorem clearLatch_boot (id : Nat) (s : State) : (clearLatch id s).boot = s.boot := rfl
@[simp] theorem clearLatch_sec (id : Nat) (s : State) : (clearLatch id s).sec = s.sec := rfl
@[simp] theorem clearLatch_mem (id : Nat) (s : State) : (clearLatch id s).mem = s.mem := rfl
@[simp] theorem clearLatch_net (id : Nat) (s : State) : (clearLatch id s).net = s.net := rfl
@[simp] theorem clearLatch_sess (id : Nat) (s : State) : (clearLatch id s).sess = s.sess := rfl
@[simp] theorem clearLatch_nextSess (id : Nat) (s : State) : (clearLatch id s).nextSess = s.nextSess := rfl
@[simp] theorem clearLatch_kv (id : Nat) (s : State) : (clearLatch id s).kv = s.kv := rfl
@[simp] theorem clearLatch_colls (id : Nat) (s : State) : (clearLatch id s).colls = s.colls := rfl
@[simp] theorem clearLatch_collsDisk (id : Nat) (s : State) : (clearLatch id s).collsDisk = s.collsDisk := rfl
@[simp] theorem clearLatch_sweep (id : Nat) (s : State) : (clearLatch id s).sweep = s.sweep := rfl
@[simp] theorem clearLatch_assoc (id : Nat) (s : State) : (clearLatch id s).assoc = s.assoc := rfl
@[simp] theorem clearLatch_out (id : Nat) (s : State) : (clearLatch id s).out = s.out := rfl
@[simp] theorem clearLatch_freeCtr (id : Nat) (s : State) : (clearLatch id s).freeCtr = s.freeCtr := rfl
@[simp] theorem clearLatch_pending (id : Nat) (s : State) : (clearLatch id s).pending = s.pending := rfl

@[simp] theorem suppressed_regs (id : Nat) (s : State) : (suppressed id s).regs = s.regs := rfl
@[simp] theorem suppressed_pwr (id : Nat) (s : State) : (suppressed id s).pwr = s.pwr := rfl
@[simp] theorem suppressed_clk (id : Nat) (s : State) : (suppressed id s).clk = s.clk := rfl
@[simp] theorem suppressed_day (id : Nat) (s : State) : (suppressed id s).day = s.day := rfl
@[simp] theorem suppressed_line (id : Nat) (s : State) : (suppressed id s).line = s.line := rfl
@[simp] theorem suppressed_routes (id : Nat) (s : State) : (suppressed id s).routes = s.routes := rfl
@[simp] theorem suppressed_loop (id : Nat) (s : State) : (suppressed id s).loop = s.loop := rfl
@[simp] theorem suppressed_bridge (id : Nat) (s : State) : (suppressed id s).bridge = s.bridge := rfl
@[simp] theorem suppressed_boot (id : Nat) (s : State) : (suppressed id s).boot = s.boot := rfl
@[simp] theorem suppressed_sec (id : Nat) (s : State) : (suppressed id s).sec = s.sec := rfl
@[simp] theorem suppressed_mem (id : Nat) (s : State) : (suppressed id s).mem = s.mem := rfl
@[simp] theorem suppressed_net (id : Nat) (s : State) : (suppressed id s).net = s.net := rfl
@[simp] theorem suppressed_sess (id : Nat) (s : State) : (suppressed id s).sess = s.sess := rfl
@[simp] theorem suppressed_nextSess (id : Nat) (s : State) : (suppressed id s).nextSess = s.nextSess := rfl
@[simp] theorem suppressed_kv (id : Nat) (s : State) : (suppressed id s).kv = s.kv := rfl
@[simp] theorem suppressed_colls (id : Nat) (s : State) : (suppressed id s).colls = s.colls := rfl
@[simp] theorem suppressed_collsDisk (id : Nat) (s : State) : (suppressed id s).collsDisk = s.collsDisk := rfl
@[simp] theorem suppressed_sweep (id : Nat) (s : State) : (suppressed id s).sweep = s.sweep := rfl
@[simp] theorem suppressed_assoc (id : Nat) (s : State) : (suppressed id s).assoc = s.assoc := rfl
@[simp] theorem suppressed_out (id : Nat) (s : State) : (suppressed id s).out = s.out := rfl
@[simp] theorem suppressed_freeCtr (id : Nat) (s : State) : (suppressed id s).freeCtr = s.freeCtr := rfl
@[simp] theorem suppressed_pending (id : Nat) (s : State) : (suppressed id s).pending = s.pending := rfl

@[simp] theorem ringSend_regs (o : Output) (s : State) : (ringSend o s).regs = s.regs := by
  unfold ringSend; (repeat' split) <;> rfl
@[simp] theorem ringSend_pwr (o : Output) (s : State) : (ringSend o s).pwr = s.pwr := by
  unfold ringSend; (repeat' split) <;> rfl
@[simp] theorem ringSend_clk (o : Output) (s : State) : (ringSend o s).clk = s.clk := by
  unfold ringSend; (repeat' split) <;> rfl
@[simp] theorem ringSend_day (o : Output) (s : State) : (ringSend o s).day = s.day := by
  unfold ringSend; (repeat' split) <;> rfl
@[simp] theorem ringSend_routes (o : Output) (s : State) : (ringSend o s).routes = s.routes := by
  unfold ringSend; (repeat' split) <;> rfl
@[simp] theorem ringSend_evt (o : Output) (s : State) : (ringSend o s).evt = s.evt := by
  unfold ringSend; (repeat' split) <;> rfl
@[simp] theorem ringSend_loop (o : Output) (s : State) : (ringSend o s).loop = s.loop := by
  unfold ringSend; (repeat' split) <;> rfl
@[simp] theorem ringSend_bridge (o : Output) (s : State) : (ringSend o s).bridge = s.bridge := by
  unfold ringSend; (repeat' split) <;> rfl
@[simp] theorem ringSend_boot (o : Output) (s : State) : (ringSend o s).boot = s.boot := by
  unfold ringSend; (repeat' split) <;> rfl
@[simp] theorem ringSend_sec (o : Output) (s : State) : (ringSend o s).sec = s.sec := by
  unfold ringSend; (repeat' split) <;> rfl
@[simp] theorem ringSend_mem (o : Output) (s : State) : (ringSend o s).mem = s.mem := by
  unfold ringSend; (repeat' split) <;> rfl
@[simp] theorem ringSend_net (o : Output) (s : State) : (ringSend o s).net = s.net := by
  unfold ringSend; (repeat' split) <;> rfl
@[simp] theorem ringSend_sess (o : Output) (s : State) : (ringSend o s).sess = s.sess := by
  unfold ringSend; (repeat' split) <;> rfl
@[simp] theorem ringSend_nextSess (o : Output) (s : State) : (ringSend o s).nextSess = s.nextSess := by
  unfold ringSend; (repeat' split) <;> rfl
@[simp] theorem ringSend_kv (o : Output) (s : State) : (ringSend o s).kv = s.kv := by
  unfold ringSend; (repeat' split) <;> rfl
@[simp] theorem ringSend_colls (o : Output) (s : State) : (ringSend o s).colls = s.colls := by
  unfold ringSend; (repeat' split) <;> rfl
@[simp] theorem ringSend_collsDisk (o : Output) (s : State) : (ringSend o s).collsDisk = s.collsDisk := by
  unfold ringSend; (repeat' split) <;> rfl
@[simp] theorem ringSend_sweep (o : Output) (s : State) : (ringSend o s).sweep = s.sweep := by
  unfold ringSend; (repeat' split) <;> rfl
@[simp] theorem ringSend_assoc (o : Output) (s : State) : (ringSend o s).assoc = s.assoc := by
  unfold ringSend; (repeat' split) <;> rfl
@[simp] theorem ringSend_freeCtr (o : Output) (s : State) : (ringSend o s).freeCtr = s.freeCtr := by
  unfold ringSend; (repeat' split) <;> rfl
@[simp] theorem ringSend_pending (o : Output) (s : State) : (ringSend o s).pending = s.pending := by
  unfold ringSend; (repeat' split) <;> rfl

@[simp] theorem raiseWith_pwr (id sev : Nat) (kv : List (String × Val)) (late : Bool) (n : Nat) (s : State) : (raiseWith id sev kv late n s).pwr = s.pwr := by
  unfold raiseWith; dsimp only; split <;> rfl
@[simp] theorem raiseWith_clk (id sev : Nat) (kv : List (String × Val)) (late : Bool) (n : Nat) (s : State) : (raiseWith id sev kv late n s).clk = s.clk := by
  unfold raiseWith; dsimp only; split <;> rfl
@[simp] theorem raiseWith_day (id sev : Nat) (kv : List (String × Val)) (late : Bool) (n : Nat) (s : State) : (raiseWith id sev kv late n s).day = s.day := by
  unfold raiseWith; dsimp only; split <;> rfl
@[simp] theorem raiseWith_line (id sev : Nat) (kv : List (String × Val)) (late : Bool) (n : Nat) (s : State) : (raiseWith id sev kv late n s).line = s.line := by
  unfold raiseWith; dsimp only; split <;> rfl
@[simp] theorem raiseWith_bridge (id sev : Nat) (kv : List (String × Val)) (late : Bool) (n : Nat) (s : State) : (raiseWith id sev kv late n s).bridge = s.bridge := by
  unfold raiseWith; dsimp only; split <;> rfl
@[simp] theorem raiseWith_boot (id sev : Nat) (kv : List (String × Val)) (late : Bool) (n : Nat) (s : State) : (raiseWith id sev kv late n s).boot = s.boot := by
  unfold raiseWith; dsimp only; split <;> rfl
@[simp] theorem raiseWith_sec (id sev : Nat) (kv : List (String × Val)) (late : Bool) (n : Nat) (s : State) : (raiseWith id sev kv late n s).sec = s.sec := by
  unfold raiseWith; dsimp only; split <;> rfl
@[simp] theorem raiseWith_mem (id sev : Nat) (kv : List (String × Val)) (late : Bool) (n : Nat) (s : State) : (raiseWith id sev kv late n s).mem = s.mem := by
  unfold raiseWith; dsimp only; split <;> rfl
@[simp] theorem raiseWith_net (id sev : Nat) (kv : List (String × Val)) (late : Bool) (n : Nat) (s : State) : (raiseWith id sev kv late n s).net = s.net := by
  unfold raiseWith; dsimp only; split <;> rfl
@[simp] theorem raiseWith_nextSess (id sev : Nat) (kv : List (String × Val)) (late : Bool) (n : Nat) (s : State) : (raiseWith id sev kv late n s).nextSess = s.nextSess := by
  unfold raiseWith; dsimp only; split <;> rfl
@[simp] theorem raiseWith_kv (id sev : Nat) (kv : List (String × Val)) (late : Bool) (n : Nat) (s : State) : (raiseWith id sev kv late n s).kv = s.kv := by
  unfold raiseWith; dsimp only; split <;> rfl
@[simp] theorem raiseWith_colls (id sev : Nat) (kv : List (String × Val)) (late : Bool) (n : Nat) (s : State) : (raiseWith id sev kv late n s).colls = s.colls := by
  unfold raiseWith; dsimp only; split <;> rfl
@[simp] theorem raiseWith_collsDisk (id sev : Nat) (kv : List (String × Val)) (late : Bool) (n : Nat) (s : State) : (raiseWith id sev kv late n s).collsDisk = s.collsDisk := by
  unfold raiseWith; dsimp only; split <;> rfl
@[simp] theorem raiseWith_sweep (id sev : Nat) (kv : List (String × Val)) (late : Bool) (n : Nat) (s : State) : (raiseWith id sev kv late n s).sweep = s.sweep := by
  unfold raiseWith; dsimp only; split <;> rfl
@[simp] theorem raiseWith_assoc (id sev : Nat) (kv : List (String × Val)) (late : Bool) (n : Nat) (s : State) : (raiseWith id sev kv late n s).assoc = s.assoc := by
  unfold raiseWith; dsimp only; split <;> rfl
@[simp] theorem raiseWith_out (id sev : Nat) (kv : List (String × Val)) (late : Bool) (n : Nat) (s : State) : (raiseWith id sev kv late n s).out = s.out := by
  unfold raiseWith; dsimp only; split <;> rfl
@[simp] theorem raiseWith_freeCtr (id sev : Nat) (kv : List (String × Val)) (late : Bool) (n : Nat) (s : State) : (raiseWith id sev kv late n s).freeCtr = s.freeCtr := by
  unfold raiseWith; dsimp only; split <;> rfl
@[simp] theorem raiseWith_pending (id sev : Nat) (kv : List (String × Val)) (late : Bool) (n : Nat) (s : State) : (raiseWith id sev kv late n s).pending = s.pending := by
  unfold raiseWith; dsimp only; split <;> rfl

@[simp] theorem raise_pwr (id : Nat) (kv : List (String × Val)) (s : State) : (raise id kv s).pwr = s.pwr := by
  simp [raise]
@[simp] theorem raise_clk (id : Nat) (kv : List (String × Val)) (s : State) : (raise id kv s).clk = s.clk := by
  simp [raise]
@[simp] theorem raise_day (id : Nat) (kv : List (String × Val)) (s : State) : (raise id kv s).day = s.day := by
  simp [raise]
@[simp] theorem raise_line (id : Nat) (kv : List (String × Val)) (s : State) : (raise id kv s).line = s.line := by
  simp [raise]
@[simp] theorem raise_bridge (id : Nat) (kv : List (String × Val)) (s : State) : (raise id kv s).bridge = s.bridge := by
  simp [raise]
@[simp] theorem raise_boot (id : Nat) (kv : List (String × Val)) (s : State) : (raise id kv s).boot = s.boot := by
  simp [raise]
@[simp] theorem raise_sec (id : Nat) (kv : List (String × Val)) (s : State) : (raise id kv s).sec = s.sec := by
  simp [raise]
@[simp] theorem raise_mem (id : Nat) (kv : List (String × Val)) (s : State) : (raise id kv s).mem = s.mem := by
  simp [raise]
@[simp] theorem raise_net (id : Nat) (kv : List (String × Val)) (s : State) : (raise id kv s).net = s.net := by
  simp [raise]
@[simp] theorem raise_nextSess (id : Nat) (kv : List (String × Val)) (s : State) : (raise id kv s).nextSess = s.nextSess := by
  simp [raise]
@[simp] theorem raise_kv (id : Nat) (kv : List (String × Val)) (s : State) : (raise id kv s).kv = s.kv := by
  simp [raise]
@[simp] theorem raise_colls (id : Nat) (kv : List (String × Val)) (s : State) : (raise id kv s).colls = s.colls := by
  simp [raise]
@[simp] theorem raise_collsDisk (id : Nat) (kv : List (String × Val)) (s : State) : (raise id kv s).collsDisk = s.collsDisk := by
  simp [raise]
@[simp] theorem raise_sweep (id : Nat) (kv : List (String × Val)) (s : State) : (raise id kv s).sweep = s.sweep := by
  simp [raise]
@[simp] theorem raise_assoc (id : Nat) (kv : List (String × Val)) (s : State) : (raise id kv s).assoc = s.assoc := by
  simp [raise]
@[simp] theorem raise_out (id : Nat) (kv : List (String × Val)) (s : State) : (raise id kv s).out = s.out := by
  simp [raise]
@[simp] theorem raise_freeCtr (id : Nat) (kv : List (String × Val)) (s : State) : (raise id kv s).freeCtr = s.freeCtr := by
  simp [raise]
@[simp] theorem raise_pending (id : Nat) (kv : List (String × Val)) (s : State) : (raise id kv s).pending = s.pending := by
  simp [raise]

@[simp] theorem raiseLimited_pwr (id gap : Nat) (kv : Nat → List (String × Val)) (s : State) : (raiseLimited id gap kv s).pwr = s.pwr := by
  unfold raiseLimited; repeat' split
  all_goals simp
@[simp] theorem raiseLimited_clk (id gap : Nat) (kv : Nat → List (String × Val)) (s : State) : (raiseLimited id gap kv s).clk = s.clk := by
  unfold raiseLimited; repeat' split
  all_goals simp
@[simp] theorem raiseLimited_day (id gap : Nat) (kv : Nat → List (String × Val)) (s : State) : (raiseLimited id gap kv s).day = s.day := by
  unfold raiseLimited; repeat' split
  all_goals simp
@[simp] theorem raiseLimited_line (id gap : Nat) (kv : Nat → List (String × Val)) (s : State) : (raiseLimited id gap kv s).line = s.line := by
  unfold raiseLimited; repeat' split
  all_goals simp
@[simp] theorem raiseLimited_bridge (id gap : Nat) (kv : Nat → List (String × Val)) (s : State) : (raiseLimited id gap kv s).bridge = s.bridge := by
  unfold raiseLimited; repeat' split
  all_goals simp
@[simp] theorem raiseLimited_boot (id gap : Nat) (kv : Nat → List (String × Val)) (s : State) : (raiseLimited id gap kv s).boot = s.boot := by
  unfold raiseLimited; repeat' split
  all_goals simp
@[simp] theorem raiseLimited_sec (id gap : Nat) (kv : Nat → List (String × Val)) (s : State) : (raiseLimited id gap kv s).sec = s.sec := by
  unfold raiseLimited; repeat' split
  all_goals simp
@[simp] theorem raiseLimited_mem (id gap : Nat) (kv : Nat → List (String × Val)) (s : State) : (raiseLimited id gap kv s).mem = s.mem := by
  unfold raiseLimited; repeat' split
  all_goals simp
@[simp] theorem raiseLimited_net (id gap : Nat) (kv : Nat → List (String × Val)) (s : State) : (raiseLimited id gap kv s).net = s.net := by
  unfold raiseLimited; repeat' split
  all_goals simp
@[simp] theorem raiseLimited_nextSess (id gap : Nat) (kv : Nat → List (String × Val)) (s : State) : (raiseLimited id gap kv s).nextSess = s.nextSess := by
  unfold raiseLimited; repeat' split
  all_goals simp
@[simp] theorem raiseLimited_kv (id gap : Nat) (kv : Nat → List (String × Val)) (s : State) : (raiseLimited id gap kv s).kv = s.kv := by
  unfold raiseLimited; repeat' split
  all_goals simp
@[simp] theorem raiseLimited_colls (id gap : Nat) (kv : Nat → List (String × Val)) (s : State) : (raiseLimited id gap kv s).colls = s.colls := by
  unfold raiseLimited; repeat' split
  all_goals simp
@[simp] theorem raiseLimited_collsDisk (id gap : Nat) (kv : Nat → List (String × Val)) (s : State) : (raiseLimited id gap kv s).collsDisk = s.collsDisk := by
  unfold raiseLimited; repeat' split
  all_goals simp
@[simp] theorem raiseLimited_sweep (id gap : Nat) (kv : Nat → List (String × Val)) (s : State) : (raiseLimited id gap kv s).sweep = s.sweep := by
  unfold raiseLimited; repeat' split
  all_goals simp
@[simp] theorem raiseLimited_assoc (id gap : Nat) (kv : Nat → List (String × Val)) (s : State) : (raiseLimited id gap kv s).assoc = s.assoc := by
  unfold raiseLimited; repeat' split
  all_goals simp
@[simp] theorem raiseLimited_out (id gap : Nat) (kv : Nat → List (String × Val)) (s : State) : (raiseLimited id gap kv s).out = s.out := by
  unfold raiseLimited; repeat' split
  all_goals simp
@[simp] theorem raiseLimited_freeCtr (id gap : Nat) (kv : Nat → List (String × Val)) (s : State) : (raiseLimited id gap kv s).freeCtr = s.freeCtr := by
  unfold raiseLimited; repeat' split
  all_goals simp
@[simp] theorem raiseLimited_pending (id gap : Nat) (kv : Nat → List (String × Val)) (s : State) : (raiseLimited id gap kv s).pending = s.pending := by
  unfold raiseLimited; repeat' split
  all_goals simp

@[simp] theorem raiseCount_pwr (id : Nat) (kv : List (String × Val)) (s : State) : (raiseCount id kv s).pwr = s.pwr := by
  simp [raiseCount]
@[simp] theorem raiseCount_clk (id : Nat) (kv : List (String × Val)) (s : State) : (raiseCount id kv s).clk = s.clk := by
  simp [raiseCount]
@[simp] theorem raiseCount_day (id : Nat) (kv : List (String × Val)) (s : State) : (raiseCount id kv s).day = s.day := by
  simp [raiseCount]
@[simp] theorem raiseCount_line (id : Nat) (kv : List (String × Val)) (s : State) : (raiseCount id kv s).line = s.line := by
  simp [raiseCount]
@[simp] theorem raiseCount_bridge (id : Nat) (kv : List (String × Val)) (s : State) : (raiseCount id kv s).bridge = s.bridge := by
  simp [raiseCount]
@[simp] theorem raiseCount_boot (id : Nat) (kv : List (String × Val)) (s : State) : (raiseCount id kv s).boot = s.boot := by
  simp [raiseCount]
@[simp] theorem raiseCount_sec (id : Nat) (kv : List (String × Val)) (s : State) : (raiseCount id kv s).sec = s.sec := by
  simp [raiseCount]
@[simp] theorem raiseCount_mem (id : Nat) (kv : List (String × Val)) (s : State) : (raiseCount id kv s).mem = s.mem := by
  simp [raiseCount]
@[simp] theorem raiseCount_net (id : Nat) (kv : List (String × Val)) (s : State) : (raiseCount id kv s).net = s.net := by
  simp [raiseCount]
@[simp] theorem raiseCount_nextSess (id : Nat) (kv : List (String × Val)) (s : State) : (raiseCount id kv s).nextSess = s.nextSess := by
  simp [raiseCount]
@[simp] theorem raiseCount_kv (id : Nat) (kv : List (String × Val)) (s : State) : (raiseCount id kv s).kv = s.kv := by
  simp [raiseCount]
@[simp] theorem raiseCount_colls (id : Nat) (kv : List (String × Val)) (s : State) : (raiseCount id kv s).colls = s.colls := by
  simp [raiseCount]
@[simp] theorem raiseCount_collsDisk (id : Nat) (kv : List (String × Val)) (s : State) : (raiseCount id kv s).collsDisk = s.collsDisk := by
  simp [raiseCount]
@[simp] theorem raiseCount_sweep (id : Nat) (kv : List (String × Val)) (s : State) : (raiseCount id kv s).sweep = s.sweep := by
  simp [raiseCount]
@[simp] theorem raiseCount_assoc (id : Nat) (kv : List (String × Val)) (s : State) : (raiseCount id kv s).assoc = s.assoc := by
  simp [raiseCount]
@[simp] theorem raiseCount_out (id : Nat) (kv : List (String × Val)) (s : State) : (raiseCount id kv s).out = s.out := by
  simp [raiseCount]
@[simp] theorem raiseCount_freeCtr (id : Nat) (kv : List (String × Val)) (s : State) : (raiseCount id kv s).freeCtr = s.freeCtr := by
  simp [raiseCount]
@[simp] theorem raiseCount_pending (id : Nat) (kv : List (String × Val)) (s : State) : (raiseCount id kv s).pending = s.pending := by
  simp [raiseCount]

@[simp] theorem State.setPort_regs (s : State) (p : Nat) (x : Port) : (s.setPort p x).regs = s.regs := by
  unfold State.setPort; split <;> rfl
@[simp] theorem State.setPort_pwr (s : State) (p : Nat) (x : Port) : (s.setPort p x).pwr = s.pwr := by
  unfold State.setPort; split <;> rfl
@[simp] theorem State.setPort_clk (s : State) (p : Nat) (x : Port) : (s.setPort p x).clk = s.clk := by
  unfold State.setPort; split <;> rfl
@[simp] theorem State.setPort_day (s : State) (p : Nat) (x : Port) : (s.setPort p x).day = s.day := by
  unfold State.setPort; split <;> rfl
@[simp] theorem State.setPort_line (s : State) (p : Nat) (x : Port) : (s.setPort p x).line = s.line := by
  unfold State.setPort; split <;> rfl
@[simp] theorem State.setPort_routes (s : State) (p : Nat) (x : Port) : (s.setPort p x).routes = s.routes := by
  unfold State.setPort; split <;> rfl
@[simp] theorem State.setPort_evt (s : State) (p : Nat) (x : Port) : (s.setPort p x).evt = s.evt := by
  unfold State.setPort; split <;> rfl
@[simp] theorem State.setPort_loop (s : State) (p : Nat) (x : Port) : (s.setPort p x).loop = s.loop := by
  unfold State.setPort; split <;> rfl
@[simp] theorem State.setPort_bridge (s : State) (p : Nat) (x : Port) : (s.setPort p x).bridge = s.bridge := by
  unfold State.setPort; split <;> rfl
@[simp] theorem State.setPort_boot (s : State) (p : Nat) (x : Port) : (s.setPort p x).boot = s.boot := by
  unfold State.setPort; split <;> rfl
@[simp] theorem State.setPort_sec (s : State) (p : Nat) (x : Port) : (s.setPort p x).sec = s.sec := by
  unfold State.setPort; split <;> rfl
@[simp] theorem State.setPort_mem (s : State) (p : Nat) (x : Port) : (s.setPort p x).mem = s.mem := by
  unfold State.setPort; split <;> rfl
@[simp] theorem State.setPort_sess (s : State) (p : Nat) (x : Port) : (s.setPort p x).sess = s.sess := by
  unfold State.setPort; split <;> rfl
@[simp] theorem State.setPort_nextSess (s : State) (p : Nat) (x : Port) : (s.setPort p x).nextSess = s.nextSess := by
  unfold State.setPort; split <;> rfl
@[simp] theorem State.setPort_kv (s : State) (p : Nat) (x : Port) : (s.setPort p x).kv = s.kv := by
  unfold State.setPort; split <;> rfl
@[simp] theorem State.setPort_colls (s : State) (p : Nat) (x : Port) : (s.setPort p x).colls = s.colls := by
  unfold State.setPort; split <;> rfl
@[simp] theorem State.setPort_collsDisk (s : State) (p : Nat) (x : Port) : (s.setPort p x).collsDisk = s.collsDisk := by
  unfold State.setPort; split <;> rfl
@[simp] theorem State.setPort_sweep (s : State) (p : Nat) (x : Port) : (s.setPort p x).sweep = s.sweep := by
  unfold State.setPort; split <;> rfl
@[simp] theorem State.setPort_assoc (s : State) (p : Nat) (x : Port) : (s.setPort p x).assoc = s.assoc := by
  unfold State.setPort; split <;> rfl
@[simp] theorem State.setPort_out (s : State) (p : Nat) (x : Port) : (s.setPort p x).out = s.out := by
  unfold State.setPort; split <;> rfl
@[simp] theorem State.setPort_freeCtr (s : State) (p : Nat) (x : Port) : (s.setPort p x).freeCtr = s.freeCtr := by
  unfold State.setPort; split <;> rfl
@[simp] theorem State.setPort_pending (s : State) (p : Nat) (x : Port) : (s.setPort p x).pending = s.pending := by
  unfold State.setPort; split <;> rfl

@[simp] theorem portSend_regs (p : Nat) (o : Output) (s : State) : (portSend p o s).regs = s.regs := by
  unfold portSend; split <;> simp [State.emit]
@[simp] theorem portSend_pwr (p : Nat) (o : Output) (s : State) : (portSend p o s).pwr = s.pwr := by
  unfold portSend; split <;> simp [State.emit]
@[simp] theorem portSend_clk (p : Nat) (o : Output) (s : State) : (portSend p o s).clk = s.clk := by
  unfold portSend; split <;> simp [State.emit]
@[simp] theorem portSend_day (p : Nat) (o : Output) (s : State) : (portSend p o s).day = s.day := by
  unfold portSend; split <;> simp [State.emit]
@[simp] theorem portSend_line (p : Nat) (o : Output) (s : State) : (portSend p o s).line = s.line := by
  unfold portSend; split <;> simp [State.emit]
@[simp] theorem portSend_routes (p : Nat) (o : Output) (s : State) : (portSend p o s).routes = s.routes := by
  unfold portSend; split <;> simp [State.emit]
@[simp] theorem portSend_evt (p : Nat) (o : Output) (s : State) : (portSend p o s).evt = s.evt := by
  unfold portSend; split <;> simp [State.emit]
@[simp] theorem portSend_loop (p : Nat) (o : Output) (s : State) : (portSend p o s).loop = s.loop := by
  unfold portSend; split <;> simp [State.emit]
@[simp] theorem portSend_bridge (p : Nat) (o : Output) (s : State) : (portSend p o s).bridge = s.bridge := by
  unfold portSend; split <;> simp [State.emit]
@[simp] theorem portSend_boot (p : Nat) (o : Output) (s : State) : (portSend p o s).boot = s.boot := by
  unfold portSend; split <;> simp [State.emit]
@[simp] theorem portSend_sec (p : Nat) (o : Output) (s : State) : (portSend p o s).sec = s.sec := by
  unfold portSend; split <;> simp [State.emit]
@[simp] theorem portSend_mem (p : Nat) (o : Output) (s : State) : (portSend p o s).mem = s.mem := by
  unfold portSend; split <;> simp [State.emit]
@[simp] theorem portSend_sess (p : Nat) (o : Output) (s : State) : (portSend p o s).sess = s.sess := by
  unfold portSend; split <;> simp [State.emit]
@[simp] theorem portSend_nextSess (p : Nat) (o : Output) (s : State) : (portSend p o s).nextSess = s.nextSess := by
  unfold portSend; split <;> simp [State.emit]
@[simp] theorem portSend_kv (p : Nat) (o : Output) (s : State) : (portSend p o s).kv = s.kv := by
  unfold portSend; split <;> simp [State.emit]
@[simp] theorem portSend_colls (p : Nat) (o : Output) (s : State) : (portSend p o s).colls = s.colls := by
  unfold portSend; split <;> simp [State.emit]
@[simp] theorem portSend_collsDisk (p : Nat) (o : Output) (s : State) : (portSend p o s).collsDisk = s.collsDisk := by
  unfold portSend; split <;> simp [State.emit]
@[simp] theorem portSend_sweep (p : Nat) (o : Output) (s : State) : (portSend p o s).sweep = s.sweep := by
  unfold portSend; split <;> simp [State.emit]
@[simp] theorem portSend_assoc (p : Nat) (o : Output) (s : State) : (portSend p o s).assoc = s.assoc := by
  unfold portSend; split <;> simp [State.emit]
@[simp] theorem portSend_freeCtr (p : Nat) (o : Output) (s : State) : (portSend p o s).freeCtr = s.freeCtr := by
  unfold portSend; split <;> simp [State.emit]
@[simp] theorem portSend_pending (p : Nat) (o : Output) (s : State) : (portSend p o s).pending = s.pending := by
  unfold portSend; split <;> simp [State.emit]
/-- What a port sends leaves at once while no PAUSE holds it (R301). -/
theorem portSend_free (p : Nat) (o : Output) (s : State) (h : (s.port p).pauseUntil ≤ s.now) : portSend p o s = s.emit o := by
  unfold portSend; rw [if_neg (by omega)]

@[simp] theorem tlsOut_regs (c : Nat) (o : Output) (s : State) : (tlsOut c o s).regs = s.regs := by
  unfold tlsOut; split <;> simp [State.emit]
@[simp] theorem tlsOut_pwr (c : Nat) (o : Output) (s : State) : (tlsOut c o s).pwr = s.pwr := by
  unfold tlsOut; split <;> simp [State.emit]
@[simp] theorem tlsOut_clk (c : Nat) (o : Output) (s : State) : (tlsOut c o s).clk = s.clk := by
  unfold tlsOut; split <;> simp [State.emit]
@[simp] theorem tlsOut_day (c : Nat) (o : Output) (s : State) : (tlsOut c o s).day = s.day := by
  unfold tlsOut; split <;> simp [State.emit]
@[simp] theorem tlsOut_line (c : Nat) (o : Output) (s : State) : (tlsOut c o s).line = s.line := by
  unfold tlsOut; split <;> simp [State.emit]
@[simp] theorem tlsOut_routes (c : Nat) (o : Output) (s : State) : (tlsOut c o s).routes = s.routes := by
  unfold tlsOut; split <;> simp [State.emit]
@[simp] theorem tlsOut_evt (c : Nat) (o : Output) (s : State) : (tlsOut c o s).evt = s.evt := by
  unfold tlsOut; split <;> simp [State.emit]
@[simp] theorem tlsOut_loop (c : Nat) (o : Output) (s : State) : (tlsOut c o s).loop = s.loop := by
  unfold tlsOut; split <;> simp [State.emit]
@[simp] theorem tlsOut_bridge (c : Nat) (o : Output) (s : State) : (tlsOut c o s).bridge = s.bridge := by
  unfold tlsOut; split <;> simp [State.emit]
@[simp] theorem tlsOut_boot (c : Nat) (o : Output) (s : State) : (tlsOut c o s).boot = s.boot := by
  unfold tlsOut; split <;> simp [State.emit]
@[simp] theorem tlsOut_sec (c : Nat) (o : Output) (s : State) : (tlsOut c o s).sec = s.sec := by
  unfold tlsOut; split <;> simp [State.emit]
@[simp] theorem tlsOut_mem (c : Nat) (o : Output) (s : State) : (tlsOut c o s).mem = s.mem := by
  unfold tlsOut; split <;> simp [State.emit]
@[simp] theorem tlsOut_sess (c : Nat) (o : Output) (s : State) : (tlsOut c o s).sess = s.sess := by
  unfold tlsOut; split <;> simp [State.emit]
@[simp] theorem tlsOut_nextSess (c : Nat) (o : Output) (s : State) : (tlsOut c o s).nextSess = s.nextSess := by
  unfold tlsOut; split <;> simp [State.emit]
@[simp] theorem tlsOut_kv (c : Nat) (o : Output) (s : State) : (tlsOut c o s).kv = s.kv := by
  unfold tlsOut; split <;> simp [State.emit]
@[simp] theorem tlsOut_colls (c : Nat) (o : Output) (s : State) : (tlsOut c o s).colls = s.colls := by
  unfold tlsOut; split <;> simp [State.emit]
@[simp] theorem tlsOut_collsDisk (c : Nat) (o : Output) (s : State) : (tlsOut c o s).collsDisk = s.collsDisk := by
  unfold tlsOut; split <;> simp [State.emit]
@[simp] theorem tlsOut_sweep (c : Nat) (o : Output) (s : State) : (tlsOut c o s).sweep = s.sweep := by
  unfold tlsOut; split <;> simp [State.emit]
@[simp] theorem tlsOut_assoc (c : Nat) (o : Output) (s : State) : (tlsOut c o s).assoc = s.assoc := by
  unfold tlsOut; split <;> simp [State.emit]
@[simp] theorem tlsOut_freeCtr (c : Nat) (o : Output) (s : State) : (tlsOut c o s).freeCtr = s.freeCtr := by
  unfold tlsOut; split <;> simp [State.emit]
@[simp] theorem tlsOut_pending (c : Nat) (o : Output) (s : State) : (tlsOut c o s).pending = s.pending := by
  unfold tlsOut; split <;> simp [State.emit]

@[simp] theorem State.setTls_regs (s : State) (x : TlsConn) : (s.setTls x).regs = s.regs := rfl
@[simp] theorem State.setTls_pwr (s : State) (x : TlsConn) : (s.setTls x).pwr = s.pwr := rfl
@[simp] theorem State.setTls_clk (s : State) (x : TlsConn) : (s.setTls x).clk = s.clk := rfl
@[simp] theorem State.setTls_day (s : State) (x : TlsConn) : (s.setTls x).day = s.day := rfl
@[simp] theorem State.setTls_line (s : State) (x : TlsConn) : (s.setTls x).line = s.line := rfl
@[simp] theorem State.setTls_routes (s : State) (x : TlsConn) : (s.setTls x).routes = s.routes := rfl
@[simp] theorem State.setTls_evt (s : State) (x : TlsConn) : (s.setTls x).evt = s.evt := rfl
@[simp] theorem State.setTls_loop (s : State) (x : TlsConn) : (s.setTls x).loop = s.loop := rfl
@[simp] theorem State.setTls_bridge (s : State) (x : TlsConn) : (s.setTls x).bridge = s.bridge := rfl
@[simp] theorem State.setTls_boot (s : State) (x : TlsConn) : (s.setTls x).boot = s.boot := rfl
@[simp] theorem State.setTls_sec (s : State) (x : TlsConn) : (s.setTls x).sec = s.sec := rfl
@[simp] theorem State.setTls_mem (s : State) (x : TlsConn) : (s.setTls x).mem = s.mem := rfl
@[simp] theorem State.setTls_sess (s : State) (x : TlsConn) : (s.setTls x).sess = s.sess := rfl
@[simp] theorem State.setTls_nextSess (s : State) (x : TlsConn) : (s.setTls x).nextSess = s.nextSess := rfl
@[simp] theorem State.setTls_kv (s : State) (x : TlsConn) : (s.setTls x).kv = s.kv := rfl
@[simp] theorem State.setTls_colls (s : State) (x : TlsConn) : (s.setTls x).colls = s.colls := rfl
@[simp] theorem State.setTls_collsDisk (s : State) (x : TlsConn) : (s.setTls x).collsDisk = s.collsDisk := rfl
@[simp] theorem State.setTls_sweep (s : State) (x : TlsConn) : (s.setTls x).sweep = s.sweep := rfl
@[simp] theorem State.setTls_assoc (s : State) (x : TlsConn) : (s.setTls x).assoc = s.assoc := rfl
@[simp] theorem State.setTls_out (s : State) (x : TlsConn) : (s.setTls x).out = s.out := rfl
@[simp] theorem State.setTls_freeCtr (s : State) (x : TlsConn) : (s.setTls x).freeCtr = s.freeCtr := rfl
@[simp] theorem State.setTls_pending (s : State) (x : TlsConn) : (s.setTls x).pending = s.pending := rfl

@[simp] theorem sendKeyUpdate_pwr (n p : Nat) (b : Bool) (s : State) : (sendKeyUpdate n p b s).pwr = s.pwr := by
  simp [sendKeyUpdate]
@[simp] theorem sendKeyUpdate_clk (n p : Nat) (b : Bool) (s : State) : (sendKeyUpdate n p b s).clk = s.clk := by
  simp [sendKeyUpdate]
@[simp] theorem sendKeyUpdate_day (n p : Nat) (b : Bool) (s : State) : (sendKeyUpdate n p b s).day = s.day := by
  simp [sendKeyUpdate]
@[simp] theorem sendKeyUpdate_line (n p : Nat) (b : Bool) (s : State) : (sendKeyUpdate n p b s).line = s.line := by
  simp [sendKeyUpdate]
@[simp] theorem sendKeyUpdate_bridge (n p : Nat) (b : Bool) (s : State) : (sendKeyUpdate n p b s).bridge = s.bridge := by
  simp [sendKeyUpdate]
@[simp] theorem sendKeyUpdate_boot (n p : Nat) (b : Bool) (s : State) : (sendKeyUpdate n p b s).boot = s.boot := by
  simp [sendKeyUpdate]
@[simp] theorem sendKeyUpdate_sec (n p : Nat) (b : Bool) (s : State) : (sendKeyUpdate n p b s).sec = s.sec := by
  simp [sendKeyUpdate]
@[simp] theorem sendKeyUpdate_mem (n p : Nat) (b : Bool) (s : State) : (sendKeyUpdate n p b s).mem = s.mem := by
  simp [sendKeyUpdate]
@[simp] theorem sendKeyUpdate_nextSess (n p : Nat) (b : Bool) (s : State) : (sendKeyUpdate n p b s).nextSess = s.nextSess := by
  simp [sendKeyUpdate]
@[simp] theorem sendKeyUpdate_kv (n p : Nat) (b : Bool) (s : State) : (sendKeyUpdate n p b s).kv = s.kv := by
  simp [sendKeyUpdate]
@[simp] theorem sendKeyUpdate_colls (n p : Nat) (b : Bool) (s : State) : (sendKeyUpdate n p b s).colls = s.colls := by
  simp [sendKeyUpdate]
@[simp] theorem sendKeyUpdate_collsDisk (n p : Nat) (b : Bool) (s : State) : (sendKeyUpdate n p b s).collsDisk = s.collsDisk := by
  simp [sendKeyUpdate]
@[simp] theorem sendKeyUpdate_sweep (n p : Nat) (b : Bool) (s : State) : (sendKeyUpdate n p b s).sweep = s.sweep := by
  simp [sendKeyUpdate]
@[simp] theorem sendKeyUpdate_assoc (n p : Nat) (b : Bool) (s : State) : (sendKeyUpdate n p b s).assoc = s.assoc := by
  simp [sendKeyUpdate]
@[simp] theorem sendKeyUpdate_freeCtr (n p : Nat) (b : Bool) (s : State) : (sendKeyUpdate n p b s).freeCtr = s.freeCtr := by
  simp [sendKeyUpdate]
@[simp] theorem sendKeyUpdate_pending (n p : Nat) (b : Bool) (s : State) : (sendKeyUpdate n p b s).pending = s.pending := by
  simp [sendKeyUpdate]

@[simp] theorem tlsKeyUpdate_pwr (c : Nat) (b : Bool) (s : State) : (tlsKeyUpdate c b s).pwr = s.pwr := by
  unfold tlsKeyUpdate; (repeat' split) <;> simp
@[simp] theorem tlsKeyUpdate_clk (c : Nat) (b : Bool) (s : State) : (tlsKeyUpdate c b s).clk = s.clk := by
  unfold tlsKeyUpdate; (repeat' split) <;> simp
@[simp] theorem tlsKeyUpdate_day (c : Nat) (b : Bool) (s : State) : (tlsKeyUpdate c b s).day = s.day := by
  unfold tlsKeyUpdate; (repeat' split) <;> simp
@[simp] theorem tlsKeyUpdate_line (c : Nat) (b : Bool) (s : State) : (tlsKeyUpdate c b s).line = s.line := by
  unfold tlsKeyUpdate; (repeat' split) <;> simp
@[simp] theorem tlsKeyUpdate_bridge (c : Nat) (b : Bool) (s : State) : (tlsKeyUpdate c b s).bridge = s.bridge := by
  unfold tlsKeyUpdate; (repeat' split) <;> simp
@[simp] theorem tlsKeyUpdate_boot (c : Nat) (b : Bool) (s : State) : (tlsKeyUpdate c b s).boot = s.boot := by
  unfold tlsKeyUpdate; (repeat' split) <;> simp
@[simp] theorem tlsKeyUpdate_sec (c : Nat) (b : Bool) (s : State) : (tlsKeyUpdate c b s).sec = s.sec := by
  unfold tlsKeyUpdate; (repeat' split) <;> simp
@[simp] theorem tlsKeyUpdate_mem (c : Nat) (b : Bool) (s : State) : (tlsKeyUpdate c b s).mem = s.mem := by
  unfold tlsKeyUpdate; (repeat' split) <;> simp
@[simp] theorem tlsKeyUpdate_nextSess (c : Nat) (b : Bool) (s : State) : (tlsKeyUpdate c b s).nextSess = s.nextSess := by
  unfold tlsKeyUpdate; (repeat' split) <;> simp
@[simp] theorem tlsKeyUpdate_kv (c : Nat) (b : Bool) (s : State) : (tlsKeyUpdate c b s).kv = s.kv := by
  unfold tlsKeyUpdate; (repeat' split) <;> simp
@[simp] theorem tlsKeyUpdate_colls (c : Nat) (b : Bool) (s : State) : (tlsKeyUpdate c b s).colls = s.colls := by
  unfold tlsKeyUpdate; (repeat' split) <;> simp
@[simp] theorem tlsKeyUpdate_collsDisk (c : Nat) (b : Bool) (s : State) : (tlsKeyUpdate c b s).collsDisk = s.collsDisk := by
  unfold tlsKeyUpdate; (repeat' split) <;> simp
@[simp] theorem tlsKeyUpdate_sweep (c : Nat) (b : Bool) (s : State) : (tlsKeyUpdate c b s).sweep = s.sweep := by
  unfold tlsKeyUpdate; (repeat' split) <;> simp
@[simp] theorem tlsKeyUpdate_assoc (c : Nat) (b : Bool) (s : State) : (tlsKeyUpdate c b s).assoc = s.assoc := by
  unfold tlsKeyUpdate; (repeat' split) <;> simp
@[simp] theorem tlsKeyUpdate_freeCtr (c : Nat) (b : Bool) (s : State) : (tlsKeyUpdate c b s).freeCtr = s.freeCtr := by
  unfold tlsKeyUpdate; (repeat' split) <;> simp
@[simp] theorem tlsKeyUpdate_pending (c : Nat) (b : Bool) (s : State) : (tlsKeyUpdate c b s).pending = s.pending := by
  unfold tlsKeyUpdate; (repeat' split) <;> simp

@[simp] theorem tlsSend_pwr (c : Nat) (o : Output) (s : State) : (tlsSend c o s).pwr = s.pwr := by
  unfold tlsSend; dsimp only; (repeat' split) <;> simp
@[simp] theorem tlsSend_clk (c : Nat) (o : Output) (s : State) : (tlsSend c o s).clk = s.clk := by
  unfold tlsSend; dsimp only; (repeat' split) <;> simp
@[simp] theorem tlsSend_day (c : Nat) (o : Output) (s : State) : (tlsSend c o s).day = s.day := by
  unfold tlsSend; dsimp only; (repeat' split) <;> simp
@[simp] theorem tlsSend_line (c : Nat) (o : Output) (s : State) : (tlsSend c o s).line = s.line := by
  unfold tlsSend; dsimp only; (repeat' split) <;> simp
@[simp] theorem tlsSend_bridge (c : Nat) (o : Output) (s : State) : (tlsSend c o s).bridge = s.bridge := by
  unfold tlsSend; dsimp only; (repeat' split) <;> simp
@[simp] theorem tlsSend_boot (c : Nat) (o : Output) (s : State) : (tlsSend c o s).boot = s.boot := by
  unfold tlsSend; dsimp only; (repeat' split) <;> simp
@[simp] theorem tlsSend_sec (c : Nat) (o : Output) (s : State) : (tlsSend c o s).sec = s.sec := by
  unfold tlsSend; dsimp only; (repeat' split) <;> simp
@[simp] theorem tlsSend_mem (c : Nat) (o : Output) (s : State) : (tlsSend c o s).mem = s.mem := by
  unfold tlsSend; dsimp only; (repeat' split) <;> simp
@[simp] theorem tlsSend_nextSess (c : Nat) (o : Output) (s : State) : (tlsSend c o s).nextSess = s.nextSess := by
  unfold tlsSend; dsimp only; (repeat' split) <;> simp
@[simp] theorem tlsSend_kv (c : Nat) (o : Output) (s : State) : (tlsSend c o s).kv = s.kv := by
  unfold tlsSend; dsimp only; (repeat' split) <;> simp
@[simp] theorem tlsSend_colls (c : Nat) (o : Output) (s : State) : (tlsSend c o s).colls = s.colls := by
  unfold tlsSend; dsimp only; (repeat' split) <;> simp
@[simp] theorem tlsSend_collsDisk (c : Nat) (o : Output) (s : State) : (tlsSend c o s).collsDisk = s.collsDisk := by
  unfold tlsSend; dsimp only; (repeat' split) <;> simp
@[simp] theorem tlsSend_sweep (c : Nat) (o : Output) (s : State) : (tlsSend c o s).sweep = s.sweep := by
  unfold tlsSend; dsimp only; (repeat' split) <;> simp
@[simp] theorem tlsSend_assoc (c : Nat) (o : Output) (s : State) : (tlsSend c o s).assoc = s.assoc := by
  unfold tlsSend; dsimp only; (repeat' split) <;> simp
@[simp] theorem tlsSend_freeCtr (c : Nat) (o : Output) (s : State) : (tlsSend c o s).freeCtr = s.freeCtr := by
  unfold tlsSend; dsimp only; (repeat' split) <;> simp
@[simp] theorem tlsSend_pending (c : Nat) (o : Output) (s : State) : (tlsSend c o s).pending = s.pending := by
  unfold tlsSend; dsimp only; (repeat' split) <;> simp

/-- A fold of sends keeps a reading that one send keeps. -/
theorem sends_keep {β : Type} (f : State → β) (p : Nat) (g : Text → Output) (h : ∀ o s, f (portSend p o s) = f s) (l : List Text)
    (s : State) : f (l.foldl (fun s t => portSend p (g t) s) s) = f s := by
  induction l generalizing s with
  | nil => rfl
  | cons x xs ih => rw [List.foldl_cons, ih, h]
@[simp] theorem sendSegs_pwr (n : Nat) (l : List Text) (s : State) : (sendSegs n l s).pwr = s.pwr := by
  unfold sendSegs; split
  · rfl
  · dsimp only; (repeat' split) <;> simp [sends_keep (·.pwr)]
@[simp] theorem sendSegs_clk (n : Nat) (l : List Text) (s : State) : (sendSegs n l s).clk = s.clk := by
  unfold sendSegs; split
  · rfl
  · dsimp only; (repeat' split) <;> simp [sends_keep (·.clk)]
@[simp] theorem sendSegs_day (n : Nat) (l : List Text) (s : State) : (sendSegs n l s).day = s.day := by
  unfold sendSegs; split
  · rfl
  · dsimp only; (repeat' split) <;> simp [sends_keep (·.day)]
@[simp] theorem sendSegs_line (n : Nat) (l : List Text) (s : State) : (sendSegs n l s).line = s.line := by
  unfold sendSegs; split
  · rfl
  · dsimp only; (repeat' split) <;> simp [sends_keep (·.line)]
@[simp] theorem sendSegs_bridge (n : Nat) (l : List Text) (s : State) : (sendSegs n l s).bridge = s.bridge := by
  unfold sendSegs; split
  · rfl
  · dsimp only; (repeat' split) <;> simp [sends_keep (·.bridge)]
@[simp] theorem sendSegs_boot (n : Nat) (l : List Text) (s : State) : (sendSegs n l s).boot = s.boot := by
  unfold sendSegs; split
  · rfl
  · dsimp only; (repeat' split) <;> simp [sends_keep (·.boot)]
@[simp] theorem sendSegs_sec (n : Nat) (l : List Text) (s : State) : (sendSegs n l s).sec = s.sec := by
  unfold sendSegs; split
  · rfl
  · dsimp only; (repeat' split) <;> simp [sends_keep (·.sec)]
@[simp] theorem sendSegs_mem (n : Nat) (l : List Text) (s : State) : (sendSegs n l s).mem = s.mem := by
  unfold sendSegs; split
  · rfl
  · dsimp only; (repeat' split) <;> simp [sends_keep (·.mem)]
@[simp] theorem sendSegs_nextSess (n : Nat) (l : List Text) (s : State) : (sendSegs n l s).nextSess = s.nextSess := by
  unfold sendSegs; split
  · rfl
  · dsimp only; (repeat' split) <;> simp [sends_keep (·.nextSess)]
@[simp] theorem sendSegs_kv (n : Nat) (l : List Text) (s : State) : (sendSegs n l s).kv = s.kv := by
  unfold sendSegs; split
  · rfl
  · dsimp only; (repeat' split) <;> simp [sends_keep (·.kv)]
@[simp] theorem sendSegs_colls (n : Nat) (l : List Text) (s : State) : (sendSegs n l s).colls = s.colls := by
  unfold sendSegs; split
  · rfl
  · dsimp only; (repeat' split) <;> simp [sends_keep (·.colls)]
@[simp] theorem sendSegs_collsDisk (n : Nat) (l : List Text) (s : State) : (sendSegs n l s).collsDisk = s.collsDisk := by
  unfold sendSegs; split
  · rfl
  · dsimp only; (repeat' split) <;> simp [sends_keep (·.collsDisk)]
@[simp] theorem sendSegs_sweep (n : Nat) (l : List Text) (s : State) : (sendSegs n l s).sweep = s.sweep := by
  unfold sendSegs; split
  · rfl
  · dsimp only; (repeat' split) <;> simp [sends_keep (·.sweep)]
@[simp] theorem sendSegs_assoc (n : Nat) (l : List Text) (s : State) : (sendSegs n l s).assoc = s.assoc := by
  unfold sendSegs; split
  · rfl
  · dsimp only; (repeat' split) <;> simp [sends_keep (·.assoc)]
@[simp] theorem sendSegs_freeCtr (n : Nat) (l : List Text) (s : State) : (sendSegs n l s).freeCtr = s.freeCtr := by
  unfold sendSegs; split
  · rfl
  · dsimp only; (repeat' split) <;> simp [sends_keep (·.freeCtr)]
@[simp] theorem sendSegs_pending (n : Nat) (l : List Text) (s : State) : (sendSegs n l s).pending = s.pending := by
  unfold sendSegs; split
  · rfl
  · dsimp only; (repeat' split) <;> simp [sends_keep (·.pending)]

@[simp] theorem sendResponse_pwr (n op fl id st : Nat) (b : Text) (s : State) : (sendResponse n op fl id st b s).pwr = s.pwr := by
  unfold sendResponse; split
  · rfl
  · dsimp only; repeat' split
    all_goals simp
@[simp] theorem sendResponse_clk (n op fl id st : Nat) (b : Text) (s : State) : (sendResponse n op fl id st b s).clk = s.clk := by
  unfold sendResponse; split
  · rfl
  · dsimp only; repeat' split
    all_goals simp
@[simp] theorem sendResponse_day (n op fl id st : Nat) (b : Text) (s : State) : (sendResponse n op fl id st b s).day = s.day := by
  unfold sendResponse; split
  · rfl
  · dsimp only; repeat' split
    all_goals simp
@[simp] theorem sendResponse_line (n op fl id st : Nat) (b : Text) (s : State) : (sendResponse n op fl id st b s).line = s.line := by
  unfold sendResponse; split
  · rfl
  · dsimp only; repeat' split
    all_goals simp
@[simp] theorem sendResponse_bridge (n op fl id st : Nat) (b : Text) (s : State) : (sendResponse n op fl id st b s).bridge = s.bridge := by
  unfold sendResponse; split
  · rfl
  · dsimp only; repeat' split
    all_goals simp
@[simp] theorem sendResponse_boot (n op fl id st : Nat) (b : Text) (s : State) : (sendResponse n op fl id st b s).boot = s.boot := by
  unfold sendResponse; split
  · rfl
  · dsimp only; repeat' split
    all_goals simp
@[simp] theorem sendResponse_sec (n op fl id st : Nat) (b : Text) (s : State) : (sendResponse n op fl id st b s).sec = s.sec := by
  unfold sendResponse; split
  · rfl
  · dsimp only; repeat' split
    all_goals simp
@[simp] theorem sendResponse_mem (n op fl id st : Nat) (b : Text) (s : State) : (sendResponse n op fl id st b s).mem = s.mem := by
  unfold sendResponse; split
  · rfl
  · dsimp only; repeat' split
    all_goals simp
@[simp] theorem sendResponse_nextSess (n op fl id st : Nat) (b : Text) (s : State) : (sendResponse n op fl id st b s).nextSess = s.nextSess := by
  unfold sendResponse; split
  · rfl
  · dsimp only; repeat' split
    all_goals simp
@[simp] theorem sendResponse_kv (n op fl id st : Nat) (b : Text) (s : State) : (sendResponse n op fl id st b s).kv = s.kv := by
  unfold sendResponse; split
  · rfl
  · dsimp only; repeat' split
    all_goals simp
@[simp] theorem sendResponse_colls (n op fl id st : Nat) (b : Text) (s : State) : (sendResponse n op fl id st b s).colls = s.colls := by
  unfold sendResponse; split
  · rfl
  · dsimp only; repeat' split
    all_goals simp
@[simp] theorem sendResponse_collsDisk (n op fl id st : Nat) (b : Text) (s : State) : (sendResponse n op fl id st b s).collsDisk = s.collsDisk := by
  unfold sendResponse; split
  · rfl
  · dsimp only; repeat' split
    all_goals simp
@[simp] theorem sendResponse_sweep (n op fl id st : Nat) (b : Text) (s : State) : (sendResponse n op fl id st b s).sweep = s.sweep := by
  unfold sendResponse; split
  · rfl
  · dsimp only; repeat' split
    all_goals simp
@[simp] theorem sendResponse_assoc (n op fl id st : Nat) (b : Text) (s : State) : (sendResponse n op fl id st b s).assoc = s.assoc := by
  unfold sendResponse; split
  · rfl
  · dsimp only; repeat' split
    all_goals simp
@[simp] theorem sendResponse_freeCtr (n op fl id st : Nat) (b : Text) (s : State) : (sendResponse n op fl id st b s).freeCtr = s.freeCtr := by
  unfold sendResponse; split
  · rfl
  · dsimp only; repeat' split
    all_goals simp
@[simp] theorem sendResponse_pending (n op fl id st : Nat) (b : Text) (s : State) : (sendResponse n op fl id st b s).pending = s.pending := by
  unfold sendResponse; split
  · rfl
  · dsimp only; repeat' split
    all_goals simp

@[simp] theorem respond_pwr (n id op st : Nat) (b : Text) (ver : Nat) (s : State) : (respond n id op st b ver s).pwr = s.pwr := by
  unfold respond; split
  · rfl
  · dsimp only; repeat' split
    all_goals simp
@[simp] theorem respond_clk (n id op st : Nat) (b : Text) (ver : Nat) (s : State) : (respond n id op st b ver s).clk = s.clk := by
  unfold respond; split
  · rfl
  · dsimp only; repeat' split
    all_goals simp
@[simp] theorem respond_day (n id op st : Nat) (b : Text) (ver : Nat) (s : State) : (respond n id op st b ver s).day = s.day := by
  unfold respond; split
  · rfl
  · dsimp only; repeat' split
    all_goals simp
@[simp] theorem respond_line (n id op st : Nat) (b : Text) (ver : Nat) (s : State) : (respond n id op st b ver s).line = s.line := by
  unfold respond; split
  · rfl
  · dsimp only; repeat' split
    all_goals simp
@[simp] theorem respond_bridge (n id op st : Nat) (b : Text) (ver : Nat) (s : State) : (respond n id op st b ver s).bridge = s.bridge := by
  unfold respond; split
  · rfl
  · dsimp only; repeat' split
    all_goals simp
@[simp] theorem respond_boot (n id op st : Nat) (b : Text) (ver : Nat) (s : State) : (respond n id op st b ver s).boot = s.boot := by
  unfold respond; split
  · rfl
  · dsimp only; repeat' split
    all_goals simp
@[simp] theorem respond_sec (n id op st : Nat) (b : Text) (ver : Nat) (s : State) : (respond n id op st b ver s).sec = s.sec := by
  unfold respond; split
  · rfl
  · dsimp only; repeat' split
    all_goals simp
@[simp] theorem respond_mem (n id op st : Nat) (b : Text) (ver : Nat) (s : State) : (respond n id op st b ver s).mem = s.mem := by
  unfold respond; split
  · rfl
  · dsimp only; repeat' split
    all_goals simp
@[simp] theorem respond_nextSess (n id op st : Nat) (b : Text) (ver : Nat) (s : State) : (respond n id op st b ver s).nextSess = s.nextSess := by
  unfold respond; split
  · rfl
  · dsimp only; repeat' split
    all_goals simp
@[simp] theorem respond_kv (n id op st : Nat) (b : Text) (ver : Nat) (s : State) : (respond n id op st b ver s).kv = s.kv := by
  unfold respond; split
  · rfl
  · dsimp only; repeat' split
    all_goals simp
@[simp] theorem respond_colls (n id op st : Nat) (b : Text) (ver : Nat) (s : State) : (respond n id op st b ver s).colls = s.colls := by
  unfold respond; split
  · rfl
  · dsimp only; repeat' split
    all_goals simp
@[simp] theorem respond_collsDisk (n id op st : Nat) (b : Text) (ver : Nat) (s : State) : (respond n id op st b ver s).collsDisk = s.collsDisk := by
  unfold respond; split
  · rfl
  · dsimp only; repeat' split
    all_goals simp
@[simp] theorem respond_sweep (n id op st : Nat) (b : Text) (ver : Nat) (s : State) : (respond n id op st b ver s).sweep = s.sweep := by
  unfold respond; split
  · rfl
  · dsimp only; repeat' split
    all_goals simp
@[simp] theorem respond_assoc (n id op st : Nat) (b : Text) (ver : Nat) (s : State) : (respond n id op st b ver s).assoc = s.assoc := by
  unfold respond; split
  · rfl
  · dsimp only; repeat' split
    all_goals simp
@[simp] theorem respond_freeCtr (n id op st : Nat) (b : Text) (ver : Nat) (s : State) : (respond n id op st b ver s).freeCtr = s.freeCtr := by
  unfold respond; split
  · rfl
  · dsimp only; repeat' split
    all_goals simp
@[simp] theorem respond_pending (n id op st : Nat) (b : Text) (ver : Nat) (s : State) : (respond n id op st b ver s).pending = s.pending := by
  unfold respond; split
  · rfl
  · dsimp only; repeat' split
    all_goals simp

@[simp] theorem refuseEarly_pwr (n op id st : Nat) (b : Text) (s : State) : (refuseEarly n op id st b s).pwr = s.pwr := by
  unfold refuseEarly; split <;> simp
@[simp] theorem refuseEarly_clk (n op id st : Nat) (b : Text) (s : State) : (refuseEarly n op id st b s).clk = s.clk := by
  unfold refuseEarly; split <;> simp
@[simp] theorem refuseEarly_day (n op id st : Nat) (b : Text) (s : State) : (refuseEarly n op id st b s).day = s.day := by
  unfold refuseEarly; split <;> simp
@[simp] theorem refuseEarly_line (n op id st : Nat) (b : Text) (s : State) : (refuseEarly n op id st b s).line = s.line := by
  unfold refuseEarly; split <;> simp
@[simp] theorem refuseEarly_bridge (n op id st : Nat) (b : Text) (s : State) : (refuseEarly n op id st b s).bridge = s.bridge := by
  unfold refuseEarly; split <;> simp
@[simp] theorem refuseEarly_boot (n op id st : Nat) (b : Text) (s : State) : (refuseEarly n op id st b s).boot = s.boot := by
  unfold refuseEarly; split <;> simp
@[simp] theorem refuseEarly_sec (n op id st : Nat) (b : Text) (s : State) : (refuseEarly n op id st b s).sec = s.sec := by
  unfold refuseEarly; split <;> simp
@[simp] theorem refuseEarly_mem (n op id st : Nat) (b : Text) (s : State) : (refuseEarly n op id st b s).mem = s.mem := by
  unfold refuseEarly; split <;> simp
@[simp] theorem refuseEarly_nextSess (n op id st : Nat) (b : Text) (s : State) : (refuseEarly n op id st b s).nextSess = s.nextSess := by
  unfold refuseEarly; split <;> simp
@[simp] theorem refuseEarly_kv (n op id st : Nat) (b : Text) (s : State) : (refuseEarly n op id st b s).kv = s.kv := by
  unfold refuseEarly; split <;> simp
@[simp] theorem refuseEarly_colls (n op id st : Nat) (b : Text) (s : State) : (refuseEarly n op id st b s).colls = s.colls := by
  unfold refuseEarly; split <;> simp
@[simp] theorem refuseEarly_collsDisk (n op id st : Nat) (b : Text) (s : State) : (refuseEarly n op id st b s).collsDisk = s.collsDisk := by
  unfold refuseEarly; split <;> simp
@[simp] theorem refuseEarly_sweep (n op id st : Nat) (b : Text) (s : State) : (refuseEarly n op id st b s).sweep = s.sweep := by
  unfold refuseEarly; split <;> simp
@[simp] theorem refuseEarly_assoc (n op id st : Nat) (b : Text) (s : State) : (refuseEarly n op id st b s).assoc = s.assoc := by
  unfold refuseEarly; split <;> simp
@[simp] theorem refuseEarly_freeCtr (n op id st : Nat) (b : Text) (s : State) : (refuseEarly n op id st b s).freeCtr = s.freeCtr := by
  unfold refuseEarly; split <;> simp
@[simp] theorem refuseEarly_pending (n op id st : Nat) (b : Text) (s : State) : (refuseEarly n op id st b s).pending = s.pending := by
  unfold refuseEarly; split <;> simp

@[simp] theorem reply_pwr (r : Route) (c : Nat) (kv : List (String × Val)) (s : State) : (reply r c kv s).pwr = s.pwr := by
  unfold reply; split
  · dsimp only; (repeat' split) <;> simp
  · dsimp only; split <;> simp
  · simp
@[simp] theorem reply_clk (r : Route) (c : Nat) (kv : List (String × Val)) (s : State) : (reply r c kv s).clk = s.clk := by
  unfold reply; split
  · dsimp only; (repeat' split) <;> simp
  · dsimp only; split <;> simp
  · simp
@[simp] theorem reply_day (r : Route) (c : Nat) (kv : List (String × Val)) (s : State) : (reply r c kv s).day = s.day := by
  unfold reply; split
  · dsimp only; (repeat' split) <;> simp
  · dsimp only; split <;> simp
  · simp
@[simp] theorem reply_bridge (r : Route) (c : Nat) (kv : List (String × Val)) (s : State) : (reply r c kv s).bridge = s.bridge := by
  unfold reply; split
  · dsimp only; (repeat' split) <;> simp
  · dsimp only; split <;> simp
  · simp
@[simp] theorem reply_boot (r : Route) (c : Nat) (kv : List (String × Val)) (s : State) : (reply r c kv s).boot = s.boot := by
  unfold reply; split
  · dsimp only; (repeat' split) <;> simp
  · dsimp only; split <;> simp
  · simp
@[simp] theorem reply_sec (r : Route) (c : Nat) (kv : List (String × Val)) (s : State) : (reply r c kv s).sec = s.sec := by
  unfold reply; split
  · dsimp only; (repeat' split) <;> simp
  · dsimp only; split <;> simp
  · simp
@[simp] theorem reply_mem (r : Route) (c : Nat) (kv : List (String × Val)) (s : State) : (reply r c kv s).mem = s.mem := by
  unfold reply; split
  · dsimp only; (repeat' split) <;> simp
  · dsimp only; split <;> simp
  · simp
@[simp] theorem reply_nextSess (r : Route) (c : Nat) (kv : List (String × Val)) (s : State) : (reply r c kv s).nextSess = s.nextSess := by
  unfold reply; split
  · dsimp only; (repeat' split) <;> simp
  · dsimp only; split <;> simp
  · simp
@[simp] theorem reply_kv (r : Route) (c : Nat) (kv : List (String × Val)) (s : State) : (reply r c kv s).kv = s.kv := by
  unfold reply; split
  · dsimp only; (repeat' split) <;> simp
  · dsimp only; split <;> simp
  · simp
@[simp] theorem reply_colls (r : Route) (c : Nat) (kv : List (String × Val)) (s : State) : (reply r c kv s).colls = s.colls := by
  unfold reply; split
  · dsimp only; (repeat' split) <;> simp
  · dsimp only; split <;> simp
  · simp
@[simp] theorem reply_collsDisk (r : Route) (c : Nat) (kv : List (String × Val)) (s : State) : (reply r c kv s).collsDisk = s.collsDisk := by
  unfold reply; split
  · dsimp only; (repeat' split) <;> simp
  · dsimp only; split <;> simp
  · simp
@[simp] theorem reply_sweep (r : Route) (c : Nat) (kv : List (String × Val)) (s : State) : (reply r c kv s).sweep = s.sweep := by
  unfold reply; split
  · dsimp only; (repeat' split) <;> simp
  · dsimp only; split <;> simp
  · simp
@[simp] theorem reply_assoc (r : Route) (c : Nat) (kv : List (String × Val)) (s : State) : (reply r c kv s).assoc = s.assoc := by
  unfold reply; split
  · dsimp only; (repeat' split) <;> simp
  · dsimp only; split <;> simp
  · simp
@[simp] theorem reply_freeCtr (r : Route) (c : Nat) (kv : List (String × Val)) (s : State) : (reply r c kv s).freeCtr = s.freeCtr := by
  unfold reply; split
  · dsimp only; (repeat' split) <;> simp
  · dsimp only; split <;> simp
  · simp
@[simp] theorem reply_pending (r : Route) (c : Nat) (kv : List (String × Val)) (s : State) : (reply r c kv s).pending = s.pending := by
  unfold reply; split
  · dsimp only; (repeat' split) <;> simp
  · dsimp only; split <;> simp
  · simp

@[simp] theorem done_pwr (r : Route) (kv : List (String × Val)) (s : State) : (done r kv s).pwr = s.pwr := by
  simp [done]
@[simp] theorem done_clk (r : Route) (kv : List (String × Val)) (s : State) : (done r kv s).clk = s.clk := by
  simp [done]
@[simp] theorem done_day (r : Route) (kv : List (String × Val)) (s : State) : (done r kv s).day = s.day := by
  simp [done]
@[simp] theorem done_bridge (r : Route) (kv : List (String × Val)) (s : State) : (done r kv s).bridge = s.bridge := by
  simp [done]
@[simp] theorem done_boot (r : Route) (kv : List (String × Val)) (s : State) : (done r kv s).boot = s.boot := by
  simp [done]
@[simp] theorem done_sec (r : Route) (kv : List (String × Val)) (s : State) : (done r kv s).sec = s.sec := by
  simp [done]
@[simp] theorem done_mem (r : Route) (kv : List (String × Val)) (s : State) : (done r kv s).mem = s.mem := by
  simp [done]
@[simp] theorem done_nextSess (r : Route) (kv : List (String × Val)) (s : State) : (done r kv s).nextSess = s.nextSess := by
  simp [done]
@[simp] theorem done_kv (r : Route) (kv : List (String × Val)) (s : State) : (done r kv s).kv = s.kv := by
  simp [done]
@[simp] theorem done_colls (r : Route) (kv : List (String × Val)) (s : State) : (done r kv s).colls = s.colls := by
  simp [done]
@[simp] theorem done_collsDisk (r : Route) (kv : List (String × Val)) (s : State) : (done r kv s).collsDisk = s.collsDisk := by
  simp [done]
@[simp] theorem done_sweep (r : Route) (kv : List (String × Val)) (s : State) : (done r kv s).sweep = s.sweep := by
  simp [done]
@[simp] theorem done_assoc (r : Route) (kv : List (String × Val)) (s : State) : (done r kv s).assoc = s.assoc := by
  simp [done]
@[simp] theorem done_freeCtr (r : Route) (kv : List (String × Val)) (s : State) : (done r kv s).freeCtr = s.freeCtr := by
  simp [done]
@[simp] theorem done_pending (r : Route) (kv : List (String × Val)) (s : State) : (done r kv s).pending = s.pending := by
  simp [done]

@[simp] theorem noteLine_regs (v : Verb) (l : Line) (s : State) : (noteLine v l s).regs = s.regs := by
  unfold noteLine; dsimp only; split <;> rfl
@[simp] theorem noteLine_pwr (v : Verb) (l : Line) (s : State) : (noteLine v l s).pwr = s.pwr := by
  unfold noteLine; dsimp only; split <;> rfl
@[simp] theorem noteLine_clk (v : Verb) (l : Line) (s : State) : (noteLine v l s).clk = s.clk := by
  unfold noteLine; dsimp only; split <;> rfl
@[simp] theorem noteLine_day (v : Verb) (l : Line) (s : State) : (noteLine v l s).day = s.day := by
  unfold noteLine; dsimp only; split <;> rfl
@[simp] theorem noteLine_evt (v : Verb) (l : Line) (s : State) : (noteLine v l s).evt = s.evt := by
  unfold noteLine; dsimp only; split <;> rfl
@[simp] theorem noteLine_loop (v : Verb) (l : Line) (s : State) : (noteLine v l s).loop = s.loop := by
  unfold noteLine; dsimp only; split <;> rfl
@[simp] theorem noteLine_bridge (v : Verb) (l : Line) (s : State) : (noteLine v l s).bridge = s.bridge := by
  unfold noteLine; dsimp only; split <;> rfl
@[simp] theorem noteLine_sec (v : Verb) (l : Line) (s : State) : (noteLine v l s).sec = s.sec := by
  unfold noteLine; dsimp only; split <;> rfl
@[simp] theorem noteLine_mem (v : Verb) (l : Line) (s : State) : (noteLine v l s).mem = s.mem := by
  unfold noteLine; dsimp only; split <;> rfl
@[simp] theorem noteLine_net (v : Verb) (l : Line) (s : State) : (noteLine v l s).net = s.net := by
  unfold noteLine; dsimp only; split <;> rfl
@[simp] theorem noteLine_sess (v : Verb) (l : Line) (s : State) : (noteLine v l s).sess = s.sess := by
  unfold noteLine; dsimp only; split <;> rfl
@[simp] theorem noteLine_nextSess (v : Verb) (l : Line) (s : State) : (noteLine v l s).nextSess = s.nextSess := by
  unfold noteLine; dsimp only; split <;> rfl
@[simp] theorem noteLine_kv (v : Verb) (l : Line) (s : State) : (noteLine v l s).kv = s.kv := by
  unfold noteLine; dsimp only; split <;> rfl
@[simp] theorem noteLine_colls (v : Verb) (l : Line) (s : State) : (noteLine v l s).colls = s.colls := by
  unfold noteLine; dsimp only; split <;> rfl
@[simp] theorem noteLine_collsDisk (v : Verb) (l : Line) (s : State) : (noteLine v l s).collsDisk = s.collsDisk := by
  unfold noteLine; dsimp only; split <;> rfl
@[simp] theorem noteLine_sweep (v : Verb) (l : Line) (s : State) : (noteLine v l s).sweep = s.sweep := by
  unfold noteLine; dsimp only; split <;> rfl
@[simp] theorem noteLine_assoc (v : Verb) (l : Line) (s : State) : (noteLine v l s).assoc = s.assoc := by
  unfold noteLine; dsimp only; split <;> rfl
@[simp] theorem noteLine_out (v : Verb) (l : Line) (s : State) : (noteLine v l s).out = s.out := by
  unfold noteLine; dsimp only; split <;> rfl
@[simp] theorem noteLine_freeCtr (v : Verb) (l : Line) (s : State) : (noteLine v l s).freeCtr = s.freeCtr := by
  unfold noteLine; dsimp only; split <;> rfl
@[simp] theorem noteLine_pending (v : Verb) (l : Line) (s : State) : (noteLine v l s).pending = s.pending := by
  unfold noteLine; dsimp only; split <;> rfl

@[simp] theorem fallAsleep_regs (m : Mode) (s : State) : (fallAsleep m s).regs = s.regs := by
  unfold fallAsleep; split <;> simp only [noteBelowWake]
@[simp] theorem fallAsleep_clk (m : Mode) (s : State) : (fallAsleep m s).clk = s.clk := by
  unfold fallAsleep; split <;> simp only [noteBelowWake]
@[simp] theorem fallAsleep_day (m : Mode) (s : State) : (fallAsleep m s).day = s.day := by
  unfold fallAsleep; split <;> simp only [noteBelowWake]
@[simp] theorem fallAsleep_line (m : Mode) (s : State) : (fallAsleep m s).line = s.line := by
  unfold fallAsleep; split <;> simp only [noteBelowWake]
@[simp] theorem fallAsleep_routes (m : Mode) (s : State) : (fallAsleep m s).routes = s.routes := by
  unfold fallAsleep; split <;> simp only [noteBelowWake]
@[simp] theorem fallAsleep_evt (m : Mode) (s : State) : (fallAsleep m s).evt = s.evt := by
  unfold fallAsleep; split <;> simp only [noteBelowWake]
@[simp] theorem fallAsleep_loop (m : Mode) (s : State) : (fallAsleep m s).loop = s.loop := by
  unfold fallAsleep; split <;> simp only [noteBelowWake]
@[simp] theorem fallAsleep_bridge (m : Mode) (s : State) : (fallAsleep m s).bridge = s.bridge := by
  unfold fallAsleep; split <;> simp only [noteBelowWake]
@[simp] theorem fallAsleep_boot (m : Mode) (s : State) : (fallAsleep m s).boot = s.boot := by
  unfold fallAsleep; split <;> simp only [noteBelowWake]
@[simp] theorem fallAsleep_sec (m : Mode) (s : State) : (fallAsleep m s).sec = s.sec := by
  unfold fallAsleep; split <;> simp only [noteBelowWake]
@[simp] theorem fallAsleep_mem (m : Mode) (s : State) : (fallAsleep m s).mem = s.mem := by
  unfold fallAsleep; split <;> simp only [noteBelowWake]
@[simp] theorem fallAsleep_net (m : Mode) (s : State) : (fallAsleep m s).net = s.net := by
  unfold fallAsleep; split <;> simp only [noteBelowWake]
@[simp] theorem fallAsleep_sess (m : Mode) (s : State) : (fallAsleep m s).sess = s.sess := by
  unfold fallAsleep; split <;> simp only [noteBelowWake]
@[simp] theorem fallAsleep_nextSess (m : Mode) (s : State) : (fallAsleep m s).nextSess = s.nextSess := by
  unfold fallAsleep; split <;> simp only [noteBelowWake]
@[simp] theorem fallAsleep_kv (m : Mode) (s : State) : (fallAsleep m s).kv = s.kv := by
  unfold fallAsleep; split <;> simp only [noteBelowWake]
@[simp] theorem fallAsleep_colls (m : Mode) (s : State) : (fallAsleep m s).colls = s.colls := by
  unfold fallAsleep; split <;> simp only [noteBelowWake]
@[simp] theorem fallAsleep_collsDisk (m : Mode) (s : State) : (fallAsleep m s).collsDisk = s.collsDisk := by
  unfold fallAsleep; split <;> simp only [noteBelowWake]
@[simp] theorem fallAsleep_sweep (m : Mode) (s : State) : (fallAsleep m s).sweep = s.sweep := by
  unfold fallAsleep; split <;> simp only [noteBelowWake]
@[simp] theorem fallAsleep_assoc (m : Mode) (s : State) : (fallAsleep m s).assoc = s.assoc := by
  unfold fallAsleep; split <;> simp only [noteBelowWake]
@[simp] theorem fallAsleep_out (m : Mode) (s : State) : (fallAsleep m s).out = s.out := by
  unfold fallAsleep; split <;> simp only [noteBelowWake]
@[simp] theorem fallAsleep_freeCtr (m : Mode) (s : State) : (fallAsleep m s).freeCtr = s.freeCtr := by
  unfold fallAsleep; split <;> simp only [noteBelowWake]
@[simp] theorem fallAsleep_pending (m : Mode) (s : State) : (fallAsleep m s).pending = s.pending := by
  unfold fallAsleep; split <;> simp only [noteBelowWake]
@[simp] theorem fallAsleep_pwr_vaon (m : Mode) (s : State) : (fallAsleep m s).pwr.vaon = s.pwr.vaon := by
  unfold fallAsleep; split <;> simp only [noteBelowWake]
@[simp] theorem fallAsleep_pwr_vddioA (m : Mode) (s : State) : (fallAsleep m s).pwr.vddioA = s.pwr.vddioA := by
  unfold fallAsleep; split <;> simp only [noteBelowWake]
@[simp] theorem fallAsleep_pwr_vddioB (m : Mode) (s : State) : (fallAsleep m s).pwr.vddioB = s.pwr.vddioB := by
  unfold fallAsleep; split <;> simp only [noteBelowWake]
@[simp] theorem fallAsleep_pwr_refclk (m : Mode) (s : State) : (fallAsleep m s).pwr.refclk = s.pwr.refclk := by
  unfold fallAsleep; split <;> simp only [noteBelowWake]
@[simp] theorem fallAsleep_pwr_resetN (m : Mode) (s : State) : (fallAsleep m s).pwr.resetN = s.pwr.resetN := by
  unfold fallAsleep; split <;> simp only [noteBelowWake]
@[simp] theorem fallAsleep_pwr_pwrFailN (m : Mode) (s : State) : (fallAsleep m s).pwr.pwrFailN = s.pwr.pwrFailN := by
  unfold fallAsleep; split <;> simp only [noteBelowWake]
@[simp] theorem fallAsleep_pwr_held (m : Mode) (s : State) : (fallAsleep m s).pwr.held = s.pwr.held := by
  unfold fallAsleep; split <;> simp only [noteBelowWake]
@[simp] theorem fallAsleep_pwr_on (m : Mode) (s : State) : (fallAsleep m s).pwr.on = s.pwr.on := by
  unfold fallAsleep; split <;> simp only [noteBelowWake]
@[simp] theorem fallAsleep_pwr_ready (m : Mode) (s : State) : (fallAsleep m s).pwr.ready = s.pwr.ready := by
  unfold fallAsleep; split <;> simp only [noteBelowWake]
@[simp] theorem fallAsleep_pwr_gating (m : Mode) (s : State) : (fallAsleep m s).pwr.gating = s.pwr.gating := by
  unfold fallAsleep; split <;> simp only [noteBelowWake]
@[simp] theorem fallAsleep_pwr_ret (m : Mode) (s : State) : (fallAsleep m s).pwr.ret = s.pwr.ret := by
  unfold fallAsleep; split <;> simp only [noteBelowWake]
@[simp] theorem fallAsleep_pwr_en (m : Mode) (s : State) : (fallAsleep m s).pwr.en = s.pwr.en := by
  unfold fallAsleep; split <;> simp only [noteBelowWake]
@[simp] theorem fallAsleep_pwr_pg (m : Mode) (s : State) : (fallAsleep m s).pwr.pg = s.pwr.pg := by
  unfold fallAsleep; split <;> simp only [noteBelowWake]
@[simp] theorem fallAsleep_pwr_pgSeen (m : Mode) (s : State) : (fallAsleep m s).pwr.pgSeen = s.pwr.pgSeen := by
  unfold fallAsleep; split <;> simp only [noteBelowWake]
@[simp] theorem fallAsleep_pwr_seq (m : Mode) (s : State) : (fallAsleep m s).pwr.seq = s.pwr.seq := by
  unfold fallAsleep; split <;> simp only [noteBelowWake]
@[simp] theorem fallAsleep_pwr_restart (m : Mode) (s : State) : (fallAsleep m s).pwr.restart = s.pwr.restart := by
  unfold fallAsleep; split <;> simp only [noteBelowWake]
@[simp] theorem fallAsleep_pwr_plpDone (m : Mode) (s : State) : (fallAsleep m s).pwr.plpDone = s.pwr.plpDone := by
  unfold fallAsleep; split <;> simp only [noteBelowWake]
@[simp] theorem fallAsleep_pwr_failing (m : Mode) (s : State) : (fallAsleep m s).pwr.failing = s.pwr.failing := by
  unfold fallAsleep; split <;> simp only [noteBelowWake]
@[simp] theorem fallAsleep_pwr_waking (m : Mode) (s : State) : (fallAsleep m s).pwr.waking = s.pwr.waking := by
  unfold fallAsleep; split <;> simp only [noteBelowWake]
@[simp] theorem fallAsleep_pwr_byAt (m : Mode) (s : State) : (fallAsleep m s).pwr.byAt = s.pwr.byAt := by
  unfold fallAsleep; split <;> simp only [noteBelowWake]
@[simp] theorem fallAsleep_pwr_pd8Due (m : Mode) (s : State) : (fallAsleep m s).pwr.pd8Due = s.pwr.pd8Due := by
  unfold fallAsleep; split <;> simp only [noteBelowWake]
@[simp] theorem fallAsleep_pwr_acceptedAt (m : Mode) (s : State) : (fallAsleep m s).pwr.acceptedAt = s.pwr.acceptedAt := by
  unfold fallAsleep; split <;> simp only [noteBelowWake]
@[simp] theorem fallAsleep_pwr_pfWait (m : Mode) (s : State) : (fallAsleep m s).pwr.pfWait = s.pwr.pfWait := by
  unfold fallAsleep; split <;> simp only [noteBelowWake]
@[simp] theorem fallAsleep_pwr_pfHigh (m : Mode) (s : State) : (fallAsleep m s).pwr.pfHigh = s.pwr.pfHigh := by
  unfold fallAsleep; split <;> simp only [noteBelowWake]
@[simp] theorem fallAsleep_pwr_tripped (m : Mode) (s : State) : (fallAsleep m s).pwr.tripped = s.pwr.tripped := by
  unfold fallAsleep; split <;> simp only [noteBelowWake]
@[simp] theorem fallAsleep_pwr_needCool (m : Mode) (s : State) : (fallAsleep m s).pwr.needCool = s.pwr.needCool := by
  unfold fallAsleep; split <;> simp only [noteBelowWake]
@[simp] theorem fallAsleep_pwr_tripCount (m : Mode) (s : State) : (fallAsleep m s).pwr.tripCount = s.pwr.tripCount := by
  unfold fallAsleep; split <;> simp only [noteBelowWake]
@[simp] theorem fallAsleep_pwr_raw (m : Mode) (s : State) : (fallAsleep m s).pwr.raw = s.pwr.raw := by
  unfold fallAsleep; split <;> simp only [noteBelowWake]
@[simp] theorem fallAsleep_pwr_tamperRun (m : Mode) (s : State) : (fallAsleep m s).pwr.tamperRun = s.pwr.tamperRun := by
  unfold fallAsleep; split <;> simp only [noteBelowWake]
@[simp] theorem fallAsleep_pwr_causeHeld (m : Mode) (s : State) : (fallAsleep m s).pwr.causeHeld = s.pwr.causeHeld := by
  unfold fallAsleep; split <;> simp only [noteBelowWake]

@[simp] theorem enterMode_pwr_vaon (m : Mode) (s : State) : (enterMode m s).pwr.vaon = s.pwr.vaon := by
  simp [enterMode]
@[simp] theorem enterMode_pwr_vddioA (m : Mode) (s : State) : (enterMode m s).pwr.vddioA = s.pwr.vddioA := by
  simp [enterMode]
@[simp] theorem enterMode_pwr_vddioB (m : Mode) (s : State) : (enterMode m s).pwr.vddioB = s.pwr.vddioB := by
  simp [enterMode]
@[simp] theorem enterMode_pwr_refclk (m : Mode) (s : State) : (enterMode m s).pwr.refclk = s.pwr.refclk := by
  simp [enterMode]
@[simp] theorem enterMode_pwr_resetN (m : Mode) (s : State) : (enterMode m s).pwr.resetN = s.pwr.resetN := by
  simp [enterMode]
@[simp] theorem enterMode_pwr_pwrFailN (m : Mode) (s : State) : (enterMode m s).pwr.pwrFailN = s.pwr.pwrFailN := by
  simp [enterMode]
@[simp] theorem enterMode_pwr_held (m : Mode) (s : State) : (enterMode m s).pwr.held = s.pwr.held := by
  simp [enterMode]
@[simp] theorem enterMode_pwr_on (m : Mode) (s : State) : (enterMode m s).pwr.on = s.pwr.on := by
  simp [enterMode]
@[simp] theorem enterMode_pwr_ready (m : Mode) (s : State) : (enterMode m s).pwr.ready = s.pwr.ready := by
  simp [enterMode]
@[simp] theorem enterMode_pwr_gating (m : Mode) (s : State) : (enterMode m s).pwr.gating = s.pwr.gating := by
  simp [enterMode]
@[simp] theorem enterMode_pwr_ret (m : Mode) (s : State) : (enterMode m s).pwr.ret = s.pwr.ret := by
  simp [enterMode]
@[simp] theorem enterMode_pwr_en (m : Mode) (s : State) : (enterMode m s).pwr.en = s.pwr.en := by
  simp [enterMode]
@[simp] theorem enterMode_pwr_pg (m : Mode) (s : State) : (enterMode m s).pwr.pg = s.pwr.pg := by
  simp [enterMode]
@[simp] theorem enterMode_pwr_pgSeen (m : Mode) (s : State) : (enterMode m s).pwr.pgSeen = s.pwr.pgSeen := by
  simp [enterMode]
@[simp] theorem enterMode_pwr_seq (m : Mode) (s : State) : (enterMode m s).pwr.seq = s.pwr.seq := by
  simp [enterMode]
@[simp] theorem enterMode_pwr_restart (m : Mode) (s : State) : (enterMode m s).pwr.restart = s.pwr.restart := by
  simp [enterMode]
@[simp] theorem enterMode_pwr_plpDone (m : Mode) (s : State) : (enterMode m s).pwr.plpDone = s.pwr.plpDone := by
  simp [enterMode]
@[simp] theorem enterMode_pwr_failing (m : Mode) (s : State) : (enterMode m s).pwr.failing = s.pwr.failing := by
  simp [enterMode]
@[simp] theorem enterMode_pwr_waking (m : Mode) (s : State) : (enterMode m s).pwr.waking = s.pwr.waking := by
  simp [enterMode]
@[simp] theorem enterMode_pwr_byAt (m : Mode) (s : State) : (enterMode m s).pwr.byAt = s.pwr.byAt := by
  simp [enterMode]
@[simp] theorem enterMode_pwr_pd8Due (m : Mode) (s : State) : (enterMode m s).pwr.pd8Due = s.pwr.pd8Due := by
  simp [enterMode]
@[simp] theorem enterMode_pwr_acceptedAt (m : Mode) (s : State) : (enterMode m s).pwr.acceptedAt = s.pwr.acceptedAt := by
  simp [enterMode]
@[simp] theorem enterMode_pwr_pfWait (m : Mode) (s : State) : (enterMode m s).pwr.pfWait = s.pwr.pfWait := by
  simp [enterMode]
@[simp] theorem enterMode_pwr_pfHigh (m : Mode) (s : State) : (enterMode m s).pwr.pfHigh = s.pwr.pfHigh := by
  simp [enterMode]
@[simp] theorem enterMode_pwr_tripped (m : Mode) (s : State) : (enterMode m s).pwr.tripped = s.pwr.tripped := by
  simp [enterMode]
@[simp] theorem enterMode_pwr_needCool (m : Mode) (s : State) : (enterMode m s).pwr.needCool = s.pwr.needCool := by
  simp [enterMode]
@[simp] theorem enterMode_pwr_tripCount (m : Mode) (s : State) : (enterMode m s).pwr.tripCount = s.pwr.tripCount := by
  simp [enterMode]
@[simp] theorem enterMode_pwr_raw (m : Mode) (s : State) : (enterMode m s).pwr.raw = s.pwr.raw := by
  simp [enterMode]
@[simp] theorem enterMode_pwr_tamperRun (m : Mode) (s : State) : (enterMode m s).pwr.tamperRun = s.pwr.tamperRun := by
  simp [enterMode]
@[simp] theorem enterMode_pwr_causeHeld (m : Mode) (s : State) : (enterMode m s).pwr.causeHeld = s.pwr.causeHeld := by
  simp [enterMode]
@[simp] theorem enterMode_clk (m : Mode) (s : State) : (enterMode m s).clk = s.clk := by
  simp [enterMode]
@[simp] theorem enterMode_line (m : Mode) (s : State) : (enterMode m s).line = s.line := by
  simp [enterMode]
@[simp] theorem enterMode_bridge (m : Mode) (s : State) : (enterMode m s).bridge = s.bridge := by
  simp [enterMode]
@[simp] theorem enterMode_boot (m : Mode) (s : State) : (enterMode m s).boot = s.boot := by
  simp [enterMode]
@[simp] theorem enterMode_sec (m : Mode) (s : State) : (enterMode m s).sec = s.sec := by
  simp [enterMode]
@[simp] theorem enterMode_mem (m : Mode) (s : State) : (enterMode m s).mem = s.mem := by
  simp [enterMode]
@[simp] theorem enterMode_net (m : Mode) (s : State) : (enterMode m s).net = s.net := by
  simp [enterMode]
@[simp] theorem enterMode_nextSess (m : Mode) (s : State) : (enterMode m s).nextSess = s.nextSess := by
  simp [enterMode]
@[simp] theorem enterMode_kv (m : Mode) (s : State) : (enterMode m s).kv = s.kv := by
  simp [enterMode]
@[simp] theorem enterMode_colls (m : Mode) (s : State) : (enterMode m s).colls = s.colls := by
  simp [enterMode]
@[simp] theorem enterMode_collsDisk (m : Mode) (s : State) : (enterMode m s).collsDisk = s.collsDisk := by
  simp [enterMode]
@[simp] theorem enterMode_sweep (m : Mode) (s : State) : (enterMode m s).sweep = s.sweep := by
  simp [enterMode]
@[simp] theorem enterMode_assoc (m : Mode) (s : State) : (enterMode m s).assoc = s.assoc := by
  simp [enterMode]
@[simp] theorem enterMode_out (m : Mode) (s : State) : (enterMode m s).out = s.out := by
  simp [enterMode]
@[simp] theorem enterMode_pending (m : Mode) (s : State) : (enterMode m s).pending = s.pending := by
  simp [enterMode]

@[simp] theorem setTimeState_pwr (t : TimeState) (s : State) : (setTimeState t s).pwr = s.pwr := by
  unfold setTimeState; split <;> simp
@[simp] theorem setTimeState_day (t : TimeState) (s : State) : (setTimeState t s).day = s.day := by
  unfold setTimeState; split <;> simp
@[simp] theorem setTimeState_line (t : TimeState) (s : State) : (setTimeState t s).line = s.line := by
  unfold setTimeState; split <;> simp
@[simp] theorem setTimeState_bridge (t : TimeState) (s : State) : (setTimeState t s).bridge = s.bridge := by
  unfold setTimeState; split <;> simp
@[simp] theorem setTimeState_boot (t : TimeState) (s : State) : (setTimeState t s).boot = s.boot := by
  unfold setTimeState; split <;> simp
@[simp] theorem setTimeState_sec (t : TimeState) (s : State) : (setTimeState t s).sec = s.sec := by
  unfold setTimeState; split <;> simp
@[simp] theorem setTimeState_mem (t : TimeState) (s : State) : (setTimeState t s).mem = s.mem := by
  unfold setTimeState; split <;> simp
@[simp] theorem setTimeState_net (t : TimeState) (s : State) : (setTimeState t s).net = s.net := by
  unfold setTimeState; split <;> simp
@[simp] theorem setTimeState_nextSess (t : TimeState) (s : State) : (setTimeState t s).nextSess = s.nextSess := by
  unfold setTimeState; split <;> simp
@[simp] theorem setTimeState_kv (t : TimeState) (s : State) : (setTimeState t s).kv = s.kv := by
  unfold setTimeState; split <;> simp
@[simp] theorem setTimeState_colls (t : TimeState) (s : State) : (setTimeState t s).colls = s.colls := by
  unfold setTimeState; split <;> simp
@[simp] theorem setTimeState_collsDisk (t : TimeState) (s : State) : (setTimeState t s).collsDisk = s.collsDisk := by
  unfold setTimeState; split <;> simp
@[simp] theorem setTimeState_sweep (t : TimeState) (s : State) : (setTimeState t s).sweep = s.sweep := by
  unfold setTimeState; split <;> simp
@[simp] theorem setTimeState_assoc (t : TimeState) (s : State) : (setTimeState t s).assoc = s.assoc := by
  unfold setTimeState; split <;> simp
@[simp] theorem setTimeState_out (t : TimeState) (s : State) : (setTimeState t s).out = s.out := by
  unfold setTimeState; split <;> simp
@[simp] theorem setTimeState_freeCtr (t : TimeState) (s : State) : (setTimeState t s).freeCtr = s.freeCtr := by
  unfold setTimeState; split <;> simp
@[simp] theorem setTimeState_pending (t : TimeState) (s : State) : (setTimeState t s).pending = s.pending := by
  unfold setTimeState; split <;> simp

@[simp] theorem ldRaise_pwr (id : Nat) (kv : List (String × Val)) (s : State) : (ldRaise id kv s).pwr = s.pwr := by
  unfold ldRaise; repeat' split
  all_goals simp
@[simp] theorem ldRaise_clk (id : Nat) (kv : List (String × Val)) (s : State) : (ldRaise id kv s).clk = s.clk := by
  unfold ldRaise; repeat' split
  all_goals simp
@[simp] theorem ldRaise_day (id : Nat) (kv : List (String × Val)) (s : State) : (ldRaise id kv s).day = s.day := by
  unfold ldRaise; repeat' split
  all_goals simp
@[simp] theorem ldRaise_line (id : Nat) (kv : List (String × Val)) (s : State) : (ldRaise id kv s).line = s.line := by
  unfold ldRaise; repeat' split
  all_goals simp
@[simp] theorem ldRaise_bridge (id : Nat) (kv : List (String × Val)) (s : State) : (ldRaise id kv s).bridge = s.bridge := by
  unfold ldRaise; repeat' split
  all_goals simp
@[simp] theorem ldRaise_boot (id : Nat) (kv : List (String × Val)) (s : State) : (ldRaise id kv s).boot = s.boot := by
  unfold ldRaise; repeat' split
  all_goals simp
@[simp] theorem ldRaise_sec (id : Nat) (kv : List (String × Val)) (s : State) : (ldRaise id kv s).sec = s.sec := by
  unfold ldRaise; repeat' split
  all_goals simp
@[simp] theorem ldRaise_mem (id : Nat) (kv : List (String × Val)) (s : State) : (ldRaise id kv s).mem = s.mem := by
  unfold ldRaise; repeat' split
  all_goals simp
@[simp] theorem ldRaise_net (id : Nat) (kv : List (String × Val)) (s : State) : (ldRaise id kv s).net = s.net := by
  unfold ldRaise; repeat' split
  all_goals simp
@[simp] theorem ldRaise_nextSess (id : Nat) (kv : List (String × Val)) (s : State) : (ldRaise id kv s).nextSess = s.nextSess := by
  unfold ldRaise; repeat' split
  all_goals simp
@[simp] theorem ldRaise_kv (id : Nat) (kv : List (String × Val)) (s : State) : (ldRaise id kv s).kv = s.kv := by
  unfold ldRaise; repeat' split
  all_goals simp
@[simp] theorem ldRaise_colls (id : Nat) (kv : List (String × Val)) (s : State) : (ldRaise id kv s).colls = s.colls := by
  unfold ldRaise; repeat' split
  all_goals simp
@[simp] theorem ldRaise_collsDisk (id : Nat) (kv : List (String × Val)) (s : State) : (ldRaise id kv s).collsDisk = s.collsDisk := by
  unfold ldRaise; repeat' split
  all_goals simp
@[simp] theorem ldRaise_sweep (id : Nat) (kv : List (String × Val)) (s : State) : (ldRaise id kv s).sweep = s.sweep := by
  unfold ldRaise; repeat' split
  all_goals simp
@[simp] theorem ldRaise_assoc (id : Nat) (kv : List (String × Val)) (s : State) : (ldRaise id kv s).assoc = s.assoc := by
  unfold ldRaise; repeat' split
  all_goals simp
@[simp] theorem ldRaise_out (id : Nat) (kv : List (String × Val)) (s : State) : (ldRaise id kv s).out = s.out := by
  unfold ldRaise; repeat' split
  all_goals simp
@[simp] theorem ldRaise_freeCtr (id : Nat) (kv : List (String × Val)) (s : State) : (ldRaise id kv s).freeCtr = s.freeCtr := by
  unfold ldRaise; repeat' split
  all_goals simp
@[simp] theorem ldRaise_pending (id : Nat) (kv : List (String × Val)) (s : State) : (ldRaise id kv s).pending = s.pending := by
  unfold ldRaise; repeat' split
  all_goals simp

@[simp] theorem State.setRoute_routes (s : State) (x : RouteSt) : (s.setRoute x).routes = routePut s.routes x := rfl
@[simp] theorem State.setLoop_loop (s : State) (l : Loop) : (s.setLoop l).loop = l := rfl
@[simp] theorem State.setSess_sess (s : State) (x : Sess) : (s.setSess x).sess = sessPut s.sess x := rfl
@[simp] theorem State.emit_out (s : State) (o : Output) : (s.emit o).out = s.out ++ [o] := rfl
@[simp] theorem State.tick_freeCtr (s : State) : s.tick.freeCtr = s.freeCtr + 1 := rfl
@[simp] theorem setDomains_pwr_on (on : Nat) (s : State) : (setDomains on s).pwr.on = on := rfl
@[simp] theorem domainsReady_pwr_on (s : State) : (domainsReady s).pwr.on = s.pwr.on := rfl

end Sys2Proof.Machine
end

