-- ==== Sys2Proof/Laws/Regs.lean ====
section
/-! SUPPORT. The register file: a field that was set reads as set, every other field as before; what a raise does to
its event and to every other; a line that passes its checks runs its verb. -/

namespace Sys2Proof.Machine

/-! ## Cells -/

theorem cellsGet_put_same (l : List Cell) (p : Param) (i v : Nat) : cellsGet (cellsPut l ⟨p, i, v⟩) p i = some v := by
  induction l with
  | nil => simp [cellsPut, cellsGet]
  | cons d ds ih =>
    unfold cellsPut
    split
    · simp [cellsGet]
    · split
      · simp [cellsGet]
      · rename_i h _
        simp only [Bool.and_eq_true, not_and] at h
        simp [cellsGet, ih]
        grind

theorem cellsGet_put_other (l : List Cell) (p q : Param) (i j v : Nat) (h : ¬(q = p ∧ j = i)) :
    cellsGet (cellsPut l ⟨p, i, v⟩) q j = cellsGet l q j := by
  induction l with
  | nil => simp [cellsPut, cellsGet]; grind
  | cons d ds ih =>
    unfold cellsPut
    split
    · simp [cellsGet]; grind
    · split
      · simp [cellsGet]; grind
      · simp [cellsGet, ih]

theorem cellsGet_del_same (l : List Cell) (p : Param) (i : Nat) : cellsGet (cellsDel l p i) p i = none := by
  induction l with
  | nil => rfl
  | cons d ds ih =>
    unfold cellsDel at ih ⊢
    rw [List.filter_cons]
    split
    · rename_i h
      simp only [cellsGet]
      rw [if_neg (by simpa [Decidable.imp_iff_not_or] using h), ih]
    · exact ih

theorem cellsGet_del_other (l : List Cell) (p q : Param) (i j : Nat) (h : ¬(q = p ∧ j = i)) :
    cellsGet (cellsDel l p i) q j = cellsGet l q j := by
  induction l with
  | nil => rfl
  | cons d ds ih =>
    unfold cellsDel at ih ⊢
    rw [List.filter_cons]
    split
    · simp only [cellsGet, ih]
    · rw [ih]; simp [cellsGet]; grind

theorem cellsGet_set_same (l : List Cell) (r : Nat) (p : Param) (i v : Nat) :
    (cellsGet (cellsSet l r p i v) p i).getD r = v := by
  unfold cellsSet
  split
  · rename_i h; simp [cellsGet_del_same]; simpa using (beq_iff_eq.mp h).symm
  · simp [cellsGet_put_same]

theorem cellsGet_set_other (l : List Cell) (r : Nat) (p q : Param) (i j v : Nat) (h : ¬(q = p ∧ j = i)) :
    cellsGet (cellsSet l r p i v) q j = cellsGet l q j := by
  unfold cellsSet
  split
  · exact cellsGet_del_other l p q i j h
  · exact cellsGet_put_other l p q i j v h

/-! ## Registers -/

theorem reg_of (s t : State) (hr : t.regs = s.regs) (hi : t.sec.otp.ident = s.sec.otp.ident) (p : Param) (i : Nat) :
    t.reg p i = s.reg p i := by
  simp [State.reg, State.resetOf, hr, hi]

@[simp] theorem setReg_reg_same (s : State) (p : Param) (v i : Nat) : (s.setReg p v i).reg p i = v := by
  simp only [State.reg, State.setReg, State.resetOf]
  exact cellsGet_set_same _ _ _ _ _

theorem setReg_reg_other (s : State) (p q : Param) (v i j : Nat) (h : ¬(q = p ∧ j = i)) :
    (s.setReg p v i).reg q j = s.reg q j := by
  simp only [State.reg, State.setReg, State.resetOf]
  rw [cellsGet_set_other _ _ _ _ _ _ _ h]

theorem setReg_reg (s : State) (p q : Param) (v i j : Nat) :
    (s.setReg p v i).reg q j = if q = p ∧ j = i then v else s.reg q j := by
  split
  · rename_i h; obtain ⟨rfl, rfl⟩ := h; exact setReg_reg_same s q v j
  · rename_i h; exact setReg_reg_other s p q v i j h

theorem incReg_reg_other (s : State) (p q : Param) (n i j : Nat) (h : ¬(q = p ∧ j = i)) :
    (s.incReg p n i).reg q j = s.reg q j := setReg_reg_other s p q _ i j h

theorem ite_either {α : Type} (c : Prop) [Decidable c] (a b : α) : (if c then a else b) = b ∨ (if c then a else b) = a := by
  split
  · exact .inr rfl
  · exact .inl rfl

theorem raiseWith_regs (id sev : Nat) (kv : List (String × Val)) (late : Bool) (n : Nat) (s : State) :
    (raiseWith id sev kv late n s).regs = s.regs ∨
      ∃ v, (raiseWith id sev kv late n s).regs = cellsSet s.regs (s.resetOf .EVT_LOG_LOST 0) .EVT_LOG_LOST 0 v := by
  unfold raiseWith
  dsimp only
  split
  · exact .inl rfl
  · exact (ite_either _ _ _).imp (fun h => h) fun h => ⟨_, h⟩

theorem raiseWith_reg (id sev : Nat) (kv : List (String × Val)) (late : Bool) (n : Nat) (s : State) (p : Param) (i : Nat)
    (h : p ≠ .EVT_LOG_LOST) : (raiseWith id sev kv late n s).reg p i = s.reg p i := by
  simp only [State.reg, State.resetOf, raiseWith_sec]
  rcases raiseWith_regs id sev kv late n s with e | ⟨v, e⟩
  · rw [e]
  · rw [e, cellsGet_set_other _ _ _ _ _ _ _ fun ⟨q, _⟩ => h q]

theorem raise_reg (id : Nat) (kv : List (String × Val)) (s : State) (p : Param) (i : Nat) (h : p ≠ .EVT_LOG_LOST) :
    (raise id kv s).reg p i = s.reg p i := raiseWith_reg _ _ _ _ _ _ _ _ h

/-! ## Events -/

theorem evtGet_id (l : List EvtCell) (id : Nat) : (evtGet l id).id = id := by
  induction l with
  | nil => rfl
  | cons c cs ih => unfold evtGet; split <;> simp_all

theorem evtGet_insert (l : List EvtCell) (c : EvtCell) (k : Nat) :
    evtGet (evtInsert l c) k = if k = c.id then c else evtGet l k := by
  induction l with
  | nil => unfold evtInsert; simp [evtGet]; grind
  | cons d ds ih =>
    unfold evtInsert
    split
    · simp [evtGet]; grind
    · split
      · simp [evtGet]; grind
      · simp [evtGet, ih]; grind

theorem evtGet_filter (l : List EvtCell) (n k : Nat) :
    evtGet (l.filter fun d => d.id != n) k = if k = n then ⟨n, evMasksReset n, false, 0⟩ else evtGet l k := by
  induction l with
  | nil => simp [evtGet]; grind
  | cons d ds ih =>
    by_cases h : d.id = n
    · simp [h, ih, evtGet]; grind
    · simp [h, ih, evtGet]; grind

/-- What an event reads as once one has been set. -/
theorem evtGet_put (l : List EvtCell) (c : EvtCell) (k : Nat) :
    evtGet (evtPut l c) k = if k = c.id then c else evtGet l k := by
  unfold evtPut
  split
  · rename_i h
    rw [evtGet_filter]
    obtain ⟨id, m, la, n⟩ := c
    simp at h
    simp [h]
  · exact evtGet_insert l c k

theorem evtGet_put_other (l : List EvtCell) (c : EvtCell) (k : Nat) (h : k ≠ c.id) : evtGet (evtPut l c) k = evtGet l k := by
  rw [evtGet_put, if_neg h]

/-! ## The checks of a line -/

theorem routeGet_put (l : List RouteSt) (x : RouteSt) : routeGet (routePut l x) x.route = x := by
  induction l with
  | nil => simp [routePut, routeGet]
  | cons y ys ih =>
    unfold routePut
    split
    · simp [routeGet]
    · rename_i h; simp [routeGet, ih, h]

theorem routeGet_put_other (l : List RouteSt) (x : RouteSt) (r : Route) (h : r ≠ x.route) :
    routeGet (routePut l x) r = routeGet l r := by
  induction l with
  | nil => simp [routePut, routeGet, Ne.symm h]
  | cons y ys ih =>
    unfold routePut
    split
    · rename_i e
      have e' : y.route ≠ r := fun q => h (by rw [← q]; simpa using e)
      simp [routeGet, Ne.symm h, e']
    · simp [routeGet, ih]

theorem routeGet_route (l : List RouteSt) (r : Route) : (routeGet l r).route = r := by
  induction l with
  | nil => rfl
  | cons y ys ih => unfold routeGet; split <;> simp_all

theorem noteLine_route (v : Verb) (l : Line) (s : State) :
    (noteLine v l s).route l.route = { s.route l.route with lastLine := s.now } := by
  have h := routeGet_put s.routes { s.route l.route with lastLine := s.now }
  have e : ({ s.route l.route with lastLine := s.now } : RouteSt).route = l.route := routeGet_route _ _
  rw [e] at h
  unfold noteLine
  dsimp only
  split <;> exact h

theorem noteLine_reg (v : Verb) (l : Line) (s : State) (p : Param) (i : Nat) : (noteLine v l s).reg p i = s.reg p i :=
  reg_of s _ (noteLine_regs v l s) (by rw [noteLine_sec]) p i

theorem noteLine_lineMode (v : Verb) (l : Line) (s : State) : (noteLine v l s).lineMode = s.lineMode := by
  simp [State.lineMode, State.mode]

theorem noteLine_lockOf (v : Verb) (l : Line) (r : Route) (s : State) : lockOf r (noteLine v l s) = lockOf r s := by
  cases r with
  | ring => unfold noteLine; dsimp only; split <;> rfl
  | tls c => unfold noteLine; dsimp only; split <;> rfl
  | dkp n =>
    by_cases h : Route.dkp n = l.route
    · simp only [lockOf, h, noteLine_route]
    · have e : (noteLine v l s).route (.dkp n) = s.route (.dkp n) := by
        have k : (noteLine v l s).routes = routePut s.routes { s.route l.route with lastLine := s.now } := by
          unfold noteLine; dsimp only; split <;> rfl
        unfold State.route
        rw [k]
        refine routeGet_put_other _ _ _ ?_
        rw [show ({ s.route l.route with lastLine := s.now } : RouteSt).route = l.route from routeGet_route _ _]
        exact h
      simp only [lockOf, e]

/-- A line that passes its checks runs its verb, on the state with the line noted. -/
theorem gateWith_run (v : Verb) (l : Line) (low run : State → State) (s : State) (h : passes v l s = true) :
    gateWith v l low run s = run (noteLine v l s) := by
  simp only [passes, Bool.and_eq_true, Bool.not_eq_true', Option.isNone_iff_eq_none] at h
  obtain ⟨⟨⟨⟨⟨⟨⟨⟨hb, hw⟩, hm⟩, hmo⟩, hs⟩, hl⟩, hv⟩, hn⟩, ha⟩ := h
  have e1 : wrongAddress (noteLine v l s) l = false := by
    rw [← hw]; unfold wrongAddress; simp only [noteLine_reg]
  have e2 : refusedInM10 v (noteLine v l s) = false := by
    rw [← hm]; unfold refusedInM10; simp only [noteLine_lineMode]
  have e3 : strictRefuses (noteLine v l s) v l = false := by
    rw [← hs]; unfold strictRefuses; simp only [noteLine_lineMode, noteLine_reg]
  have e4 : (noteLine v l s).level l.route = s.level l.route := by
    simp only [State.level, noteLine_lockOf, noteLine_route]
  have e5 : (noteLine v l s).noLoop = s.noLoop := by simp only [State.noLoop, noteLine_sec]
  unfold gateWith
  dsimp only
  rw [hb]
  dsimp only
  simp only [e1, e2, noteLine_lineMode, hmo, e3, e4, hv, e5]
  simp only [Bool.not_true, Bool.false_eq_true, if_false]
  rw [if_neg (by simpa using hl), if_neg (by simpa using hn), ha]

theorem gate_run (v : Verb) (l : Line) (run : State → State) (s : State) (h : passes v l s = true) :
    gate v l run s = run (noteLine v l s) := gateWith_run v l id run s h

/-! ## What carries a reply -/

/-- The registers that sending a reply may touch: the count of log records lost and the two of the DKP window. -/
def sendRegs : List Param := [.EVT_LOG_LOST, .DKP_TOKENS, .DKP_BUSY]

theorem raise_reg' (id : Nat) (kv : List (String × Val)) (s : State) (p : Param) (i : Nat) (h : p ∉ sendRegs) :
    (raise id kv s).reg p i = s.reg p i := raise_reg id kv s p i fun e => h (by simp [sendRegs, e])

theorem portSend_reg (q : Nat) (o : Output) (s : State) (p : Param) (i : Nat) : (portSend q o s).reg p i = s.reg p i :=
  reg_of s _ (portSend_regs q o s) (by rw [portSend_sec]) p i

theorem tlsOut_reg (c : Nat) (o : Output) (s : State) (p : Param) (i : Nat) : (tlsOut c o s).reg p i = s.reg p i :=
  reg_of s _ (tlsOut_regs c o s) (by rw [tlsOut_sec]) p i

theorem State.setTls_reg (s : State) (x : TlsConn) (p : Param) (i : Nat) : (s.setTls x).reg p i = s.reg p i := rfl

theorem State.setSess_reg (s : State) (x : Sess) (p : Param) (i : Nat) : (s.setSess x).reg p i = s.reg p i := rfl

theorem sendKeyUpdate_reg (n q : Nat) (b : Bool) (s : State) (p : Param) (i : Nat) (h : p ∉ sendRegs) :
    (sendKeyUpdate n q b s).reg p i = s.reg p i := by
  unfold sendKeyUpdate
  rw [raise_reg' _ _ _ _ _ h, portSend_reg]

theorem tlsSend_reg (c : Nat) (o : Output) (s : State) (p : Param) (i : Nat) (h : p ∉ sendRegs) :
    (tlsSend c o s).reg p i = s.reg p i := by
  unfold tlsSend tlsKeyUpdate
  dsimp only
  repeat' split
  all_goals simp only [sendKeyUpdate_reg _ _ _ _ _ _ h, tlsOut_reg, State.setTls_reg]

theorem sendSegs_reg (n : Nat) (l : List Text) (s : State) (p : Param) (i : Nat) (h : p ∉ sendRegs) :
    (sendSegs n l s).reg p i = s.reg p i := by
  unfold sendSegs
  split
  · rfl
  · rename_i x _
    dsimp only
    have k : ∀ y : State, (l.foldl (fun s t => portSend x.port (.segment n t) s) y).reg p i = y.reg p i := fun y =>
      sends_keep (·.reg p i) _ _ (fun o s => portSend_reg x.port o s p i) l y
    repeat' split
    all_goals simp only [sendKeyUpdate_reg _ _ _ _ _ _ h, k, State.setSess_reg]

theorem sendResponse_reg (n op fl id st : Nat) (b : Text) (s : State) (p : Param) (i : Nat) (h : p ∉ sendRegs) :
    (sendResponse n op fl id st b s).reg p i = s.reg p i := by
  unfold sendResponse
  split
  · rfl
  · dsimp only
    exact (sendSegs_reg _ _ _ _ _ h).trans rfl

theorem respond_reg (n op id st : Nat) (b : Text) (ver : Nat) (s : State) (p : Param) (i : Nat) (h : p ∉ sendRegs) :
    (respond n op id st b ver s).reg p i = s.reg p i := by
  have h1 : p ≠ .DKP_TOKENS := fun e => h (by simp [sendRegs, e])
  have h2 : p ≠ .DKP_BUSY := fun e => h (by simp [sendRegs, e])
  have k1 : ∀ (x : State) v, ({ x with regs := cellsSet x.regs (x.resetOf .DKP_TOKENS 0) .DKP_TOKENS 0 v } : State).reg p i
      = x.reg p i := fun x v => setReg_reg_other x .DKP_TOKENS p v 0 i fun ⟨e, _⟩ => h1 e
  have k2 : ∀ x : State, (x.incReg .DKP_BUSY).reg p i = x.reg p i := fun x => incReg_reg_other _ _ _ _ _ _ fun ⟨e, _⟩ => h2 e
  unfold respond
  split
  · rfl
  · dsimp only
    rw [sendResponse_reg _ _ _ _ _ _ _ _ _ h]
    repeat' split
    all_goals first | rfl | exact k1 _ _ | exact k2 _ | exact (k2 _).trans (k1 _ _)

theorem reply_reg (r : Route) (c : Nat) (kv : List (String × Val)) (s : State) (p : Param) (i : Nat) (h : p ∉ sendRegs) :
    (reply r c kv s).reg p i = s.reg p i := by
  have k : ∀ (o : Output) (x : State), (ringSend o x).reg p i = x.reg p i := by
    intro o x; unfold ringSend; (repeat' split) <;> rfl
  unfold reply
  split
  · dsimp only
    repeat' split
    all_goals first | rfl | exact respond_reg _ _ _ _ _ _ _ _ _ h
  · dsimp only
    split
    · rw [k, k]
    · rw [k]
  · exact tlsSend_reg _ _ _ _ _ h

theorem enterMode_reg (m : Mode) (s : State) (p : Param) (i : Nat) (h : p ∉ sendRegs) :
    (enterMode m s).reg p i = s.reg p i := by
  unfold enterMode
  rw [raise_reg' _ _ _ _ _ h]
  exact reg_of _ _ (fallAsleep_regs m _) (by rw [fallAsleep_sec]) p i

end Sys2Proof.Machine
end

