-- ==== Sys2Proof/Laws/Frames.lean ====
section
/-! SUPPORT. What programming the dirty writes, answering the replies that waited, and the steps of entering a mode leave
as they were. -/

namespace Sys2Proof.Machine

/-- A fold whose steps keep a reading keeps it. -/
theorem foldl_keep {α β : Type} (f : State → β) (g : State → α → State) (h : ∀ s x, f (g s x) = f s) (l : List α) (s : State) :
    f (l.foldl g s) = f s := by
  induction l generalizing s with
  | nil => rfl
  | cons x xs ih => simp [ih, h]
@[simp] theorem lateReply_kv (r c kv s) : (lateReply r c kv s).kv = s.kv := by
  unfold lateReply; split <;> simp [freeBusy]; split <;> simp
@[simp] theorem lateReply_day (r c kv s) : (lateReply r c kv s).day = s.day := by
  unfold lateReply; split <;> simp [freeBusy]; split <;> simp
@[simp] theorem lateReply_pwr (r c kv s) : (lateReply r c kv s).pwr = s.pwr := by
  unfold lateReply; split <;> simp [freeBusy]; split <;> simp
@[simp] theorem lateReply_clk (r c kv s) : (lateReply r c kv s).clk = s.clk := by
  unfold lateReply; split <;> simp [freeBusy]; split <;> simp
@[simp] theorem lateReply_assoc (r c kv s) : (lateReply r c kv s).assoc = s.assoc := by
  unfold lateReply; split <;> simp [freeBusy]; split <;> simp
@[simp] theorem lateReply_mem (r c kv s) : (lateReply r c kv s).mem = s.mem := by
  unfold lateReply; split <;> simp [freeBusy]; split <;> simp
@[simp] theorem lateReply_colls (r c kv s) : (lateReply r c kv s).colls = s.colls := by
  unfold lateReply; split <;> simp [freeBusy]; split <;> simp
@[simp] theorem lateReply_collsDisk (r c kv s) : (lateReply r c kv s).collsDisk = s.collsDisk := by
  unfold lateReply; split <;> simp [freeBusy]; split <;> simp

/-- Answering each of a list of waiting replies. -/
theorem answerList_keep {β : Type} (f : State → β) (h1 : ∀ r c kv s,
    f (lateReply r c kv s) = f s) (h2 : ∀ a b c d e g s, f (respond a b c d e g s) = f s) (l : List Wait) (s : State) :
  f (l.foldl (fun s w =>
    match w.route with
    | .dkp n =>
      if w.op == 0x0C then
        lateReply w.route w.reply.code (if w.sync then [("pos", .n s.kv.diskPos)] else w.reply.kv) s
      else respond n w.id w.op w.reply.code w.body 0 s
    | r => lateReply r w.reply.code (if w.sync then [("pos", .n s.kv.diskPos)] else w.reply.kv) s) s) = f s := by
  apply foldl_keep; intro s w; split
  · split <;> simp [h1, h2]
  · simp [h1]

/-- Answering what waited changes nothing that a reply keeps, but for the list of what waits. -/
theorem answerWaits_keep {β : Type} (f : State → β) (h1 : ∀ r c kv s,
    f (lateReply r c kv s) = f s) (h2 : ∀ a b c d e g s, f (respond a b c d e g s) = f s) (s : State) :
    f (answerWaits s) = f { s with kv := { s.kv with waits := (s.kv.waits.partition fun w => w.pos ≤ s.kv.diskPos).2 } } := by
  unfold answerWaits; split; rename_i go stay e; rw [e]; exact answerList_keep f h1 h2 go _
theorem answerWaits_kv (s) : (answerWaits s).kv = { s.kv with waits :=
  (s.kv.waits.partition fun w => w.pos ≤ s.kv.diskPos).2 } :=
  answerWaits_keep (fun s => s.kv) (by simp) (by simp) s
@[simp] theorem answerWaits_day (s) : (answerWaits s).day = s.day := answerWaits_keep (fun s => s.day) (by simp) (by simp) s
@[simp] theorem answerWaits_pwr (s) : (answerWaits s).pwr = s.pwr := answerWaits_keep (fun s => s.pwr) (by simp) (by simp) s
@[simp] theorem answerWaits_clk (s) : (answerWaits s).clk = s.clk := answerWaits_keep (fun s => s.clk) (by simp) (by simp) s
@[simp] theorem answerWaits_assoc (s) : (answerWaits s).assoc = s.assoc :=
  answerWaits_keep (fun s => s.assoc) (by simp) (by simp) s
@[simp] theorem answerWaits_mem (s) : (answerWaits s).mem = s.mem := answerWaits_keep (fun s => s.mem) (by simp) (by simp) s
@[simp] theorem answerWaits_colls (s) : (answerWaits s).colls = s.colls :=
  answerWaits_keep (fun s => s.colls) (by simp) (by simp) s
@[simp] theorem answerWaits_collsDisk (s) : (answerWaits s).collsDisk = s.collsDisk :=
  answerWaits_keep (fun s => s.collsDisk) (by simp) (by simp) s

/-! ## Programming -/

theorem applyItem_eq (s i) : applyItem s i =
    { s with kv := { s.kv with disk := (applyItem s i).kv.disk, ns0Disk := (applyItem s i).kv.ns0Disk }
             collsDisk := (applyItem s i).collsDisk } := by
  cases i <;> rfl

theorem applyItems_eq (l : List Item) (s) :
    ∃ d n c, l.foldl applyItem s = { s with kv := { s.kv with disk := d, ns0Disk := n }, collsDisk := c } := by
  induction l generalizing s with
  | nil => exact ⟨_, _, _, rfl⟩
  | cons i is ih =>
    obtain ⟨d, n, c, e⟩ := ih (applyItem s i)
    refine ⟨d, n, c, ?_⟩
    rw [List.foldl_cons, e, applyItem_eq s i]

theorem applyWrite_eq (s w) : ∃ d n c v, applyWrite s w =
    { s with kv := { s.kv with disk := d, ns0Disk := n, waf := v, diskPos := w.pos }, collsDisk := c } := by
  obtain ⟨d, n, c, e⟩ := applyItems_eq w.items s
  exact ⟨d, n, c, _, by unfold applyWrite noteWaf; rw [e]⟩

theorem applyWrites_eq (l : List Write) (s) : ∃ d n c v p,
    l.foldl applyWrite s = { s with kv := { s.kv with disk := d, ns0Disk := n, waf := v, diskPos := p }, collsDisk := c } ∧
      p = (l.getLast?.map (·.pos)).getD s.kv.diskPos := by
  induction l generalizing s with
  | nil => exact ⟨_, _, _, _, _, rfl, rfl⟩
  | cons i is ih =>
    obtain ⟨d0, n0, c0, v0, e0⟩ := applyWrite_eq s i
    obtain ⟨d, n, c, v, p, e, ep⟩ := ih (applyWrite s i)
    refine ⟨d, n, c, v, p, ?_, ?_⟩
    · rw [List.foldl_cons, e, e0]
    · rw [ep, e0]; cases is <;> simp [List.getLast?_cons]

/-- What programming the oldest writes does: the NAND, its position and what is dirty change, and what waited is answered. -/
theorem programDirty_eq (k s) : ∃ d n c v p,
    programDirty k s = answerWaits { s with
      kv := { s.kv with disk := d, ns0Disk := n, waf := v, diskPos := p, dirty := s.kv.dirty.drop k }, collsDisk := c } ∧
      p = ((s.kv.dirty.take k).getLast?.map (·.pos)).getD s.kv.diskPos := by
  obtain ⟨d, n, c, v, p, e, ep⟩ := applyWrites_eq (s.kv.dirty.take k) s
  exact ⟨d, n, c, v, p, by unfold programDirty; rw [e], ep⟩

@[simp] theorem persistAll_dirty (s) : (persistAll s).kv.dirty = [] := by
  obtain ⟨d, n, c, v, p, e, -⟩ := programDirty_eq s.kv.dirty.length s
  unfold persistAll; rw [e, answerWaits_kv]; simp
@[simp] theorem persistAll_day (s) : (persistAll s).day = s.day := by
  obtain ⟨d, n, c, v, p, e, -⟩ := programDirty_eq s.kv.dirty.length s
  unfold persistAll; rw [e]; simp
@[simp] theorem persistAll_pwr (s) : (persistAll s).pwr = s.pwr := by
  obtain ⟨d, n, c, v, p, e, -⟩ := programDirty_eq s.kv.dirty.length s
  unfold persistAll; rw [e]; simp
@[simp] theorem persistAll_clk (s) : (persistAll s).clk = s.clk := by
  obtain ⟨d, n, c, v, p, e, -⟩ := programDirty_eq s.kv.dirty.length s
  unfold persistAll; rw [e]; simp
@[simp] theorem persistAll_assoc (s) : (persistAll s).assoc = s.assoc := by
  obtain ⟨d, n, c, v, p, e, -⟩ := programDirty_eq s.kv.dirty.length s
  unfold persistAll; rw [e]; simp
@[simp] theorem persistAll_mem (s) : (persistAll s).mem = s.mem := by
  obtain ⟨d, n, c, v, p, e, -⟩ := programDirty_eq s.kv.dirty.length s
  unfold persistAll; rw [e]; simp
@[simp] theorem persistAll_colls (s) : (persistAll s).colls = s.colls := by
  obtain ⟨d, n, c, v, p, e, -⟩ := programDirty_eq s.kv.dirty.length s
  unfold persistAll; rw [e]; simp
@[simp] theorem persistAll_keys (s) : (persistAll s).kv.keys = s.kv.keys := by
  obtain ⟨d, n, c, v, p, e, -⟩ := programDirty_eq s.kv.dirty.length s
  unfold persistAll; rw [e, answerWaits_kv]

/-! ## Entering a mode -/

theorem takeSpare_keep {β : Type} (f : State → β) (hb : ∀ s n g, f (s.bothColls n g) = f s) (hr : ∀ i k s,
    f (raise i k s) = f s) (n m s) : f (takeSpare n m s) = f s := by
  unfold takeSpare; dsimp only; split <;> simp [hb, hr]
theorem resumeMerges_keep {β : Type} (f : State → β) (hb : ∀ s n g, f (s.bothColls n g) = f s) (hr : ∀ i k s,
    f (raise i k s) = f s) (s) : f (resumeMerges s) = f s := by
  unfold resumeMerges; apply foldl_keep; intro s c; dsimp only; split
  · split
    · rw [takeSpare_keep f hb hr, hb]
    · rfl
  · rfl
@[simp] theorem resumeMerges_day (s) : (resumeMerges s).day = s.day := resumeMerges_keep (fun s => s.day) (by simp) (by simp) s
@[simp] theorem resumeMerges_kv (s) : (resumeMerges s).kv = s.kv := resumeMerges_keep (fun s => s.kv) (by simp) (by simp) s
@[simp] theorem resumeMerges_pwr (s) : (resumeMerges s).pwr = s.pwr := resumeMerges_keep (fun s => s.pwr) (by simp) (by simp) s
@[simp] theorem resumeMerges_assoc (s) : (resumeMerges s).assoc = s.assoc :=
  resumeMerges_keep (fun s => s.assoc) (by simp) (by simp) s
@[simp] theorem resumeMerges_mem (s) : (resumeMerges s).mem = s.mem := resumeMerges_keep (fun s => s.mem) (by simp) (by simp) s
@[simp] theorem resumeMerges_clk (s) : (resumeMerges s).clk = s.clk := resumeMerges_keep (fun s => s.clk) (by simp) (by simp) s
theorem stopRecall_keep {β : Type} (f : State → β) (h1 : ∀ s v, f { s with sweep :=
  v } = f s) (hr : ∀ i k s, f (raise i k s) = f s) (r s) : f (stopRecall r s) = f s := by
  unfold stopRecall; split
  · rfl
  · simp [hr, dropAskers, h1]
@[simp] theorem stopRecall_day (r s) : (stopRecall r s).day = s.day := stopRecall_keep (fun s => s.day) (by simp) (by simp) r s
@[simp] theorem stopRecall_kv (r s) : (stopRecall r s).kv = s.kv := stopRecall_keep (fun s => s.kv) (by simp) (by simp) r s
@[simp] theorem stopRecall_clk (r s) : (stopRecall r s).clk = s.clk := stopRecall_keep (fun s => s.clk) (by simp) (by simp) r s
@[simp] theorem stopRecall_pwr (r s) : (stopRecall r s).pwr = s.pwr := stopRecall_keep (fun s => s.pwr) (by simp) (by simp) r s
@[simp] theorem stopRecall_assoc (r s) : (stopRecall r s).assoc = s.assoc :=
  stopRecall_keep (fun s => s.assoc) (by simp) (by simp) r s
@[simp] theorem stopRecall_mem (r s) : (stopRecall r s).mem = s.mem := stopRecall_keep (fun s => s.mem) (by simp) (by simp) r s
@[simp] theorem recompute_day (s) : (recomputeLimit s).day = { s.day with limit := limitNow s } := by
  unfold recomputeLimit; dsimp only; split <;> split <;> simp
@[simp] theorem recompute_kv (s) : (recomputeLimit s).kv = s.kv := by
  unfold recomputeLimit; dsimp only; split <;> split <;> simp
@[simp] theorem recompute_pwr (s) : (recomputeLimit s).pwr = s.pwr := by
  unfold recomputeLimit; dsimp only; split <;> split <;> simp
@[simp] theorem recompute_assoc (s) : (recomputeLimit s).assoc = s.assoc := by
  unfold recomputeLimit; dsimp only; split <;> split <;> simp
@[simp] theorem recompute_mem (s) : (recomputeLimit s).mem = s.mem := by
  unfold recomputeLimit; dsimp only; split <;> split <;> simp
@[simp] theorem recompute_colls (s) : (recomputeLimit s).colls = s.colls := by
  unfold recomputeLimit; dsimp only; split <;> split <;> simp
end Sys2Proof.Machine
end

