-- ==== Sys2Proof/Laws/Power.lean ====
section
/-! SUPPORT. What losing the update, a pending sync, the core or the service leaves as it was, and what the way down does. -/

namespace Sys2Proof.Machine

/-! ## What raises an event at most -/

theorem dropUpdate_keep {β : Type} (f : State → β) (h1 : ∀ s v, f { s with boot := v } = f s)
    (hr : ∀ i k s, f (raise i k s) = f s) (s : State) : f (dropUpdate s) = f s := by
  unfold dropUpdate; split
  · rfl
  · dsimp only; split <;> simp [h1, hr]

theorem cancelSync_keep {β : Type} (f : State → β) (h1 : ∀ s : State, f { s with clk := { s.clk with syncAt := none } } = f s)
    (hr : ∀ i k s, f (raise i k s) = f s) (s : State) : f (cancelSync s) = f s := by
  unfold cancelSync; split <;> simp [h1, hr]

@[simp] theorem dropUpdate_pwr (s) : (dropUpdate s).pwr = s.pwr := dropUpdate_keep (·.pwr) (by simp) (by simp) s
@[simp] theorem dropUpdate_clk (s) : (dropUpdate s).clk = s.clk := dropUpdate_keep (·.clk) (by simp) (by simp) s
@[simp] theorem dropUpdate_day (s) : (dropUpdate s).day = s.day := dropUpdate_keep (·.day) (by simp) (by simp) s
@[simp] theorem dropUpdate_line (s) : (dropUpdate s).line = s.line := dropUpdate_keep (·.line) (by simp) (by simp) s
@[simp] theorem dropUpdate_bridge (s) : (dropUpdate s).bridge = s.bridge := dropUpdate_keep (·.bridge) (by simp) (by simp) s
@[simp] theorem dropUpdate_sec (s) : (dropUpdate s).sec = s.sec := dropUpdate_keep (·.sec) (by simp) (by simp) s
@[simp] theorem dropUpdate_mem (s) : (dropUpdate s).mem = s.mem := dropUpdate_keep (·.mem) (by simp) (by simp) s
@[simp] theorem dropUpdate_kv (s) : (dropUpdate s).kv = s.kv := dropUpdate_keep (·.kv) (by simp) (by simp) s
@[simp] theorem dropUpdate_collsDisk (s) : (dropUpdate s).collsDisk = s.collsDisk := dropUpdate_keep (·.collsDisk) (by simp) (by simp) s
@[simp] theorem dropUpdate_sweep (s) : (dropUpdate s).sweep = s.sweep := dropUpdate_keep (·.sweep) (by simp) (by simp) s
@[simp] theorem dropUpdate_assoc (s) : (dropUpdate s).assoc = s.assoc := dropUpdate_keep (·.assoc) (by simp) (by simp) s
@[simp] theorem dropUpdate_out (s) : (dropUpdate s).out = s.out := dropUpdate_keep (·.out) (by simp) (by simp) s
@[simp] theorem dropUpdate_pending (s) : (dropUpdate s).pending = s.pending := dropUpdate_keep (·.pending) (by simp) (by simp) s
theorem dropUpdate_reg (s : State) (p i) (h : p ≠ .EVT_LOG_LOST) : (dropUpdate s).reg p i = s.reg p i :=
  dropUpdate_keep (·.reg p i) (fun _ _ => rfl) (fun a b c => raise_reg a b c p i h) s

@[simp] theorem cancelSync_pwr (s) : (cancelSync s).pwr = s.pwr := cancelSync_keep (·.pwr) (by simp) (by simp) s
@[simp] theorem cancelSync_day (s) : (cancelSync s).day = s.day := cancelSync_keep (·.day) (by simp) (by simp) s
@[simp] theorem cancelSync_line (s) : (cancelSync s).line = s.line := cancelSync_keep (·.line) (by simp) (by simp) s
@[simp] theorem cancelSync_bridge (s) : (cancelSync s).bridge = s.bridge := cancelSync_keep (·.bridge) (by simp) (by simp) s
@[simp] theorem cancelSync_boot (s) : (cancelSync s).boot = s.boot := cancelSync_keep (·.boot) (by simp) (by simp) s
@[simp] theorem cancelSync_sec (s) : (cancelSync s).sec = s.sec := cancelSync_keep (·.sec) (by simp) (by simp) s
@[simp] theorem cancelSync_mem (s) : (cancelSync s).mem = s.mem := cancelSync_keep (·.mem) (by simp) (by simp) s
@[simp] theorem cancelSync_kv (s) : (cancelSync s).kv = s.kv := cancelSync_keep (·.kv) (by simp) (by simp) s
@[simp] theorem cancelSync_collsDisk (s) : (cancelSync s).collsDisk = s.collsDisk := cancelSync_keep (·.collsDisk) (by simp) (by simp) s
@[simp] theorem cancelSync_sweep (s) : (cancelSync s).sweep = s.sweep := cancelSync_keep (·.sweep) (by simp) (by simp) s
@[simp] theorem cancelSync_assoc (s) : (cancelSync s).assoc = s.assoc := cancelSync_keep (·.assoc) (by simp) (by simp) s
@[simp] theorem cancelSync_out (s) : (cancelSync s).out = s.out := cancelSync_keep (·.out) (by simp) (by simp) s
@[simp] theorem cancelSync_pending (s) : (cancelSync s).pending = s.pending := cancelSync_keep (·.pending) (by simp) (by simp) s
theorem cancelSync_reg (s : State) (p i) (h : p ≠ .EVT_LOG_LOST) : (cancelSync s).reg p i = s.reg p i :=
  cancelSync_keep (·.reg p i) (fun _ => rfl) (fun a b c => raise_reg a b c p i h) s

/-! ## The core reset -/

theorem cellsGet_filter_kept (l : List Cell) (p : Param) (i : Nat) (h : p.info.kept = true) :
    cellsGet (l.filter fun c => c.p.info.kept) p i = cellsGet l p i := by
  induction l with
  | nil => rfl
  | cons c cs ih =>
    rw [List.filter_cons]
    by_cases hk : c.p.info.kept = true
    · rw [if_pos hk]; simp only [cellsGet, ih]
    · rw [if_neg hk, ih]
      have : c.p ≠ p := fun e => hk (by rw [e, h])
      simp [cellsGet, this]

@[simp] theorem coreReset_pwr (s) : (coreReset s).pwr = s.pwr := by simp [coreReset, loseDirty]
@[simp] theorem coreReset_mode (s) : (coreReset s).mode = s.mode := by simp [coreReset, loseDirty, State.mode]
@[simp] theorem coreReset_sess (s) : (coreReset s).sess = [] := rfl
@[simp] theorem coreReset_bridge (s) : (coreReset s).bridge = Bridge.reset := rfl
@[simp] theorem coreReset_keys (s) : (coreReset s).kv.keys = s.kv.disk := by simp [coreReset, loseDirty]
@[simp] theorem coreReset_dirty (s) : (coreReset s).kv.dirty = [] := rfl
@[simp] theorem coreReset_otp (s) : (coreReset s).sec.otp = s.sec.otp := by simp [coreReset, loseDirty]
@[simp] theorem coreReset_pending (s) : (coreReset s).pending = s.pending := by simp [coreReset, loseDirty]
@[simp] theorem coreReset_out (s) : (coreReset s).out = s.out := by simp [coreReset, loseDirty]
theorem coreReset_reg (s : State) (p i) (h : p.info.kept = true) (h2 : p ≠ .EVT_LOG_LOST) :
    (coreReset s).reg p i = s.reg p i := by
  have k : (loseDirty false (cancelSync (dropUpdate s))).reg p i = s.reg p i := by
    exact (cancelSync_reg _ p i h2).trans (dropUpdate_reg s p i h2)
  rw [← k]
  show (cellsGet (List.filter _ _) p i).getD _ = _
  rw [cellsGet_filter_kept _ _ _ h]; rfl

/-! ## The way down -/

theorem startUp_keep (s : State) :
    (startUp s).kv.keys = s.kv.disk ∧ (startUp s).kv.dirty = [] ∧ (startUp s).sess = [] ∧ (startUp s).sec.otp = s.sec.otp ∧
      (startUp s).pwr.on = s.pwr.on ∧ (startUp s).mode = s.mode ∧ (startUp s).pending = s.pending := by
  simp [startUp, State.mode]; exact coreReset_mode s

/-- What a wake finds, at any level of PWR_FAIL_N. -/
theorem seePwrFail_eq (s : State) : ∃ b n, seePwrFail s = { s with pwr := { s.pwr with pwrFailN := b }, freeCtr := n } := by
  unfold seePwrFail; split
  · exact ⟨_, _, rfl⟩
  · exact ⟨_, _, rfl⟩

/-- A wake from Midnight does nothing, or starts the sequence. -/
theorem wake_M0 (src : Nat) (s : State) (h : s.mode = .M0) : ∃ b n, ∃ u : State,
    u = { s with pwr := { s.pwr with pwrFailN := b }, freeCtr := n } ∧
      (wake src s = u ∨ wake src s = s ∨ ∃ r, wake src s = startUp { u with regs := r }) := by
  obtain ⟨b, n, e⟩ := seePwrFail_eq s
  refine ⟨b, n, _, rfl, ?_⟩
  have hn : s.mode.num ≤ 1 := by rw [h]; decide
  unfold wake
  rw [if_pos hn, e]
  clear e
  have hm' : ({ s with pwr := { s.pwr with pwrFailN := b }, freeCtr := n } : State).mode = .M0 := h
  generalize ({ s with pwr := { s.pwr with pwrFailN := b }, freeCtr := n } : State) = u at hm'
  split
  · exact .inr (.inl rfl)
  · dsimp only
    split
    · exact .inl rfl
    · rw [hm', if_pos (by decide)]
      split
      · refine .inr (.inr ?_)
        split
        · exact ⟨_, rfl⟩
        · exact ⟨_, rfl⟩
      · exact .inl rfl

theorem setDomains_reg (n : Nat) (s : State) (p i) : (setDomains n s).reg p i = s.reg p i := rfl

theorem enterMidnight_facts (s : State) :
    (enterMidnight s).pwr.on = 1 ∧ (enterMidnight s).mode = .M0 ∧ (enterMidnight s).sess = [] ∧
      (enterMidnight s).sec.otp = s.sec.otp ∧ (enterMidnight s).pending = s.pending ∧ (enterMidnight s).kv = s.kv ∧
      (enterMidnight s).pwr.pfHigh = s.pwr.pfHigh ∧ (enterMidnight s).pwr.en = 0 ∧ (enterMidnight s).pwr.seq = .idle ∧
      (enterMidnight s).pwr.failing = false := by
  simp [enterMidnight, domainsReady, setDomains, holdPins, State.mode, enterMode]

theorem reachMidnight_of_low (s : State) (h : s.pwr.pfHigh = false) : reachMidnight s = enterMidnight s := by
  unfold reachMidnight; rw [if_neg (by rw [(enterMidnight_facts s).2.2.2.2.2.2.1, h]; decide)]

theorem midnight_reg (s : State) (p i) (h : p ∉ sendRegs) (h0 : s.pwr.pfHigh = false) : (reachMidnight s).reg p i = s.reg p i := by
  have h2 : p ≠ .EVT_LOG_LOST := fun e => h (by simp [sendRegs, e])
  rw [reachMidnight_of_low s h0]
  show (enterMode .M0 _).reg p i = _
  rw [enterMode_reg _ _ _ _ h]
  exact cancelSync_reg s p i h2

/-- Midnight, whether or not the debounce of a power failure has ended meanwhile. -/
theorem reachMidnight_facts (s : State) :
    (reachMidnight s).pwr.on = 1 ∧ (reachMidnight s).mode = .M0 ∧ (reachMidnight s).sess = [] ∧
      (reachMidnight s).sec.otp = s.sec.otp ∧ (reachMidnight s).pending = s.pending ∧
      (s.kv.dirty = [] → (reachMidnight s).kv.dirty = []) ∧
      (s.kv.keys = s.kv.disk → (reachMidnight s).kv.keys = s.kv.disk) ∧
      (s.pwr.pfHigh = false → (reachMidnight s).pwr.en = 0 ∧ (reachMidnight s).pwr.seq = .idle ∧
        (reachMidnight s).pwr.failing = false ∧ (reachMidnight s).kv = s.kv) := by
  have f := enterMidnight_facts s
  unfold reachMidnight
  generalize enterMidnight s = u at f
  dsimp only
  obtain ⟨f1, f2, f3, f4, f5, f6, f7, f8, f9, f10⟩ := f
  by_cases hp : u.pwr.pfHigh = true
  · rw [if_pos hp]
    obtain ⟨b, n, v, hv, hw⟩ := wake_M0 3 { u with pwr := { u.pwr with pfHigh := false } } f2
    have hs : s.pwr.pfHigh = true := by rw [← f7]; exact hp
    obtain hw | hw | ⟨r, hw⟩ := hw
    · rw [hw, hv]; refine ⟨f1, f2, f3, f4, f5, ?_, ?_, ?_⟩
      · intro a; simpa [f6] using a
      · intro a; simpa [f6] using a
      · simp [hs]
    · rw [hw]; refine ⟨f1, f2, f3, f4, f5, ?_, ?_, ?_⟩
      · intro a; simpa [f6] using a
      · intro a; simpa [f6] using a
      · simp [hs]
    · rw [hw]
      obtain ⟨k1, k2, k3, k4, k5, k6, k7⟩ := startUp_keep { v with regs := r }
      refine ⟨?_, ?_, k3, ?_, ?_, fun _ => k2, ?_, ?_⟩
      · rw [k5, hv]; exact f1
      · rw [k6, hv]; exact f2
      · rw [k4, hv]; exact f4
      · rw [k7, hv]; exact f5
      · intro a; rw [k1, hv]; simp [f6]
      · simp [hs]
  · rw [if_neg hp]
    refine ⟨f1, f2, f3, f4, f5, ?_, ?_, fun _ => ⟨f8, f9, f10, f6⟩⟩
    · intro a; rw [f6, a]
    · intro a; rw [f6, a]

/-- One step of the way down: the core is off, and what the store held stands. -/
theorem powerDown_facts (s : State) :
    (powerDown s).pwr.on = 1 ∧ (powerDown s).sec.otp = s.sec.otp ∧ (powerDown s).pending = s.pending ∧
      (s.kv.dirty = [] → (powerDown s).kv.dirty = []) ∧ (s.kv.keys = s.kv.disk → (powerDown s).kv.keys = s.kv.disk) ∧
      (s.sess = [] → (powerDown s).sess = []) := by
  have k := fun t : State => reachMidnight_facts t
  unfold powerDown
  dsimp only
  split
  · obtain ⟨h1, h2, h3, h4, h5, h6, h7, h8⟩ := k { s with pwr := { s.pwr with failing := false } }
    exact ⟨h1, h4, h5, h6, h7, fun _ => h3⟩
  · split
    · obtain ⟨h1, h2, h3, h4, h5, h6, h7, h8⟩ := k (setDomains 1 { s with pwr := _ })
      exact ⟨h1, h4, h5, h6, h7, fun _ => h3⟩
    · exact ⟨rfl, rfl, rfl, id, id, id⟩

theorem powerDown_reg (s : State) (p i) (h : p ∉ sendRegs) (h0 : s.pwr.pfHigh = false) : (powerDown s).reg p i = s.reg p i := by
  unfold powerDown
  dsimp only
  split
  · rw [midnight_reg]; · rfl
    · exact h
    · exact h0
  · split
    · rw [midnight_reg]; · rfl
      · exact h
      · exact h0
    · rfl

/-! ## Losing the service -/

@[simp] theorem dropService_pwr (s) : (dropService s).pwr = s.pwr := by simp [dropService, clearQueries]
@[simp] theorem dropService_sec (s) : (dropService s).sec = s.sec := by simp [dropService, clearQueries]
@[simp] theorem dropService_mode (s) : (dropService s).mode = s.mode := by simp [dropService, clearQueries, State.mode]
@[simp] theorem dropService_sess (s) : (dropService s).sess = [] := rfl
@[simp] theorem dropService_keys (s) : (dropService s).kv.keys = s.kv.keys := by simp [dropService, clearQueries]
@[simp] theorem dropService_disk (s) : (dropService s).kv.disk = s.kv.disk := by simp [dropService, clearQueries]
@[simp] theorem dropService_dirty (s) : (dropService s).kv.dirty = s.kv.dirty := by simp [dropService, clearQueries]
theorem dropService_reg (s : State) (p i) (h : p ≠ .EVT_LOG_LOST) : (dropService s).reg p i = s.reg p i :=
  (cancelSync_reg _ p i h).trans (dropUpdate_reg s p i h)

/-- What a loss without a flush leaves (R50, R58). -/
theorem collapse_facts (s : State) :
    (collapse s).pwr.on = 1 ∧ (collapse s).sec.otp = s.sec.otp ∧ (collapse s).kv.dirty = [] ∧
      (collapse s).kv.keys = s.kv.disk ∧ (collapse s).sess = [] := by
  unfold collapse
  obtain ⟨h1, h2, h3, h4, h5, h6⟩ := powerDown_facts (dropService (loseDirty true
    ((s.setReg .PWR_PLP_STATUS (if s.kv.dirty.isEmpty then 3 else 2)).setReg .PWR_FLUSH_US 0)))
  refine ⟨h1, ?_, h4 (by simp [loseDirty]), ?_, h6 rfl⟩
  · rw [h2]; simp [loseDirty]
  · rw [h5 (by simp [loseDirty])]; simp [loseDirty]

theorem collapse_reg (s : State) (p i) (h : p ∉ sendRegs) (h0 : s.pwr.pfHigh = false) : (collapse s).reg p i =
    ((s.setReg .PWR_PLP_STATUS (if s.kv.dirty.isEmpty then 3 else 2)).setReg .PWR_FLUSH_US 0).reg p i := by
  have h2 : p ≠ .EVT_LOG_LOST := fun e => h (by simp [sendRegs, e])
  unfold collapse
  dsimp only
  rw [powerDown_reg _ _ _ h (by simpa [loseDirty] using h0), dropService_reg _ _ _ h2]; rfl

end Sys2Proof.Machine
end

