-- ==== Sys2Proof/WellFormed.lean ====
section
/-! DEFINITION. Which commands are well formed: every operand lies in the range its field or its text can carry. The
machine gives every command a meaning, well formed or not. -/

namespace Sys2Proof

/-- Every element is a byte. -/
def textWf (t : Text) : Bool := t.all fun b => decide (b < 256)

/-- A parsed line has byte keys and byte values, and a unit address of two digits (R96). -/
def Line.wf (l : Line) : Bool :=
  (match l.addr with | .unit n => decide (n < 100) | _ => true) &&
    l.args.all fun a => textWf a.key && textWf a.val && !a.key.isEmpty

/-- A line of a connection is bytes. -/
def LineIn.wf : LineIn → Bool
  | .ring => true
  | .tls _ t => textWf t
  | .key _ _ => true

/-- A DRAM error lies in one of the six regions and in one of a stripe's eight blocks (R276, R279). -/
def DramErr.wf (e : DramErr) : Bool := decide (1 ≤ e.region) && decide (e.region ≤ 6) && decide (e.block < 8)

/-- A cell fault lies in an entry of the array, and a shadow code has three states (R446, R454). -/
def Upset.wf (u : Upset) : Bool := decide (u.bank < 16) && decide (u.idx < 4096) && decide (u.code < 3)

/-- The check of a command. -/
def Instr.wellFormed : Instr → Bool
  | .vaonPowerOnReset => true
  | .vaonLoss => true
  | .vddioAAbsent => true
  | .vddioAReturnRestart => true
  | .refclkLoss => true
  | .refclkReturn => true
  | .seqPgHigh g => decide (g < 6)
  | .pgTimeout => true
  | .powerGoodLoss g => decide (g < 6)
  | .powerDownEnableStep => true
  | .sequenceRestart => true
  | .wakeNFall => true
  | .taiWake => true
  | .resetNAssert => true
  | .resetNRelease => true
  | .pwrFailNAccepted => true
  | .plpFlushComplete _ => true
  | .pfDebounceExpiry => true
  | .smallHoursEntry => true
  | .smallHoursResume _ => true
  | .temperatureReading _ => true
  | .sensorDisagreement => true
  | .powerMeasurementUpdate _ _ => true
  | .domainGated d => decide (d < 11)
  | .domainOnComplete d => decide (d < 11)
  | .bridgeHeartbeat => true
  | .bridgeLost => true
  | .bridgeMirrorLoaded => true
  | .mirrorChangeReport _ _ => true
  | .mirroredWriteAck => true
  | .ptpSync port _ _ => decide (port < 2)
  | .ptpAnnounce port _ _ _ _ _ => decide (port < 2)
  | .ptpDelayResp port _ _ => decide (port < 2)
  | .ptpDelayReqSend => true
  | .announceTimeout => true
  | .taiSet _ lo hi => decide (lo < 4294967296) && decide (hi < 4294967296)
  | .taiInvalidate _ v => decide (v < 4294967296)
  | .cascClkPhaseWithdraw => true
  | .cascLockRejoin => true
  | .oscTrimWindow _ _ => true
  | .islSync l => l.wf
  | .scheduledSyncFire => true
  | .modeSet l => l.wf
  | .modeShow l => l.wf
  | .drainComplete => true
  | .drainTimeout => true
  | .duskJobStopped => true
  | .duskJobStart => true
  | .almanacTick _ _ _ _ => true
  | .idleMergeCheck _ => true
  | .scrubPeriodUpdate => true
  | .flashHoldupWrite _ v => decide (v < 4294967296)
  | .dirtyMaxWrite _ v => decide (v < 4294967296)
  | .ibianByteReceived b _ => decide (b < 256)
  | .ibianLineReceived src => src.wf
  | .echoRelease => true
  | .passThroughRunTimeout => true
  | .forwardedCrEnd => true
  | .noticeSend _ => true
  | .breakReceived => true
  | .receiveLoss => true
  | .receiveLossRepeat => true
  | .receiveRestored => true
  | .addrChain l => l.wf
  | .addrSet l => l.wf
  | .ringProbe l => l.wf
  | .lineRate l => l.wf
  | .lineRateSwitch => true
  | .rateRevert => true
  | .lineSetpin l => l.wf
  | .lineNotices l => l.wf
  | .lineShow l => l.wf
  | .loginPin l => l.wf
  | .loginChallenge l => l.wf
  | .loginOwner l => l.wf
  | .loginVendor l => l.wf
  | .loginOut l => l.wf
  | .loginIdleFallback _ => true
  | .loginLockExpiry _ => true
  | .tlsConnectionOpen port _ _ => decide (port < 2)
  | .tlsConnectionClose _ => true
  | .sysStatus l => l.wf
  | .sysReset l => l.wf
  | .sysDiag l => l.wf
  | .auxIslSourceChange _ => true
  | .loopDieStart _ => true
  | .loopDieReset => true
  | .startUpTimeout => true
  | .drawUpdate _ _ => true
  | .amplitudeChangeApply => true
  | .feOutput _ => true
  | .holdMaxExpiry => true
  | .faultHoldToFail => true
  | .loopCurrentDeparture _ => true
  | .mainStale => true
  | .mainPvWrite _ v => decide (v < 4294967296)
  | .fixUaWrite _ v => decide (v < 4294967296)
  | .fixTimeout => true
  | .loopCurEnWrite _ v => decide (v < 4294967296)
  | .loopWpChange _ => true
  | .writeUnit => true
  | .recordedSampleTaken => true
  | .sampleStore => true
  | .sampleStoreRetry => true
  | .backfillStart => true
  | .backfillComplete => true
  | .islShow l => l.wf
  | .islSet l => l.wf
  | .feShow l => l.wf
  | .feSet l => l.wf
  | .hartShow l => l.wf
  | .hartSet l => l.wf
  | .calZero l => l.wf
  | .calSpan l => l.wf
  | .calPhase l => l.wf
  | .calLoop l => l.wf
  | .calTpoint l => l.wf
  | .calTcommit l => l.wf
  | .calSave l => l.wf
  | .calRestore l => l.wf
  | .calClear l => l.wf
  | .calShow l => l.wf
  | .hartCmd0ReadUniqueId q => textWf q.data
  | .hartCmd1ReadPv q => textWf q.data
  | .hartCmd2ReadCurrentPercent q => textWf q.data
  | .hartCmd3ReadDynamicVars q => textWf q.data
  | .hartCmd6WritePollingAddr q => textWf q.data
  | .hartCmd7ReadLoopConfig q => textWf q.data
  | .hartCmd8ReadClassifications q => textWf q.data
  | .hartCmd9ReadVarsStatus q => textWf q.data
  | .hartCmd11ReadIdByTag q => textWf q.data
  | .hartCmd12ReadMessage q => textWf q.data
  | .hartCmd13ReadTagDescriptor q => textWf q.data
  | .hartCmd14ReadTransducer q => textWf q.data
  | .hartCmd15ReadDeviceInfo q => textWf q.data
  | .hartCmd16ReadFan q => textWf q.data
  | .hartCmd17WriteMessage q => textWf q.data
  | .hartCmd18WriteTagDescriptor q => textWf q.data
  | .hartCmd19WriteFan q => textWf q.data
  | .hartCmd20ReadLongTag q => textWf q.data
  | .hartCmd21ReadIdByLongTag q => textWf q.data
  | .hartCmd22WriteLongTag q => textWf q.data
  | .hartCmd33ReadDeviceVars q => textWf q.data
  | .hartCmd34WriteDamping q => textWf q.data
  | .hartCmd35WriteRange q => textWf q.data
  | .hartCmd36SetUrv q => textWf q.data
  | .hartCmd37SetLrv q => textWf q.data
  | .hartCmd38ResetConfigChanged q => textWf q.data
  | .hartCmd40FixedCurrent q => textWf q.data
  | .hartCmd42DeviceReset q => textWf q.data
  | .hartCmd43SetPvZero q => textWf q.data
  | .hartCmd44WritePvUnits q => textWf q.data
  | .hartCmd45TrimLoopZero q => textWf q.data
  | .hartCmd46TrimLoopGain q => textWf q.data
  | .hartCmd48ReadAdditional q => textWf q.data
  | .hartCmd54ReadVarInfo q => textWf q.data
  | .hartCmd59WritePreambles q => textWf q.data
  | .hartCmd103BurstPeriod q => textWf q.data
  | .hartCmd104BurstTrigger q => textWf q.data
  | .hartCmd105BurstConfig q => textWf q.data
  | .hartCmd108BurstCommand q => textWf q.data
  | .hartCmd109BurstControl q => textWf q.data
  | .hartCmd128ReadStatus q => textWf q.data
  | .hartCmd129ReadFeResults q => textWf q.data
  | .hartCmd130ReadFeConfig q => textWf q.data
  | .hartCmd131WriteFeConfig q => textWf q.data
  | .hartCmd132ZeroTrim q => textWf q.data
  | .hartCmd133SpanTrim q => textWf q.data
  | .hartCmd134PhaseTrim q => textWf q.data
  | .hartCmd135ReadScaling q => textWf q.data
  | .hartCmd136WriteScaling q => textWf q.data
  | .hartCmd137CalSetAction q => textWf q.data
  | .hartCmd138ReadSupply q => textWf q.data
  | .hartCmd139WriteFailSettings q => textWf q.data
  | .hartCmd140SyncReset q => textWf q.data
  | .hartUnsupportedCommand _ q => textWf q.data
  | .hartBurstSend => true
  | .dawn f => decide (f.straps < 8)
  | .handover => true
  | .nightfallHoldoffExpiry => true
  | .handoverWatchdog => true
  | .recInfo l => l.wf
  | .recOpen l => l.wf
  | .recData l => l.wf
  | .recCommit l => l.wf
  | .recAbort l => l.wf
  | .recBoot l => l.wf
  | .bootShow l => l.wf
  | .bootOpen l => l.wf
  | .bootData l => l.wf
  | .bootFromkv l => l.wf
  | .bootCommit l => l.wf
  | .bootActivate l => l.wf
  | .bootAbort l => l.wf
  | .lcShow l => l.wf
  | .lcChallenge l => l.wf
  | .lcAuth l => l.wf
  | .lcAdvance l => l.wf
  | .lcRecommission l => l.wf
  | .lcDebugkey l => l.wf
  | .lcSigner l => l.wf
  | .lcRevoke l => l.wf
  | .vaultShow l => l.wf
  | .vaultSetowner l => l.wf
  | .vaultGenid l => l.wf
  | .vaultPsk l => l.wf
  | .vaultCa l => l.wf
  | .vaultCert l => l.wf
  | .vaultCsr l => l.wf
  | .vaultCred l => l.wf
  | .vaultLockWrite _ _ v => decide (v < 4294967296)
  | .trngHealthFail => true
  | .alarmSourceFires src => decide (src < 8)
  | .eraseBurnComplete _ => true
  | .alarmRecordWritten => true
  | .almShow l => l.wf
  | .almClear l => l.wf
  | .debugPortAccess _ _ => true
  | .sunriseStageComplete _ => true
  | .sunriseHaltRetry => true
  | .dramRetrain ch _ => decide (ch < 16)
  | .dramPatrolScrub ch f => decide (ch < 16) && f.errs.all DramErr.wf && f.upsets.all Upset.wf
  | .nandOperationComplete ch _ _ _ _ _ => decide (ch < 16)
  | .nandTargetTimeout ch _ => decide (ch < 16)
  | .blockRelocation _ => true
  | .checkpointDue => true
  | .checkpointComplete _ => true
  | .plpReserveRebuilt => true
  | .repartitionJob _ => true
  | .formatJob _ => true
  | .ethernetFrameReceived port _ => decide (port < 2)
  | .pauseFrame port _ => decide (port < 2)
  | .linkUp port => decide (port < 2)
  | .linkDown port => decide (port < 2)
  | .linkHoldExpiry port => decide (port < 2)
  | .dhcpMessage port _ => decide (port < 2)
  | .dhcpTimer port _ _ => decide (port < 2)
  | .addressConflictRetry port => decide (port < 2)
  | .neighbourEntryAge port _ => decide (port < 2)
  | .reassemblyTimeout port _ => decide (port < 2)
  | .routerAdvertisement port _ _ _ => decide (port < 2)
  | .clientHello _ => true
  | .handshakeComplete _ _ => true
  | .handshakeTimeout _ => true
  | .flightRetransmit _ => true
  | .handshakeTokenRefill => true
  | .cookieKeyRotate => true
  | .dtlsRecordReceived _ _ => true
  | .sessionIdleTimeout _ => true
  | .dkpSegmentReceived _ seg => textWf seg
  | .dkpAckReceived _ seg => textWf seg
  | .dkpResendTimeout _ _ => true
  | .dkpReassemblyTimeout _ _ => true
  | .dkpGet q => textWf q.body
  | .dkpPut q => textWf q.body
  | .dkpDelete q => textWf q.body
  | .dkpCas q => textWf q.body
  | .dkpScan q => textWf q.body
  | .dkpBatch q => textWf q.body
  | .dkpVput q => textWf q.body
  | .dkpVdel q => textWf q.body
  | .dkpSearch q => textWf q.body
  | .dkpStat q => textWf q.body
  | .eventsSubscribe q => textWf q.body
  | .eventsReadLog q => textWf q.body
  | .eventsEnd q => textWf q.body
  | .dkpAdmin q => textWf q.body
  | .dkpAssocSearch q => textWf q.body
  | .dkpAssocStep q => textWf q.body
  | .dkpAssocClose q => textWf q.body
  | .dkpAssocWrite q => textWf q.body
  | .eventPush _ => true
  | .keyExpiryRemoval _ key => textWf key
  | .snapshotEnd _ _ => true
  | .dirtyDataProgrammed _ => true
  | .garbageCollection _ _ => true
  | .kvGet l => l.wf
  | .kvScan l => l.wf
  | .kvStat l => l.wf
  | .kvPut l => l.wf
  | .kvCas l => l.wf
  | .kvDel l => l.wf
  | .kvSync l => l.wf
  | .kvNs l => l.wf
  | .collCreate l => l.wf
  | .collDrop l => l.wf
  | .collDropComplete coll => decide (coll < 64)
  | .collSet l => l.wf
  | .collShow l => l.wf
  | .collList l => l.wf
  | .maintMerge l => l.wf
  | .mergeStart coll => decide (coll < 64)
  | .chunkProgrammed coll => decide (coll < 64)
  | .maintReload l => l.wf
  | .maintRebuild l => l.wf
  | .rebuildJob _ => true
  | .maintJobs l => l.wf
  | .batchReady coll _ => decide (coll < 64)
  | .batchBoundary => true
  | .idleBoundary => true
  | .sweepPassEnd => true
  | .rerankFetchComplete _ => true
  | .queryComplete _ => true
  | .exactBatchComplete => true
  | .walkCtxDrainComplete => true
  | .watchPeriod n => decide (n < 8)
  | .watchRunComplete n => decide (n < 8)
  | .srchNear l => l.wf
  | .srchWatch l => l.wf
  | .srchUnwatch l => l.wf
  | .srchWatches l => l.wf
  | .srchRecall l => l.wf
  | .recallJobComplete => true
  | .srchResult l => l.wf
  | .assocSearch l => l.wf
  | .assocStep l => l.wf
  | .assocClose l => l.wf
  | .assocWrite l => l.wf
  | .assocRead l => l.wf
  | .assocShow l => l.wf
  | .cascShow l => l.wf
  | .policyBanksWrite _ v => decide (v < 4294967296)
  | .bankOnWrite _ v => decide (v < 4294967296)
  | .dwWrite _ v => decide (v < 4294967296)
  | .policyReloadComplete => true
  | .scrubPassDue => true
  | .scrubPassComplete => true
  | .cursorIdleTimeout n => decide (n < 256)
  | .cascadeSlot _ => true
  | .cascadeFrameResult _ => true
  | .cascadeMemberAbsent pos => decide (pos < 8)
  | .cascadeMemberPresent pos => decide (pos < 8)
  | .evtShow l => l.wf
  | .evtList l => l.wf
  | .evtSet l => l.wf
  | .evtClear l => l.wf
  | .evtGpio l => l.wf
  | .evtLog l => l.wf
  | .evtInject l => l.wf
  | .eventLatchClearWrite _ id => decide (id < 1024)
  | .gpioPulseEnd k => decide (k < 8)
  | .logProgram => true
  | .regRead l => l.wf
  | .regDump l => l.wf
  | .regWrite l => l.wf
  | .cfgShow l => l.wf
  | .cfgCommit l => l.wf
  | .cfgDiscard l => l.wf
  | .epochBoundaryApply => true
  | .drainCommitApply => true
  | .duskCommitJob _ => true
  | .govShow l => l.wf
  | .govPin l => l.wf
  | .collectionReloadComplete coll _ => decide (coll < 64)
  | .dramStructureRebuilt _ => true
  | .addressProbeComplete port _ => decide (port < 2)
  | .hartFrameError => true
  | .bridgeFrameCheckFail => true
  | .trngHealthRecovered => true
  | .alarmSourceCleared src => decide (src < 8)

end Sys2Proof
end

