-- ==== Sys2Proof/Tests/Slice0.lean ====
section
/-! SUPPORT. Small tests: the checks of WellFormed, single steps whose results the spec works out, and for every statement
a state and operands that meet the hypotheses of its clauses together. -/

namespace Sys2Proof.Tests

set_option Elab.async false

open Sys2Proof.Machine

/-! ## States and lines for the tests -/

/-- A route at a level. -/
def atLevel (r : Route) (n : Nat) : RouteSt := { RouteSt.start r true 0 0 with level := n }

/-- A unit in service with every group up, the bridge up, the loop die started, the ring route at OWNER. -/
def up : State :=
  State.setReg (p := .FLASH_USER_GIB) (v := 1) <| State.setReg (p := .GOV_DIRTY_LIMIT_KIB) (v := 1024) { State.reset with
    pwr := { Pwr.reset with on := 0x67F, ready := 0x67F, seq := .idle, en := 0x3F, pg := 0x3F, pgSeen := 0x3F }
    day := { Day.reset with mode := .M4, target := .M4, limit := 1048576 }
    bridge := { Bridge.reset with link := 2 }
    loop := { Loop.reset with visl := true, link := true, started := true }
    kv := { Kv.reset with mounted := true }
    sec := { Sec.reset with recKeys := [(1, [1]), (2, [1])] }
    mem := { Mem.reset with targets := [⟨0, 0, true, false, 1000, 0, 0⟩], freePermille := 500 }
    routes := [atLevel .ring 2] }

/-- The same unit in another mode. -/
def at_ (m : Mode) (s : State) : State := { s with day := { s.day with mode := m } }

/-- The same unit with the ring route at another level. -/
def level (n : Nat) (s : State) : State := { s with routes := [atLevel .ring n] }

/-- A ring line to every unit's own address 0 with a checksum. -/
def ln (args : List Arg) : Line := ⟨.ring, .unit 0, true, args⟩

/-- A ring line without a checksum. -/
def typed (args : List Arg) : Line := ⟨.ring, .unit 0, false, args⟩

/-- An argument, unquoted. -/
def a (k v : String) : Arg := ⟨txt k, txt v, false⟩

/-- The value of an outcome that is not an error. -/
def okOf {ε α : Type} (e : Except ε α) : Option α := match e with | .ok x => some x | .error _ => none

/-- The error of an outcome. -/
def errOf {ε α : Type} (e : Except ε α) : Option ε := match e with | .ok _ => none | .error x => some x

/-! ## The block as a whole -/

theorem test_witness_idle :
    up.pending = [] ∧ (up.pwr.refclk = true ∧ up.pwr.vaon = true ∧ up.clk.rate = 0 ∧ up.clk.taiFrac < 3000000) ∧
      (up.pwr.held = false ∧ bitAt up.pwr.on 2 = true) ∧
      (State.reset.mode ≠ .M1 ∧ State.reset.pwr.refclk = true ∧ bitAt State.reset.pwr.on 2 = false) := by decide +kernel

/-- R27, R29: three beats are 2 ns of TAI; one beat of a running PD2 is one of BEAT. -/
theorem test_beats_of_tai : (taiBeats 3 Clk.reset).tai = 2 ∧ (beatTick up).clk.beat = 1 := by decide +kernel

theorem test_witness_raise : evPartner 0x020 ≠ some 0x020 ∧ (0x020 : Nat) ≠ 0x021 := by decide +kernel

/-- The unit with one command connection. -/
def connected : State :=
  { up with line := { up.line with tlsConns := [3] }
            net := { up.net with tls := [⟨3, 0, 0, 0, 0, 0⟩] }
            routes := [atLevel .ring 2, atLevel (.tls 3) 0] }

theorem test_witness_reply :
    (up.line.fwdOpen = false ∧ lineRuns up = true ∧ up.line.hush = false ∧ up.line.typed = false) ∧
    (({ up with line := { up.line with fwdOpen := true } } : State).line.fwdOpen = true ∧
      lineRuns { up with pwr := { up.pwr with refclk := false } } = false) ∧
    (({ up with line := { up.line with typed := true } } : State).line.typed = true ∧ (0 : Nat) ≠ 4) ∧
    (connected.net.tls.find? (·.num == 3) = some ⟨3, 0, 0, 0, 0, 0⟩ ∧ (0 : Nat) + 1 < 2 ^ 23 ∧
      (connected.port 0).pauseUntil ≤ connected.now) := by decide +kernel

/-- A state and a line for each of the outcomes of R98: the mode, STRICT, the level, the arguments, none. -/
theorem test_witness_checks :
    let v := vModeSet (ln [a "mode" "dusk"])
    (wrongAddress up (ln []) = false ∧ busyOn .ring up = none ∧ up.lineMode ≠ .M10 ∧
      (isLogin v && Route.isDkp .ring) = false) ∧
    (v.modes.any (· == (at_ .M3 up).lineMode) = false ∧ bitAt (((at_ .M3 up).setReg .PWR_WAKE_EN 0).reg .PWR_WAKE_EN) 1 = false) ∧
    (v.modes.any (· == up.lineMode) = true ∧ strictRefuses up v (typed []) = true) ∧
    (strictRefuses up v (ln []) = false ∧ levelOk ((level 0 up).level .ring) v.level = false) ∧
    (levelOk (up.level .ring) v.level = true ∧ checkArgs v.args [] = some (102, txt "mode")) ∧
    passes v (ln [a "mode" "dusk"]) up = true ∧ (at_ .M4 up).lineMode ≠ .M10 := by decide +kernel

/-! ## Time -/

/-- A unit that follows a master on port 0. -/
def following (valid : Bool) : State :=
  ({ up with clk := { up.clk with master := some ⟨0, 7, 1, 1000⟩, masters := [⟨0, 7, 1, 1000⟩], state := .LOCKING, valid := valid,
                                  tai := 1000 } } : State).setReg .CLK_PTP_EN 1 |>.setReg .NET_P_PTP 1

theorem test_witness_sync :
    (following false).reg .CLK_PTP_EN = 1 ∧ (following false).firmware = true ∧ (following false).pwr.refclk = true ∧
    (following false).clk.valid = false ∧ (following true).clk.valid = true ∧
    ((following true).reg .CLK_STEP_LIM * 1000000 : Int) < 10 ^ 12 + 0 - toSigned 32 ((following true).reg .CLK_ASYM_NS) ∧
    (5 + (following true).clk.mpd - toSigned 32 ((following true).reg .CLK_ASYM_NS)).natAbs ≤ (following true).reg .CLK_STEP_LIM * 1000000 ∧
    (-7 ≤ (-3 : Int) ∧ (-3 : Int) ≤ 1 ∧ (2 : Int) > 1 ∧ ¬((1 : Nat) = 0 ∧ (7 : Nat) = 7)) ∧
    (following true).reg .NET_P_PTP 0 ≠ 0 ∧ (following true).clk.masters = [⟨0, 7, 1, 1000⟩] ∧
    (125 ≤ (1000 : Nat) ∧ (1000 : Nat) ≤ 16000) ∧
    ((following true).clk.delayAt = none ∧ ((following true).port 0).pauseUntil ≤ (following true).now) := by decide +kernel

/-- R33: the first Sync steps TAI to the master's time, in either direction. -/
theorem test_first_sync_steps :
    (match exec (.ptpSync 0 (-400) ⟨7, -3⟩) (following false) with | .next t => t.clk.tai | _ => 0) = 600 := by decide +kernel

theorem test_witness_tai_writes :
    mayWrite .ring 1 m4to9 up = true ∧ mayWrite .ring 1 m4to9 (following true) = true ∧
    ((following true).reg .CLK_PTP_EN = 1 ∧ (following true).clk.state = .LOCKING) ∧
    (let s : State := ({ up with clk := { up.clk with valid := true, tai := 9 } } : State).setReg .CLK_PTP_EN 0
     s.reg .CLK_PTP_EN ≠ 1 ∧ s.clk.valid = true ∧ 8 + 0 * 2 ^ 32 < s.clk.tai ∧ s.clk.tai ≤ 9 + 0 * 2 ^ 32 ∧
       mayWrite .ring 1 m4to9 s = true) ∧
    (mayWrite .ring 1 m4to9 (at_ .M9 up) = true ∧ (at_ .M9 up).lineMode = .M9 ∧ up.lineMode ≠ .M9) := by decide +kernel

theorem test_witness_osc_trim :
    up.bridge.link = 2 ∧ up.loop.started = true ∧
      ({ up with loop := { up.loop with synced := true } } : State).loop.synced = true ∧ 262144 + 13 < 262158 ∧
      -128 < toSigned 8 (up.loop.reg .ISL_OSC_TRIM) ∧ toSigned 8 (up.loop.reg .ISL_OSC_TRIM) ≤ 127 := by decide +kernel

/-- R37: 14 cycles fast moves the trim one step down, 13 moves nothing. -/
theorem test_osc_trim_bounds :
    (match exec (.oscTrimWindow 262158 0) up with | .next t => t.loop.reg .ISL_OSC_TRIM | _ => 0) = 255 ∧
    (match exec (.oscTrimWindow 262157 0) up with | .next t => t.loop.reg .ISL_OSC_TRIM | _ => 9) = 0 := by decide +kernel

/-! ## Power -/

theorem test_witness_supplies :
    (State.reset.pwr.vddioA = true ∧ State.reset.pwr.en ≠ 0) ∧
    (let s : State := { State.reset with pwr := { Pwr.reset with en := 0 } }
     s.pwr.vddioA = true ∧ s.pwr.en = 0 ∧ s.pwr.restart ≠ .vddioA) ∧
    (let s : State := { State.reset with pwr := { Pwr.reset with en := 0, seq := .idle, vddioA := false, restart := .vddioA } }
     s.pwr.restart = .vddioA ∧ mayStart { s with pwr := { s.pwr with vddioA := true } } = true) ∧
    (up.pwr.vaon = true ∧ up.clk.state = .FREE ∧ (following true).clk.state ≠ .FREE) ∧
    (let s : State := { up with pwr := { up.pwr with vaon := false } }
     s.pwr.vaon = false ∧ s.clk.state = .FREE) := by decide +kernel

/-- R46, R50: without VDDIO_A the enables drop and cause 5 is recorded. -/
theorem test_vddio_a_absent :
    (match exec .vddioAAbsent up with
     | .next t => decide (t.mode = .M0 ∧ t.pwr.en = 0 ∧ t.reg .PWR_RESET_CAUSE = 5 ∧ t.reg .PWR_PG_FAILS = 1)
     | _ => false) = true := by decide +kernel

/-- A sequencer that waits for a group, or that takes the groups down. -/
def seqAt (q : Seq) : State := { State.reset with pwr := { Pwr.reset with seq := q, en := 3, pg := 1, pgSeen := 1 } }

/-- The way out of Small Hours, at a group. -/
def resuming (g : Nat) : State :=
  { State.reset with day := { Day.reset with mode := .M1 }
                     pwr := { Pwr.reset with seq := .up g, en := 0x3F, pg := 0x0D, pgSeen := 0x0D, waking := true } }

theorem test_witness_sequencer :
    ((seqAt (.up 0)).pwr.vddioA = true ∧ (seqAt (.up 0)).pwr.seq ≠ .up 5) ∧
    (State.reset.pwr.vddioA = true ∧ State.reset.pwr.seq = .up 0 ∧ State.reset.pwr.waking = false ∧
      bitAt State.reset.pwr.en 0 = true ∧ bitAt State.reset.pwr.en 1 = false) ∧
    ((seqAt (.up 1)).pwr.seq = .up 1 ∧ (seqAt (.up 1)).pwr.waking = false ∧ groupGood (seqAt (.up 1)) 0 = true ∧
      bitAt (seqAt (.up 1)).pwr.en 1 = true ∧ (seqAt (.up 1)).pwr.held = false ∧
      ({ seqAt (.up 1) with pwr := { (seqAt (.up 1)).pwr with held := true } } : State).pwr.held = true) ∧
    (let s : State := { up with pwr := { up.pwr with seq := .up 2, pg := 0x3B, pgSeen := 0x3B } }
     s.pwr.vddioA = true ∧ s.pwr.seq = .up 2 ∧ s.pwr.waking = false ∧ bitAt s.pwr.en 2 = true) ∧
    (∀ g ∈ [1, 4, 5], (resuming g).pwr.vddioA = true ∧ (resuming g).pwr.seq = .up g ∧ (resuming g).pwr.waking = true ∧
      bitAt (resuming g).pwr.en g = true) ∧
    (groupGood (seqAt (.up 1)) 5 = false ∧ (seqAt (.up 1)).pwr.vddioA = true) ∧
    (up.pwr.vddioA = true ∧ (∀ g ∈ [0, 1, 2, 3, 4, 5], groupGood up g = true) ∧ goingDown up = false) ∧
    ((seqAt (.down 2)).pwr.seq = .down 2 ∧ topEnable (seqAt (.down 2)).pwr.en = some 1 ∧
      clearBit (seqAt (.down 2)).pwr.en 1 ≠ 0) ∧
    (let s : State := { State.reset with pwr := { Pwr.reset with seq := .down 1, en := 1 } }
     s.pwr.seq = .down 1 ∧ topEnable s.pwr.en = some 0 ∧ clearBit s.pwr.en 0 = 0 ∧ s.pwr.pfHigh = false) ∧
    (let s : State := { State.reset with pwr := { Pwr.reset with seq := .idle, en := 0, restart := .pgFault } }
     s.pwr.restart = .pgFault ∧ mayStart s = true ∧ up.pwr.restart ≠ .pgFault) ∧ up.pwr.pfHigh = false := by decide +kernel

/-- Chapter 3's rule R48: out of Small Hours group 4 follows group 1. -/
theorem test_resume_takes_the_groups_in_turn :
    (match exec (.seqPgHigh 1) (resuming 1) with | .next t => some t.pwr.seq | _ => none) = some (.up 4) := by decide +kernel

/-- R48: with group 1 good the block is at Dawn. -/
theorem test_group_one_good_is_dawn :
    (match exec (.seqPgHigh 1) (seqAt (.up 1)) with | .next t => decide (t.mode = .M2 ∧ t.pwr.on = 7) | _ => false) = true := by
  decide +kernel

/-- Small Hours, with the wake sources of PWR.WAKE_EN. -/
def asleep (en : Nat) : State := (at_ .M1 up).setReg .PWR_WAKE_EN en

theorem test_witness_wake_and_reset :
    ((asleep 1).mode = .M1 ∧ bitAt ((asleep 1).reg .PWR_WAKE_EN) 0 = true ∧ (asleep 1).pwr.pwrFailN = true ∧
      (asleep 1).pwr.waking = false ∧ (asleep 1).pwr.held = false ∧ (asleep 1).pwr.seq = .idle) ∧
    bitAt ((asleep 4).reg .PWR_WAKE_EN) 0 = false ∧
    (let s : State := { (asleep 4).setReg .PWR_WAKE_AT_LO 5 with
        clk := { up.clk with tai := 5 }, pwr := { (asleep 4).pwr with belowWake := true } }
     s.mode = .M1 ∧ bitAt (s.reg .PWR_WAKE_EN) 2 = true ∧ s.pwr.pwrFailN = true ∧ s.pwr.waking = false ∧ s.pwr.held = false ∧
       s.pwr.seq = .idle ∧ s.pwr.belowWake = true ∧ wakeAt s ≠ 0 ∧ wakeAt s ≤ s.clk.tai) ∧
    wakeAt up = 0 ∧ (goingDown up = false ∧ up.pwr.en ≠ 0) ∧
    (let s : State := { up with pwr := { up.pwr with resetN := false, held := true } }
     s.pwr.resetN = false ∧ goingDown s = false ∧ groupGood s 0 = true ∧ groupGood s 1 = true) := by decide +kernel

/-- A power failure under way, with a write not yet programmed. -/
def failing (dirty : List Write) : State :=
  ({ up with pwr := { up.pwr with failing := true }, kv := { up.kv with dirty := dirty } } : State).setReg .PWR_PLP_STATUS 2

theorem test_witness_power_failure :
    (up.pwr.vddioA = true ∧ up.pwr.vaon = true ∧ goingDown up = false) ∧
    ((failing []).pwr.failing = true ∧ goingDown (failing []) = true ∧ (failing []).pwr.vaon = true) ∧
    ((failing [⟨1, [], 8⟩]).kv.dirty ≠ [] ∧ (failing [⟨1, [], 8⟩]).reg .PWR_PLP_STATUS = 2) ∧ up.pwr.pfWait = false ∧
    (let s : State := { up with pwr := { up.pwr with pfWait := true } }
     s.pwr.pfWait = true ∧ goingDown s = false) ∧
    (let s : State := { failing [] with pwr := { (failing []).pwr with pfWait := true } }
     s.pwr.pfWait = true ∧ goingDown s = true) := by decide +kernel

/-- R56, R57: a flush that ends complete leaves PWR.PLP_STATUS at 1. -/
theorem test_flush_complete :
    (match exec (.plpFlushComplete true) (failing [⟨1, [], 8⟩]) with
     | .next t => decide (t.reg .PWR_PLP_STATUS = 1 ∧ t.kv.dirty = []) | _ => false) = true := by decide +kernel

/-- Eight readings, the first twice in a row at its trip temperature. -/
def hot : State := { up with pwr := { up.pwr with tripCount := [2, 0, 0, 0, 0, 0, 0, 0] } }

theorem test_witness_temperature :
    (let u := takeReadings [20, 20, 20, 20, 20, 20, 20, 20] up
     u.pwr.tripCount.any (3 ≤ ·) = false ∧ toSigned 8 (u.reg .ALM_T_LO_C) ≤ u.pwr.raw.headD 0 ∧
       u.pwr.raw.headD 0 ≤ u.reg .ALM_T_HI_C) ∧
    (2 ≤ up.mode.num ∧ monTrimmed up = true ∧ 2 ≤ (at_ .M2 up).mode.num ∧ monTrimmed (at_ .M2 up) = false) ∧
    ((takeReadings [125, 20, 20, 20, 20, 20, 20, 20] hot).pwr.tripCount.any (3 ≤ ·) = true ∧ hot.pwr.tripped = false ∧
      goingDown hot = false) ∧
    (let s : State := { up with pwr := { up.pwr with raw := [20, 36, 20, 20, 20, 20, 20, 20] } }
     (s.pwr.raw.foldl min (s.pwr.raw.headD 0)) + 15 < s.pwr.raw.foldl max (s.pwr.raw.headD 0)) ∧
    (let s : State := { up with pwr := { up.pwr with gating := 0x600 } }
     gatingDecided 10 s = true ∧ domainIdle 10 s = true ∧ gatingDecided 9 s = true ∧ s.sweep.rerank = [] ∧
       s.sweep.exact = none ∧ bitAt s.pwr.on 10 = true ∧ railsGood s 10 = true ∧ bitAt s.pwr.on 7 = false) ∧
    (let s : State := { up with pwr := { up.pwr with on := 0x6FF, pd8Due := true } }
     bitAt s.pwr.on 7 = true ∧ bitAt s.pwr.on 8 = false ∧ groupGood s 0 = true ∧ s.pwr.pd8Due = true ∧
       up.pwr.pd8Due = false) := by
  decide +kernel

/-- R62: 124 °C three times trips nothing. -/
theorem test_no_trip_below_125 :
    (match exec (.temperatureReading [124, 20, 20, 20, 20, 20, 20, 20]) hot with
     | .next t => decide (t.mode = .M4 ∧ t.reg .PWR_TEMP_MAX_C = 124) | _ => false) = true := by decide +kernel

/-! ## The day -/

/-- Dusk with a job that runs. -/
def duskJob : State := { at_ .M9 up with day := { (at_ .M9 up).day with queue := [⟨1, .rebuild, 0, [], true, 0⟩] } }

theorem test_witness_mode_verbs :
    let dusk := ln [a "mode" "dusk"]
    let back := ln [a "mode" "morning"]
    passes vModeShow (ln []) up = true ∧ passes (vModeSet dusk) dusk up = true ∧
    modeTarget (dusk.text "mode") = some (.M9, 1) ∧ (up.mode = .M4 ∧ Mode.M9 ≠ .M4) ∧
    (passes (vModeSet dusk) dusk (at_ .M9 up) = true ∧ (at_ .M9 up).mode = .M9) ∧
    (passes (vModeSet dusk) dusk (at_ .M8 up) = true ∧ (at_ .M8 up).mode = .M8 ∧ Mode.M9 ≠ .M8) ∧
    (passes (vModeSet back) back duskJob = true ∧ modeTarget (back.text "mode") = some (.M4, 1) ∧ duskJob.mode = .M9 ∧
      runningJob duskJob = some 1 ∧ back.flag "abort" = false) ∧
    (let l := ln [a "mode" "morning", a "abort" "1"]
     passes (vModeSet l) l duskJob = true ∧ l.flag "abort" = true ∧ modeTarget (l.text "mode") = some (.M4, 1)) := by decide +kernel

/-- Evening on the way to a target. -/
def evening (m : Mode) : State := { at_ .M8 up with day := { (at_ .M8 up).day with target := m } }

theorem test_witness_drain :
    (draining (evening .M9) = true ∧ drained (evening .M9) = true ∧ (evening .M9).day.target = .M9) ∧
    (draining (evening .M0) = true ∧ drained (evening .M0) = true ∧ (evening .M0).day.target = .M0) ∧ draining up = false ∧
    (draining (evening .M1) = true ∧ drained (evening .M1) = true ∧ (evening .M1).day.target = .M1) ∧
    (draining (evening .M9) = true ∧ (evening .M9).sess = [] ∧ up.sess = [] ∧ up.sweep.forming = [] ∧ up.sweep.running = none ∧ up.sweep.exact = none ∧ up.sweep.rerank = [] ∧
      up.assoc.reqs = []) ∧
    (let s : State := { at_ .M1 up with pwr := { up.pwr with waking := true }, mem := { up.mem with imageM1 := true } }
     s.mode = .M1 ∧ s.pwr.waking = true ∧ s.pwr.held = false ∧ s.pwr.seq = .idle ∧
       (∀ g, g < 6 → groupGood s g = true) ∧ s.mem.imageM1 = true) := by decide +kernel

theorem test_witness_almanac :
    State.reset.inService = false ∧
    (up.runsIn .M4 = true ∧ isOver up = false ∧ up.reg .GOV_PIN = 0 ∧ up.reg .GOV_MODE_MIN ≤ 4 ∧
      4 ≤ up.reg .GOV_MODE_MAX ∧ queueDepth up = 0 ∧ 0 < up.reg .GOV_UP_QDEPTH ∧ (0 : Nat) < 90 ∧ up.sweep.rerank = [] ∧
      up.sweep.exact = none) ∧
    (let s : State := { up with assoc := { up.assoc with corr := 1 } }
     s.inService = true ∧ corrNow s ≠ 0 ∧ bitAt (s.reg .GOV_PIN) 3 = false ∧
       s.reg .GOV_SCRUB_MIN_MS ≤ s.reg .GOV_SCRUB_MS / 2) ∧
    (up.inService = true ∧ corrNow up = 0 ∧ bitAt (up.reg .GOV_PIN) 3 = false ∧ up.day.quietSecs < 59) ∧
    (mayWrite .ring 1 m4to9 up = true ∧ ns0Write [⟨.FLASH_HOLDUP_MS, 0, 200⟩] up = ((ns0Write [⟨.FLASH_HOLDUP_MS, 0, 200⟩] up).1, none)) ∧
    (200 : Nat) < 201 ∧ (4096 : Nat) ≤ 4096 ∧ (4096 : Nat) < 4097 := by decide +kernel

/-! ## The ring -/

/-- The line controller in a class, with a character counted. -/
def rx (c : RxClass) (n : Nat) : State :=
  { up with line := { up.line with cls := c, count := n, spaceSeen := true, held := [65] } }

theorem test_witness_ring_characters :
    (lineRuns (rx .run 0) = true ∧ (rx .run 0).line.loss = false ∧ (rx .run 0).line.cls = .run ∧ (255 : Nat) ≠ 0x1D) ∧
    ((rx .consume 249).line.cls = .consume ∧ (rx .consume 249).line.spaceSeen = true ∧ (rx .consume 249).line.ctrlC = false ∧
      (rx .consume 249).line.lastCR = false ∧ (rx .consume 249).line.fwdCR = false ∧ (rx .consume 249).line.count < 250 ∧
      lineRuns (rx .consume 249) = true ∧ (rx .consume 249).line.held ≠ [] ∧
      ((rx .consume 249).setReg .LINE_ECHO 1).line.held ≠ []) ∧
    ((rx .run 0).setReg .LINE_ECHO 1).reg .LINE_ECHO = 1 ∧
    (let s : State := { up with line := { up.line with fwdCR := true, fwdOpen := true } }
     lineRuns s = true ∧ s.line.fwdCR = true ∧ s.line.fwdOpen = true ∧ s.line.hush = false) := by decide +kernel

theorem test_witness_ring_breaks :
    (lineRuns up = true ∧ up.line.loss = false ∧ up.line.switchTo = none) ∧
    (let s : State := { up with line := { up.line with loss := true, switchTo := some 9600, prevRate := some 115200 } }
     lineRuns s = true ∧ s.line.loss = true ∧ s.line.switchTo = some 9600 ∧ s.line.prevRate = some 115200) ∧
    (let r : RouteSt := { atLevel .ring 0 with queue := [⟨0x020, 2, []⟩] }
     let s : State := { up with routes := [r] }
     (s.route .ring).queue = ⟨0x020, 2, []⟩ :: [] ∧ (s.route .ring).lost = 0 ∧
       (({ up with routes := [{ r with lost := 1 }] } : State).route .ring).lost ≠ 0) ∧
    (up.line.fwdOpen = false ∧ up.line.switchTo = none) ∧
    (let s : State := { connected with routes := [{ atLevel (.tls 3) 0 with queue := [⟨0x020, 2, []⟩] }] }
     3 ∈ s.line.tlsConns ∧ (s.route (.tls 3)).queue = ⟨0x020, 2, []⟩ :: [] ∧ (s.route (.tls 3)).lost = 0) := by decide +kernel

/-! ## Lines and logins -/

/-- A received line as the ring's receiver leaves it. -/
def got (t : String) : RxLine := ⟨txt t, none, none, false, false⟩

/-- A line that waits to be run. -/
def waiting (t : String) : State := { up with line := { up.line with ready := [got t], tlsConns := [3] } }

/-- R97: the checksum of `LINE.SHOW` with the space before `*`. -/
theorem test_checksum : lineForm (got "LINE.SHOW *B7") = .ok (⟨.bare, txt "LINE.SHOW", []⟩, true) := by rfl

theorem test_witness_line :
    (waiting "LINE.SHOW").line.ready = [got "LINE.SHOW"] ∧ lineRuns (waiting "LINE.SHOW") = true ∧
    busyOn .ring { up with routes := [{ atLevel .ring 2 with busy := some "KV.SYNC" }] } = some "KV.SYNC" ∧
    (busyOn .ring (waiting "LINE.SHOW") = none ∧ (verbNamed (txt "LINE.NONE")).isNone = true ∧
      (verbNamed (txt "LINE.SHOW")).isSome = true) ∧
    (txt "line.show" ≠ [] ∧ 3 ∈ (waiting "x").line.tlsConns ∧ ((waiting "x").route (.tls 3)).busy = none ∧
      ((waiting "x").net.tls.find? fun y => y.num == 3) = none) ∧
    ((connected.net.tls.find? fun y => y.num == 3) = some ⟨3, 0, 0, 0, 0, 0⟩ ∧ (0 : Nat) + 1 < 2 ^ 23) := by decide +kernel

/-- R105: a reply that the line still holds keeps the ring's route busy. -/
theorem test_held_reply_is_busy :
    busyOn .ring { up with line := { up.line with own := [replyOut .ring ⟨0, []⟩ up], lastVerb := "LINE.SHOW" } } =
      some "LINE.SHOW" := by decide +kernel

theorem test_witness_line_forms :
    lineForm (got "LINE..SHOW") = .error (100, [("col", .n 6)]) ∧
    lineForm (got "line.none") = .ok (⟨.bare, txt "LINE.NONE", []⟩, false) ∧
    lineForm (got "line.show") = .ok (⟨.bare, txt "LINE.SHOW", []⟩, false) ∧
    lineForm (plainLine (txt "line.show")) = .ok (⟨.bare, txt "LINE.SHOW", []⟩, false) := by
  exact ⟨rfl, rfl, rfl, rfl⟩

/-- A broadcast line of the ring. -/
def toAll (args : List Arg) : Line := ⟨.ring, .all, true, args⟩

theorem test_witness_address_verbs :
    (let l := toAll [a "start" "62"]
     l.route = .ring ∧ l.addr = .all ∧ l.int? "start" = some 62 ∧ lineRuns up = true ∧ up.reg .LINE_ADDR_LOCK = 0 ∧
       passes vAddrChain l (forwardRewritten "ADDR.CHAIN" l up) = true) ∧
    (let l := toAll [a "start" "63"]
     l.int? "start" = some 63 ∧ passes vAddrChain l (forwardRewritten "ADDR.CHAIN" l up) = true) ∧
    passes vAddrSet (ln [a "addr" "62"]) up = true ∧
    (let s := up.setReg .LINE_ADDR_LOCK 1
     passes vAddrSet (ln [a "addr" "5"]) s = true ∧ s.reg .LINE_ADDR_LOCK = 1) ∧
    passes vLineRate (ln [a "baud" "9600"]) up = true ∧ (intVal (txt "9601") = some (Int.ofNat 9601) ∧ 9601 ∉ lineRates) ∧
    (let l := ln [a "pin" "01234567"]
     passes vLineSetpin l up = true ∧ changeLocked (noteLine vLineSetpin l up) 5 = false ∧ (ns0Record (noteLine vLineSetpin l up)).2 = none) ∧
    (let s : State := { up with routes := [atLevel .ring 0, atLevel (.tls 3) 0] }
     passes vLineNotices ⟨.tls 3, .bare, false, [a "on" "1"]⟩ s = true) ∧
    passes vLineShow (ln []) up = true ∧ up.reg .LINE_ADDR ≠ 5 := by decide +kernel

/-- R111: ADDR.SET gives the unit its address. -/
theorem test_addr_set : (match exec (.addrSet (ln [a "addr" "5"])) up with | .next t => t.reg .LINE_ADDR | _ => 0) = 5 := by
  decide +kernel

/-- A unit with a PIN, with an owner line key and a challenge given out. -/
def keyed (key : Text) : State :=
  { up with line := { up.line with pin := some (txt "01234567") }
            sec := { up.sec with vault := [⟨2, slotAttr 2, key⟩] }
            routes := [{ atLevel .ring 0 with nonce := some ⟨[1, 2, 3, 4, 5, 6, 7, 8], 0⟩ }] }

theorem test_witness_logins :
    (passes vLoginPin (ln [a "pin" "01234567"]) (keyed []) = true ∧ (lockOf .ring (keyed [])).locked = false ∧
      useLocked (noteLine vLoginPin (ln [a "pin" "01234567"]) (keyed [])) 5 = false ∧
      (keyed []).line.pin = some (txt "01234567") ∧ (ln [a "pin" "01234567"]).text "pin" = txt "01234567") ∧
    (passes vLoginPin (ln [a "pin" "11111111"]) (keyed []) = true ∧ (ln [a "pin" "11111111"]).text "pin" ≠ txt "01234567") ∧
    (let s : State := { up with line := { up.line with ringLock := { Lock.clear with locked := true } } }
     passes vLoginPin (ln [a "pin" "11111111"]) s = true ∧ (lockOf .ring s).locked = true) ∧
    (passes vLoginChallenge (ln []) (keyed []) = true ∧ (keyed []).sec.olk ≠ none ∧ (keyed []).sec.trngOk = true) ∧
    ((keyed [9]).sec.olk = some [9] ∧ ((keyed [9]).route .ring).nonce = some ⟨[1, 2, 3, 4, 5, 6, 7, 8], 0⟩ ∧
      (keyed [9]).now ≤ 0 + sec 60) ∧
    (({ up with routes := [{ atLevel (.dkp 5) 3 with auth := true }] } : State).route (.dkp 5)).auth = true ∧
    (let s : State := { up with sec := { up.sec with romLocks := true, debugOpen := true } }
     passes vLoginVendor (ln []) s = true ∧ (lockOf .ring s).locked = false ∧ debugState s = 2) ∧
    (passes vLoginOut (ln []) up = true ∧ (up.route .ring).level ≠ 0) := by decide +kernel

/-! The response of LOGIN.OWNER is written as the digits of a MAC that nothing evaluates. -/

theorem hexVal_digitChar (d : Nat) : hexVal (digitChar (d % 16)) = some (d % 16) := by
  have h : ∀ d, d < 16 → hexVal (digitChar d) = some d := by decide
  exact h _ (Nat.mod_lt _ (by decide))

theorem digitChar_ne (d : Nat) : digitChar (d % 16) ≠ 45 := by
  have h : ∀ d, d < 16 → digitChar d ≠ 45 := by decide
  exact h _ (Nat.mod_lt _ (by decide))
def grouped (b : Text) : Text :=
  ((bytesText b).zipIdx.flatMap fun (c, i) => if i % 4 == 0 && i != 0 then [45, c] else [c])

theorem hexBytes_bytesText (b : Text) (h : ∀ x ∈ b, x < 256) : hexBytes (bytesText b) = some b := by
  induction b with
  | nil => rfl
  | cons x xs ih =>
    have := ih fun y hy => h y (List.mem_cons_of_mem _ hy)
    have hx := h x (List.mem_cons_self ..)
    simp only [bytesText, List.flatMap_cons, List.cons_append, List.nil_append, hexBytes, hexVal_digitChar] at this ⊢
    rw [this]; simp; omega

theorem groups_of_chars (c : Nat → Nat) (h : ∀ i, c i ≠ 45) :
    let t := ((List.range 32).map c).zipIdx.flatMap fun (c, i) => if i % 4 == 0 && i != 0 then [45, c] else [c]
    t.length = 39 ∧ (t.filter (· != 45)) = (List.range 32).map c ∧ ∀ i, i < 39 → (t.getD i 0 = 45 ↔ i % 5 = 4) := by
  simp [List.range, List.range.loop, h]
  intro i hi
  have : ∀ n, n < 39 → ∀ P : Nat → Prop, (∀ m, m < 39 → P m) → P n := fun n hn P hP => hP n hn
  rcases i with _|_|_|_|_|_|_|_|_|_|_|_|_|_|_|_|_|_|_|_|_|_|_|_|_|_|_|_|_|_|_|_|_|_|_|_|_|_|_|i
  all_goals simp [h]
  omega

theorem bytesText_length (b : Text) : (bytesText b).length = 2 * b.length := by
  induction b with
  | nil => rfl
  | cons x xs ih => simp only [bytesText, List.flatMap_cons] at ih ⊢; simp [ih]; omega

theorem bytesText_ne (b : Text) : ∀ c ∈ bytesText b, c ≠ 45 := by
  simp only [bytesText, List.mem_flatMap]
  rintro c ⟨x, -, hc⟩
  simp only [List.mem_cons, List.not_mem_nil, or_false] at hc
  rcases hc with rfl | rfl <;> exact digitChar_ne _

theorem groupBytes_grouped (b : Text) (hl : b.length = 16) (h : ∀ x ∈ b, x < 256) : groupBytes 8 (grouped b) = some b := by
  have hc : ∀ i, (bytesText b).getD i 0 ≠ 45 := by
    intro i
    by_cases hi : i < (bytesText b).length
    · simpa [List.getD_eq_getElem?_getD, hi] using bytesText_ne b _ (List.getElem_mem hi)
    · simp [List.getD_eq_getElem?_getD, List.getElem?_eq_none (Nat.le_of_not_lt hi)]
  have hm : (List.range 32).map (fun i => (bytesText b).getD i 0) = bytesText b := by
    apply List.ext_getElem
    · simp [bytesText_length, hl]
    · intro i h1 h2; simp [List.getD_eq_getElem?_getD, h2]
  obtain ⟨g1, g2, g3⟩ := groups_of_chars _ hc
  rw [hm] at g1 g2 g3
  have e : ((bytesText b).zipIdx.flatMap fun (c, i) => if i % 4 == 0 && i != 0 then [45, c] else [c]) = grouped b := rfl
  rw [e] at g1 g2 g3
  have : ((List.range 39).all fun i => ((grouped b).getD i 0 == 45) == (i % 5 == 4)) = true := by
    rw [List.all_eq_true]; intro i hi
    have := g3 i (List.mem_range.mp hi)
    by_cases h4 : i % 5 = 4
    · rw [this.mpr h4, h4]; rfl
    · have h5 : (grouped b).getD i 0 ≠ 45 := fun h => h4 (this.mp h)
      rw [beq_eq_false_iff_ne.mpr h5, beq_eq_false_iff_ne.mpr h4]; rfl
  simp only [groupBytes, g1, this, g2]
  simpa using hexBytes_bytesText b h

/-- The owner's response to a challenge of the ring, as a line. -/
def answer (s : State) : Line := ln [⟨txt "resp", grouped (ownerResponse [9] [1, 2, 3, 4, 5, 6, 7, 8] .ring s), false⟩]

theorem leBytes_bytes (n : Nat) : ∀ v, (leBytes n v).length = n ∧ ∀ x ∈ leBytes n v, x < 256 := by
  induction n with
  | zero => intro v; simp [leBytes]
  | succ n ih =>
    intro v
    refine ⟨by rw [leBytes, List.length_cons, (ih _).1], fun x hx => ?_⟩
    rcases List.mem_cons.mp hx with rfl | hx
    · exact Nat.mod_lt _ (by decide)
    · exact (ih _).2 x hx

theorem beBytes_bytes (n v : Nat) : (beBytes n v).length = n ∧ ∀ x ∈ beBytes n v, x < 256 := by
  simpa [beBytes] using leBytes_bytes n v

theorem owner_bytes (s : State) :
    groupBytes 8 (grouped (ownerResponse [9] [1, 2, 3, 4, 5, 6, 7, 8] .ring s)) =
      some (ownerResponse [9] [1, 2, 3, 4, 5, 6, 7, 8] .ring s) := by
  apply groupBytes_grouped
  · simp [ownerResponse, Config.hmacSha256, beBytes_bytes]
  · intro x hx; exact (beBytes_bytes 32 _).2 x (List.mem_of_mem_take hx)

theorem test_witness_owner :
    passes vLoginOwner (answer (keyed [9])) (keyed [9]) = true ∧
    groupBytes 8 ((answer (keyed [9])).text "resp") = some ((Config.hmacSha256 [9] ([1, 2, 3, 4, 5, 6, 7, 8] ++ unitIdBytes (keyed [9]) ++ [0])).take 16) := by
  have h := owner_bytes (keyed [9])
  have hc : checkArgs vLoginOwner.args (answer (keyed [9])).args = none := by
    simp [checkArgs, firstBad, vLoginOwner, answer, ln, specOf, Form.wellFormed, Form.inRange, h]
  refine ⟨?_, h⟩
  unfold passes
  rw [hc]
  decide +kernel

/-- Of two responses at least one is wrong. -/
theorem test_witness_wrong_response :
    let l0 := ln [a "resp" "0000-0000-0000-0000-0000-0000-0000-0000"]
    let l1 := ln [a "resp" "0000-0000-0000-0000-0000-0000-0000-0001"]
    (passes vLoginOwner l0 (keyed [9]) = true ∧ groupBytes 8 (l0.text "resp") = some (List.replicate 16 0)) ∧
    (passes vLoginOwner l1 (keyed [9]) = true ∧ groupBytes 8 (l1.text "resp") = some (List.replicate 15 0 ++ [1])) := by
  decide +kernel

theorem test_one_response_differs (h : Text) : List.replicate 16 0 ≠ h ∨ List.replicate 15 0 ++ [1] ≠ h := by
  by_cases e : List.replicate 16 0 = h
  · right; rw [← e]; decide
  · exact .inl e

theorem test_witness_sys :
    passes vSysStatus (ln []) up = true ∧ State.reset.lineMode = .M0 ∧ (at_ .M1 up).lineMode = .M1 ∧ (at_ .M2 up).lineMode = .M2 ∧
    passes vSysReset (ln []) (at_ .M9 up) = true ∧ groupGood (at_ .M9 up) 0 = true ∧ groupGood (at_ .M9 up) 1 = true ∧
    passes vSysDiag (ln []) (level 3 up) = true := by decide +kernel

/-! ## The loop die -/

/-- The unit with a change to its loop die. -/
def onLoop (f : Loop → Loop) : State := { up with loop := f up.loop }

theorem test_witness_bridge :
    (up.noLoop = false ∧ up.loop.started = true ∧ up.firmware = true ∧ up.pwr.failing = false ∧ up.bridge.link ≠ 0 ∧
      up.loop.link = true) ∧
    (let s : State := { up with bridge := Bridge.reset }
     s.loop.started = true ∧ s.firmware = true ∧ s.pwr.failing = false ∧ s.bridge.link = 0) ∧
    ({ up with bridge := Bridge.reset } : State).bridge.link = 0 ∧
    ({ up with bridge := { Bridge.reset with link := 1 } } : State).bridge.link = 1 ∧
    loopParam (Param.ISL_PV_SRC).rank = some .ISL_PV_SRC ∧
    (let u : BridgeUnit := ⟨some .ring, "ISL.SET", none, .fields [], [], [], some ⟨201, [("wp", .n 1)]⟩⟩
     ({ up with bridge := { up.bridge with units := [u] } } : State).bridge.units = u :: [] ∧
       u.outcome = some ⟨201, [("wp", .n 1)]⟩ ∧ (201 : Nat) ≠ 0 ∧ u.core = [] ∧
       { u with outcome := some ⟨0, []⟩ }.outcome = some ⟨0, []⟩) := by decide +kernel

theorem test_witness_loop_start :
    (let s := onLoop fun l => { l with started := false }
     s.noLoop = false ∧ s.loop.started = false ∧ newerBank s.loop ≠ none ∧ s.loop.aux ≠ true) ∧
    (let l := fun n => { up.loop with bankA := ⟨true, true, n, [], none⟩, bankB := ⟨true, true, 2, [], none⟩ }
     newerBank (l 3) = some 0 ∧ newerBank (l 1) ≠ some 0 ∧ newerBank (l 1) = some 1) ∧
    (up.noLoop = false ∧ up.loop.started = true ∧ up.loop.aux ≠ true ∧ up.loop.wp ≠ true ∧ up.loop.wp = false) := by
  decide +kernel

/-- R153: a loop-die reset leaves the fields in force at their Reset column and the banks as they were. -/
theorem test_loop_reset :
    (match exec .loopDieReset (onLoop fun l => (l.setReg .ISL_POLL_ADDR 9).setReg .ISL_CC 7) with
     | .next t => decide (t.loop.reg .ISL_POLL_ADDR = (Param.ISL_POLL_ADDR).info.reset ∧ t.loop.reg .ISL_CC = 7)
     | _ => false) = true := by decide +kernel

theorem test_witness_loop_current :
    (let s := onLoop fun l => { l with startUp := true }
     s.loop.startUp = true ∧ s.loop.src = 0 ∧ s.loop.fe.valid = 0 ∧ s.noLoop = false ∧ s.loop.started = true) ∧
    (let s := onLoop fun l => { l.setReg .ISL_MAIN_PV 0x7FC00000 with startUp := true, src := 1 }
     s.loop.startUp = true ∧ s.loop.src ≠ 0 ∧ F.isNaN (s.loop.reg .ISL_MAIN_PV) = true) ∧
    (up.loop.startUp = false ∧ up.loop.holding = false ∧ up.loop.departed = false ∧ up.loop.fe.valid = 0) ∧
    (onLoop fun l => { l with fe := { l.fe with valid := 1 } }).loop.fe.valid ≠ 0 ∧
    (onLoop fun l => { l.setReg .FE_FAULT_ACT 1 with fe := { l.fe with faults := [⟨1, 0, true, 0⟩] } }).loop.holding = true ∧
    (let s := onLoop fun l => (l.setReg .ISL_FIX_UA 12000).setReg .ISL_FIX_TIMEOUT_S 60
     s.loop.reg .ISL_FIX_UA ≠ 0 ∧ s.loop.reg .ISL_FIX_TIMEOUT_S ≠ 0) ∧
    (let s := onLoop fun l => { l with offSince := some 0, tick := 1000 }
     s.loop.departed = false ∧ s.loop.offSince = some 0 ∧ 0 + 1000 ≤ s.loop.tick + 0) ∧
    (let s := onLoop fun l => { l with offSince := some 0, tick := 900 }
     s.loop.offSince = some 0 ∧ s.loop.tick + 99 < 0 + 1000 ∧ 0 + 1000 ≤ s.loop.tick + 100) ∧
    (let s := onLoop fun l => { l with departed := true, setF := 0 }
     s.loop.departed = true ∧ s.loop.off = false ∧ s.bridge.link = 2) := by decide +kernel

/-- R133: 100 µA is no departure from the setpoint, 101 µA is one. -/
theorem test_departure_bound :
    (let l := { up.loop.setReg .ISL_LOOP_MEAS_UA 12100 with setF := F.ofNat 12000 }
     l.off = false ∧ (l.setReg .ISL_LOOP_MEAS_UA 12101).off = true) := by decide +kernel

/-- A state for each row of Table 6.3, and for both directions of row 4. -/
theorem test_witness_rows :
    (evalLoop (onLoop fun l => { l with startUp := true })).loop.row = 1 ∧
    (evalLoop (onLoop fun l => (l.setReg .ISL_LOOP_CUR_EN 0))).loop.row = 2 ∧
    (evalLoop (onLoop fun l => (l.setReg .ISL_LOOP_CUR_EN 1).setReg .ISL_FIX_UA 12000)).loop.row = 3 ∧
    (evalLoop (onLoop fun l => (l.setReg .ISL_LOOP_CUR_EN 1).setReg .ISL_FIX_UA 12000)).loop.setF = F.ofNat 12000 ∧
    (let t := evalLoop (onLoop fun l => { (l.setReg .ISL_LOOP_CUR_EN 1).setReg .ISL_FAIL_DIR 1 with causes := setBit 0 4 })
     t.loop.row = 4 ∧ t.loop.failHigh = true ∧ t.loop.cause = 4) ∧
    (let t := evalLoop (onLoop fun l => { (l.setReg .ISL_LOOP_CUR_EN 1).setReg .ISL_FAIL_DIR 0 with causes := setBit 0 4 })
     t.loop.row = 4 ∧ t.loop.failHigh = false) ∧
    (let s := onLoop fun l => { ((l.setReg .ISL_LOOP_CUR_EN 1).setReg .ISL_LRV 0).setReg .ISL_URV 0x43FA0000 with y := 0x433B8000 }
     s.loop.startUp = false ∧ s.loop.reg .ISL_LOOP_CUR_EN ≠ 0 ∧ s.loop.reg .ISL_FIX_UA = 0 ∧ s.loop.activeCauses = [] ∧
       F.isNaN s.loop.y = false ∧
       F.isNaN (F.div (F.sub s.loop.y (s.loop.reg .ISL_LRV)) (F.sub (s.loop.reg .ISL_URV) (s.loop.reg .ISL_LRV))) = false) := by
  decide +kernel

/-- Chapter 6's case: 187.5 kN of a range of 500 kN is 10.000 mA, and 515.625 kN reaches the clamp at 20.5 mA. -/
theorem test_mapping :
    let at_ := fun (pv : F32) => (evalLoop (onLoop fun l =>
      { ((l.setReg .ISL_LOOP_CUR_EN 1).setReg .ISL_LRV 0).setReg .ISL_URV 0x43FA0000 with y := pv })).loop
    (at_ 0x433B8000).row = 5 ∧ (at_ 0x433B8000).setF = 0x461C4000 ∧ (at_ 0x4400E800).setF = F.ofNat 20500 ∧
    (at_ 0x44020000).satHigh = true := by decide +kernel

theorem test_witness_front_end :
    (let s := onLoop fun l => { l with fe := { l.fe with aNext := some 40 } }
     s.noLoop = false ∧ s.loop.started = true ∧ s.loop.fe.aNext = some 40) ∧
    (up.loop.fe.aNext = none ∧ up.loop.fe.outN < up.loop.supp) ∧
    (let s := onLoop fun l => { l.setReg .ISL_REC_DIV 5 with recN := 5 }
     s.loop.reg .ISL_REC_DIV ≠ 0 ∧ s.loop.reg .ISL_REC_DIV ≤ s.loop.recN ∧ s.loop.buf.length < 512) ∧
    512 ≤ (onLoop fun l => { l with buf := List.replicate 512 ⟨0, 0, 0, 0, 0, 0⟩ }).loop.buf.length ∧
    (onLoop fun l => { l.setReg .ISL_REC_DIV 5 with recN := 4 }).loop.recN <
      (onLoop fun l => { l.setReg .ISL_REC_DIV 5 with recN := 4 }).loop.reg .ISL_REC_DIV ∧
    (let s : State := { up with clk := { up.clk with syncAt := some 9, tai := 9 } }
     s.clk.syncAt = some 9 ∧ 9 ≤ s.clk.tai ∧ s.bridge.link = 2) ∧
    (let s : State := { up with clk := { up.clk with syncAt := some 9, tai := 8 } }
     s.clk.syncAt = some 9 ∧ s.clk.tai < 9) := by decide +kernel

/-- A unit with valid TAI and a sample that has arrived. -/
def sampled (stamp : Option Nat) (held : Bool) : State :=
  { up with clk := { up.clk with valid := true, tai := 1000000 }
            day := { up.day with gcHeld := held }
            bridge := { up.bridge with arrived := [⟨⟨0, 0, 0x41A00000, 12000, 0, 32⟩, stamp⟩] } }

theorem test_witness_recording :
    (recordsLive (sampled none false) = true ∧ (sampled none false).bridge.taiHeld = false ∧
      (storeSample ⟨0, 0, 0x41A00000, 12000, 0, 32⟩ 976000 false { sampled none false with
        bridge := { (sampled none false).bridge with anchor := some (976000, 0) } }).2 = true ∧
      (storeSample ⟨0, 0, 0x41A00000, 12000, 0, 32⟩ 976000 false { sampled none true with
        bridge := { (sampled none true).bridge with anchor := some (976000, 0) } }).2 = false ∧
      recordsLive (sampled none true) = true ∧ records up = true) ∧
    up.bridge.arrived = [] ∧
    ((storeSample ⟨0, 0, 0x41A00000, 12000, 0, 32⟩ 976000 false (sampled (some 976000) false)).2 = true ∧
      (storeSample ⟨0, 0, 0x41A00000, 12000, 0, 32⟩ 976000 false (sampled (some 976000) true)).2 = false) ∧
    (let s : State := { sampled none false with bridge := { up.bridge with backfill := true } }
     records s = true ∧ s.clk.valid = true ∧ s.bridge.link = 2 ∧ s.bridge.taiHeld = false ∧ s.bridge.backfill = true ∧
       s.bridge.asked = false) ∧
    records (at_ .M8 up) = false ∧ throttled (({ up with day := { up.day with t := 16 } } : State).setReg .DKP_TOKENS 32768) = true ∧
    (records up = true ∧ up.clk.valid = false ∧ up.bridge.taiHeld = false ∧ up.bridge.asked = false) ∧
    (let s : State := { sampled none false with bridge := { up.bridge with backfill := true, asked := true } }
     s.bridge.asked = true ∧ s.bridge.fill = [] ∧ heldSamples s = [] ∧ records s = true ∧ s.clk.valid = true ∧ s.bridge.backfill = true) := by
  decide +kernel

/-- The bridge down, after and before it was first up. -/
def bridgeDown (since : Bool) : State := { up with bridge := { Bridge.reset with upSinceDawn := since } }

/-- Locked to a master. -/
def locked : State := { up with clk := { up.clk with state := .LOCKED } }

theorem test_witness_loop_verbs :
    (passes vIslShow (ln []) up = true ∧ up.bridge.link = 2 ∧ passes vFeShow (ln []) up = true ∧
      passes vHartShow (ln []) up = true) ∧
    (passes vIslShow (ln []) (bridgeDown false) = true ∧ (bridgeDown false).bridge.link ≠ 2 ∧
      (bridgeDown false).bridge.upSinceDawn = false ∧ (bridgeDown true).bridge.upSinceDawn = true) ∧
    (let l := ln [a "poll_addr" "3"]
     stagedLine .ISL l ≠ [] ∧ (∀ w ∈ stagedLine .ISL l, w.p.info.core = false) ∧ passes (vSet .ISL "ISL.SET" 1) l up = true ∧
       passes (vSet .ISL "ISL.SET" 1) l (bridgeDown true) = true) ∧
    passes (vSet .FE "FE.SET" 1) (ln [a "filt" "1"]) up = true ∧
    (passes (vSet .HART "HART.SET" 1) (ln [a "burst_en" "1"]) up = true ∧ (ln [a "burst_en" "1"]).has "owner_en" = false) ∧
    (passes (vSet .HART "HART.SET" 2) (ln [a "owner_en" "1"]) up = true ∧ (ln [a "owner_en" "1"]).has "owner_en" = true) ∧
    (passes vIslSync (ln []) up = true ∧ up.bridge.link = 2 ∧ (ln []).nat? "at" = none) ∧
    (let l := ln [a "at" "10000000"]
     passes vIslSync l locked = true ∧ l.nat? "at" = some 10000000 ∧ locked.clk.tai + 10000000 ≤ 10000000 ∧
       10000000 ≤ locked.clk.tai + 86400000000000 ∧ locked.clk.state = .LOCKED ∧ locked.clk.syncAt = none ∧ locked.bridge.link = 2) ∧
    (let l := ln [a "at" "9999999"]
     passes vIslSync l locked = true ∧ l.nat? "at" = some 9999999 ∧ 9999999 < locked.clk.tai + 10000000) := by decide +kernel

/-- Two points staged for CAL.TCOMMIT. -/
def points : State := { up with bridge := { up.bridge with tpoints := [(1, 0, 0), (2, 0x3F800000, 0x3F800000)] } }

theorem test_witness_cal :
    passes (calVerb "CAL.ZERO" (trimLevel (ln [])) [⟨"point", false, .float⟩, forceSpec, ccSpec]) (ln []) up = true ∧
    passes (calVerb "CAL.SPAN" (trimLevel (ln [a "point" "1"])) [⟨"point", true, .float⟩, forceSpec, ccSpec])
      (ln [a "point" "1"]) up = true ∧
    (let l := ln [a "path" "A"]
     passes (calVerb "CAL.PHASE" (trimLevel l) [⟨"path", true, .word ["A", "B"]⟩, ⟨"point", false, .float⟩, forceSpec, ccSpec])
       l up = true) ∧
    passes (calVerb "CAL.LOOP" (trimLevel (ln [a "point" "4", a "meas_ua" "4005"]))
      [⟨"point", true, .int (-(2 ^ 200)) (2 ^ 200)⟩, ⟨"meas_ua", true, .int (-(2 ^ 200)) (2 ^ 200)⟩, forceSpec, ccSpec]) (ln [a "point" "4", a "meas_ua" "4005"]) up = true ∧
    passes vCalTpoint (ln [a "i" "16", a "r" "1", a "pv" "1"]) up = true ∧
    passes (calVerb "CAL.TCOMMIT" 1 [⟨"n", true, .num 2 16⟩, ccSpec]) (ln [a "n" "2"]) points = true ∧
    passes (calVerb "CAL.TCOMMIT" 1 [⟨"n", true, .num 2 16⟩, ccSpec]) (ln [a "n" "3"]) points = true ∧
    passes (calVerb "CAL.SAVE" 1 [ccSpec]) (ln [a "cc" "0"]) up = true ∧
    passes (calVerb "CAL.RESTORE" 2 [ccSpec]) (ln []) up = true ∧
    passes (calVerb "CAL.CLEAR" 2 [⟨"what", true, .word clearWords⟩, ccSpec]) (ln [a "what" (clearWords.headD "")]) up = true ∧
    passes vCalShow (ln []) up = true ∧ passes vCalShow (ln []) (bridgeDown false) = true := by decide +kernel

theorem test_witness_points :
    stagedPoints points.bridge.tpoints 2 = .ok [(0, 0), (0x3F800000, 0x3F800000)] ∧
    stagedPoints points.bridge.tpoints 3 = .error 3 := by exact ⟨rfl, rfl⟩

theorem test_witness_write_units :
    (let u : BridgeUnit := ⟨some .ring, "ISL.SET", none, .fields [], [], [], none⟩
     let s : State := { up with bridge := { up.bridge with units := [u] } }
     s.noLoop = false ∧ s.loop.started = true ∧ s.bridge.units = [u] ∧ u.outcome = none) ∧
    ((onLoop fun l => { l with wp := true }).loop.wp = true ∧ wpRefuses .save = true ∧ up.loop.wp = false ∧ 5 ≠ up.loop.reg .ISL_CC) ∧
    (let t := (commitUnit .bridge (up.loop.setReg .ISL_POLL_ADDR 9) up)
     up.loop.reg .ISL_MTP_COMMITS < 99999 ∧ up.loop.bankA.works = true ∧ up.loop.bankB.works = true ∧ t.2 = none ∧
       newerBank up.loop = some 0 ∧ t.1.loop.reg .ISL_CC = 1) ∧
    (let s := onLoop fun l => { l with bankA := Bank.empty, bankB := { Bank.empty with valid := true } }
     newerBank s.loop ≠ some 0 ∧ (commitUnit .bridge s.loop s).2 = none) ∧
    100000 ≤ (onLoop fun l => l.setReg .ISL_MTP_COMMITS 100000).loop.reg .ISL_MTP_COMMITS ∧
    (mayWrite .ring 1 m4to9 up = true ∧ busyOn .ring up = none ∧ up.bridge.units = [] ∧
      mayWrite .ring 1 m4to9 (bridgeDown true) = true ∧ (bridgeDown true).bridge.link ≠ 2) ∧
    (let s : State := { up with sec := { up.sec with otp := { up.sec.otp with ident := ⟨2, false, 0, 0⟩ } } }
     mayWrite .ring 1 m4to9 s = true ∧ s.noLoop = true) := by decide +kernel

/-! ## HART -/

/-- A frame with the unit's long address from the primary master. -/
def ask (d : Text) : HartReq := ⟨.long up.loop.longAddr, false, d⟩

theorem test_witness_hart_addresses :
    up.noLoop = false ∧ up.loop.started = true ∧ hartFor up.loop 0 (.short 0) = true ∧
    (∀ n ∈ hartCommands, hartFor up.loop n (ask []).addr = true) ∧ hartFor up.loop 11 .broadcast = true ∧
    hartFor up.loop 21 .broadcast = true ∧ 253 ∉ hartCommands ∧ hartFor up.loop 253 (ask []).addr = true := by decide +kernel

theorem test_witness_hart_reads :
    let u := (hear false up).loop
    ([0, 246, 3] ≠ [] ∧ (∀ c ∈ [0, 246, 3].take 8, (deviceVariable u c).isSome = true) ∧
      (∀ c ∈ [0, 246, 3].take 4, (deviceVariable u c).isSome = true)) ∧
    hartByte [3] 0 ≤ 3 ∧
    (u.textOf .HART_TAG).take 6 = u.textOf .HART_TAG ∧ [1, 2, 3, 4, 5, 6].take 6 ≠ u.textOf .HART_TAG ∧
    (u.textOf .HART_LONG_TAG).take 32 = u.textOf .HART_LONG_TAG := by decide +kernel

/-- A write unit of HART that the loop die accepts. -/
def accepts (s : State) (op : UnitOp) : Prop := (runUnit .hart none op (hear false s)).2.1 = 0

theorem test_witness_hart_writes :
    let z := List.replicate 32 0
    (24 ≤ z.length ∧ [0].length < 3 ∧ accepts up (.fields (textSet .HART_MESSAGE z)) ∧
      accepts up (.fields (textSet .HART_TAG z ++ textSet .HART_DESCRIPTOR (z.drop 6) ++ [⟨.HART_DATE, 0, beAt z 18 3⟩])) ∧
      accepts up (.fields [⟨.HART_FAN, 0, beAt z 0 3⟩]) ∧ accepts up (.fields (textSet .HART_LONG_TAG z)) ∧
      accepts up (.fields [⟨.HART_PREAMBLES, 0, hartByte [5] 0⟩])) ∧
    (let d := readLayout feLayout up.loop
     17 ≤ d.length ∧ accepts up (.fields (writeLayout feLayout d))) ∧
    (let d := readLayout scalingLayout up.loop
     17 ≤ d.length ∧ accepts up (.fields (writeLayout scalingLayout d))) ∧
    (let d := readLayout failLayout up.loop
     10 ≤ d.length ∧ accepts up (.fields (writeLayout failLayout d))) ∧
    accepts up (.fields [⟨.ISL_POLL_ADDR, 0, hartByte [63] 0⟩, ⟨.ISL_LOOP_CUR_EN, 0, (hartByte [63] 0 == 0).toNat⟩]) ∧
    accepts up (.fields [⟨.ISL_POLL_ADDR, 0, hartByte [1, 1] 0⟩, ⟨.ISL_LOOP_CUR_EN, 0, hartByte [1, 1] 1⟩]) ∧
    accepts up (.fields [⟨.ISL_DAMP_MS, 0, 60000⟩]) ∧
    (let d := [up.loop.reg .ISL_UNITS, 0x42, 0xC8, 0, 0, 0, 0, 0, 0]
     9 ≤ d.length ∧ hartByte d 0 = (hear false up).loop.reg .ISL_UNITS ∧
       accepts up (.fields [⟨.ISL_URV, 0, beAt d 1 4⟩, ⟨.ISL_LRV, 0, beAt d 5 4⟩])) ∧
    hartByte [251, 0, 0, 0, 0, 0, 0, 0, 0] 0 ≠ (hear false up).loop.reg .ISL_UNITS := by
  simp only [accepts]; decide +kernel

theorem test_witness_thousandths :
    thousandths (beAt [0x42, 0x70, 0, 0] 0 4) 0 0x42700000 = .ok 60000 ∧
    thousandths (beAt [0x41, 0x40, 0, 0] 0 4) 0x40633333 0x41AC0000 = .ok 12000 := by exact ⟨rfl, rfl⟩

/-- A PV of 5 that is valid, with the loop current in use and 16 steady outputs. -/
def steady : State :=
  onLoop fun l => { (l.setReg .ISL_LOOP_CUR_EN 1).setReg .ISL_FIX_UA 4000 with
    y := 0x40A00000
    fe := { l.fe with valid := 16, last16 := List.replicate 16 ⟨0, 0, 0, 0x41200000, 0⟩, meas16 := List.replicate 16 4000 } }

/-- The same with a full-scale output. -/
def steadyFull : State :=
  onLoop fun l => { l with fe := { l.fe with valid := 16, last16 := List.replicate 16 ⟨l.nom, 0, 0, 0x41200000, 0⟩ } }

theorem test_witness_hart_pv_writes :
    ((hear false steady).loop.stale = false ∧ (hear false steady).loop.pvFault = false ∧
      accepts steady (.fields [⟨.ISL_URV, 0, (hear false steady).loop.y⟩]) ∧
      accepts steady (.fields [⟨.ISL_LRV, 0, (hear false steady).loop.y⟩])) ∧
    (F.isZero (beAt [0x41, 0x40, 0, 0] 0 4) = false ∧ accepts steady (.fields [⟨.ISL_FIX_UA, 0, 12000⟩])) ∧
    (hartByte [39] 0 ≠ 0 ∧ hartByte [39] 0 ≠ 250 ∧ hartByte [39] 0 ≤ 253 ∧ accepts up (.fields [⟨.ISL_UNITS, 0, hartByte [39] 0⟩])) ∧
    (let d := [0, 0, 0, 0x7D, 0, 0, 0, 0, 0]
     9 ≤ d.length ∧ hartByte d 0 = 0 ∧ accepts up (.fields [⟨.HART_BURST_PERIOD_MS, 0, beAt d 1 4 / 32⟩])) ∧
    (hartByte [128, 0] 0 ∈ [1, 2, 3, 9, 48, 128] ∧ hartByte [128, 0] 1 = 0 ∧
      accepts up (.fields [⟨.HART_BURST_CMD, 0, hartByte [128, 0] 0⟩])) ∧
    (hartByte [1, 0] 0 ≤ 1 ∧ hartByte [1, 0] 1 = 0 ∧ accepts up (.fields [⟨.HART_BURST_EN, 0, hartByte [1, 0] 0⟩])) := by
  simp only [accepts]; decide +kernel

theorem test_witness_hart_trims :
    accepts steady (.zero 0 false) ∧
    (4 ≤ [0x40, 0x80, 0, 0].length ∧
      accepts steady (.loop 4 (F.round (F.mul (beAt [0x40, 0x80, 0, 0] 0 4) 0x447A0000)).toNat false)) ∧
    accepts (onLoop fun l => { (l.setReg .ISL_LOOP_CUR_EN 1).setReg .ISL_FIX_UA 20000 with
        fe := { l.fe with meas16 := List.replicate 16 20000 } })
      (.loop 20 (F.round (F.mul (beAt [0x41, 0xA0, 0, 0] 0 4) 0x447A0000)).toNat false) ∧
    accepts steadyFull (.span up.loop.nom false) ∧ accepts steady (.phase false 0 false) ∧
    (hartByte [0, 0, 0, 0, 1] 4 ≠ 0 ∧ (hear false up).loop.reg .HART_OWNER_EN = 0) ∧ accepts up .save ∧
    (beAt [0, 1] 0 2 ≠ (hear false up).loop.reg .ISL_CC ∧ ([] : Text).length < 2) ∧
    (hartByte (List.replicate 8 0) 0 = 0 ∧ hartByte (List.replicate 8 0) 1 = 0 ∧ (hear false up).loop.wp = false) ∧
    (onLoop fun l => l.setReg .HART_BURST_EN 1).loop.reg .HART_BURST_EN ≠ 0 ∧ up.loop.reg .HART_BURST_EN = 0 ∧
    up.loop.hart.frameAt = none ∧
    (let s : State := { bridgeDown true with loop := { up.loop with hart := { up.loop.hart with frameAt := some 0 } } }
     s.loop.hart.frameAt = some 0 ∧ s.now < 0 + sec 1 ∧ s.bridge.link ≠ 2) := by
  simp only [accepts]; decide +kernel

/-! ## Boot

An image passes only where its signature verifies, which nothing evaluates: the witnesses that need one take that as a
premise. -/

/-- An image of 16 zero bytes, with its hash, as Alhogal signs it: by a key of zeros. -/
def sealed : Text :=
  [0x44, 0x58, 0x49, 0x4D, 1, 0, 0, 2, 16, 0, 0, 0, 0, 0, 0, 0] ++ List.replicate 9 0 ++ [0xB1, 1, 1, 0, 0, 0, 0]
    ++ Config.sha384 (List.replicate 16 0) ++ List.replicate 448 0

/-- A unit that knows the signer. -/
def booting : State :=
  { at_ .M2 up with
    sec := { up.sec with otp := { up.sec.otp with signers := [(0, Config.sha384 (List.replicate 96 0))] } }
    boot := { up.boot with slotA := some (Image.ofBytes sealed), slotB := some ⟨[], false, true⟩ } }

/-- The signature of the image verifies. -/
def Verifies : Prop :=
  Config.ecdsaP384 (List.replicate 96 0) (List.replicate 96 0) ((Image.ofBytes sealed).part 0 0x140) = true

set_option maxRecDepth 8000 in
theorem sealed_parts :
    (Image.ofBytes sealed).part 0x080 96 = List.replicate 96 0 ∧ (Image.ofBytes sealed).part 0x140 96 = List.replicate 96 0 ∧
    (Image.ofBytes sealed).part 0x020 48 = Config.sha384 (List.replicate 16 0) ∧
    (Image.ofBytes sealed).part 0x0E0 96 = List.replicate 96 0 ∧ (Image.ofBytes sealed).body = List.replicate 16 0 ∧
    (Image.ofBytes sealed).svn = 0 ∧ sealed.length = 528 := ⟨rfl, rfl, rfl, rfl, rfl, rfl, rfl⟩

theorem imageCheck_otp (s t : State) (img : Image) (h : s.sec.otp = t.sec.otp) (hn : s.boot.norMib = t.boot.norMib) :
    imageCheck s img = imageCheck t img := by
  unfold imageCheck countersign oemProvisioned signerMatches headerCheck slotSize norBytes lifeCycle
  rw [h, hn]

theorem booting_signer : signerMatches booting 0 3 (List.replicate 96 0) = true := by
  simp [-List.reduceReplicate, signerMatches, signerBad, booting, up, State.setReg, State.reset, Sec.reset, Otp.reset, bitAt]

theorem test_witness_image (s : State) (hs : s.sec.otp = booting.sec.otp) (hn : s.boot.norMib = booting.boot.norMib)
    (h : Verifies) :
    imageCheck s (Image.ofBytes sealed) = none := by
  obtain ⟨p1, p2, p3, p4, p5, p6, -⟩ := sealed_parts
  have hh : headerCheck booting (Image.ofBytes sealed) = none := by decide +kernel
  have hv : Config.ecdsaP384 (List.replicate 96 0) (List.replicate 96 0) ((Image.ofBytes sealed).part 0 0x140) = true := h
  have hc : countersign booting (Image.ofBytes sealed) = none := by decide +kernel
  have hok : (Image.ofBytes sealed).headerOk = true ∧ (Image.ofBytes sealed).bodyOk = true := ⟨rfl, rfl⟩
  have hf : booting.sec.otp.svnFuses = 0 := by decide +kernel
  rw [imageCheck_otp s booting _ hs hn]
  simp [-List.reduceReplicate, imageCheck, hok.1, hok.2, hh, p1, p2, p3, p5, p6, booting_signer, hv, hc, hf]

theorem test_witness_image_fails :
    imageCheck booting (slotImage booting true) = some 0x1C ∧
    ((Image.ofBytes [0, 0, 0, 0]).headerOk = true ∧ (Image.ofBytes [0, 0, 0, 0]).part 0 4 ≠ [0x44, 0x58, 0x49, 0x4D]) ∧
    (headerCheck up (Image.ofBytes sealed) = none ∧ signerMatches up 0 3 ((Image.ofBytes sealed).part 0x080 96) = false) := by
  decide +kernel

theorem test_witness_signer_matches :
    headerCheck booting (Image.ofBytes sealed) = none ∧ signerMatches booting 0 3 ((Image.ofBytes sealed).part 0x080 96) = true := by
  exact ⟨by decide +kernel, by rw [sealed_parts.1]; exact booting_signer⟩

theorem test_witness_dawn :
    (booting.runsIn .M2 = true ∧ booting.pwr.seq = .idle ∧ booting.boot.handover = none ∧ lifeCycle booting = 0 ∧ booting.sec.otp.bad = [] ∧ booting.sec.latch = 0 ∧ up.mode ≠ .M2) ∧
    lifeCycle { up with sec := { up.sec with otp := { up.sec.otp with fuses := 8 } } } = 4 ∧
    ({ booting with boot := { booting.boot with handover := some false } } : State).boot.handover = some false ∧
    (up.boot.watchdog = false ∧ ({ up with boot := { up.boot with watchdog := true } } : State).boot.watchdog = true ∧
      up.coreUp = true ∧ groupGood up 0 = true ∧ groupGood up 1 = true) ∧
    (let s : State := { at_ .M10 up with clk := { up.clk with now := sec 30 } }
     s.runsIn .M10 = true ∧ s.pwr.seq = .idle ∧ groupGood s 0 = true ∧ groupGood s 1 = true ∧ holdoffOver s = true ∧
       (at_ .M10 up).mode = .M10 ∧ holdoffOver (at_ .M10 up) = false) := by
  decide +kernel

/-- R225: without a NOR that answers the unit waits in Nightfall. -/
theorem test_no_nor_is_nightfall :
    (match exec (.dawn ⟨.none, .none, 0⟩) booting with | .next t => decide (t.mode = .M10) | _ => false) = true := by decide +kernel

/-- A listener of Nightfall that assembles an image. -/
def recovering (bytes : Text) (size : Nat) : State :=
  { at_ .M10 up with boot := { up.boot with recov := some ⟨false, size, bytes, .ring, false⟩ }
                     sec := booting.sec } |>.setReg .BOOT_XSPI_MODE 2

theorem test_witness_recovery :
    let s := at_ .M10 up
    (passes vRecInfo (ln []) s = true ∧ s.boot.selected = none ∧ s.boot.lastReject = none ∧ s.boot.recov = none) ∧
    (let l := ln [a "slot" "a", a "size" "528"]
     passes (vRec "REC.OPEN" [slotArg, sizeArg] s) l s = true ∧ l.nat "size" % 16 = 0) ∧
    (let l := ln [a "slot" "a", a "size" "529"]
     passes (vRec "REC.OPEN" [slotArg, sizeArg] s) l s = true ∧ l.nat "size" % 16 ≠ 0) ∧
    (let l := ln [a "o" "1", a "d" "4458"]
     let s := recovering [9] 3
     passes (vRec "REC.DATA" dataArgs s) l s = true ∧ l.bytes "d" ≠ [] ∧ l.nat "o" = 1 ∧ [9].length + (l.bytes "d").length ≤ 3) ∧
    (let l := ln [a "o" "2", a "d" "44"]
     passes (vRec "REC.DATA" dataArgs (recovering [9] 3)) l (recovering [9] 3) = true ∧ l.nat "o" ≠ [9].length) ∧
    passes (vRec "REC.COMMIT" [crcArg] s) (ln [a "crc" "0"]) s = true ∧ [9].length < 3 ∧
    (passes (vRec "REC.ABORT" [] (recovering [] 3)) (ln []) (recovering [] 3) = true ∧ (recovering [] 3).boot.recov ≠ none) ∧
    passes (vRec "REC.BOOT" [] s) (ln []) s = true ∧ groupGood s 0 = true ∧ groupGood s 1 = true := by decide +kernel

/-! The CRC of an image that holds its own hash is not evaluated either: the line gives it in hexadecimal. -/

theorem crcStep_lt (n : Nat) : ∀ c, c < 2 ^ 32 → crcStep c n < 2 ^ 32 := by
  induction n with
  | zero => intro c h; exact h
  | succ n ih =>
    intro c h
    refine ih _ ?_
    split
    · exact Nat.xor_lt_two_pow (by omega) (by decide)
    · omega

theorem crc32_lt (b : Text) : crc32 b < 2 ^ 32 := by
  have h : ∀ (b : Text) (c : Nat), c < 2 ^ 32 → b.foldl (fun c b => crcStep (c ^^^ (b % 256)) 8) c < 2 ^ 32 := by
    intro b
    induction b with
    | nil => intro c h; exact h
    | cons x xs ih => intro c h; exact ih _ (crcStep_lt _ _ (Nat.xor_lt_two_pow h (by omega)))
  exact Nat.xor_lt_two_pow (h b _ (by decide)) (by decide)

/-- Eight hexadecimal digits after 0x. -/
def hex8 (v : Nat) : Text := [48, 120] ++ (digits 16 8 v).map digitChar

theorem intVal_hex8 (v : Nat) (h : v < 2 ^ 32) : intVal (hex8 v) = some (v : Int) := by
  simp [hex8, intVal, afterHex, hexNat, digits, hexVal_digitChar]
  omega

/-- A line with a CRC. -/
def crcLine (v : Nat) : Line := ln [⟨txt "crc", hex8 v, false⟩]

/-- The commit of the sealed image. -/
def commitLine : Line := crcLine (crc32 sealed)

theorem crcLine_nat (v : Nat) (h : v < 2 ^ 32) : (crcLine v).nat "crc" = v := by
  simp [Line.nat, Line.nat?, Line.int?, Line.raw, crcLine, ln, intVal_hex8 v h]

theorem crcLine_args (v : Nat) (h : v < 2 ^ 32) : checkArgs [crcArg] (crcLine v).args = none := by
  have hv : ¬4294967295 < v := by omega
  simp [checkArgs, firstBad, crcArg, crcLine, ln, specOf, Form.wellFormed, Form.inRange, intVal_hex8 v h]
  rw [if_neg (by omega)]

theorem commitLine_crc : commitLine.nat "crc" = crc32 sealed := crcLine_nat _ (crc32_lt sealed)

theorem commitLine_args : checkArgs [crcArg] commitLine.args = none := crcLine_args _ (crc32_lt sealed)

theorem test_witness_commit (h : Verifies) :
    (passes (vRec "REC.COMMIT" [crcArg] (recovering sealed 528)) commitLine (recovering sealed 528) = true ∧
      (recovering sealed 528).boot.norWrites = true ∧ (recovering sealed 528).reg .BOOT_XSPI_MODE ≠ 0 ∧
      (recovering sealed 528).boot.selected = none ∧ (recovering sealed 528).boot.badPos = []) ∧
    commitChecks (recovering sealed 528) ⟨false, 528, sealed, .ring, false⟩ (commitLine.nat "crc") = none := by
  refine ⟨⟨?_, by decide +kernel, by decide +kernel, by decide +kernel, by decide +kernel⟩, ?_⟩
  · have e : (vRec "REC.COMMIT" [crcArg] (recovering sealed 528)).args = [crcArg] := rfl
    unfold passes
    rw [e, commitLine_args]; decide +kernel
  · have hi := test_witness_image (recovering sealed 528) rfl rfl h
    simp [commitChecks, commitLine_crc, hi, sealed_parts]

/-- An update open on the ring. -/
def updating (bytes : Text) (size : Nat) (route : Route) : State :=
  { up with boot := { up.boot with upd := some ⟨true, size, bytes, route, false⟩ }, sec := booting.sec
            kv := { up.kv with keys := [⟨2, txt "img", 1, [9, 9], none, none, 1, 0⟩] } } |>.setReg .BOOT_XSPI_MODE 2

theorem test_witness_boot_verbs :
    (passes vBootShow (ln []) up = true ∧ up.lineMode ≠ .M10) ∧
    (let l := ln [a "size" "528"]
     passes (vBoot "BOOT.OPEN" [sizeArg]) l up = true ∧ l.nat "size" % 16 = 0 ∧ up.boot.upd = none ∧
       passes (vBoot "BOOT.OPEN" [sizeArg]) l (updating [] 3 (.tls 1)) = true ∧ Route.tls 1 ≠ l.route) ∧
    (let l := ln [a "o" "0", a "d" "44"]
     passes (vBoot "BOOT.DATA" dataArgs) l (updating [] 3 .ring) = true ∧ l.bytes "d" ≠ [] ∧ l.nat "o" = ([] : Text).length ∧
       ([] : Text).length + (l.bytes "d").length ≤ 3) ∧
    (let l := ln [a "ns" "2", a "key" "img"]
     passes (vBoot "BOOT.FROMKV" [⟨"ns", true, .num 2 255⟩, keyArg]) l (updating [] 3 .ring) = true ∧
       l.nat "ns" = 2 ∧ l.text "key" = txt "img") ∧
    (let l := ln [a "slot" "b"]
     passes (vBoot "BOOT.ACTIVATE" [⟨"slot", false, .word ["a", "b"]⟩]) l booting = false ∧
       passes (vBoot "BOOT.ACTIVATE" [⟨"slot", false, .word ["a", "b"]⟩]) l (at_ .M4 booting) = true ∧
       activateSlot l (at_ .M4 booting) = some true ∧ imageCheck (at_ .M4 booting) (slotImage (at_ .M4 booting) true) = some 0x1C) ∧
    (passes (vBoot "BOOT.ABORT" []) (ln []) (updating [] 3 .ring) = true ∧ updState (updating [] 3 .ring) = 1) := by
  decide +kernel

theorem test_witness_update :
    okOf (openUpdate .ring (updating [] 3 .ring)) = some ⟨true, 3, [], .ring, false⟩ ∧
    okOf (readKey 2 (txt "img") (updating [] 3 .ring)).2 = some ⟨2, txt "img", 1, [9, 9], none, none, 1, 0⟩ := by decide +kernel

theorem test_witness_update_commit (h : Verifies) :
    (passes (vBoot "BOOT.COMMIT" [crcArg]) commitLine (updating sealed 528 .ring) = true ∧
      (programSlot true sealed (updating sealed 528 .ring)).2 = true) ∧
    commitChecks (updating sealed 528 .ring) ⟨true, 528, sealed, .ring, false⟩ (commitLine.nat "crc") = none ∧
    (let s := (at_ .M4 booting).setReg .BOOT_XSPI_MODE 2
     let l := ln [a "slot" "a"]
     imageCheck s (slotImage s false) = none ∧ passes (vBoot "BOOT.ACTIVATE" [⟨"slot", false, .word ["a", "b"]⟩]) l s = true ∧
       activateSlot l s = some false ∧ okOf (writeFlag 1 false (slotImage s false) s).2 = some 0) := by
  refine ⟨⟨?_, by decide +kernel⟩, ?_, test_witness_image _ rfl rfl h, by decide +kernel, by decide +kernel, by decide +kernel⟩
  · have e : (vBoot "BOOT.COMMIT" [crcArg]).args = [crcArg] := rfl
    unfold passes
    rw [e, commitLine_args]; decide +kernel
  · have hi := test_witness_image (updating sealed 528 .ring) rfl rfl h
    simp [commitChecks, commitLine_crc, hi, sealed_parts]

/-! ## Night, keys and alarms -/

/-- Groups of four zeros. -/
def zeroGroups (n : Nat) : Text := (List.range (5 * n - 1)).map fun i => if i % 5 == 4 then 45 else 48

/-- A unit with other fuses. -/
def fused (f : Otp → Otp) : State := { up with sec := { up.sec with otp := f up.sec.otp } }

/-- DEPLOYED, with its seed commissioned. -/
def deployed : State := fused fun o => { o with fuses := 3, commissioned := 1 }

theorem test_witness_alarms :
    (armed up 8 = true ∧ armed deployed 0 = false ∧ (8 : Nat) < 9) ∧ classInForce up 2 = 3 ∧
    (classInForce deployed 0 = 1 ∧ eraseHeld deployed = false ∧ activeSeed deployed = some 0 ∧ deployed.mode = .M4 ∧
      deployed.pwr.failing = false ∧ deployed.pwr.held = false ∧ deployed.pwr.seq = .idle) ∧
    (classInForce deployed 5 = 2 ∧ deployed.sec.latch = 0) ∧
    (let s : State := { up with sec := { up.sec with burning := some 0 } }
     s.sec.burning = some 0 ∧ (activeSeed s).isSome = true) ∧
    (let s := fused fun o => { o with revoked := 255 }
     activeSeed { s with sec := { s.sec with burning := some 7 } } = none) ∧
    (let s : State := { up with sec := { up.sec with recordDue := true } }
     s.sec.recordDue = true ∧ s.firmware = true ∧ groupGood s 0 = true ∧ groupGood s 1 = true) ∧
    (up.sec.trngOk = true ∧ ({ up with sec := { up.sec with trngOk := false } } : State).sec.trngOk = false) := by decide +kernel

/-- R256: a class A source burns the revoke fuse of the active seed and sets the ERASE latch. -/
theorem test_erase :
    (let t := fireAlarm 0 deployed
     t.sec.latch = 1 ∧ t.sec.otp.revoked = 1 ∧ t.sec.burning = some 0) := by decide +kernel

/-- A route with authority, or with a challenge and parts of its answer. -/
def authority (auth : Bool) (parts : List (Nat × Text)) : RouteSt :=
  { atLevel .ring 2 with auth := auth, lcNonce := some ⟨List.replicate 8 7, 0⟩, lcParts := parts }

theorem test_witness_authority :
    (passes vLcShow (ln []) up = true ∧ passes vLcChallenge (ln []) up = true ∧ up.sec.trngOk = true) ∧
    (let l := ln [a "part" "x", ⟨txt "d", zeroGroups 24, false⟩]
     let s : State := { up with routes := [authority false []] }
     passes vLcAuth l s = true ∧ (s.route .ring).lcNonce = some ⟨List.replicate 8 7, 0⟩ ∧ s.now ≤ 0 + sec 60 ∧
       (s.route .ring).lcParts = []) ∧
    (let l := ln [a "part" "s", ⟨txt "d", zeroGroups 24, false⟩]
     let s : State := { up with routes := [authority false [(0, []), (1, []), (2, [])]] }
     let ps := (partIndex (l.text "part"), (groupBytes 24 (l.text "d")).getD []) ::
       (s.route .ring).lcParts.filter (fun p => p.1 != partIndex (l.text "part"))
     passes vLcAuth l s = true ∧ 4 ≤ ps.length ∧ authProved s (List.replicate 8 7) .ring false ps = false) := by decide +kernel

/-- Authority is proved where the key hashes to what OTP holds and the signature verifies. -/
theorem test_witness_proved (key sig : Text)
    (h : Config.ecdsaP384 key sig (authMessage up (List.replicate 8 7) .ring false) = true) :
    authProved (fused fun o => { o with debugHash := some (Config.sha384 key) }) (List.replicate 8 7) .ring false
      [(3, sig.drop 48), (0, key.take 48), (1, key.drop 48), (2, sig.take 48)] = true := by
  have e : authMessage (fused fun o => { o with debugHash := some (Config.sha384 key) }) (List.replicate 8 7) .ring false =
    authMessage up (List.replicate 8 7) .ring false := rfl
  have h1 : (fused fun o => { o with debugHash := some (Config.sha384 key) }).sec.otp.debugHash = some (Config.sha384 key) := rfl
  have h2 : (fused fun o => { o with debugHash := some (Config.sha384 key) }).sec.otp.bad = [] := rfl
  have p (x y z w : Text) : partOf [(3, x), (0, y), (1, z), (2, w)] 0 = y ∧ partOf [(3, x), (0, y), (1, z), (2, w)] 1 = z ∧
      partOf [(3, x), (0, y), (1, z), (2, w)] 2 = w ∧ partOf [(3, x), (0, y), (1, z), (2, w)] 3 = x := ⟨rfl, rfl, rfl, rfl⟩
  simp only [authProved, p, List.take_append_drop, e, h1, h2, h]
  simp

theorem test_witness_life_cycle :
    (let l := ln [a "to" "PROVISIONED"]
     let s := at_ .M9 (fused fun o => { o with debugHash := some [1] })
     passes vLcAdvance l s = true ∧ groupGood s 0 = true ∧ groupGood s 1 = true ∧ lcTarget (l.text "to") = 1 ∧ (lifeCycle s, 1) ∈ [(0, 1), (1, 2), (2, 3), (2, 4), (3, 4)] ∧
       advanceNeed .ring 1 s = none ∧ advanceNeed .ring 1 (at_ .M9 up) = some ("need", .w "debugkey") ∧
       passes vLcAdvance l (at_ .M9 up) = true ∧ lifeCycle (at_ .M9 up) = 0) ∧
    (let s : State := at_ .M11 { deployed with sec := { deployed.sec with otp := { deployed.sec.otp with commissioned := 0 } }
                                               routes := [authority true []] }
     passes vLcRecommission (ln []) s = true ∧ (s.route .ring).auth = true ∧ lifeCycle s = 2 ∧ activeSeed s = some 0 ∧
       bitAt s.sec.otp.commissioned 0 = false ∧ detecting s 1 = none ∧ groupGood s 0 = true ∧ groupGood s 1 = true) ∧
    (let l := ln [⟨txt "hash", zeroGroups 24, false⟩]
     passes vLcDebugkey l up = true ∧ lifeCycle up = 0 ∧ up.sec.otp.debugHash = none ∧ passes vLcDebugkey l deployed = true ∧
       lifeCycle deployed ≠ 0) ∧
    (let l := ln [a "idx" "o1", ⟨txt "hash", zeroGroups 24, false⟩]
     passes vLcSigner l up = true ∧ signerHeld up (signerNum (l.text "idx")) = false) ∧
    (let s : State := { up with routes := [authority true []] }
     passes vLcRevoke (ln [a "signer" (signerWords.headD "")]) s = true ∧ (s.route .ring).auth = true) := by decide +kernel

/-- A line with a piece of a certificate. -/
def piece (k : String) (last : String) : Line :=
  ln ((if k == "" then [] else [a "idx" k]) ++ [a "o" "0", a "d" "3003020101", a "last" last])

theorem test_witness_vault :
    passes vVaultShow (ln []) up = true ∧
    (let l := ln [⟨txt "key", zeroGroups 16, false⟩]
     passes vVaultSetowner l up = true ∧ lifeCycle up ≤ 1 ∧ activeSeed up = some 0 ∧ ownerEntry up 0 = none ∧
       up.sec.otp.bad.any (· == 48 + 0) = false ∧ (ownerEntry (fused fun o => { o with owner := [(0, [1])] }) 0).isSome = true) ∧
    (passes vVaultGenid (ln []) up = true ∧ up.sec.chain = none ∧ changeLocked up 3 = false ∧ changeLocked up 4 = false ∧
      up.sec.trngOk = true ∧ (ns0Record (noteLine vVaultGenid (ln []) up)).2 = none) ∧
    (let l := ln [a "slot" "7", a "id" "client", ⟨txt "key", List.replicate 64 48, false⟩, a "hash" "SHA-384"]
     passes vVaultPsk l up = true ∧ l.nat "slot" = 7 ∧ changeLocked up (6 + 7) = false ∧
       (ns0Record (noteLine vVaultPsk l up)).2 = none) ∧
    (passes vVaultCa (piece "3" "0") up = true ∧ (piece "3" "0").flag "last" = false ∧
      okOf (appendLoad (piece "3" "0") none 3 2048) = some ⟨3, [48, 3, 2, 1, 1]⟩ ∧ passes vVaultCa (piece "3" "1") up = true ∧
      (piece "3" "1").flag "last" = true ∧
      (ns0Record (up.updRoute .ring fun y => { y with caLoad := none })).2 = none) ∧
    (passes vVaultCert (piece "" "0") up = true ∧ okOf (appendLoad (piece "" "0") none 0 6144) = some ⟨0, [48, 3, 2, 1, 1]⟩ ∧
      passes vVaultCert (piece "" "1") up = true) ∧
    (let s : State := { up with sec := { up.sec with identity := true } }
     passes vVaultCsr (ln [a "cn" "dx"]) s = true ∧ s.sec.identity = true ∧ useLocked s 3 = false ∧ useLocked s 4 = false) ∧
    (let l := ln [a "idx" "31"]
     passes (vVaultCred up l) l up = true ∧ l.args.length ≤ 1) ∧
    (let l := ln [a "idx" "1", a "type" "2", a "ref" "3", a "name" "n", a "en" "1"]
     let c := credWith l (credGet up 1)
     passes (vVaultCred up l) l up = true ∧ 1 < l.args.length ∧ credBad c = none ∧ c.type ≠ 0 ∧
       (ns0Record (noteLine (vVaultCred up l) l up)).2 = none) ∧
    (mayWrite .ring 2 m4to9 up = true ∧ (5 : Nat) < 2 ^ 32) := by decide +kernel

/-- A chain is taken where its one certificate reads and holds the identity's key. -/
theorem test_witness_chain (h : Config.certOk [48, 3, 2, 1, 1] = true) (hk : Config.certKey [48, 3, 2, 1, 1] = Config.identityPub 0) :
    chainMatches { up with sec := { up.sec with identity := true } } [48, 3, 2, 1, 1] = some 1 := by
  have e : derSplit 4 [48, 3, 2, 1, 1] = some [[48, 3, 2, 1, 1]] := by decide +kernel
  simp [chainMatches, e, h, hk, up, State.setReg, State.reset, Sec.reset]

/-- A unit whose debug port is open. -/
def debugUp : State := { up with sec := { up.sec with romLocks := true } }

theorem test_witness_alarm_verbs :
    (passes vAlmShow (ln []) up = true ∧ up.sec.latch = 0) ∧
    (let s : State := { up with sec := { up.sec with latch := 2, latchSrc := 8 } }
     passes vAlmShow (ln []) s = true ∧ s.sec.latch ≠ 0 ∧ s.sec.latchSrc ≤ 8) ∧
    (let s : State := at_ .M11 { deployed with sec := { deployed.sec with latch := 2 } }
     passes vAlmClear (ln []) s = true ∧ eraseHeld s = false ∧ detecting s 2 = none ∧ lifeCycle s ≠ 4 ∧ groupGood s 0 = true ∧
       groupGood s 1 = true) ∧
    (let s : State := at_ .M11 { deployed with sec := { deployed.sec with latch := 1 } }
     passes vAlmClear (ln []) s = true ∧ eraseHeld s = true) ∧
    (debugLive up = false ∧ debugLive debugUp = true) ∧
    (let c := (Param.ALM_CLASS).info.base
     c % 4 = 0 ∧ fieldsAt c ≠ [] ∧ (∀ x ∈ fieldsAt c, fieldAbsent debugUp x.1 = false) ∧
       (fieldsAt c).any (fun x => x.1.writable) = true ∧ (fieldsAt c).any (fun x => x.1.p.mirrored) = false ∧
       (let set := wordChanges c (up.reg .ALM_CLASS % 2 ^ 32) debugUp
        classOf set = 0 ∧ setRefusal set debugUp = none ∧ jointRefusal set debugUp = none ∧
          latchCleared (.address c) (up.reg .ALM_CLASS) = none)) ∧
    (fieldsAt 0xFFFF0 = [] ∧ 0xFFFF0 % 4 = 0) ∧
    (let c := (Param.ALM_LATCH).info.base
     c % 4 = 0 ∧ fieldsAt c ≠ [] ∧ (∀ x ∈ fieldsAt c, fieldAbsent debugUp x.1 = false) ∧
       (fieldsAt c).any (fun x => x.1.writable) = false) := by decide +kernel

/-! ## Sunrise, memories, Dusk -/

/-- Sunrise at a stage. -/
def rising (n : Nat) : State :=
  { at_ .M3 up with mem := { up.mem with sunrise := ⟨n, false, 0, 0⟩, rateKept := 1 } }

theorem test_witness_sunrise :
    ((rising 1).lineMode = .M3 ∧ (rising 1).mem.sunrise.halted = false ∧ (rising 1).sec.recordDue = false ∧
      (rising 1).mem.sunrise.stage = 1 ∧ (rising 1).pwr.seq = .idle ∧ (rising 1).pwr.en = 0x3F) ∧
    ((rising 2).mem.sunrise.stage = 2 ∧ (∀ x ∈ [5, 5], x = [5, 5].headD 0) ∧ ((rising 2).mem.rateKept = 1 → true = true)) ∧
    (let found : List FoundTarget := [⟨0, 0, some ⟨16384, 2048, 256, 1024, 1, 2, 3⟩, 0⟩]
     let s : State := { rising 3 with mem := { (rising 3).mem with superblock := true } }
     s.mem.sunrise.stage = 3 ∧ s.mem.superblock = true ∧ (discover []).2.1 = [] ∧ (discover []).2.2 = none ∧
       (discover found).2.1 = []) ∧
    (let s : State := { rising 4 with
       sec := { up.sec with vault := [⟨0, slotAttr 0, [1]⟩] }
       kv := { up.kv with nsKeys := (List.range 256).map fun n => ⟨n, 0, ⟨[1], [2]⟩⟩ } }
     s.mem.sunrise.stage = 4 ∧ lostKeys s = [] ∧ s.kv.keys.length ≤ storedIndexKeys s) ∧
    ((rising 5).mem.sunrise.stage = 5 ∧ (rising 6).mem.sunrise.stage = 6 ∧ (rising 7).mem.sunrise.stage = 7) ∧
    ({ rising 2 with mem := { (rising 2).mem with sunrise := ⟨2, true, 0, 0⟩ } } : State).mem.sunrise.halted = true := by
  decide +kernel

/-- R294: the last stage leads to Morning. -/
theorem test_last_stage_is_morning :
    (match exec (.sunriseStageComplete (.colls [] none)) (rising 7) with | .next t => decide (t.mode = .M4) | _ => false) = true := by
  decide +kernel

theorem test_witness_memory :
    (up.firmware = true ∧ up.mem.sunrise.stage = 0 ∧ groupGood up 0 = true ∧ groupGood up 1 = true ∧ up.inService = true ∧
      up.day.t < 16 ∧ up.mem.ue = [] ∧ (15 : Nat) ≤ 15 ∧ (1 : Nat) ≠ 0) ∧
    (⟨2, 3, 0, none⟩ : DramErr) ∉ up.mem.ue ∧
    ((5 : Nat) ≠ 1 ∧ (262143 : Nat) < 262144 ∧ 16 ≤ ({ up with day := { up.day with t := 16 } } : State).day.t) ∧
    ((⟨2, 3, 0, none⟩ : DramErr).region = 2 ∧ errChannel up ⟨2, 3, 0, none⟩ = 3 ∧ errChannel up ⟨4, 31, 0, none⟩ = 15) ∧ nandRuns up = true ∧
    wearPct 10 up.kv.endurance < 80 ∧
    ((up.mem.targets.any fun t => t.ch == 0 && t.tgt == 0 && t.used) = true ∧
      (∀ t ∈ up.mem.targets, t.grown * 20 + 20 ≤ t.blocks) ∧
      (up.mem.targets.any fun t => t.ch == 1 && t.tgt == 0 && t.used) = false) ∧
    (up.mem.ckptBusy = false ∧ ({ up with mem := { up.mem with ckptBusy := true } } : State).mem.ckptBusy = true) ∧
    (up.mem.plpOk = false ∧ ({ up with mem := { up.mem with plpOk := true } } : State).mem.plpOk = true) := by decide +kernel

/-- Dusk with one job that runs or waits. -/
def duskWith (k : JobKind) (set : List Staged) (running : Bool) : State :=
  { at_ .M9 up with day := { (at_ .M9 up).day with queue := [⟨1, k, 0, set, running, 0⟩] } }

theorem test_witness_dusk :
    ((duskWith .format [] false).runsIn .M9 = true ∧
      runningJob (duskWith .format [] false) = none ∧ (duskWith .format [] false).day.abortTo = none ∧
      (duskWith .format [] false).day.queue = ⟨1, .format, 0, [], false, 0⟩ :: [] ∧ (at_ .M9 up).day.queue = []) ∧
    (let s : State := { at_ .M9 up with day := { (at_ .M9 up).day with abortTo := some .M0 } }
     s.day.abortTo = some .M0 ∧ Mode.M0 ≠ .M4 ∧
       ({ s with day := { s.day with abortTo := some .M4 } } : State).day.abortTo = some .M4) ∧
    jobGet (duskWith .repartition [] true) 1 = some ⟨1, .repartition, 0, [], true, 0⟩ ∧
    jobGet (duskWith .format [] true) 1 = some ⟨1, .format, 0, [], true, 0⟩ ∧
    jobGet (duskWith .rebuild [] true) 1 = some ⟨1, .rebuild, 0, [], true, 0⟩ ∧
    needsPartition [⟨.DRAM_META_GIB, 0, 1⟩] = true ∧ needsFormat [⟨.FLASH_OP_PCT, 0, 10⟩] = true ∧
    rebuilds [⟨.COLL_C_TAGGED, 3, 1⟩] ≠ [] ∧
    (atBoundary (duskWith .commit [] true) = true ∧ (⟨1, .commit, 0, [], true, 0⟩ : Job).ready = true) ∧ up.mode ≠ .M9 ∧
    jobHolds ⟨1, .rebuild, 5, [], false, 0⟩ up = false ∧ jobHolds ⟨1, .format, 0, [], false, 0⟩ (duskWith .format [] false) = true := by
  decide +kernel

/-! ## The network -/

/-- A unit with its links up. -/
def linked (f : Port → Port) : State :=
  { up with net := { up.net with port0 := f { up.net.port0 with link := true }, port1 := { up.net.port1 with link := true } } }

/-- A frame to every station. -/
def frame (good full : Bool) : Frame := ⟨good, 64, none, 0xFFFFFFFFFFFF, full, 0, .other⟩

/-- A session. -/
def sess5 : Sess :=
  { num := 5, port := 0, client := 9, cred := 0, roles := 1, level := 2, heard := 0, window := 0, forged := 0, sentRecs := 0,
    recvRecs := 0, kuSent := false, mtu := 1500, v6 := false, epoch := 3, idleAt := 0, held := false, floor := none, cache := [],
    admitted := [], asm := [], refused := [], tx := [], sub := none, hits := 0, total := 0 }

/-- A unit with that session. -/
def withSess (x : Sess) : State := { linked id with sess := [x], routes := [atLevel .ring 2, atLevel (.dkp 5) 2] }

theorem test_witness_ports :
    let s := linked id
    ((1 : Nat) < 2 ∧ netOn s = true ∧ (s.port 0).link = true ∧ (frame true true).uncorr = 0 ∧ (frame true true).full = true) ∧
    (frameOk s 0 (frame false false) = false ∧ frameOk s 0 (frame true false) = true ∧ (frame true false).full = false) ∧
    (s.reg .NET_DKP_PORT ≠ 0 ∧ serving s = true ∧ (s.sess.any fun y => y.port == 0 && y.client == 9) = false ∧
      (s.port 0).holds = []) ∧
    ((s.port 0).pauseUntil ≤ s.now ∧ s.now < ((linked fun p => { p with pauseUntil := 5 }).port 0).pauseUntil) ∧
    ((up.port 0).link = false ∧ (up.setReg .NET_P_EN 1).reg .NET_P_EN 0 = 1 ∧ s.reg .NET_LINK_HOLD_S ≠ 0) ∧
    (let s : State := { up with net := { up.net with port0 := { up.net.port0 with holding := true } } }
     (s.port 0).link = false ∧ (s.port 0).holding = true) := by decide +kernel

/-- Port 0 with an IPv4 address from DHCP. -/
def dhcp (d : Dhcp) : State := (linked fun p => { p with v4 := ⟨7, none, false, d, some 100⟩ }).setReg .NET_P_V4_MODE 2

theorem test_witness_addresses :
    ((dhcp .selecting).reg .NET_P_V4_MODE 0 = 2 ∧ ((dhcp .selecting).port 0).link = true ∧
      ((dhcp .selecting).port 0).v4.dhcp = .selecting ∧ netOn (dhcp .selecting) = true) ∧
    (((dhcp .renewing).port 0).v4.dhcp = .renewing ∧ ((dhcp .renewing).port 0).v4.now_ = 7) ∧
    ((dhcp .requesting).port 0).v4.dhcp = .requesting ∧
    (((dhcp .bound).port 0).v4.leaseEnd.isSome = true ∧ ((dhcp .bound).port 0).v4.dhcp = .bound ∧
      (((dhcp .bound).port 0).addr false).leaseEnd.isSome = true) ∧
    (let s := linked fun p => { p with v4 := ⟨0, some 7, false, .init, none⟩, v6 := ⟨0, some 8, false, .init, none⟩ }
     ((s.port 0).addr false).probe = some 7 ∧ ((s.port 0).addr false).dhcp = .init ∧ ((s.port 0).addr true).probe = some 8 ∧
       ((s.port 0).addr true).dhcp = .init) ∧
    (let s := ((linked fun p => { p with v4 := ⟨0, none, true, .init, none⟩ }).setReg .NET_P_V4_MODE 1).setReg .NET_P_V4_ADDR 7
     (s.port 0).v4.conflict = true ∧ (s.port 0).v6.conflict = false ∧ s.reg .NET_P_V4_MODE 0 = 1 ∧ s.reg .NET_P_V4_ADDR 0 ≠ 0 ∧
       (s.port 1).v4.conflict = false ∧ (s.port 1).v6.conflict = false ∧ (s.port 1).link = true) ∧
    (let s := linked fun p => { p with reasm := [⟨3, 1, 8, none⟩] }
     (s.port 0).reasm.find? (·.ident == 3) = some ⟨3, 1, 8, none⟩ ∧ (s.port 0).reasm.find? (·.ident == 4) = none) ∧
    ((linked id).setReg .NET_P_V6_MODE 3).reg .NET_P_V6_MODE 0 = 3 ∧
    (((linked id).setReg .NET_P_V6_MODE 2).reg .NET_P_V6_MODE 0 = 2 ∧ ((linked id).port 0).prefix6 = none) := by decide +kernel

/-- A ClientHello of a DKP client. -/
def hello (cookie : Option Text) (tls13 : Bool) (suites : List Nat) : Hello :=
  ⟨0, 0, 9, false, none, [1], cookie, tls13, suites, [], [], [], [], [], none⟩

/-- A unit with tokens and a handshake of a service. -/
def shaking (tokens : Nat) (hs : List Hs) : State :=
  { linked id with net := { (linked id).net with tokens := tokens, hs := hs } }

theorem test_witness_hello :
    (netOn (shaking 0 []) = true ∧ serving (shaking 0 []) = true ∧ ((shaking 0 []).port 0).link = true ∧
      (hello none true []).inside = none ∧
      ((shaking 0 []).net.hs.find? fun x => x.svc == 0 && x.port == 0 && x.client == 9) = none ∧
      cookieOk (shaking 0 []) (hello none true []) = false) ∧
    (min (shaking 0 []).net.tokens ((shaking 0 []).reg .NET_HS_BURST) = 0 ∧
      min (shaking 5 []).net.tokens ((shaking 5 []).reg .NET_HS_BURST) ≠ 0 ∧
      (shaking 5 []).sess.length + (shaking 5 []).net.hs.length < 1024) ∧
    ((hello none false []).tls13 = false ∧ (hello none true [0]).tls13 = true ∧ pickSuite up [0] = none) := by decide +kernel

/-- The cookie that the device sent. -/
theorem test_witness_cookie :
    let h := hello none true []
    cookieOk (shaking 5 []) { h with cookie := some (cookieOf (shaking 5 []).net.cookieKey h) } = true := by
  simp only [cookieOk, cookieOf]
  simp

theorem test_witness_handshakes :
    let x : Hs := ⟨1, 0, 0, 9, false, 0x1302, some 0, 1, false⟩
    let y : Hs := ⟨1, 1, 0, 9, false, 0x1302, some 0, 6, false⟩
    let c : Cred := ⟨0, 1, 0, [], 1, 2, 3, 3, true⟩
    ((shaking 5 [x]).net.hs.find? (·.num == 1) = some x ∧ serving (shaking 5 [x]) = true ∧ 0 < x.sent ∧ x.svc = 0 ∧ x.sent < 6) ∧
    (((shaking 5 [y]).net.hs.find? fun x => x.num == 1 && x.svc == 1) = some y ∧ 6 ≤ y.sent ∧
      (shaking 5 [y]).net.hs.find? (·.num == 1) = some y) ∧
    (let s : State := { shaking 5 [] with line := { up.line with tlsConns := [0, 1, 2, 3] } }
     netOn s = true ∧ (s.port 0).link = true ∧
       (s.net.hs.find? fun x => x.num == 1 && x.svc == 1) = none ∧ 4 ≤ s.line.tlsConns.length ∧ 3 ∈ s.line.tlsConns ∧
       4 ∉ s.line.tlsConns) ∧
    (let s : State := { shaking 5 [x] with net := { (shaking 5 [x]).net with creds := [c] } }
     lowestCred ((matching s x ⟨true, false, [], none⟩).filter fun c => c.serves x) = some c ∧ x.psk = some 0) ∧
    (∀ r ∈ up.routes, r.route ≠ .dkp up.nextSess) := by decide +kernel

theorem test_witness_records :
    let s := withSess sess5
    (netOn s = true ∧ serving s = true ∧ s.session 6 = none ∧ s.session 5 = some sess5 ∧ sess5.held = false) ∧
    ((4 : Nat) ≠ sess5.epoch ∧ windowNew { sess5 with heard := 64, window := 1 } 64 = false ∧
      windowNew { sess5 with heard := 64, window := 1 } 0 = false ∧ windowNew sess5 1 = true) ∧
    (sess5.forged + 1 < 2 ^ 20 ∧ 2 ^ 20 ≤ ({ sess5 with forged := 2 ^ 20 - 1 } : Sess).forged + 1) ∧
    sess5.recvRecs + 1 < 2 ^ 23 ∧ s.now < sess5.idleAt + sec (s.reg .NET_IDLE_S) ∧
    (let t : State := { s with clk := { s.clk with now := sec (s.reg .NET_IDLE_S) } }
     sess5.idleAt + sec (t.reg .NET_IDLE_S) ≤ t.now) := by decide +kernel

/-- R321: the number at the edge of the 64-bit window is still new, the one below it is a replay. -/
theorem test_window_edge :
    windowNew { sess5 with heard := 100, window := 1 } 37 = true ∧ windowNew { sess5 with heard := 100, window := 1 } 36 = false := by
  decide +kernel


/-! ## The DKP -/

/-- A segment: op, header flags, ID, body length, offset and its bytes of the body. -/
def seg (op flags id len off : Nat) (b : Text) : Text :=
  [1, op, flags, 0] ++ leBytes 4 id ++ [0, 0, 0, 0] ++ leBytes 4 len ++ leBytes 4 off ++ b

theorem test_witness_segments :
    let x : Sess := { sess5 with tx := [⟨1, 1, 0, 0, [7, 7], 2, 0, 0, false⟩] }
    let s := withSess x
    let ack := seg 1 3 1 8 0 (leBytes 4 2 ++ leBytes 4 2)
    (s.session x.num = some x ∧ x.held = false) ∧
    (undecodable [0] = true ∧ undecodable [1] = true ∧ undecodable (seg 1 0 1 4 0 []) = false) ∧
    (let g := seg 1 0 1 0 0 []
     undecodable g = false ∧ bitAt (headerOf g).flags 1 = false ∧ (sess5.asm.find? fun a => a.id == (headerOf g).id) = none ∧
       refusedLately sess5 (headerOf g) (withSess sess5) = false ∧ headerBad g = false ∧ 1 ≤ (headerOf g).op ∧ (headerOf g).op ≤ 13 ∧
       (headerOf g).len ≤ 2359296) ∧
    (headerBad (seg 1 0 1 4 0 []) = true ∧ headerBad (seg 0 0 1 0 0 []) = false ∧ (headerOf (seg 0 0 1 0 0 [])).op = 0 ∧
      headerBad (seg 14 0 1 0 0 []) = false ∧ (headerOf (seg 14 0 1 0 0 [])).op = 14) ∧
    (headerBad (seg 2 0 1 2359297 0 [0]) = false ∧ (headerOf (seg 2 0 1 2359297 0 [0])).len = 2359297) ∧
    (let y : Sess := { sess5 with cache := [⟨1, 1, 0, some [], 0, []⟩] }
     (y.cache.find? fun c => c.id == 1) = some ⟨1, 1, 0, some [], 0, []⟩ ∧ (y.tx.find? fun t => t.id == 1) = none) ∧
    (sess5.admitted.any (fun a => a.id == 1) = false ∧
      ({ sess5 with admitted := [⟨1, 1, 0, false, []⟩] } : Sess).admitted.any (fun a => a.id == 1) = true) ∧
    (({ sess5 with floor := some 2 } : Sess).floor = some 2 ∧ serialBelow 1 2 = true ∧ sess5.floor = none) ∧
    (256 ≤ ({ sess5 with admitted := List.replicate 256 ⟨2, 1, 0, false, []⟩ } : Sess).admitted.length) ∧
    (8388608 < sumNat (({ sess5 with admitted := [⟨2, 1, 8388608, false, []⟩] } : Sess).admitted.map (·.len)) + 1) ∧
    (65536 ≤ ((withSess sess5).setReg .DKP_TOKENS 65536).reg .DKP_TOKENS ∧ (withSess sess5).day.t < 16 ∧
      (withSess sess5).reg .DKP_TOKENS < 65536) ∧
    (undecodable ack = false ∧ bitAt (headerOf ack).flags 1 = true ∧ 28 ≤ ack.length ∧
      (x.tx.find? fun t => t.id == (headerOf ack).id && t.op == (headerOf ack).op) = some ⟨1, 1, 0, 0, [7, 7], 2, 0, 0, false⟩ ∧
      natAt ack 20 4 = 2) ∧
    ((⟨1, 1, 0, 0, [7, 7], 2, 0, 0, false⟩ : Tx).stopped = false ∧ (⟨1, 1, 0, 0, [7, 7], 2, 0, 0, false⟩ : Tx).sent = 2 ∧
      (⟨1, 1, 0, 0, [7, 7], 2, 0, 0, false⟩ : Tx).acked ≤ 2) ∧
    ((x.tx.find? fun t => t.id == 1) = some ⟨1, 1, 0, 0, [7, 7], 2, 0, 0, false⟩ ∧ 0 < s.reg .DKP_RETX_MAX ∧
      (s.setReg .DKP_RETX_MAX 0).reg .DKP_RETX_MAX ≤ 0 ∧ (x.tx.find? fun t => t.id == 2) = none) ∧
    (let y : Sess := { sess5 with asm := [⟨1, 2, 0, 8, [], 0, 0⟩] }
     (y.asm.any fun a => a.id == 1) = true ∧ (y.asm.any fun a => a.id == 2) = false) := by decide +kernel

/-- R334: the segment of another version is no segment, and is counted. -/
theorem test_bad_segment_is_counted :
    (match exec (.dkpSegmentReceived 5 [2, 1, 0, 0, 1, 0, 0, 0, 0, 0, 0, 0]) (withSess sess5) with
     | .next t => some (t.reg .DKP_BAD_SEG) | _ => none) = some 1 := by decide +kernel

/-- A unit with namespace 2 open to role 0, a key in it, and a session that asked an op with ID 1. -/
def store (op : Nat) : State :=
  ({ withSess { sess5 with admitted := [⟨1, op, 0, false, []⟩] } with
      kv := { up.kv with keys := [⟨2, txt "k", 4, txt "value", none, none, 0, 0⟩] } } : State).setReg .KV_NS_ACT_LO 0x00010001 2

/-- The session of that unit as the op finds it. -/
def asked (op : Nat) (b : Text) : Sess := { sess5 with admitted := [⟨1, op, 0, false, b⟩] }

/-- A body of GET of a key of one letter: flags, offset, length. -/
def getBytes (flags off len : Nat) (key : String) : Text := [2, flags, 1, 0] ++ leBytes 4 off ++ leBytes 4 len ++ txt key

theorem test_witness_get :
    let s := store 1
    let at1 := fun (b : Text) => s.setSess (asked 1 b)
    (s.session 5 = some (asked 1 []) ∧ ((asked 1 []).admitted.any fun a => a.id == 1 && a.op == 1) = true ∧
      m4to9.any (· == s.mode) = true ∧ m4to7.any (· == s.mode) = true ∧ m4to7.any (· == (at_ .M10 s).mode) = false) ∧
    lengthError (getBytes 0 0 0 "k") 13 = none ∧
    (errOf (getKey 2 (txt "x") 1 (at1 (getBytes 0 0 0 "x"))).2).isSome = true ∧
    (okOf (getKey 2 (txt "k") 1 (at1 (getBytes 0 0 0 "k"))).2).isSome = true ∧ cachedVer (asked 1 []) 1 = none ∧
    (natAt (getBytes 0 1 0xFFFFFFFF "k") 4 4 = 1 ∧ natAt (getBytes 0 1 0xFFFFFFFF "k") 8 4 = 0xFFFFFFFF ∧
      (5 : Nat) ≤ natAt (getBytes 0 9 0 "k") 4 4) := by decide +kernel

/-- The unit with bank 4 on and open to role 0. -/
def openBank : State := ((store 13).setReg .ASSOC_BANK_ON 0xFFFF).setReg .ASSOC_B_ROLES 0x00010001 4

/-- Forms of the writing ops. -/
def putBytes : Text := [2, 0, 1, 0] ++ leBytes 4 0 ++ leBytes 4 2 ++ txt "kab"
def casBytes (flags : Nat) : Text := [2, flags, 1, 0] ++ leBytes 8 4 ++ leBytes 4 0 ++ leBytes 4 2 ++ txt "kab"
def vputBytes : Text := [2, 1, 1, 0, 32, 0, 0, 0] ++ leBytes 4 0 ++ leBytes 4 2 ++ txt "k" ++ List.replicate 32 3 ++ txt "ab"
def batchBytes : Text := [2, 1, 0, 0] ++ ([2, 0, 1, 0] ++ leBytes 8 0 ++ leBytes 4 0 ++ leBytes 4 2 ++ txt "kab")

theorem test_witness_writes :
    let put := fun (key : String) => SubOp.plain .put (txt key) (txt "ab") none false 0
    let through : State := (store 2).setReg .KV_NS_ATTR 1 2
    (12 ≤ putBytes.length ∧ lengthError putBytes (12 + 1 + 2) = none) ∧
    lengthError ([2, 0, 1, 0] ++ txt "k") 5 = none ∧
    (20 ≤ (casBytes 1).length ∧ lengthError (casBytes 1) (20 + 1 + 2) = none) ∧
    (okOf (vputForm vputBytes)).isSome = true ∧
    (okOf (batchSubs batchBytes 1 4)).map (·.length) = some 1 ∧
    (errOf (kvWrite 3 (some 1) [put "k"] (store 2)).2).isSome = true ∧
    (okOf (kvWrite 2 (some 1) [put "k"] (store 2)).2).map (·.through) = some false ∧
    ((okOf (kvWrite 2 (some 1) [put "k"] through).2).map (·.through) = some true ∧
      (okOf (kvWrite 2 (some 1) [put "k"] through).2).map (·.pos) = some 1 ∧
      (kvWrite 2 (some 1) [put "k"] through).1.kv.diskPos = 0) ∧
    ((errOf (kvWrite 2 (some 1) [put ""] (store 6)).2).isSome = true) := by decide +kernel

/-- R343: a write answers the version one above the present one. -/
theorem test_put_takes_the_next_version :
    ((okOf (kvWrite 2 (some 1) [SubOp.plain .put (txt "k") (txt "ab") none false 0] (store 2)).2).map (·.wrote)) =
      some [⟨5, 0⟩] := by decide +kernel

theorem test_witness_other_ops :
    let scanBytes : Text := [2, 0, 0, 0] ++ leBytes 2 16 ++ [0, 0] ++ leBytes 8 0
    let searchBytes : Text := [0, 0] ++ leBytes 2 0xFFFF ++ List.replicate 20 0
    let writeBytes : Text := [3, 0, 4, 0] ++ leBytes 2 0 ++ [0, 0] ++ List.replicate 48 0
    let aBusy : State := (store 12).updRoute (.dkp 5) fun z => { z with busy := some "KV.SYNC" }
    let cur : Cursor := ⟨1, .dkp 5, 0, 1, false, false, 0, 0, 0, 0, 0, 0, 0, 0⟩
    (lengthError scanBytes 16 = none ∧ byteAt scanBytes 0 ≠ 0 ∧ natAt scanBytes 4 2 = 16 ∧
      (okOf (scan (.dkp 5) 1 2 [] [] 16 false 0 65536 (store 5)).2).isSome = true) ∧
    (lengthError [0, 0, 0, 0] 4 = none ∧ (okOf (statItems 0 0 (asked 10 []) (store 10))).isSome = true) ∧
    ((searchModes (store 9)).any (· == (store 9).mode) = true ∧ 20 ≤ (List.replicate 20 0).length) ∧
    (let b : Text := [1, 3] ++ leBytes 2 0 ++ leBytes 2 0x3FF ++ leBytes 2 16 ++ leBytes 8 0
     lengthError b 16 = none ∧ byteAt b 0 = 1 ∧ byteAt b 1 ≤ 3 ∧ natAt b 2 2 ≤ 0x3FF ∧ natAt b 4 2 = 0x3FF ∧ natAt b 6 2 = 16) ∧
    ((endSub 5 (store 11)).session 5).isSome = true ∧
    (((store 12).route (.dkp 5)).busy = none ∧ (aBusy.route (.dkp 5)).busy = some "KV.SYNC") ∧
    (byteAt searchBytes 0 = 0 ∧ searchBytes.length = 24 ∧ bitAt (byteAt searchBytes 1) 2 = false ∧
      (searchRefusal (store 13) 1 0 false false false).isSome = true ∧
      searchRefusal openBank 1 0x10 false false false = none) ∧
    (let s : State := { store 13 with assoc := { up.assoc with cursors := [cur] } }
     (closeCursor (.dkp 5) 1 s).2 = true) ∧
    (writeBytes.length = 56 ∧ byteAt writeBytes 0 = 3 ∧ bitAt (byteAt writeBytes 1) 0 = false ∧
      m4to7and9.any (· == (store 13).mode) = true ∧
      (tableWrite 1 4 0 0 0 0 false false false 48 openBank).2 = none) := by decide +kernel

theorem test_witness_push :
    let x : Sess := { sess5 with sub := some ⟨1, 0, 0, 0x3FF, 0, 0, [⟨0, 1, 0, false, false, 1, 0, []⟩]⟩ }
    (x.sub.any fun p => p.queue.length == 1 && p.lost == 0) = true ∧ x.held = false ∧ sess5.sub = none ∧
      ({ x with held := true } : Sess).held = true := by decide +kernel

/-! ## Keys -/

/-- Arguments that name the key of the unit. -/
def theKey (more : List Arg) : List Arg := [a "ns" "2", a "key" "k"] ++ more

theorem test_witness_write_kept_or_not :
    let put := fun (ns : Nat) => kvWrite ns (some 1) [SubOp.plain .put (txt "n") (txt "ab") none false 0] (store 2)
    (errOf (put 3).2).isSome = true ∧ (okOf (put 2).2).isSome = true ∧
    (SubOp.plain .put (txt "n") (txt "ab") none false 0).op = .put := by decide +kernel

/-- R359: a key that is written for the first time has version 1, and the other key stands. -/
theorem test_first_version :
    let t := (kvWrite 2 (some 1) [SubOp.plain .put (txt "n") (txt "ab") none false 0] (store 2)).1
    t.kv.keys.map (fun e => (e.key, e.ver)) = [(txt "k", 4), (txt "n", 1)] := by decide +kernel

theorem test_witness_kv_reads :
    let s := store 0
    let get := ln (theKey [])
    let scanLine := ln [a "ns" "2", a "token" "9"]
    let z : State := { s with kv := { s.kv with snaps := [⟨9, .ring, 2, 0, 0, 0, s.kv.keys⟩] } }
    let u := noteLine vKvScan scanLine z
    let x := scan .ring (u.roles .ring) 2 [] [] 16 true 9 65536 u
    passes vKvGet get s = true ∧
    (errOf (getKey 2 (txt "x") 0xFFFF (noteLine vKvGet get s)).2).isSome = true ∧
    (okOf (getKey 2 (txt "k") ((noteLine vKvGet get s).roles .ring) (noteLine vKvGet get s)).2).isSome = true ∧
    get.has "off" = false ∧ get.has "len" = false ∧
    (passes vKvScan scanLine z = true ∧ scanLine.nat "ns" ≠ 0 ∧
      (okOf x.2).map (fun z => lineEntries (x.1.reg .LINE_ADDR) z.token z.entries == (z.entries.map (·.1), false)) = some true) ∧
    (passes vKvStat (ln [a "ns" "2"]) s = true) := by decide +kernel

theorem test_witness_kv_writes :
    let s := store 0
    let put := SubOp.plain .put (txt "k") (txt "ab") none false 0
    let through := s.setReg .KV_NS_ATTR 1 2
    (passes vKvPut (ln (theKey [a "val" "ab"])) s = true ∧ passes vKvPut (ln (theKey [a "hex" "00"])) s = true ∧
      passes vKvPut (ln (theKey [])) s = true ∧ passes vKvPut (ln (theKey [a "val" "ab", a "hex" "00"])) s = true ∧
      (ln (theKey [a "val" "ab"])).has "val" = true ∧ (ln (theKey [a "val" "ab"])).has "hex" = false) ∧
    (passes vKvCas (ln (theKey [a "ver" "4", a "val" "ab"])) s = true ∧ passes vKvCas (ln (theKey [a "ver" "4", a "del" "1"])) s = true) ∧
    passes vKvDel (ln (theKey [])) s = true ∧
    (errOf (kvWrite 2 (some (s.roles .ring)) [{ put with absent := true }] s).2).isSome = true ∧
    (okOf (kvWrite 2 (some (s.roles .ring)) [put] s).2).map (·.through) = some false ∧
    ((okOf (kvWrite 2 (some (s.roles .ring)) [put] through).2).map (·.through) = some true ∧
      (kvWrite 2 (some (s.roles .ring)) [put] through).1.kv.diskPos = 0) := by decide +kernel

theorem test_witness_store_commands :
    let s := store 0
    let behind : State := { s with kv := { s.kv with pos := 7, dirty := [⟨7, [], 48⟩] } }
    let old : State := { s with kv := { s.kv with keys := [⟨2, txt "k", 4, [], some 0, none, 0, 0⟩] } }
    let snap : Snap := ⟨9, .ring, 2, 0, 0, 0, []⟩
    (passes vKvSync (ln []) s = true ∧ (noteLine vKvSync (ln []) s).kv.pos ≤ (noteLine vKvSync (ln []) s).kv.diskPos ∧
      passes vKvSync (ln []) behind = true ∧
      (noteLine vKvSync (ln []) behind).kv.diskPos < (noteLine vKvSync (ln []) behind).kv.pos) ∧
    (let l := ln [a "ns" "2"]
     passes (vKvNs l) l s = true ∧ l.nat "ns" ≠ 0 ∧ l.args.length = 1) ∧
    (let l := ln [a "ns" "2", a "tag" "7"]
     passes (vKvNs l) l s = true ∧ 1 < l.args.length ∧ nsWord l (nsAction s 2) ≠ nsAction s 2 ∧
       (ns0Write [⟨.KV_NS_ACT_LO, 2, nsWord l (nsAction s 2) % 2 ^ 32⟩, ⟨.KV_NS_ACT_HI, 2, nsWord l (nsAction s 2) / 2 ^ 32⟩,
         ⟨.KV_NS_ATTR, 2, givenOr l "wt" (s.reg .KV_NS_ATTR 2)⟩] (noteLine (vKvNs l) l s)).2 = none) ∧
    (old.inService = true ∧ keyGet old.kv.keys 2 (txt "k") = some ⟨2, txt "k", 4, [], some 0, none, 0, 0⟩ ∧
      (⟨2, txt "k", 4, [], some 0, none, 0, 0⟩ : KeyEnt).expired old.clk.tai = true ∧
      (⟨2, txt "k", 4, [], some 0, none, 0, 0⟩ : KeyEnt).vec = none) ∧
    ((keyGet s.kv.keys 2 (txt "k")).map (·.expired s.clk.tai) = some false) ∧
    (let u : State := { s with kv := { s.kv with snaps := [snap] } }
     let late : State := { u with clk := { u.clk with now := 2 ^ 50 } }
     (late.kv.snaps.any fun x => x.token == 9 && x.used + sec (late.reg .KV_SNAP_S) ≤ late.now) = true ∧
       (u.kv.snaps.any fun x => x.token == 9 && x.used + sec (u.reg .KV_SNAP_S) ≤ u.now) = false ∧
       u.kv.snaps = [snap] ∧ ({ u with mem := { u.mem with freePermille := 1 } } : State).mem.freePermille < u.reg .GOV_GC_LO_PCT * 10) ∧
    (nCh s ≠ 0 ∧ behind.firmware = true ∧ (behind.kv.dirty.take 1).getLast? = some ⟨7, [], 48⟩) ∧
    ((9 : Nat) < 10 ∧ s.day.gcHeld = false ∧ 10 ≤ s.reg .GOV_GC_LO_PCT * 10) := by decide +kernel

/-! ## Collections -/

/-- A collection of 64-bit sketches of 32-byte vectors. -/
def coll1 : Coll :=
  { num := 1, name := txt "books", ns := 2, fmt := 0, d := 32, wcode := 0, tagged := false, client := false, seed := 0, maxChunks := 4,
    state := 1, gen := 1, slots := [], side := [], nextSeq := 1, pub := 1, chunks := [], merge := none, queued := false,
    reloading := false }

/-- The unit of `store` with that collection. -/
def withColl (c : Coll) : State := { store 0 with colls := [c], collsDisk := [c] }

/-- A line that names the collection. -/
def onBooks (more : List Arg) : Line := ln (a "coll" "1" :: more)

/-- A line that creates a collection. -/
def creates (num chunks : String) : Line :=
  ln [a "coll" num, a "name" "maps", a "ns" "2", a "fmt" "INT8", a "d" "32", a "w" "64", a "max_chunks" chunks]

theorem test_witness_create :
    let s := (withColl coll1).setReg .DRAM_SKETCH_GIB 8 |>.setReg .DRAM_META_GIB 8 |>.setReg .FLASH_USER_GIB 1024
    let l := creates "2" "4"
    let u := noteLine vCollCreate l s
    (passes vCollCreate l s = true ∧ (s.colls.any fun c => (c.num : Int) == (l.int? "coll").getD 0) = false ∧
      (s.colls.any fun c => c.name == l.text "name") = false ∧ createRange l = none ∧ collShort s.colls (newColl l) u = none ∧
      (ns0Record u).2 = none) ∧
    (passes vCollCreate (creates "1" "4") s = true ∧
      (s.colls.any fun c => (c.num : Int) == ((creates "1" "4").int? "coll").getD 0) = true) ∧
    (let l := creates "2" "1536"
     passes vCollCreate l s = true ∧ createRange l = none ∧ (collShort s.colls (newColl l) (noteLine vCollCreate l s)).isSome = true) := by
  decide +kernel

theorem test_witness_coll_verbs :
    let s := withColl coll1
    let drop := vColl "COLL.DROP" 2 true [collArg]
    let set := vColl "COLL.SET" 2 true [collArg, ⟨"max_chunks", true, .num 1 1536⟩]
    let side : Side := ⟨locator 1 0 1, 1, 0, 0, 0, 0, []⟩
    (passes drop (onBooks []) s = true ∧ namedColl ((onBooks []).text "coll") s = some coll1 ∧
      (ns0Record (noteLine drop (onBooks []) s)).2 = none ∧ s.sweep.recallJob = none ∧ s.sweep.watches = [] ∧
      (ns0Record (noteLine drop (onBooks []) s)).1.sweep = s.sweep) ∧
    (let s := withColl { coll1 with state := 4 }
     (s.coll 1).map (·.state) = some 4 ∧ (withColl coll1).coll 1 = some coll1 ∧ coll1.state ≠ 4) ∧
    (let l := onBooks [a "max_chunks" "3"]
     passes set l s = true ∧ coll1.chunks.length ≤ l.nat "max_chunks" ∧ l.nat "max_chunks" = 3 ∧
       (ns0Record (noteLine set l s)).2 = none) ∧
    (passes (vColl "COLL.SHOW" 0 false [collArg]) (onBooks []) s = true ∧
      passes (vColl "COLL.SHOW" 0 false [collArg]) (ln [a "coll" "9"]) s = true ∧ namedColl (txt "9") s = none ∧
      passes (vColl "COLL.LIST" 0 false []) (ln []) s = true) ∧
    (passes (vColl "MAINT.MERGE" 1 true [collArg]) (onBooks []) s = true ∧
      ({ coll1 with side := [side] } : Coll).side ≠ [] ∧ coll1.side = [] ∧ ({ coll1 with state := 0 } : Coll).state ≠ 1 ∧
      namedColl (txt "1") (withColl { coll1 with side := [side] }) = some { coll1 with side := [side] }) := by decide +kernel

theorem test_witness_merge :
    let side : Side := ⟨locator 1 0 1, 1, 0, 0, 0, 0, []⟩
    let c : Coll := { coll1 with side := [side], slots := [⟨0, 1, true, 2, txt "k", 4, 0, [], [], 1, false, true⟩], nextSeq := 2, pub := 2 }
    let m : Merge := ⟨2, 1, [0], [], 0, 1, false, false⟩
    let d : Coll := { c with state := 2, merge := some m }
    let s := withColl d
    (mayMerge (withColl c) = true ∧ ((withColl { c with queued := true }).coll 1).any (·.queued) = true) ∧
    ((withColl c).coll 1 = some c ∧ c.state = 1 ∧ c.merge = none ∧ 1 < c.pub ∧ c.pub ≤ 2 ^ 32 ∧ c.mergeChunks (c.pub - 1) ≠ []) ∧
    (s.coll 1 = some d ∧ d.merge = some m ∧ m.chosen = 0 :: [] ∧ d.state = 2 ∧ m.stopped = false ∧ m.waiting = false ∧ m.built = [] ∧ nCh s ≠ 0 ∧
      s.pwr.failing = false ∧ s.inService = true) := by decide +kernel

theorem test_witness_maintenance :
    let off : Coll := { coll1 with state := 0, reloading := true }
    let s := withColl off
    let full : Coll := { coll1 with
      side := [⟨locator 1 0 1, 1, 0, 0, 0, 0, []⟩], slots := [⟨0, 1, true, 2, txt "k", 4, 0, [], [], 1, false, true⟩], nextSeq := 2, pub := 2 }
    let idle := at_ .M5 ((({ withColl full with day := { up.day with idleTicks := 100 } } : State).setReg .GOV_MERGE_IDLE_PCT 40).setReg
      .GOV_MERGE_MIN_FILL_PCT 0)
    (passes (vColl "MAINT.RELOAD" 1 true [collArg]) (onBooks []) s = true ∧ namedColl (txt "1") s = some off ∧ off.state = 0 ∧
      s.coll 1 = some off ∧ off.reloading = true ∧ s.inService = true ∧
      ([⟨1, 0, 302⟩].filter fun (x : ReloadFault) => x.coll == 1 && [(⟨0, 1, true, []⟩ : Chunk)].any fun k => k.num == x.chunk) = [⟨1, 0, 302⟩] ∧
      ([⟨1, 0, 302⟩].filter fun (x : ReloadFault) => x.coll == 1 && off.chunks.any fun k => k.num == x.chunk) = []) ∧
    passes vMaintRebuild (onBooks []) (at_ .M9 (withColl coll1)) = true ∧
    passes (vColl "MAINT.JOBS" 0 false []) (ln []) s = true ∧
    ((0 : Nat) < idle.reg .GOV_MERGE_IDLE_PCT ∧ 100 ≤ idle.day.idleTicks ∧ bitAt (idle.reg .GOV_PIN) 1 = false ∧ idle.mode = .M5 ∧
      mayMerge idle = true ∧ (idle.colls.any (·.queued)) = false ∧ fullest (idle.reg .GOV_MERGE_MIN_FILL_PCT) idle.colls = some full ∧
      (((startMerge 1 idle).coll 1).bind (·.merge)).isSome = true ∧ idle.reg .GOV_MERGE_IDLE_PCT ≤ 40) := by decide +kernel

/-! ## Search -/

/-- A query of the session, and a batch that forms with it. -/
def query1 : Query :=
  { num := 1, asker := .dkp 5 1, coll := 1, exact := false, k := 1, c := 4, metric := 0, tag := none, radius := none, bySketch := false,
    keys := false, vec := List.replicate 32 0, sketch := List.replicate 8 0, roles := none, exclude := none, at_ := 0 }
def forms : Forming := ⟨1, false, 0, 0, false, 0, [query1]⟩

/-- The unit with its collection and what search holds. -/
def searching (f : Sweep → Sweep) : State := { withColl coll1 with
  sweep := f up.sweep, pwr := { up.pwr with on := 0x7FF, ready := 0x7FF } }

/-- A watch, and a query in re-rank. -/
def watch3 : Watch := ⟨3, 1, 2, txt "k", 1000, 0x3F800000, 0, 64, none, false, false, 0, 0, 0, 0, false⟩
def ranked (who : Asker) (cands : List Nat) (hits : List Hit) : Rerank := ⟨{ query1 with asker := who }, 0, 1, cands, hits, 0, 0, false⟩

theorem test_witness_batches :
    let ready : Forming := { forms with ready := true }
    let s := searching fun w => { w with forming := [ready] }
    let b : Batch := ⟨7, 1, 1, 16, [], [query1], false, 0⟩
    (forms.coll = 1 ∧ forms.exact = false ∧ forms.ready = false ∧ forms.openedAt + us forms.w ≤ s.now) ∧
    (s.sweep.running = none ∧ firstReady false s.sweep.forming = some ready ∧ 8 ≤ lanesNow s ∧ s.inService = true ∧
      runnable (boundary s) ready.coll = some coll1 ∧ (boundary s).sweep.forming = s.sweep.forming) ∧
    ((searching fun w => { w with running := some b }).sweep.running = some b ∧ firstReady false (searching id).sweep.forming = none ∧
      (searching fun w => { w with running := some b }).mem.ue = []) ∧
    (s.pwr.failing = false) ∧
    ({ up with sweep := { up.sweep with nextWindow := some 200 } } : State).colls = [] ∧
    ({ up with sweep := { up.sweep with nextWindow := some 200 } } : State).collsDisk = [] ∧
    (200 ≠ up.reg .GOV_WINDOW_US ∧ (up.setReg .GOV_WINDOW_US 200).reg .GOV_WINDOW_US = 200 ∧ (searching id).sweep.running = none) ∧
    ((searching id).sweep.exact = none ∧ (searching fun w => { w with exact := some b }).sweep.exact.isSome = true) ∧
    (let w : Ctx := ⟨true, 1, 0, 3, some 5, false⟩
     let r : Ctx := ⟨false, 1, locator 1 0 1, 1, some 4, false⟩
     let l := [w, r, ⟨true, 2, 0, 3, some 9, false⟩]
     longestReady true l = some w ∧ longestReady false l = some r ∧ issuing 2 l = some w ∧ issuing 3 l = some r ∧
       (l.any fun c => c.since.isSome) = true) ∧
    ((searching id).sweep.ctxs.any fun c => c.since.isSome) = false ∧
    (let s := searching fun w => { w with exact := some b }
     s.sweep.exact = some b ∧ engineHeld s = false ∧ s.coll b.coll = some coll1 ∧ coll1.slots = [] ∧
       ({ s with colls := [] } : State).coll b.coll = none) := by decide +kernel

/-- R418: a batch that is ready starts at a boundary, and the boundary numbers it. -/
theorem test_boundary_starts_the_batch :
    let s := searching fun w => { w with forming := [{ forms with ready := true }], batchNum := 9 }
    (match exec .batchBoundary s with
     | .next t => t.sweep.running.map (fun b => (b.num, b.coll, b.lanes)) | _ => none) = some (9, 1, 16) := by decide +kernel

theorem test_witness_rerank :
    let r := ranked (.dkp 5 1) [locator 1 0 1] []
    let s := searching fun w => { w with rerank := [r] }
    let done := ranked (.dkp 5 1) [] []
    (rerankOf s 1 = some r ∧ engineHeld s = false ∧ rerankOf s 2 = none ∧ fetching 1 (locator 1 0 1) s = false ∧
      fetching 1 (locator 1 0 1) (searching fun w => { w with ctxs := [⟨false, 1, locator 1 0 1, 1, some 0, true⟩] }) = true) ∧
    (({ s with colls := [] } : State).coll r.q.coll = none) ∧
    (rerankOf (searching fun w => { w with rerank := [done] }) 1 = some done ∧ done.cands = [] ∧ done.q.asker = .dkp 5 1 ∧
      done.degraded = false) := by decide +kernel

theorem test_witness_watches :
    let s := searching fun w => { w with watches := [watch3] }
    let far := ranked (.watch 3) [] [⟨5, 0, 0, 1, 0, txt "x"⟩]
    let near := ranked (.watch 3) [] [⟨0, 0, 0, 1, 0, txt "x"⟩]
    (watchGet s 3 = some watch3 ∧ watchesRun s = true ∧ watch3.running = false ∧
      watchGet (searching fun w => { w with watches := [{ watch3 with running := true }] }) 3 = some { watch3 with running := true }) ∧
    (({ s with colls := [] } : State).liveColl watch3.coll = none) ∧
    (((searching fun w => { w with rerank := [far] }).sweep.rerank.find? fun r => r.q.asker == .watch 3) = some far ∧
      beyond false far.hits watch3.thr = true ∧ distKind s far.q = false ∧ beyond false near.hits watch3.thr = false ∧
      ({ far with degraded := true } : Rerank).degraded = true ∧ watch3.novel = false ∧ far.cands = [] ∧ s.mode ≠ .M8 ∧
      (at_ .M8 s).mode = .M8) ∧
    (watchGet (searching id) watch3.n = none) := by decide +kernel

theorem test_witness_srch :
    let near := vSrch (searching id) "SRCH.NEAR" 0 false
      [collArg, nsArg, keyArg, ⟨"k", true, .num 1 16⟩, metricArg, ⟨"c", false, bigInt⟩]
    let l := onBooks (theKey [a "k" "1", a "metric" "L2SQ"])
    let e : KeyEnt := ⟨2, txt "k", 4, List.replicate 32 7, none, none, 0, 0⟩
    let s : State := { searching id with kv := { (searching id).kv with keys := [e] } }
    let u := noteLine near l s
    let busy : State := { s with sweep := { s.sweep with forming := [{ forms with queries := List.replicate 4096 query1 }] } }
    let ask : Ask := ⟨.line .ring, 1, false, none, none, 0, 1, 0, none, none, false, true, List.replicate 32 7, some 0xFFFF, none⟩
    let watch := onBooks (theKey [a "n" "3", a "period_ms" "1000", a "thr" "1.0", a "metric" "L2SQ"])
    let unwatch := vSrch s "SRCH.UNWATCH" 1 true [⟨"n", true, .num 0 7⟩]
    (passes near l s = true ∧ namedColl (l.text "coll") u = some coll1 ∧ metricOk coll1.fmt (metricOf l) false = true ∧
      (okOf (readTest 2 (txt "k") (u.roles .ring) u).2).isSome = true ∧
      (vectorOf coll1 2 (txt "k") (readTest 2 (txt "k") (u.roles .ring) u).1).2.toOption = some (List.replicate 32 7) ∧
      l.has "c" = false) ∧
    ((askQuery ask busy).2.isSome = true ∧ (askQuery ask s).2 = none) ∧
    (passes (vSrchWatch s) watch s = true ∧ F.isNaN (floatArg watch "thr") = false ∧
      (ns0Record (noteLine (vSrchWatch s) watch s)).2 = none) ∧
    (let s := searching fun w => { w with watches := [watch3] }
     passes unwatch (ln [a "n" "3"]) s = true ∧ watchGet s ((ln [a "n" "3"]).nat "n") = some watch3 ∧
       (ns0Record (noteLine unwatch (ln [a "n" "3"]) s)).2 = none) ∧
    passes (vSrch s "SRCH.WATCHES" 0 false []) (ln []) s = true := by decide +kernel

theorem test_witness_recall :
    let slot := fun (i : Nat) => (⟨i, 1, true, 2, [i], 1, 0, [], [], 1, false, true⟩ : Slot)
    let c : Coll := { coll1 with slots := [slot 0, slot 1] }
    let j : Recall := ⟨4, 1, 1, 1, 4, 0, [0], [(0, [⟨0, 0, 0, 1, 0, []⟩], false)], [(0, [⟨0, 0, 0, 1, 0, []⟩], false)]⟩
    let s : State := withColl c
    let busy : State := { s with sweep := { s.sweep with recallJob := some j } }
    let v := vSrch s "SRCH.RECALL" 1 true [collArg, ⟨"n", true, .num 1 256⟩, ⟨"k", true, .num 1 1024⟩,
      ⟨"c", true, .num 0 2048⟩, metricArg, ⟨"seed", false, .num 0 18446744073709551615⟩]
    let l := onBooks [a "n" "1", a "k" "1", a "c" "4", a "metric" "L2SQ"]
    let res := vSrch s "SRCH.RESULT" 0 false [⟨"job", true, .num 0 65535⟩]
    let x : RecallResult := ⟨4, 1000000, 1, 1, 0, 0⟩
    (passes v l s = true ∧ namedColl (l.text "coll") s = some c ∧ s.sweep.recallJob = none ∧ c.state ≠ 3 ∧
      metricOk c.fmt (metricOf l) false = true ∧ l.nat "k" ≤ l.nat "c" ∧ l.nat "n" + 1 ≤ (c.slots.filter (·.live)).length) ∧
    (passes v l busy = true ∧ busy.sweep.recallJob = some j) ∧
    (j.n ≤ j.a.length ∧ j.n ≤ j.x.length ∧ (recallCount false j).2 ≠ 0) ∧
    (let s : State := { s with sweep := { s.sweep with results := [x] } }
     passes res (ln [a "job" "4"]) s = true ∧ (s.sweep.results.find? fun x => x.job == (ln [a "job" "4"]).nat "job") = some x) := by
  decide +kernel

/-! ## The associative array and the cascade -/

/-- An entry of bank 4 that answers the key 5, sound in shadow and array. -/
def entry5 : Entry := ⟨4, 7, true, 5, 0xFF, 9, true, 5, 0xFF, 9, false, 0, 0, 0⟩

/-- The unit with bank 4 on and the entry in it. -/
def matching5 (f : Assoc → Assoc) : State := { openBank with assoc := f { up.assoc with entries := [entry5] } }

def cursor1 (who : Route) : Cursor := ⟨1, who, 5, 16, false, false, 0, 0, 0, 0, 0, 0, 0, 0⟩

/-- 20 bytes in hexadecimal, the first of them given. -/
def hex20 (b : String) : String := b ++ "00000000000000000000000000000000000000"

theorem test_witness_assoc_verbs :
    let s := matching5 id
    let search := ln [a "banks" "0x10", a "key" (hex20 "05")]
    let write := ln [a "bank" "4", a "idx" "7", a "value" (hex20 "05"), a "mask" (hex20 "FF"), a "word" "0900000000000000"]
    let v := vAssoc "ASSOC.READ" 1 [⟨"bank", true, .num 0 15⟩, ⟨"idx", true, .strict 0 4095⟩]
    let read := ln [a "bank" "4", a "idx" "7"]
    (passes (vAssocSearch search) search s = true ∧ search.flag "dw" = false ∧ (search.bytes "key").length = 20 ∧
      searchRefusal s (s.roles .ring) (search.nat "banks") false true false = none ∧
      (searchRefusal (up) (s.roles .ring) (search.nat "banks") false true false).isSome = true) ∧
    (passes (vAssoc "ASSOC.STEP" 0 [curArg]) (ln [a "cur" "1"]) s = true ∧
      passes (vAssoc "ASSOC.CLOSE" 0 [curArg]) (ln [a "cur" "1"]) s = true ∧ cursorGet s 1 = none ∧
      cursorGet (matching5 fun x => { x with cursors := [cursor1 .ring] }) 1 = some (cursor1 .ring)) ∧
    (passes (vAssocWrite write) write s = true ∧ write.int? "idx" = some 7 ∧ (write.bytes "value").length = 20 ∧
      (write.bytes "mask").length = 20 ∧ (tableWrite 0xFFFF 4 7 5 0xFF 9 false false true 0 s).2 = none ∧
      (tableWrite 0xFFFF 5 7 5 0xFF 9 false false true 0 up).2.isSome = true) ∧
    ((if read.nat "bank" < 4 && read.has "bank" then 2 else 1) = (1 : Nat) ∧ passes v read s = true ∧ read.nat "idx" = 7 ∧
      dwPair s 4 = false ∧ bankOn s 4 = true ∧ (entryGet s.assoc.entries 4 7).code = 0) ∧
    (passes (vAssoc "ASSOC.SHOW" 0 []) (ln []) s = true ∧ passes (vAssoc "CASC.SHOW" 0 []) (ln []) s = true) := by decide +kernel

theorem test_witness_matching :
    let s := matching5 id
    (s.assoc.entries = [entry5] ∧ bitAt 16 entry5.bank = true ∧ entry5.hits 5 = true ∧ entry5.confirmed 5 = true ∧ entry5.code = 0) ∧
    ((searchArray 5 16 none s).2.1.isSome = true) ∧
    (∀ e ∈ s.assoc.entries, bitAt 16 e.bank = true → e.hits 6 = false) ∧
    ((cursor1 .ring).owner = .ring ∧ (cursor1 .ring).casc = false ∧ cursorStale s (cursor1 .ring) = false ∧ "ASSOC.STEP" ≠ "" ∧
      ((maskBanks (cursor1 .ring).banks).any fun b =>
        if b < 4 then "ASSOC.STEP" == "" || s.level .ring != 2 else !bankRole s 0xFFFF b false) = false) ∧
    (let s := matching5 fun x => { x with writes := [(4, 1, 0)], writeN := 1 }
     cursorStale s (cursor1 .ring) = true) ∧
    (writeCheck s 1 4 7 9 false false false 0 = none ∧ (4 : Nat) < 16 ∧ (7 : Nat) < 4096 ∧ (∀ x ∈ s.assoc.entries, x.idx < 4096)) := by
  decide +kernel

/-- R450: an entry matches a key that agrees with it under its mask, whatever the other bits are. -/
theorem test_masked_match :
    entry5.hits 0x105 = true ∧ entry5.hits 0x104 = false := by decide +kernel

theorem test_witness_bank_registers :
    let s := matching5 id
    (mayWrite .ring 2 m4to9 s = true ∧ mayWrite .ring 1 m4to9 s = true ∧ (ns0Write [⟨.ASSOC_POLICY_BANKS, 0, 3⟩] s).2 = none ∧
      (3 : Nat) < 16 ∧ (0xFFFF : Nat) < 65536 ∧ (2 : Nat) < 64) ∧
    (up.assoc.entries = [] ∧ up.assoc.policyState = 0) ∧
    ((banksOff 0xFFFF s).find? (cursorNames s) = none ∧ (ns0Write [⟨.ASSOC_BANK_ON, 0, 0xFFFF⟩] s).2 = none) ∧
    (let s := matching5 fun x => { x with cursors := [{ cursor1 .ring with banks := 16 }] }
     mayWrite .ring 1 m4to9 s = true ∧ (banksOff 0 s).find? (cursorNames s) = some 4) ∧
    (pairBusy 2 s = none ∧ (ns0Write [⟨.ASSOC_DW, 0, 2⟩] s).2 = none) ∧
    ((dropBank 5 s).assoc.entries = [entry5]) ∧
    (matching5 fun x => { x with policyState := 1 }).assoc.policyState = 1 := by decide +kernel

theorem test_witness_scrub :
    let bad : Entry := { entry5 with aWord := 8 }
    let s := matching5 fun x => { x with entries := [bad], scrubDue := true }
    s.inService = true ∧ s.assoc.scrubDue = true ∧ s.assoc.entries = [bad] ∧ bankOn s bad.bank = true ∧ bad.code = 0 ∧
      bad.repaired ≠ bad ∧ up.assoc.scrubDue = false ∧
      (let s : State := { s with clk := { s.clk with now := 2 ^ 40 } }
       let c := cursor1 .ring
       s.assoc.scrubDueAt + passBeats ≤ s.now ∧ c.at_ + ms (s.reg .ASSOC_CURSOR_MS) ≤ s.now ∧
         up.now < c.at_ + ms (up.reg .ASSOC_CURSOR_MS)) ∧
      (cursorGet (matching5 fun x => { x with cursors := [cursor1 .ring] }) 1).isSome = true ∧ cursorGet s 1 = none := by decide +kernel

theorem test_witness_cascade :
    let q : CascReq := ⟨.ring, 0, 6, 16, false, none, false, "ASSOC.SEARCH", false⟩
    let s := matching5 fun x => { x with size := 2, present := 3, reqs := [q] }
    let asked := askedOf (frameWords s q)
    (cascN up ≤ 1 ∧ 1 < cascN s ∧ s.inService = true ∧ s.assoc.turn = s.assoc.straps) ∧
    (bitAt s.assoc.withdrawn s.assoc.straps = false ∧ isCovered s = true ∧ s.assoc.reqs = q :: [] ∧ q.started = false) ∧
    ((matching5 fun x => { x with size := 2, present := 3 }).assoc.reqs = [] ∧
      isCovered (matching5 fun x => { x with size := 2, present := 3 }) = true) ∧
    frameSearch asked s = (s, .nothing, 0) ∧
    ({ q with started := true } : CascReq).started = true ∧ ((⟨0x1FE, []⟩ : CascResult).win % 512 = 0x1FE) ∧
    ((⟨8, []⟩ : CascResult).win % 512 ≠ 0x1FE) ∧
    (bitAt s.assoc.present 1 = true ∧ bitAt s.assoc.present 2 = false) ∧
    (let s : State := { (matching5 fun x => { x with straps := 1 }) with clk := { up.clk with cascLock := true, now := 2 ^ 21 } }
     s.assoc.straps ≠ 0 ∧ s.clk.cascLock = true ∧ s.assoc.reqs = [] ∧ s.assoc.mismatch = false ∧ s.inService = true ∧
       s.clk.cascLockAt + cascWindow ≤ s.now ∧
       ({ s with clk := { s.clk with cascLock := false } } : State).clk.cascLock = false) := by decide +kernel

/-! ## Events and registers -/

theorem test_witness_event_verbs :
    let show_ := ln [a "ev" "0x330-0x337"]
    let set := ln [a "ev" "0x330", a "mask" "4", a "log" "1"]
    let gpio := ln [a "k" "1", a "ev" "0x330"]
    ((a "ev" "bad").key = txt "ev" ∧ (a "ev" "bad").quoted = false ∧ evRange (a "ev" "bad").val = none ∧
      evRange (a "ev" "0x400").val = some (0x400, 0x400) ∧ evRange (a "ev" "0x300-0x3FE").val = some (0x300, 0x3FE)) ∧
    (evRange (show_.text "ev") = some (0x330, 0x337) ∧ passes vEvtShow show_ up = true ∧ up.lineMode ≠ .M11) ∧
    (passes vEvtSet set up = true ∧ (∀ id ∈ evIds 0x330 0x330, maskRefusal up id (set.nat "mask" + 32 * set.nat "log") = none) ∧
      (ns0Write [⟨.EVT_E, 0x330, 36⟩] (noteLine vEvtSet set up)).2 = none) ∧
    passes (vEvtClear (ln [a "ev" "0x330"])) (ln [a "ev" "0x330"]) up = true ∧
    (onLoop fun l => { l with departed := true }).loop.departed = true ∧
    (0x330 ∈ evIds 0x330 0x330 ∧ bitAt 16 4 = true) ∧
    (passes vEvtList (ln []) up = true ∧ (up.evt.cells.filter (·.latch)).length ≤ 255) ∧
    (passes vEvtGpio gpio up = true ∧ gpio.isWord "ev" "none" = false ∧ gpio.nat "ev" = 0x330 ∧
      (gpioPut 1 (gpioAsked gpio (gpioGet up 1) (some 0x330)) (noteLine vEvtGpio gpio up)).2 = none) ∧
    passes vEvtLog (ln [a "from" "0"]) up = true ∧
    (passes vEvtInject (ln [a "ev" "0x330"]) (level 3 up) = true ∧ (evSeverity 0x330).isSome = true ∧
      passes vEvtInject (ln [a "ev" "0x060"]) (level 3 up) = true) ∧
    (mayWrite .ring 2 m4to9 up = true ∧ mayWrite .ring 1 m4to9 up = true) ∧
    (up.logReady = true ∧ up.evt.log.length + up.evt.staged.length ≤ 65536 ∧ State.reset.logReady = false) := by decide +kernel

/-- A unit without a loop die. -/
def noDie : State := { up with sec := { up.sec with otp := { up.sec.otp with ident := { up.sec.otp.ident with variant := 2 } } } }

theorem test_witness_registers :
    let pcap := ln [a "name" "GOV.PCAP_MW"]
    let set := ln [a "name" "GOV.PCAP_MW", a "value" "20000"]
    let gone := ln [a "name" "ISL.PV_SRC"]
    let dump := ln [a "addr" "0x170000", a "n" "2"]
    let window := ln [a "name" "GOV.WINDOW_US", a "value" "5"]
    (passes (vRegRead (aimOf pcap)) pcap up = true ∧ aimOf pcap = .named (.one ⟨.GOV_PCAP_MW, 0⟩) ∧
      (⟨.GOV_PCAP_MW, 0⟩ : Field).p.words = 1 ∧ fieldAbsent up ⟨.GOV_PCAP_MW, 0⟩ = false ∧ (Param.GOV_PCAP_MW).mirrored = false) ∧
    (passes (vRegRead (aimOf gone)) gone noDie = true ∧ aimOf gone = .named (.one ⟨.ISL_PV_SRC, 0⟩) ∧
      fieldAbsent noDie ⟨.ISL_PV_SRC, 0⟩ = true) ∧
    (passes vRegDump dump up = true ∧ dump.nat "addr" = 0x170000 ∧ dump.nat "n" = 2 ∧
      firstRefused .ring (noteLine vRegDump dump up) [0x170000, 0x170004] = none) ∧
    (passes (vRegWrite set (aimOf set)) set up = true ∧ (⟨.GOV_PCAP_MW, 0⟩ : Field).writable = true ∧ set.has "cc" = false ∧
      passes (vRegWrite window (aimOf window)) window up = true ∧ (⟨.GOV_WINDOW_US, 0⟩ : Field).writable = false) ∧
    ((okOf (changesOf (.named (.one ⟨.GOV_PCAP_MW, 0⟩)) (txt "20000") up)).map classOf = some 0 ∧
      (okOf (changesOf (.named (.one ⟨.GOV_BATCH_MIN_US, 0⟩)) (txt "5") up)).map classOf = some 1 ∧
      setRefusal [⟨.GOV_BATCH_MIN_US, 0, 5⟩] up = none ∧ setRefusal [⟨.GOV_PCAP_MW, 0, 20000⟩] up = none ∧
      jointRefusal [⟨.GOV_PCAP_MW, 0, 20000⟩] up = none ∧ (keepSet [⟨.GOV_PCAP_MW, 0, 20000⟩] up).2 = none) ∧
    ((up.route .ring).staged = []) := by decide +kernel

theorem test_witness_commits :
    let w : Staged := ⟨.GOV_BATCH_MIN_US, 0, 5⟩
    let d : Staged := ⟨.RRK_WALK_CTX, 0, 256⟩
    let held := fun (set : List Staged) => up.updRoute .ring fun x => { x with staged := set }
    let now := ln [a "when" "now"]
    let drain := ln [a "when" "drain"]
    let dusk := ln [a "when" "dusk"]
    let waiting : State := { up with day := { up.day with commits := [⟨.ring, [d], true, true, 0⟩] } }
    (passes (vCfg "CFG.SHOW" 0 false []) (ln []) up = true ∧ passes (vCfg "CFG.DISCARD" 1 true []) (ln []) up = true) ∧
    (passes vCfgCommit now up = true ∧ (up.route .ring).staged = [] ∧ passes vCfgCommit now (held [w]) = true ∧
      ((held [w]).route .ring).staged = [w] ∧ jointRefusal [w] (noteLine vCfgCommit now (held [w])) = none ∧
      now.isWord "when" "drain" = false ∧ now.isWord "when" "dusk" = false ∧ notAtomic false [w] = none ∧
      (notAtomic false [d]).isSome = true) ∧
    (passes vCfgCommit drain (held [d]) = true ∧ drain.isWord "when" "drain" = true ∧ notAtomic true [d] = none ∧
      jointRefusal [d] (noteLine vCfgCommit drain (held [d])) = none) ∧
    (passes vCfgCommit dusk (held [w]) = true ∧ dusk.isWord "when" "dusk" = true ∧
      (ns0Record (noteLine vCfgCommit dusk (held [w]))).2 = none) ∧
    (atBoundary up = true ∧ (keepSet [w] up).2 = none ∧ atBoundary waiting = true ∧
      (keepSet [d] { waiting with day := { waiting.day with commits := [] } }).2 = none ∧
      (up.day.commits.find? fun c => c.drain && c.drained) = none) := by decide +kernel

theorem test_witness_governor :
    let pin := ln [a "what" "mode", a "on" "1", a "value" "5"]
    let merge := ln [a "what" "merge", a "on" "1"]
    passes (vCfg "GOV.SHOW" 0 false []) (ln []) up = true ∧
    (passes (vGovPin pin) pin up = true ∧ (pinWhats.takeWhile fun w => txt w != pin.text "what").length = 0 ∧
      pinParam 0 = some .GOV_PIN_MODE ∧ pin.nat "value" (up.reg .GOV_PIN_MODE) = 5) ∧
    (passes (vGovPin merge) merge up = true ∧ (pinWhats.takeWhile fun w => txt w != merge.text "what").length = 1 ∧
      pinParam 1 = none) := by decide +kernel

/-! ## The checks of WellFormed: an ill-formed command for each -/

theorem test_wf_numbers :
    (Instr.seqPgHigh 6).wellFormed = false ∧ (Instr.seqPgHigh 5).wellFormed = true ∧
    (Instr.domainGated 11).wellFormed = false ∧ (Instr.linkUp 2).wellFormed = false ∧ (Instr.mergeStart 64).wellFormed = false ∧
    (Instr.fixUaWrite .ring (2 ^ 32)).wellFormed = false ∧ (Instr.ibianByteReceived 256 true).wellFormed = false ∧
    (Instr.dramRetrain 16 0).wellFormed = false ∧ (Instr.alarmSourceFires 8).wellFormed = false ∧
    (Instr.watchPeriod 8).wellFormed = false ∧ (Instr.gpioPulseEnd 8).wellFormed = false ∧
    (Instr.cascadeMemberAbsent 8).wellFormed = false ∧ (Instr.cursorIdleTimeout 256).wellFormed = false ∧
    (Instr.eventLatchClearWrite .ring 1024).wellFormed = false := by decide +kernel

theorem test_wf_found :
    (Instr.dramPatrolScrub 3 ⟨0, [⟨0, 0, 0, none⟩], []⟩).wellFormed = false ∧
    (Instr.dramPatrolScrub 3 ⟨0, [⟨7, 0, 0, none⟩], []⟩).wellFormed = false ∧
    (Instr.dramPatrolScrub 3 ⟨0, [⟨1, 0, 8, none⟩], []⟩).wellFormed = false ∧
    (Instr.dramPatrolScrub 3 ⟨0, [⟨6, 0, 7, none⟩], []⟩).wellFormed = true ∧
    (Instr.dramPatrolScrub 3 ⟨0, [], [⟨16, 0, true, 0, 0, 0, 0⟩]⟩).wellFormed = false ∧
    (Instr.dramPatrolScrub 3 ⟨0, [], [⟨0, 4096, true, 0, 0, 0, 0⟩]⟩).wellFormed = false ∧
    (Instr.dramPatrolScrub 3 ⟨0, [], [⟨0, 0, true, 0, 0, 0, 3⟩]⟩).wellFormed = false ∧
    (Instr.ptpSync 2 0 ⟨0, 0⟩).wellFormed = false ∧ (Instr.ptpAnnounce 2 0 0 0 0 0).wellFormed = false ∧
    (Instr.taiSet .ring (2 ^ 32) 0).wellFormed = false := by decide +kernel

/-- The worked cases of chapter 23: DRAM13_DQ9, DRAM9_WCK0_t, DRAM7_RDQS1_c and NAND6_CE_N3. -/
theorem test_balls :
    ballName (dramBall 13 3 1) = "BK17" ∧ ballName (dramBall 9 2 1) = "V3" ∧ ballName (dramBall 7 4 4) = "E49" ∧
    ballName (nandBall 6 3 3) = "V29" := by decide +kernel

/-- R565, R566: before training CK and CS are low and before discovery CE_N is high and WP_N low, and all are undriven while
their domain is off. -/
theorem test_memory_pins_before_training :
    let s : State := { up with mem := { up.mem with sunrise := { up.mem.sunrise with stage := 1 } } }
    dramClockPin s = .low ∧ nandCePin s = .high ∧ nandWpPin s = .low ∧
    dramClockPin State.reset = .undriven ∧ nandCePin State.reset = .undriven := by decide +kernel

theorem test_wf_texts :
    (Instr.keyExpiryRemoval 2 [256]).wellFormed = false ∧ (Instr.dkpGet ⟨5, 1, [256]⟩).wellFormed = false ∧
    (Instr.dkpSegmentReceived 5 [300]).wellFormed = false ∧ (Instr.ibianLineReceived (.tls 3 [256])).wellFormed = false ∧
    (Instr.lineShow ⟨.ring, .unit 100, true, []⟩).wellFormed = false ∧ (Instr.lineShow (ln [⟨[], [], false⟩])).wellFormed = false ∧
    (Instr.lineShow (ln [⟨[256], [], false⟩])).wellFormed = false ∧ (Instr.lineShow (ln [⟨txt "a", [256], false⟩])).wellFormed = false ∧
    (Instr.lineShow (ln [a "on" "1"])).wellFormed = true := by decide +kernel

/-! ## Cases that the spec works out -/

/-- The replies of a command. -/
def repliesOf (c : Instr) (s : State) : List Reply :=
  match exec c s with
  | .next t => t.out.filterMap fun o => match o with | .reply _ r _ => some r | _ => none
  | _ => []

/-- What a command leaves. -/
def after (c : Instr) (s : State) : State := match exec c s with | .next t => t | _ => s

/-- Chapter 4's case: 16 channels and 12 ms give a dirty limit of 26,550 KiB. -/
theorem test_dirty_limit : dirtyLimit 12 3072 1024 (2 ^ 30) = 27187200 ∧ 27187200 / 1024 = 26550 := by decide +kernel

/-- Chapter 4's case: in Small Hours a merge is refused with the modes it needs, and is queued once Dusk is reached. -/
theorem test_merge_needs_a_mode :
    let c : Coll := { coll1 with side := [⟨locator 1 0 1, 1, 0, 0, 0, 0, []⟩] }
    (repliesOf (.maintMerge (onBooks [])) (at_ .M8 (withColl c))).map (·.code) = [200] ∧
    (repliesOf (.maintMerge (onBooks [])) (at_ .M9 (withColl c))).map (·.code) = [1] := by decide +kernel

/-- Chapter 6's case: the value of a recorded sample, and its key. -/
theorem test_sample :
    Sample.value ⟨76858, 0, 0x433B8000, 10000, 0x0400, 253⟩ false =
      [0x00, 0x80, 0x3B, 0x43, 0x10, 0x27, 0x00, 0x04, 0x3A, 0x2C, 0x01, 0x00, 0xFD, 0x01, 0x00, 0x00] ∧
    pvKey 0x1A3F2C201DCD6500 = txt "pv/1A3F2C201DCD6500" := by decide +kernel

/-- Chapter 14's case: the resent response of a PUT. -/
theorem test_response_bytes :
    segment 2 1 0x2A10 0 256 12 0 (putBody ⟨1, 0⟩ 0) =
      [0x01, 0x02, 0x01, 0x00, 0x10, 0x2A, 0x00, 0x00, 0x00, 0x00, 0x00, 0x01, 0x0C, 0x00, 0x00, 0x00,
       0x00, 0x00, 0x00, 0x00, 0x01, 0x00, 0x00, 0x00, 0x00, 0x00, 0x00, 0x00, 0x00, 0x00, 0x00, 0x00] := by decide +kernel

/-- Chapter 15's case: a scan stops at a key that the roles do not open, and goes on after it. -/
theorem test_scan_stops_at_the_rule :
    let key := fun (k : String) => (⟨2, txt k, 1, [], none, none, 0, 0⟩ : KeyEnt)
    let rule : Entry := { entry5 with bank := 0, idx := 0, aValue := 0x2F67666302, value := 0x2F67666302, aMask := 2 ^ 40 - 1,
                                      mask := 2 ^ 40 - 1, aWord := 0x0000000000040004, word := 0x0000000000040004 }
    let s : State := { (store 5).setReg .KV_NS_ACT_LO 0x00020003 2 with
      kv := { up.kv with keys := [key "alm/0003", key "cfg/plc", key "sum/K17/0418"] }, assoc := { up.assoc with entries := [rule] } }
    let got := fun (start : String) => (okOf (scan (.dkp 5) 3 2 (txt start) [] 16 true 0 65536 s).2).map
      fun x => (x.entries.map (·.1.key), x.stop)
    got "" = some ([txt "alm/0003"], 3) ∧ got "cfg0" = some ([txt "sum/K17/0418"], 0) ∧
    (errOf (getKey 2 (txt "cfg/plc") 3 s).2).map (·.code) = some 206 ∧
    (errOf (getKey 2 (txt "cfg/none") 3 s).2).map (·.code) = some 206 := by decide +kernel

/-- Chapter 16's case: the locator of slot 12,682,912 of collection 5 in its first use, and that collection's sizes. -/
theorem test_locator :
    let c : Coll := { coll1 with num := 5, d := 256, wcode := 1, maxChunks := 400 }
    locator 5 12682912 1 = 0x1400C186A0000001 ∧ 12682912 = 3 * c.e + 100000 ∧ c.e = 4194304 ∧
    c.stride = 576 ∧ c.nandBytes = 525 * 2 ^ 30 := by decide +kernel

/-- Chapter 17's case: a watch whose nearest candidate lies above its threshold. -/
theorem test_novel :
    novelFields false [⟨131406, 0, 1, 1, 0, []⟩] 0x47AFC800 0 = [("dist", .i 131406), ("thr", .f 0x47AFC800), ("loc", .x 16 1)] ∧
    beyond false [⟨131406, 0, 1, 1, 0, []⟩] 0x47AFC800 = true ∧ beyond false [⟨61220, 0, 1, 1, 0, []⟩] 0x47AFC800 = false := by
  decide +kernel

/-- Chapter 18's case: the rule for `cfg/` keys of namespace 2. -/
theorem test_policy_rule :
    let bytes : Text := [0x02, 0x63, 0x66, 0x67, 0x2F] ++ List.replicate 15 0
    let mask : Text := [0xFF, 0xFF, 0xFF, 0xFF, 0xFF] ++ List.replicate 15 0
    let w := leNat [0x04, 0x00, 0x04, 0x00, 0x10, 0x00, 0x10, 0x00]
    w = 0x0010001000040004 ∧ readRoles w = 4 ∧ writeRoles w = 4 ∧ classTag w = 0x10 ∧ denyScan w = true ∧ feeds w = false ∧
    careCount (leNat mask) = 40 ∧
    ({ entry5 with bank := 1, aValue := leNat bytes, aMask := leNat mask } : Entry).hits (policyKey 2 (txt "cfg/plc")) = true ∧
    ({ entry5 with bank := 1, aValue := leNat bytes, aMask := leNat mask } : Entry).hits (policyKey 2 (txt "sum/K17")) = false := by
  decide +kernel

/-- Chapter 19's case: the record of EV 0x330 as a push carries it. -/
theorem test_record_bytes :
    Record.bytes ⟨77642, 0x330, 1, true, false, 5, 0x1A3F2C4000000000,
        [("dist", .i 131406), ("thr", .f 0x47AFC800), ("loc", .x 16 1)]⟩ =
      [0x30, 0x03, 0x01, 0x01, 0x05, 0x00, 0x00, 0x00, 0x00, 0x00, 0x00, 0x00, 0x40, 0x2C, 0x3F, 0x1A,
       0x4A, 0x2F, 0x01, 0x00, 0x00, 0x00, 0x00, 0x00, 0x80, 0x53, 0x00, 0x48, 0x00, 0xC8, 0xAF, 0x47] := by decide +kernel

/-- Chapter 20's case: two staged writes, a commit that is not atomic now and is accepted for the drain. -/
theorem test_commit_case :
    let one := Instr.regWrite (ln [a "name" "GOV.BATCH_MAX_US", a "value" "800"])
    let two := Instr.regWrite (ln [a "name" "RRK.WALK_CTX", a "value" "1536"])
    let s := after two (after one up)
    repliesOf two (after one up) = [⟨3, [("at", .w "commit"), ("staged", .n 1)]⟩, ⟨3, [("at", .w "commit"), ("staged", .n 2)]⟩] ∧
    (repliesOf (.cfgCommit (ln [a "when" "now"])) s).drop 2 = [⟨203, [("name", .w "RRK.WALK_CTX"), ("need", .w "drain")]⟩] ∧
    (repliesOf (.cfgCommit (ln [a "when" "drain"])) s).drop 2 = [⟨1, [("staged", .n 2)]⟩] := by decide +kernel

/-- Chapter 21's case: with the bridge down a dump stops at the first mirrored word, and a read gives the copy. -/
theorem test_dump_stops :
    let s : State := { up with bridge := { up.bridge with link := 0, upSinceDawn := true } }
    let dump := Instr.regDump (ln [a "addr" "0x130000", a "n" "8"])
    repliesOf dump s = [⟨206, [("addr", .x 6 0x130004)]⟩] ∧ (after dump s).reg .SYS_DENIED = 1 ∧
    (after dump s).reg .SYS_DENIED_ADDR = 0x130004 ∧
    (repliesOf (.regRead (ln [a "name" "ISL.PV"])) s).map (·.code) = [210] := by decide +kernel

end Sys2Proof.Tests
end

namespace Sys2Proof.Machine

/-! ## The fused identity (R2) -/

/-- The dispatch of commands, arm by arm: whatever a command does, its next state has the same fused identity and the same
waiting commands. -/
theorem exec_keeps : ∀ (c : Instr) (s : State), Keeps (exec c s) s
  | .vaonPowerOnReset => execVaonPowerOnReset_fixed
  | .vaonLoss => execVaonLoss_fixed
  | .vddioAAbsent => execVddioAAbsent_fixed
  | .vddioAReturnRestart => execVddioAReturnRestart_fixed
  | .refclkLoss => execRefclkLoss_fixed
  | .refclkReturn => execRefclkReturn_fixed
  | .seqPgHigh g => execSeqPgHigh_fixed g
  | .pgTimeout => execPgTimeout_fixed
  | .powerGoodLoss g => execPowerGoodLoss_fixed g
  | .powerDownEnableStep => execPowerDownEnableStep_fixed
  | .sequenceRestart => execSequenceRestart_fixed
  | .wakeNFall => execWakeNFall_fixed
  | .taiWake => execTaiWake_fixed
  | .resetNAssert => execResetNAssert_fixed
  | .resetNRelease => execResetNRelease_fixed
  | .pwrFailNAccepted => execPwrFailNAccepted_fixed
  | .plpFlushComplete complete => execPlpFlushComplete_fixed complete
  | .pfDebounceExpiry => execPfDebounceExpiry_fixed
  | .smallHoursEntry => execSmallHoursEntry_fixed
  | .smallHoursResume imageOk => execSmallHoursResume_fixed imageOk
  | .temperatureReading readings => execTemperatureReading_fixed readings
  | .sensorDisagreement => execSensorDisagreement_fixed
  | .powerMeasurementUpdate core avg => execPowerMeasurementUpdate_fixed core avg
  | .domainGated d => execDomainGated_fixed d
  | .domainOnComplete d => execDomainOnComplete_fixed d
  | .bridgeHeartbeat => execBridgeHeartbeat_fixed
  | .bridgeLost => execBridgeLost_fixed
  | .bridgeMirrorLoaded => execBridgeMirrorLoaded_fixed
  | .mirrorChangeReport param inst => execMirrorChangeReport_fixed param inst
  | .mirroredWriteAck => execMirroredWriteAck_fixed
  | .ptpSync port offset master => execPtpSync_fixed port offset master
  | .ptpAnnounce port ident prio domain interval utc => execPtpAnnounce_fixed port ident prio domain interval utc
  | .ptpDelayResp port delay logInterval => execPtpDelayResp_fixed port delay logInterval
  | .ptpDelayReqSend => execPtpDelayReqSend_fixed
  | .announceTimeout => execAnnounceTimeout_fixed
  | .taiSet route lo hi => execTaiSet_fixed route lo hi
  | .taiInvalidate route v => execTaiInvalidate_fixed route v
  | .cascClkPhaseWithdraw => execCascClkPhaseWithdraw_fixed
  | .cascLockRejoin => execCascLockRejoin_fixed
  | .oscTrimWindow cycles cumulative => execOscTrimWindow_fixed cycles cumulative
  | .islSync l => execIslSync_fixed l
  | .scheduledSyncFire => execScheduledSyncFire_fixed
  | .modeSet l => execModeSet_fixed l
  | .modeShow l => execModeShow_fixed l
  | .drainComplete => execDrainComplete_fixed
  | .drainTimeout => execDrainTimeout_fixed
  | .duskJobStopped => execDuskJobStopped_fixed
  | .duskJobStart => execDuskJobStart_fixed
  | .almanacTick due util free hostWrites => execAlmanacTick_fixed due util free hostWrites
  | .idleMergeCheck util => execIdleMergeCheck_fixed util
  | .scrubPeriodUpdate => execScrubPeriodUpdate_fixed
  | .flashHoldupWrite route v => execFlashHoldupWrite_fixed route v
  | .dirtyMaxWrite route v => execDirtyMaxWrite_fixed route v
  | .ibianByteReceived b damaged => execIbianByteReceived_fixed b damaged
  | .ibianLineReceived src => execIbianLineReceived_fixed src
  | .echoRelease => execEchoRelease_fixed
  | .passThroughRunTimeout => execPassThroughRunTimeout_fixed
  | .forwardedCrEnd => execForwardedCrEnd_fixed
  | .noticeSend dest => execNoticeSend_fixed dest
  | .breakReceived => execBreakReceived_fixed
  | .receiveLoss => execReceiveLoss_fixed
  | .receiveLossRepeat => execReceiveLossRepeat_fixed
  | .receiveRestored => execReceiveRestored_fixed
  | .addrChain l => execAddrChain_fixed l
  | .addrSet l => execAddrSet_fixed l
  | .ringProbe l => execRingProbe_fixed l
  | .lineRate l => execLineRate_fixed l
  | .lineRateSwitch => execLineRateSwitch_fixed
  | .rateRevert => execRateRevert_fixed
  | .lineSetpin l => execLineSetpin_fixed l
  | .lineNotices l => execLineNotices_fixed l
  | .lineShow l => execLineShow_fixed l
  | .loginPin l => execLoginPin_fixed l
  | .loginChallenge l => execLoginChallenge_fixed l
  | .loginOwner l => execLoginOwner_fixed l
  | .loginVendor l => execLoginVendor_fixed l
  | .loginOut l => execLoginOut_fixed l
  | .loginIdleFallback route => execLoginIdleFallback_fixed route
  | .loginLockExpiry route => execLoginLockExpiry_fixed route
  | .tlsConnectionOpen port num proof => execTlsConnectionOpen_fixed port num proof
  | .tlsConnectionClose conn => execTlsConnectionClose_fixed conn
  | .sysStatus l => execSysStatus_fixed l
  | .sysReset l => execSysReset_fixed l
  | .sysDiag l => execSysDiag_fixed l
  | .auxIslSourceChange aux => execAuxIslSourceChange_fixed aux
  | .loopDieStart otpOk => execLoopDieStart_fixed otpOk
  | .loopDieReset => execLoopDieReset_fixed
  | .startUpTimeout => execStartUpTimeout_fixed
  | .drawUpdate draw iExc => execDrawUpdate_fixed draw iExc
  | .amplitudeChangeApply => execAmplitudeChangeApply_fixed
  | .feOutput x => execFeOutput_fixed x
  | .holdMaxExpiry => execHoldMaxExpiry_fixed
  | .faultHoldToFail => execFaultHoldToFail_fixed
  | .loopCurrentDeparture later => execLoopCurrentDeparture_fixed later
  | .mainStale => execMainStale_fixed
  | .mainPvWrite route v => execMainPvWrite_fixed route v
  | .fixUaWrite route v => execFixUaWrite_fixed route v
  | .fixTimeout => execFixTimeout_fixed
  | .loopCurEnWrite route v => execLoopCurEnWrite_fixed route v
  | .loopWpChange on => execLoopWpChange_fixed on
  | .writeUnit => execWriteUnit_fixed
  | .recordedSampleTaken => execRecordedSampleTaken_fixed
  | .sampleStore => execSampleStore_fixed
  | .sampleStoreRetry => execSampleStoreRetry_fixed
  | .backfillStart => execBackfillStart_fixed
  | .backfillComplete => execBackfillComplete_fixed
  | .islShow l => execIslShow_fixed l
  | .islSet l => execIslSet_fixed l
  | .feShow l => execFeShow_fixed l
  | .feSet l => execFeSet_fixed l
  | .hartShow l => execHartShow_fixed l
  | .hartSet l => execHartSet_fixed l
  | .calZero l => execCalZero_fixed l
  | .calSpan l => execCalSpan_fixed l
  | .calPhase l => execCalPhase_fixed l
  | .calLoop l => execCalLoop_fixed l
  | .calTpoint l => execCalTpoint_fixed l
  | .calTcommit l => execCalTcommit_fixed l
  | .calSave l => execCalSave_fixed l
  | .calRestore l => execCalRestore_fixed l
  | .calClear l => execCalClear_fixed l
  | .calShow l => execCalShow_fixed l
  | .hartCmd0ReadUniqueId q => execHartCmd0ReadUniqueId_fixed q
  | .hartCmd1ReadPv q => execHartCmd1ReadPv_fixed q
  | .hartCmd2ReadCurrentPercent q => execHartCmd2ReadCurrentPercent_fixed q
  | .hartCmd3ReadDynamicVars q => execHartCmd3ReadDynamicVars_fixed q
  | .hartCmd6WritePollingAddr q => execHartCmd6WritePollingAddr_fixed q
  | .hartCmd7ReadLoopConfig q => execHartCmd7ReadLoopConfig_fixed q
  | .hartCmd8ReadClassifications q => execHartCmd8ReadClassifications_fixed q
  | .hartCmd9ReadVarsStatus q => execHartCmd9ReadVarsStatus_fixed q
  | .hartCmd11ReadIdByTag q => execHartCmd11ReadIdByTag_fixed q
  | .hartCmd12ReadMessage q => execHartCmd12ReadMessage_fixed q
  | .hartCmd13ReadTagDescriptor q => execHartCmd13ReadTagDescriptor_fixed q
  | .hartCmd14ReadTransducer q => execHartCmd14ReadTransducer_fixed q
  | .hartCmd15ReadDeviceInfo q => execHartCmd15ReadDeviceInfo_fixed q
  | .hartCmd16ReadFan q => execHartCmd16ReadFan_fixed q
  | .hartCmd17WriteMessage q => execHartCmd17WriteMessage_fixed q
  | .hartCmd18WriteTagDescriptor q => execHartCmd18WriteTagDescriptor_fixed q
  | .hartCmd19WriteFan q => execHartCmd19WriteFan_fixed q
  | .hartCmd20ReadLongTag q => execHartCmd20ReadLongTag_fixed q
  | .hartCmd21ReadIdByLongTag q => execHartCmd21ReadIdByLongTag_fixed q
  | .hartCmd22WriteLongTag q => execHartCmd22WriteLongTag_fixed q
  | .hartCmd33ReadDeviceVars q => execHartCmd33ReadDeviceVars_fixed q
  | .hartCmd34WriteDamping q => execHartCmd34WriteDamping_fixed q
  | .hartCmd35WriteRange q => execHartCmd35WriteRange_fixed q
  | .hartCmd36SetUrv q => execHartCmd36SetUrv_fixed q
  | .hartCmd37SetLrv q => execHartCmd37SetLrv_fixed q
  | .hartCmd38ResetConfigChanged q => execHartCmd38ResetConfigChanged_fixed q
  | .hartCmd40FixedCurrent q => execHartCmd40FixedCurrent_fixed q
  | .hartCmd42DeviceReset q => execHartCmd42DeviceReset_fixed q
  | .hartCmd43SetPvZero q => execHartCmd43SetPvZero_fixed q
  | .hartCmd44WritePvUnits q => execHartCmd44WritePvUnits_fixed q
  | .hartCmd45TrimLoopZero q => execHartCmd45TrimLoopZero_fixed q
  | .hartCmd46TrimLoopGain q => execHartCmd46TrimLoopGain_fixed q
  | .hartCmd48ReadAdditional q => execHartCmd48ReadAdditional_fixed q
  | .hartCmd54ReadVarInfo q => execHartCmd54ReadVarInfo_fixed q
  | .hartCmd59WritePreambles q => execHartCmd59WritePreambles_fixed q
  | .hartCmd103BurstPeriod q => execHartCmd103BurstPeriod_fixed q
  | .hartCmd104BurstTrigger q => execHartCmd104BurstTrigger_fixed q
  | .hartCmd105BurstConfig q => execHartCmd105BurstConfig_fixed q
  | .hartCmd108BurstCommand q => execHartCmd108BurstCommand_fixed q
  | .hartCmd109BurstControl q => execHartCmd109BurstControl_fixed q
  | .hartCmd128ReadStatus q => execHartCmd128ReadStatus_fixed q
  | .hartCmd129ReadFeResults q => execHartCmd129ReadFeResults_fixed q
  | .hartCmd130ReadFeConfig q => execHartCmd130ReadFeConfig_fixed q
  | .hartCmd131WriteFeConfig q => execHartCmd131WriteFeConfig_fixed q
  | .hartCmd132ZeroTrim q => execHartCmd132ZeroTrim_fixed q
  | .hartCmd133SpanTrim q => execHartCmd133SpanTrim_fixed q
  | .hartCmd134PhaseTrim q => execHartCmd134PhaseTrim_fixed q
  | .hartCmd135ReadScaling q => execHartCmd135ReadScaling_fixed q
  | .hartCmd136WriteScaling q => execHartCmd136WriteScaling_fixed q
  | .hartCmd137CalSetAction q => execHartCmd137CalSetAction_fixed q
  | .hartCmd138ReadSupply q => execHartCmd138ReadSupply_fixed q
  | .hartCmd139WriteFailSettings q => execHartCmd139WriteFailSettings_fixed q
  | .hartCmd140SyncReset q => execHartCmd140SyncReset_fixed q
  | .hartUnsupportedCommand cmd q => execHartUnsupportedCommand_fixed cmd q
  | .hartBurstSend => execHartBurstSend_fixed
  | .dawn found => execDawn_fixed found
  | .handover => execHandover_fixed
  | .nightfallHoldoffExpiry => execNightfallHoldoffExpiry_fixed
  | .handoverWatchdog => execHandoverWatchdog_fixed
  | .recInfo l => execRecInfo_fixed l
  | .recOpen l => execRecOpen_fixed l
  | .recData l => execRecData_fixed l
  | .recCommit l => execRecCommit_fixed l
  | .recAbort l => execRecAbort_fixed l
  | .recBoot l => execRecBoot_fixed l
  | .bootShow l => execBootShow_fixed l
  | .bootOpen l => execBootOpen_fixed l
  | .bootData l => execBootData_fixed l
  | .bootFromkv l => execBootFromkv_fixed l
  | .bootCommit l => execBootCommit_fixed l
  | .bootActivate l => execBootActivate_fixed l
  | .bootAbort l => execBootAbort_fixed l
  | .lcShow l => execLcShow_fixed l
  | .lcChallenge l => execLcChallenge_fixed l
  | .lcAuth l => execLcAuth_fixed l
  | .lcAdvance l => execLcAdvance_fixed l
  | .lcRecommission l => execLcRecommission_fixed l
  | .lcDebugkey l => execLcDebugkey_fixed l
  | .lcSigner l => execLcSigner_fixed l
  | .lcRevoke l => execLcRevoke_fixed l
  | .vaultShow l => execVaultShow_fixed l
  | .vaultSetowner l => execVaultSetowner_fixed l
  | .vaultGenid l => execVaultGenid_fixed l
  | .vaultPsk l => execVaultPsk_fixed l
  | .vaultCa l => execVaultCa_fixed l
  | .vaultCert l => execVaultCert_fixed l
  | .vaultCsr l => execVaultCsr_fixed l
  | .vaultCred l => execVaultCred_fixed l
  | .vaultLockWrite route change v => execVaultLockWrite_fixed route change v
  | .trngHealthFail => execTrngHealthFail_fixed
  | .alarmSourceFires src => execAlarmSourceFires_fixed src
  | .eraseBurnComplete us => execEraseBurnComplete_fixed us
  | .alarmRecordWritten => execAlarmRecordWritten_fixed
  | .almShow l => execAlmShow_fixed l
  | .almClear l => execAlmClear_fixed l
  | .debugPortAccess addr write => execDebugPortAccess_fixed addr write
  | .sunriseStageComplete r => execSunriseStageComplete_fixed r
  | .sunriseHaltRetry => execSunriseHaltRetry_fixed
  | .dramRetrain ch fails => execDramRetrain_fixed ch fails
  | .dramPatrolScrub ch found => execDramPatrolScrub_fixed ch found
  | .nandOperationComplete ch tgt failed found mean top => execNandOperationComplete_fixed ch tgt failed found mean top
  | .nandTargetTimeout ch tgt => execNandTargetTimeout_fixed ch tgt
  | .blockRelocation bytes => execBlockRelocation_fixed bytes
  | .checkpointDue => execCheckpointDue_fixed
  | .checkpointComplete ms => execCheckpointComplete_fixed ms
  | .plpReserveRebuilt => execPlpReserveRebuilt_fixed
  | .repartitionJob job => execRepartitionJob_fixed job
  | .formatJob job => execFormatJob_fixed job
  | .ethernetFrameReceived port f => execEthernetFrameReceived_fixed port f
  | .pauseFrame port quanta => execPauseFrame_fixed port quanta
  | .linkUp port => execLinkUp_fixed port
  | .linkDown port => execLinkDown_fixed port
  | .linkHoldExpiry port => execLinkHoldExpiry_fixed port
  | .dhcpMessage port m => execDhcpMessage_fixed port m
  | .dhcpTimer port v6 which => execDhcpTimer_fixed port v6 which
  | .addressConflictRetry port => execAddressConflictRetry_fixed port
  | .neighbourEntryAge port addr => execNeighbourEntryAge_fixed port addr
  | .reassemblyTimeout port ident => execReassemblyTimeout_fixed port ident
  | .routerAdvertisement port router pfx aFlag => execRouterAdvertisement_fixed port router pfx aFlag
  | .clientHello h => execClientHello_fixed h
  | .handshakeComplete num proof => execHandshakeComplete_fixed num proof
  | .handshakeTimeout num => execHandshakeTimeout_fixed num
  | .flightRetransmit num => execFlightRetransmit_fixed num
  | .handshakeTokenRefill => execHandshakeTokenRefill_fixed
  | .cookieKeyRotate => execCookieKeyRotate_fixed
  | .dtlsRecordReceived sess r => execDtlsRecordReceived_fixed sess r
  | .sessionIdleTimeout sess => execSessionIdleTimeout_fixed sess
  | .dkpSegmentReceived sess seg => execDkpSegmentReceived_fixed sess seg
  | .dkpAckReceived sess seg => execDkpAckReceived_fixed sess seg
  | .dkpResendTimeout sess id => execDkpResendTimeout_fixed sess id
  | .dkpReassemblyTimeout sess id => execDkpReassemblyTimeout_fixed sess id
  | .dkpGet q => execDkpGet_fixed q
  | .dkpPut q => execDkpPut_fixed q
  | .dkpDelete q => execDkpDelete_fixed q
  | .dkpCas q => execDkpCas_fixed q
  | .dkpScan q => execDkpScan_fixed q
  | .dkpBatch q => execDkpBatch_fixed q
  | .dkpVput q => execDkpVput_fixed q
  | .dkpVdel q => execDkpVdel_fixed q
  | .dkpSearch q => execDkpSearch_fixed q
  | .dkpStat q => execDkpStat_fixed q
  | .eventsSubscribe q => execEventsSubscribe_fixed q
  | .eventsReadLog q => execEventsReadLog_fixed q
  | .eventsEnd q => execEventsEnd_fixed q
  | .dkpAdmin q => execDkpAdmin_fixed q
  | .dkpAssocSearch q => execDkpAssocSearch_fixed q
  | .dkpAssocStep q => execDkpAssocStep_fixed q
  | .dkpAssocClose q => execDkpAssocClose_fixed q
  | .dkpAssocWrite q => execDkpAssocWrite_fixed q
  | .eventPush sess => execEventPush_fixed sess
  | .keyExpiryRemoval ns key => execKeyExpiryRemoval_fixed ns key
  | .snapshotEnd token space => execSnapshotEnd_fixed token space
  | .dirtyDataProgrammed n => execDirtyDataProgrammed_fixed n
  | .garbageCollection moved free => execGarbageCollection_fixed moved free
  | .kvGet l => execKvGet_fixed l
  | .kvScan l => execKvScan_fixed l
  | .kvStat l => execKvStat_fixed l
  | .kvPut l => execKvPut_fixed l
  | .kvCas l => execKvCas_fixed l
  | .kvDel l => execKvDel_fixed l
  | .kvSync l => execKvSync_fixed l
  | .kvNs l => execKvNs_fixed l
  | .collCreate l => execCollCreate_fixed l
  | .collDrop l => execCollDrop_fixed l
  | .collDropComplete coll => execCollDropComplete_fixed coll
  | .collSet l => execCollSet_fixed l
  | .collShow l => execCollShow_fixed l
  | .collList l => execCollList_fixed l
  | .maintMerge l => execMaintMerge_fixed l
  | .mergeStart coll => execMergeStart_fixed coll
  | .chunkProgrammed coll => execChunkProgrammed_fixed coll
  | .maintReload l => execMaintReload_fixed l
  | .maintRebuild l => execMaintRebuild_fixed l
  | .rebuildJob job => execRebuildJob_fixed job
  | .maintJobs l => execMaintJobs_fixed l
  | .batchReady coll exact => execBatchReady_fixed coll exact
  | .batchBoundary => execBatchBoundary_fixed
  | .idleBoundary => execIdleBoundary_fixed
  | .sweepPassEnd => execSweepPassEnd_fixed
  | .rerankFetchComplete f => execRerankFetchComplete_fixed f
  | .queryComplete q => execQueryComplete_fixed q
  | .exactBatchComplete => execExactBatchComplete_fixed
  | .walkCtxDrainComplete => execWalkCtxDrainComplete_fixed
  | .watchPeriod n => execWatchPeriod_fixed n
  | .watchRunComplete n => execWatchRunComplete_fixed n
  | .srchNear l => execSrchNear_fixed l
  | .srchWatch l => execSrchWatch_fixed l
  | .srchUnwatch l => execSrchUnwatch_fixed l
  | .srchWatches l => execSrchWatches_fixed l
  | .srchRecall l => execSrchRecall_fixed l
  | .recallJobComplete => execRecallJobComplete_fixed
  | .srchResult l => execSrchResult_fixed l
  | .assocSearch l => execAssocSearch_fixed l
  | .assocStep l => execAssocStep_fixed l
  | .assocClose l => execAssocClose_fixed l
  | .assocWrite l => execAssocWrite_fixed l
  | .assocRead l => execAssocRead_fixed l
  | .assocShow l => execAssocShow_fixed l
  | .cascShow l => execCascShow_fixed l
  | .policyBanksWrite route v => execPolicyBanksWrite_fixed route v
  | .bankOnWrite route v => execBankOnWrite_fixed route v
  | .dwWrite route v => execDwWrite_fixed route v
  | .policyReloadComplete => execPolicyReloadComplete_fixed
  | .scrubPassDue => execScrubPassDue_fixed
  | .scrubPassComplete => execScrubPassComplete_fixed
  | .cursorIdleTimeout cur => execCursorIdleTimeout_fixed cur
  | .cascadeSlot f => execCascadeSlot_fixed f
  | .cascadeFrameResult r => execCascadeFrameResult_fixed r
  | .cascadeMemberAbsent p => execCascadeMemberAbsent_fixed p
  | .cascadeMemberPresent p => execCascadeMemberPresent_fixed p
  | .evtShow l => execEvtShow_fixed l
  | .evtList l => execEvtList_fixed l
  | .evtSet l => execEvtSet_fixed l
  | .evtClear l => execEvtClear_fixed l
  | .evtGpio l => execEvtGpio_fixed l
  | .evtLog l => execEvtLog_fixed l
  | .evtInject l => execEvtInject_fixed l
  | .eventLatchClearWrite route id => execEventLatchClearWrite_fixed route id
  | .gpioPulseEnd k => execGpioPulseEnd_fixed k
  | .logProgram => execLogProgram_fixed
  | .regRead l => execRegRead_fixed l
  | .regDump l => execRegDump_fixed l
  | .regWrite l => execRegWrite_fixed l
  | .cfgShow l => execCfgShow_fixed l
  | .cfgCommit l => execCfgCommit_fixed l
  | .cfgDiscard l => execCfgDiscard_fixed l
  | .epochBoundaryApply => execEpochBoundaryApply_fixed
  | .drainCommitApply => execDrainCommitApply_fixed
  | .duskCommitJob job => execDuskCommitJob_fixed job
  | .govShow l => execGovShow_fixed l
  | .govPin l => execGovPin_fixed l
  | .collectionReloadComplete coll failed => execCollectionReloadComplete_fixed coll failed
  | .dramStructureRebuilt region => execDramStructureRebuilt_fixed region
  | .addressProbeComplete port v6 => execAddressProbeComplete_fixed port v6
  | .hartFrameError => execHartFrameError_fixed
  | .bridgeFrameCheckFail => execBridgeFrameCheckFail_fixed
  | .trngHealthRecovered => execTrngHealthRecovered_fixed
  | .alarmSourceCleared src => execAlarmSourceCleared_fixed src

/-- Two states that agree in what no command may change agree in the fused identity. -/
theorem ident_eq_of_fixed_eq {s t : State} (h : t.fixed = s.fixed) : t.sec.otp.ident = s.sec.otp.ident :=
  congrArg Prod.snd h

/-- No command changes the fused identity (R2). -/
theorem exec_ident {c : Instr} {s t : State} (h : exec c s = .next t) : t.sec.otp.ident = s.sec.otp.ident :=
  ident_eq_of_fixed_eq (exec_keeps c s t h)

/-- No step changes the fused identity: neither the command at the front of the queue, with the rest of the queue left to it,
nor the beat on an empty queue (R2). -/
theorem step_ident {s t : State} (h : step s = .next t) : t.sec.otp.ident = s.sec.otp.ident := by
  unfold step at h
  split at h
  case h_1 c cs _ => exact exec_ident (s := { s with pending := cs }) h
  case h_2 _ =>
    cases h
    exact ident_eq_of_fixed_eq (beatTick_fixed s)

/-- Settles O4: commands by the dispatch's table, steps by that and by the beat, and the reset state is variant 0. -/
theorem theFusedIdentityNeverChanges : Obligations.TheFusedIdentityNeverChanges := by
  refine ⟨fun c s t => exec_ident, fun s t => step_ident, ?_⟩
  decide

end Sys2Proof.Machine

namespace Sys2Proof.Machine

/-! ## The loop current (R135 to R138, R183) -/

/-- A raise reaches the loop die in HART's novelty bits alone. -/
theorem raiseWith_loop (id sev : Nat) (kv : List (String × Val)) (late : Bool) (n : Nat) (s : State) :
    ∃ h, (raiseWith id sev kv late n s).loop = { s.loop with hart := h } := by
  unfold raiseWith
  dsimp only
  split
  · exact ⟨s.loop.hart, rfl⟩
  · dsimp only
    split
    · exact ⟨_, rfl⟩
    · exact ⟨s.loop.hart, rfl⟩

theorem raise_loop (id : Nat) (kv : List (String × Val)) (s : State) :
    ∃ h, (raise id kv s).loop = { s.loop with hart := h } := raiseWith_loop ..

/-- An event of the loop die touches HART's novelty bits and the events latched there, and nothing else of it. -/
theorem ldRaise_loop (id : Nat) (kv : List (String × Val)) (s : State) :
    ∃ h es, (ldRaise id kv s).loop = { s.loop with hart := h, latched := es } := by
  unfold ldRaise
  split
  · exact ⟨s.loop.hart, s.loop.latched, rfl⟩
  · split
    · obtain ⟨h, hloop⟩ := raise_loop id kv s
      exact ⟨h, s.loop.latched, hloop⟩
    · exact ⟨s.loop.hart, _, rfl⟩

/-! ### The parts of `evalLoop` -/

/-- Start-up, the lowest cause and its level, as they are judged before a row is chosen (R137, R138). -/
def Loop.judged (l : Loop) : Loop :=
  { l with
    startUp := l.startUp && !l.startEnds
    cause := l.activeCauses.headD 0
    failHigh := levelHigh l (l.activeCauses.headD 0) }

/-- The current in µA that Table 6.3 gives a judged loop die. -/
def rowCurrent (l : Loop) (free : Nat) : F32 :=
  match loopRow l with
  | 1 => 0x455DE000
  | 2 => F.ofNat 4000
  | 3 => F.ofNat (l.reg .ISL_FIX_UA)
  | 4 => if l.failHigh then F.ofNat 21500 else 0x455DE000
  | _ => (mapPv l free).1

/-- The loop die with its row of Table 6.3 chosen, and the current and the code of the DAC that follow. -/
def Loop.driven (l : Loop) (free : Nat) : Loop :=
  let j := l.judged
  let m := mapPv j free
  let d := { j with satLow := m.2.1, satHigh := m.2.2, row := loopRow j, setF := rowCurrent j free }
  { d with code := dacCode d.commanded d.otp.lgain d.otp.lofs }

/-- The cause told last, as the loop goes from `l` to `l'`. -/
def causeTold (l l' : Loop) : Nat := if failTold l l' then l'.cause else if l'.row == 5 then 0 else l.told

/-- EV 0x383 and EV 0x384, as the loop goes from `l` to `l'` (R137). -/
def tellCause (l l' : Loop) (s : State) : State :=
  if failTold l l' then
    ldRaise 0x383 [("cause", .n l'.cause), ("level", .c l'.failHigh.toNat (if l'.failHigh then "high" else "low"))] s
  else if l'.row == 5 && l.told != 0 then ldRaise 0x384 [("cause", .n l.told)] s
  else s

theorem evalLoop_eq (s : State) :
    evalLoop s = tellCause s.loop (s.loop.driven s.free)
      (s.setLoop { s.loop.driven s.free with told := causeTold s.loop (s.loop.driven s.free) }).tick := rfl

theorem tellCause_loop (l l' : Loop) (s : State) :
    ∃ h es, (tellCause l l' s).loop = { s.loop with hart := h, latched := es } := by
  unfold tellCause
  split
  · exact ldRaise_loop ..
  · split
    · exact ldRaise_loop ..
    · exact ⟨s.loop.hart, s.loop.latched, rfl⟩

/-- What `evalLoop` does to the loop die: it drives the current, and its events leave that as it is. -/
theorem evalLoop_loop (s : State) :
    ∃ told h es, (evalLoop s).loop = { s.loop.driven s.free with told := told, hart := h, latched := es } := by
  obtain ⟨h, es, hloop⟩ := tellCause_loop s.loop (s.loop.driven s.free)
    (s.setLoop { s.loop.driven s.free with told := causeTold s.loop (s.loop.driven s.free) }).tick
  exact ⟨_, h, es, evalLoop_eq s ▸ hloop⟩

@[simp] theorem evalLoop_row (s : State) : (evalLoop s).loop.row = loopRow s.loop.judged := by
  obtain ⟨told, h, es, hloop⟩ := evalLoop_loop s
  rw [hloop]; rfl

@[simp] theorem evalLoop_setF (s : State) : (evalLoop s).loop.setF = rowCurrent s.loop.judged s.free := by
  obtain ⟨told, h, es, hloop⟩ := evalLoop_loop s
  rw [hloop]; rfl

@[simp] theorem evalLoop_cause (s : State) : (evalLoop s).loop.cause = s.loop.activeCauses.headD 0 := by
  obtain ⟨told, h, es, hloop⟩ := evalLoop_loop s
  rw [hloop]; rfl

/-- The code of the DAC follows the trims (R183). -/
theorem evalLoop_code (s : State) : (evalLoop s).loop.code =
    dacCode (evalLoop s).loop.commanded (evalLoop s).loop.otp.lgain (evalLoop s).loop.otp.lofs := by
  obtain ⟨told, h, es, hloop⟩ := evalLoop_loop s
  rw [hloop]; rfl

/-! ### The rows of Table 6.3 -/

@[simp] theorem judged_reg (l : Loop) (p : Param) (i : Nat) : l.judged.reg p i = l.reg p i := rfl

theorem judged_startUp_iff (l : Loop) : l.judged.startUp = true ↔ l.startUp = true ∧ l.startEnds = false := by
  simp [Loop.judged]

/-- Table 6.4 numbers its causes from 1. -/
theorem ne_zero_of_mem_activeCauses {l : Loop} {c : Nat} (h : c ∈ l.activeCauses) : c ≠ 0 := by
  rintro rfl
  simp [Loop.activeCauses] at h

theorem loopRow_starting {l : Loop} (h : l.startUp = true ∧ l.startEnds = false) : loopRow l.judged = 1 := by
  simp [loopRow, (judged_startUp_iff l).2 h]

theorem loopRow_running {l : Loop} (h : ¬(l.startUp = true ∧ l.startEnds = false)) :
    loopRow l.judged =
      if l.reg .ISL_LOOP_CUR_EN = 0 then 2 else if l.reg .ISL_FIX_UA ≠ 0 then 3
      else if l.activeCauses.headD 0 ≠ 0 then 4 else 5 := by
  have hstart : l.judged.startUp = false := by simpa using mt (judged_startUp_iff l).1 h
  have hcause : l.judged.cause = l.activeCauses.headD 0 := rfl
  simp [loopRow, hstart, hcause]

/-- The mapped setpoint of R135, where the PV and its place in the range are numbers. -/
theorem mapPv_setpoint {l : Loop} (free : Nat) (hy : F.isNaN l.y = false)
    (hp : F.isNaN (pOf l.y (l.reg .ISL_LRV) (l.reg .ISL_URV)) = false) :
    (mapPv l free).1 = F.mul (mapped (pOf l.y (l.reg .ISL_LRV) (l.reg .ISL_URV))).1 0x447A0000 := by
  simp [mapPv, hy, hp]

/-- Settles O29: the rows of Table 6.3 in their order, each with the current it gives. -/
theorem theLoopCurrentIsThatOfItsRow : Obligations.TheLoopCurrentIsThatOfItsRow := by
  intro s
  refine ⟨fun hstart => ?starting, fun hrun hdis => ?disabled, fun hrun hen hfix => ?fixed,
    fun hrun hen hfix c cs hcs => ?failing, fun hrun hen hfix hcs hy hp => ?mapped, evalLoop_code s⟩
  case starting =>
    have hrow := loopRow_starting hstart
    simp [rowCurrent, hrow]
  case disabled =>
    have hrow : loopRow s.loop.judged = 2 := by simp [loopRow_running hrun, hdis]
    simp [rowCurrent, hrow]
  case fixed =>
    have hrow : loopRow s.loop.judged = 3 := by simp [loopRow_running hrun, hen, hfix]
    simp [rowCurrent, hrow]
  case failing =>
    have hc : c ≠ 0 := ne_zero_of_mem_activeCauses (l := s.loop) (by simp [hcs])
    have hrow : loopRow s.loop.judged = 4 := by simp [loopRow_running hrun, hen, hfix, hcs, hc]
    have hlevel : s.loop.judged.failHigh = levelHigh s.loop c := by simp [Loop.judged, hcs]
    simp [rowCurrent, hrow, hcs, hlevel, levelHigh]
  case mapped =>
    have hrow : loopRow s.loop.judged = 5 := by simp [loopRow_running hrun, hen, hfix, hcs]
    have hset := mapPv_setpoint (l := s.loop.judged) s.free hy hp
    refine ⟨(evalLoop_row s).trans hrow, ?_⟩
    simp only [evalLoop_setF, rowCurrent, hrow]
    exact hset

end Sys2Proof.Machine

namespace Sys2Proof.Machine

/-! ## What a raise does to the cells of the events (R484) -/

/-- The cells after `n` occurrences of an event that its rule raises: the event's own counts and latches, and the latch of
its partner in Table 19.4 clears. -/
def raisedCells (id n : Nat) (l : List EvtCell) : List EvtCell :=
  let cells := evtPut l { evtGet l id with latch := true, count := min 65535 ((evtGet l id).count + n) }
  match evPartner id with
  | some q => evtClearLatch cells q
  | none => cells

theorem evtGet_clearLatch_other {l : List EvtCell} {q k : Nat} (h : k ≠ q) : evtGet (evtClearLatch l q) k = evtGet l k :=
  evtGet_put_other _ _ _ (by simpa [evtGet_id] using h)

/-- Beside the partner's, a raise sets the raised event's cell and no other. -/
theorem evtGet_raisedCells {id k : Nat} (n : Nat) (l : List EvtCell) (hk : evPartner id ≠ some k) :
    evtGet (raisedCells id n l) k =
      if k = id then { evtGet l id with latch := true, count := min 65535 ((evtGet l id).count + n) } else evtGet l k := by
  unfold raisedCells
  cases hq : evPartner id with
  | none => simp [evtGet_put, evtGet_id]
  | some q =>
    have hne : k ≠ q := fun e => hk (e ▸ hq)
    simp [evtGet_clearLatch_other hne, evtGet_put, evtGet_id]

/-- The log takes a record and leaves every event's cell. -/
theorem logRecord_cells (s : State) (e : Evt) (r : Record) : (logRecord s e r).1.cells = e.cells := by
  unfold logRecord
  extract_lets
  split
  case isTrue withinRate => rfl
  case isFalse lost => rfl

/-- Whatever paths a raise takes, and whether it is delivered now or late, its cells are the same. -/
theorem raiseWith_cells (id sev : Nat) (kv : List (String × Val)) (late : Bool) (n : Nat) (s : State) :
    (raiseWith id sev kv late n s).evt.cells = raisedCells id n s.evt.cells := by
  unfold raiseWith
  dsimp only
  split
  case isTrue kept => rfl
  case isFalse delivered =>
    dsimp only
    split
    case isTrue logged =>
      split
      case isTrue ready => exact logRecord_cells ..
      case isFalse waiting => rfl
    case isFalse masked => rfl

theorem evtGet_raiseWith {id k : Nat} (sev : Nat) (kv : List (String × Val)) (late : Bool) (n : Nat) (s : State)
    (hk : evPartner id ≠ some k) :
    evtGet (raiseWith id sev kv late n s).evt.cells k =
      if k = id then
        { evtGet s.evt.cells id with latch := true, count := min 65535 ((evtGet s.evt.cells id).count + n) }
      else evtGet s.evt.cells k := by
  rw [raiseWith_cells, evtGet_raisedCells n s.evt.cells hk]

/-- A suppressed occurrence counts in its own event's cell, and no latch changes. -/
theorem evtGet_suppressed (id k : Nat) (s : State) :
    evtGet (suppressed id s).evt.cells k =
      if k = id then { evtGet s.evt.cells id with count := min 65535 ((evtGet s.evt.cells id).count + 1) }
      else evtGet s.evt.cells k := by
  simp [suppressed, evtGet_put, evtGet_id]

/-- Settles O7: a raise sets the latch and adds its occurrences, a suppressed occurrence adds one and does nothing else, and
neither touches the cell of another event, save that a raise clears its partner's latch. -/
theorem aRaiseCountsAndLatchesItsEventAlone : Obligations.ARaiseCountsAndLatchesItsEventAlone := by
  intro id kv s hself
  refine ⟨?raised, fun sev late n => ?counted, ?suppressed, rfl, fun k hne hk => ?others, fun k hne => ?othersSuppressed⟩
  case raised => simp [raise, evtGet_raiseWith _ _ _ _ _ hself]
  case counted => simp [evtGet_raiseWith _ _ _ _ _ hself]
  case suppressed => simp [evtGet_suppressed]
  case others => simp [raise, evtGet_raiseWith _ _ _ _ _ hk, hne]
  case othersSuppressed => simp [evtGet_suppressed, hne]

end Sys2Proof.Machine

namespace Sys2Proof.Machine

/-! ## The queue of commands and the beat -/

/-- Two states that agree in what no command may change agree in the queue. -/
theorem pending_eq_of_fixed_eq {s t : State} (h : t.fixed = s.fixed) : t.pending = s.pending :=
  congrArg Prod.fst h

/-- No command touches the queue. -/
theorem exec_pending {c : Instr} {s t : State} (h : exec c s = .next t) : t.pending = s.pending :=
  pending_eq_of_fixed_eq (exec_keeps c s t h)

/-- A step takes the command that it runs out of the queue, and a beat finds the queue empty and leaves it so. -/
theorem step_pending {s t : State} (h : step s = .next t) : t.pending = s.pending.tail := by
  unfold step at h
  split at h
  case h_1 c cs hs =>
    rw [hs]
    exact exec_pending (s := { s with pending := cs }) h
  case h_2 hs =>
    cases h
    rw [pending_eq_of_fixed_eq (beatTick_fixed s), hs]
    rfl

/-- Settles O5: commands by the dispatch's table, steps by that and by the beat. -/
theorem noCommandTouchesTheQueue : Obligations.NoCommandTouchesTheQueue :=
  ⟨fun _ _ _ => exec_pending, fun _ _ => step_pending⟩

/-- Settles O1: `step` finds the command at the front and hands the rest of the queue to `exec`. -/
theorem stepRunsTheFrontCommand : Obligations.StepRunsTheFrontCommand := fun _ _ => rfl

end Sys2Proof.Machine

namespace Sys2Proof.Machine

/-! ## What judging a write leaves of the store (R343, R345, R367) -/

/-- The store and the clocks, which no check of a write touches. -/
def State.store (s : State) : Kv × Clk := (s.kv, s.clk)

/-- The store but for its keys, with the clocks: what the judging of a request's writes leaves alone. -/
def State.ledger (s : State) : Kv × Clk := ({ s.kv with keys := [] }, s.clk)

theorem kv_eq_of_store {s t : State} (h : t.store = s.store) : t.kv = s.kv := congrArg Prod.fst h
theorem clk_eq_of_store {s t : State} (h : t.store = s.store) : t.clk = s.clk := congrArg Prod.snd h

theorem ledger_of_store {s t : State} (h : t.store = s.store) : t.ledger = s.ledger := by
  simp [State.ledger, kv_eq_of_store h, clk_eq_of_store h]

/-- The ledger holds what is dirty, what is programmed, and both positions. -/
theorem ledger_fields {s t : State} (h : t.ledger = s.ledger) :
    t.kv.pos = s.kv.pos ∧ t.kv.dirty = s.kv.dirty ∧ t.kv.disk = s.kv.disk ∧ t.kv.diskPos = s.kv.diskPos := by
  simp only [State.ledger, Prod.mk.injEq, Kv.mk.injEq] at h
  grind

/-! ### The checks -/

@[simp] theorem raise_store (id kv) (s : State) : (raise id kv s).store = s.store := by simp [State.store]
@[simp] theorem raiseLimited_store (id gap f) (s : State) : (raiseLimited id gap f s).store = s.store := by
  simp [State.store]
@[simp] theorem raiseCount_store (id kv) (s : State) : (raiseCount id kv s).store = s.store := by simp [State.store]

@[simp] theorem startWalk_store (s : State) : (startWalk s).store = s.store := rfl
@[simp] theorem markWrite_store (b : Nat) (s : State) : (markWrite b s).store = s.store := rfl
@[simp] theorem setEntry_store (e : Entry) (s : State) : (s.setEntry e).store = s.store := rfl
@[simp] theorem incReg_store (s : State) (p : Param) (n i : Nat) : (s.incReg p n i).store = s.store := rfl

@[simp] theorem policySuspect_store (e : Entry) (s : State) : (policySuspect e s).store = s.store := by
  unfold policySuspect
  split
  · rfl
  · split
    · exact raise_store ..
    · rfl

@[simp] theorem makeSuspect_store (e : Entry) (s : State) : (makeSuspect e s).store = s.store := by
  simp [makeSuspect]

@[simp] theorem falseHit_store (e : Entry) (s : State) : (falseHit e s).store = s.store := by
  unfold falseHit
  dsimp only
  split
  · rw [makeSuspect_store]; exact raise_store ..
  · exact raise_store ..

@[simp] theorem correctShadow_store (e : Entry) (s : State) : (correctShadow e s).store = s.store := rfl

/-- However often a search is issued again, the store stands. -/
@[simp] theorem resolve_store (key banks : Nat) (after) (n : Nat) (s : State) :
    (resolve key banks after n s).1.store = s.store := by
  induction n generalizing s with
  | zero => rfl
  | succ n ih =>
    unfold resolve
    dsimp only
    split
    · rfl
    · split
      · rw [ih, makeSuspect_store]
      · split
        · split <;> simp
        · rw [ih, falseHit_store]; split <;> simp

@[simp] theorem searchArray_store (key banks : Nat) (after) (s : State) :
    (searchArray key banks after s).1.store = s.store := resolve_store ..

@[simp] theorem classify_store (ns : Nat) (key : Text) (s : State) : (classify ns key s).1.store = s.store := by
  have hsearch := searchArray_store (policyKey ns key) (s.reg .ASSOC_POLICY_BANKS) none (s.incReg .ASSOC_CLASSIFY)
  unfold classify
  dsimp only
  (repeat' split) <;> first | rfl | exact hsearch

@[simp] theorem busyEstimate_store (b : Nat) (s : State) : (busyEstimate b s).1.store = s.store := rfl

@[simp] theorem structureRefusal_store (region : Nat) (s : State) : (structureRefusal region s).1.store = s.store := by
  unfold structureRefusal
  split
  · rfl
  · split
    · exact raise_store ..
    · rfl

@[simp] theorem collRefusal_store (c : Coll) (s : State) : (collRefusal c s).1.store = s.store := by
  unfold collRefusal; split <;> rfl

@[simp] theorem sideRefusal_store (c : Coll) (s : State) : (sideRefusal c s).1.store = s.store := by
  unfold sideRefusal; split <;> rfl

@[simp] theorem placeVec_store (c : Coll) (x : Slot) (e : Side) (s : State) : (placeVec c x e s).1.store = s.store := rfl

@[simp] theorem collEvent_store (c : Coll) (what : Nat) (s : State) : (collEvent c what s).store = s.store := by
  unfold collEvent; dsimp only; split <;> simp [State.store]

@[simp] theorem limitRefusal_store (old) (e : KeyEnt) (s : State) : (limitRefusal old e s).1.store = s.store := by
  unfold limitRefusal
  dsimp only
  (repeat' split) <;> simp

@[simp] theorem dropVec_store (e : KeyEnt) (s : State) : (dropVec e s).1.store = s.store := by
  unfold dropVec
  (repeat' split) <;> grind [structureRefusal_store, sideRefusal_store, placeVec_store]

@[simp] theorem vectorSlot_store (c : Coll) (cur) (s : State) : (vectorSlot c cur s).1.store = s.store := by
  unfold vectorSlot
  (repeat' split) <;> first | rfl | exact collEvent_store ..

@[simp] theorem storeVec_store (o : SubOp) (ns ver tag : Nat) (rd : Bool) (cur) (c : Coll) (s : State) :
    (storeVec o ns ver tag rd cur c s).1.store = s.store := by
  unfold storeVec
  (repeat' split) <;>
    grind [collRefusal_store, structureRefusal_store, sideRefusal_store, vectorSlot_store, placeVec_store]

/-! ### The judging -/

@[simp] theorem keys_ledger (s : State) (l : List KeyEnt) :
    ({ s with kv := { s.kv with keys := l } } : State).ledger = s.ledger := rfl

@[simp] theorem removeKey_ledger (ns : Nat) (rd : Bool) (o : SubOp) (cur) (p : Plan) (s : State) :
    (removeKey ns rd o cur p s).1.ledger = s.ledger := by
  unfold removeKey
  (repeat' split) <;> grind [dropVec_store, ledger_of_store, keys_ledger]

@[simp] theorem keepKey_ledger (ns word : Nat) (rd : Bool) (e : KeyEnt) (p : Plan) (s : State) :
    (keepKey ns word rd e p s).1.ledger = s.ledger := by
  unfold keepKey
  (repeat' split) <;> grind [dropVec_store, raiseCount_store, ledger_of_store, keys_ledger]

@[simp] theorem noVector_ledger (rd : Bool) (p : Plan) (s : State) : (noVector rd p s).1.ledger = s.ledger := by
  unfold noVector; split <;> rfl

@[simp] theorem storeKey_ledger (ns word : Nat) (rd : Bool) (o : SubOp) (old cur) (c) (p : Plan) (s : State) :
    (storeKey ns word rd o old cur c p s).1.ledger = s.ledger := by
  unfold storeKey
  (repeat' split) <;>
    grind [dropVec_store, storeVec_store, limitRefusal_store, raiseCount_store, ledger_of_store, keys_ledger]

@[simp] theorem runSub_ledger (ns word : Nat) (rd : Bool) (o : SubOp) (p : Plan) (s : State) :
    (runSub ns word rd o p s).1.ledger = s.ledger := by
  unfold runSub
  (repeat' split) <;>
    grind [structureRefusal_store, startWalk_store, removeKey_ledger, noVector_ledger, keepKey_ledger, storeKey_ledger, ledger_of_store]

@[simp] theorem judgeSub_ledger (ns : Nat) (roles) (o : SubOp) (p : Plan) (s : State) :
    (judgeSub ns roles o p s).1.ledger = s.ledger := by
  unfold judgeSub
  (repeat' split) <;> grind [classify_store, busyEstimate_store, runSub_ledger, ledger_of_store]

/-- Whatever a request's writes are judged to be, the positions, what is dirty and what is programmed stand. -/
theorem judgeSubs_ledger (ns : Nat) (roles) (subs : List SubOp) (i : Nat) (seen : List Text) (p : Plan) (s : State) :
    (judgeSubs ns roles subs i seen p s).1.ledger = s.ledger := by
  induction subs generalizing i seen p s with
  | nil => rfl
  | cons o os ih =>
    have hone := judgeSub_ledger ns roles o p s
    unfold judgeSubs
    split
    · rfl
    · split
      · next h => rw [h] at hone; exact hone
      · next h => rw [h] at hone; rw [ih]; exact hone

end Sys2Proof.Machine

namespace Sys2Proof.Machine

/-! ## A request's writes, whole or not at all (R343, R345, R367, R373) -/

/-! ### Keys -/

theorem keyGet_cons (x : KeyEnt) (l : List KeyEnt) (n : Nat) (k : Text) :
    keyGet (x :: l) n k = if x.ns = n ∧ x.key = k then some x else keyGet l n k := by
  by_cases h : x.ns = n ∧ x.key = k <;> simp_all [keyGet]

/-- A key that was put reads as it was put, and every other key as before. -/
theorem keyGet_keyPut (l : List KeyEnt) (e : KeyEnt) (n : Nat) (k : Text) :
    keyGet (keyPut l e) n k = if e.ns = n ∧ e.key = k then some e else keyGet l n k := by
  induction l with
  | nil => rw [keyPut, keyGet_cons]
  | cons x xs ih =>
    unfold keyPut
    split
    · next h =>
      simp only [Bool.and_eq_true, beq_iff_eq] at h
      rw [keyGet_cons, keyGet_cons, h.1, h.2]
      split <;> rfl
    · next h =>
      simp only [Bool.and_eq_true, beq_iff_eq] at h
      split
      · rw [keyGet_cons]
      · rw [keyGet_cons, keyGet_cons, ih]
        grind

/-! ### One write -/

/-- What a plain write of a value does to the keys: its record is put, at the next version and the next store position. -/
def PutsRecord (ns : Nat) (o : SubOp) (s u : State) : Prop :=
  ∃ e : KeyEnt, u.kv.keys = keyPut s.kv.keys e ∧ e.ns = ns ∧ e.key = o.key ∧ e.val = o.val ∧
    e.ver = (visible s ns o.key).elim 0 (·.ver) + 1 ∧ e.pos = s.kv.pos + 1

theorem visible_of_store {s t : State} (h : t.store = s.store) (ns : Nat) (key : Text) :
    visible t ns key = visible s ns key := by
  simp only [visible, kv_eq_of_store h, clk_eq_of_store h]

theorem PutsRecord.of_store {ns : Nat} {o : SubOp} {s s' u : State} (h : s'.store = s.store)
    (hput : PutsRecord ns o s' u) : PutsRecord ns o s u := by
  simpa only [PutsRecord, visible_of_store h, kv_eq_of_store h] using hput

theorem storeKey_puts {ns word : Nat} {rd : Bool} {o : SubOp} {old : Option KeyEnt} {p q : Plan} {s u : State}
    (h : storeKey ns word rd o old (visible s ns o.key) none p s = (u, .ok q)) :
    PutsRecord ns o s u ∧ q.items ≠ [] := by
  unfold storeKey at h
  dsimp only at h
  generalize effectiveTtl _ _ = ttl at h
  split at h
  · cases h
  · split at h
    · cases h
    · next v freed loc hgone =>
      have hv : v.store = s.store := by
        split at hgone
        · next e _ => have hdrop := dropVec_store e s; rw [hgone] at hdrop; exact hdrop
        · cases hgone; rfl
      split at h
      · cases h
      · next x hlimit =>
        have hx := congrArg (State.store ∘ Prod.fst) hlimit
        have hkeys := congrArg Kv.keys (kv_eq_of_store (hx.symm.trans ((limitRefusal_store ..).trans hv)))
        cases h
        refine ⟨⟨_, congrArg (keyPut · _) hkeys, rfl, rfl, rfl, ?_, ?_⟩, by simp⟩
        · cases visible s ns o.key <;> rfl
        · exact congrArg (·.pos + 1) (kv_eq_of_store hv)

theorem runSub_puts {ns word : Nat} {rd : Bool} {o : SubOp} {p q : Plan} {s u : State} (ho : o.op = .put)
    (h : runSub ns word rd o p s = (u, .ok q)) : PutsRecord ns o s u ∧ q.items ≠ [] := by
  unfold runSub at h
  split at h
  · cases h
  · next v hread =>
    have hv := structureRefusal_store 3 (startWalk s)
    rw [hread] at hv
    dsimp only at h
    rw [ho] at h
    split at h
    · cases h
    · split at h
      · cases h
      · split at h
        · cases h
        · exact ⟨.of_store hv (storeKey_puts h).1, (storeKey_puts h).2⟩

theorem judgeSub_puts {ns : Nat} {roles : Option Nat} {o : SubOp} {p q : Plan} {s u : State} (ho : o.op = .put)
    (h : judgeSub ns roles o p s = (u, .ok q)) : PutsRecord ns o s u ∧ q.items ≠ [] := by
  unfold judgeSub at h
  split at h
  · cases h
  · split at h
    · cases h
    · next v w hclass =>
      have hv := classify_store ns o.key s
      rw [hclass] at hv
      rw [ho] at h
      extract_lets rd wr at h
      split at h
      · cases h
      · split at h
        · cases h
        · split at h
          · cases h
          · split at h
            · cases h
            · exact ⟨.of_store hv (runSub_puts ho h).1, (runSub_puts ho h).2⟩

/-! ### The request -/

theorem refusalEvent_store (size : Nat) (s : State) : (refusalEvent size s).store = s.store := by
  unfold refusalEvent
  (repeat' split) <;> simp [State.store]

theorem refusalEvent_colls (size : Nat) (s : State) : (refusalEvent size s).colls = s.colls := by
  unfold refusalEvent
  (repeat' split) <;> simp

/-- A refused request's writes leave the keys and the collections as they were, and with them what is dirty. -/
theorem kvWrite_refused {ns : Nat} {roles : Option Nat} {subs : List SubOp} {s t : State} {e : Nat × Refused}
    (h : kvWrite ns roles subs s = (t, .error e)) :
    t.kv.keys = s.kv.keys ∧ t.colls = s.colls ∧ t.ledger = s.ledger := by
  have hjudged := judgeSubs_ledger ns roles subs 0 [] ⟨[], 0, [], false⟩ s
  unfold kvWrite at h
  dsimp only at h
  split at h
  · next u _ hu =>
    rw [hu] at hjudged
    cases h
    exact ⟨rfl, rfl, hjudged⟩
  · next u p hu =>
    rw [hu] at hjudged
    split at h
    · cases h
    · split at h
      · cases h
        have hback := refusalEvent_store p.bytes { u with kv := { u.kv with keys := s.kv.keys }, colls := s.colls }
        have hkeys := congrArg Kv.keys (kv_eq_of_store hback)
        exact ⟨hkeys, refusalEvent_colls .., (ledger_of_store hback).trans hjudged⟩
      · cases h

/-- A plain write that is kept took the next store position, with its record put among the keys. -/
theorem kvWrite_put {ns : Nat} {roles : Option Nat} {o : SubOp} {s t : State} {c : Committed} (ho : o.op = .put)
    (h : kvWrite ns roles [o] s = (t, .ok c)) :
    PutsRecord ns o s t ∧ t.kv.pos = s.kv.pos + 1 ∧ c.pos = s.kv.pos + 1 ∧ t.kv.diskPos = s.kv.diskPos := by
  have hjudged := judgeSubs_ledger ns roles [o] 0 [] ⟨[], 0, [], false⟩ s
  unfold kvWrite at h
  dsimp only at h
  split at h
  · cases h
  · next u p hu =>
    rw [hu] at hjudged
    obtain ⟨hpos, -, -, hdisk⟩ := ledger_fields hjudged
    have hone : judgeSub ns roles o ⟨[], 0, [], false⟩ s = (u, .ok p) := by
      simp only [judgeSubs] at hu
      simp only [List.any_nil, Bool.false_eq_true, if_false] at hu
      split at hu <;> simp_all
    obtain ⟨hput, hitems⟩ := judgeSub_puts ho hone
    have hcommit : PutsRecord ns o s (commitStore p.items p.bytes u) := hput
    have hp : (commitStore p.items p.bytes u).kv.pos = s.kv.pos + 1 := congrArg (· + 1) hpos
    have hd : (commitStore p.items p.bytes u).kv.diskPos = s.kv.diskPos := hdisk
    rw [if_neg (by simpa using hitems)] at h
    split at h
    · cases h
    · cases h
      split
      · exact ⟨by simpa [PutsRecord] using hcommit, by simpa using hp, by simpa using hp, by simpa using hd⟩
      · exact ⟨hcommit, hp, hp, hd⟩

/-- Settles O54: a refusal undoes what was judged, and a plain write puts its record at the next position. -/
theorem aWriteIsKeptWholeOrNotAtAll : Obligations.AWriteIsKeptWholeOrNotAtAll := by
  refine fun ns roles subs s t => ⟨fun e h => ?refused, fun c o hsubs ho h => ?kept⟩
  case refused =>
    obtain ⟨hkeys, hcolls, hledger⟩ := kvWrite_refused h
    obtain ⟨hpos, hdirty, hdisk, -⟩ := ledger_fields hledger
    exact ⟨hkeys, hcolls, hpos, hdirty, hdisk⟩
  case kept =>
    rw [hsubs] at h
    obtain ⟨⟨e, hkeys, hns, hkey, hval, hver, hepos⟩, hpos, hcpos, hdisk⟩ := kvWrite_put ho h
    refine ⟨hpos, hcpos, hdisk, ⟨e, ?_, hval, hver, hepos⟩, fun n k hne => ?_⟩
    · rw [hkeys, keyGet_keyPut, if_pos ⟨hns, hkey⟩]
    · rw [hkeys, keyGet_keyPut, if_neg]
      rintro ⟨rfl, rfl⟩
      exact hne (by rw [hns, hkey])

end Sys2Proof.Machine

namespace Sys2Proof.Machine

/-! ## Registers, reset and raises -/

theorem sat_eq_min (w v : Nat) : sat w v = min v (2 ^ w - 1) := by
  unfold sat
  have := Nat.two_pow_pos w
  split <;> omega

/-- Settles O6: cells that were set read back, and no other cell of the register file moves. -/
theorem aSetFieldReadsBackAndNoOtherChanges : Obligations.ASetFieldReadsBackAndNoOtherChanges :=
  fun s p v i => ⟨setReg_reg_same s p v i, fun q j h => setReg_reg_other s p q v i j h, rfl,
    (setReg_reg_same s p _ i).trans (sat_eq_min ..)⟩

/-- Settles O3: the register file of the reset state lists no cell, so each field reads its reset value. -/
theorem resetLeavesTheResetState : Obligations.ResetLeavesTheResetState := by
  have hreset : ∀ p i, State.reset.reg p i = resetValue false p i := fun _ _ => rfl
  refine ⟨rfl, rfl, rfl, rfl, rfl, rfl, rfl, rfl, hreset, fun p hstrict hlo hhi i => ?_⟩
  rw [hreset]
  unfold resetValue
  split
  · exact absurd rfl hstrict
  · exact absurd rfl hlo
  · exact absurd rfl hhi
  · rfl

/-- A raise reaches the loop die in HART's novelty bits alone. -/
theorem raiseWith_hart (id sev : Nat) (kv : List (String × Val)) (late : Bool) (n : Nat) (s : State) :
    (raiseWith id sev kv late n s).loop =
      { s.loop with hart := { s.loop.hart with novelty := (raiseWith id sev kv late n s).loop.hart.novelty } } := by
  unfold raiseWith
  dsimp only
  split
  case isTrue kept => rfl
  case isFalse delivered =>
    dsimp only
    split <;> rfl

/-- A raise touches the events, the routes with their notices, the sessions with their records, the loop die and the
registers, and nothing beside them. -/
theorem raiseWith_frame (id sev : Nat) (kv : List (String × Val)) (late : Bool) (n : Nat) (s : State) :
    raiseWith id sev kv late n s =
      { s with evt := (raiseWith id sev kv late n s).evt, routes := (raiseWith id sev kv late n s).routes
               sess := (raiseWith id sev kv late n s).sess, loop := (raiseWith id sev kv late n s).loop
               regs := (raiseWith id sev kv late n s).regs } := by
  unfold raiseWith
  dsimp only
  split <;> rfl

/-- Settles O8: the frame of a raise, with the one register and the one part of the loop die that it reaches. -/
theorem aRaiseLeavesTheRestAlone : Obligations.ARaiseLeavesTheRestAlone :=
  fun id kv s => ⟨fun p i h => raise_reg id kv s p i h, raiseWith_hart .., raiseWith_frame ..⟩

end Sys2Proof.Machine

namespace Sys2Proof.Machine

/-! ## Lines: their record, their checks, their replies (R95 to R100, R116, R122) -/

/-! ### The record of a line -/

/-- A route that a line leaves alone reads as before. -/
theorem noteLine_route_other (v : Verb) (l : Line) (s : State) {r : Route} (h : r ≠ l.route) :
    (noteLine v l s).route r = s.route r := by
  have hput : routeGet (routePut s.routes { s.route l.route with lastLine := s.now }) r = s.route r :=
    routeGet_put_other _ _ _ (by rwa [show ({ s.route l.route with lastLine := s.now } : RouteSt).route = l.route from
      routeGet_route _ _])
  unfold noteLine
  dsimp only
  split <;> exact hput

theorem noteLine_offRing (v : Verb) {l : Line} (s : State) (h : l.route ≠ .ring) :
    noteLine v l s = { s with routes := (noteLine v l s).routes } := by
  unfold noteLine
  dsimp only
  rw [if_neg (by simpa using h)]
  rfl

/-- What a line of the ring leaves behind outside of Nightfall. -/
theorem noteLine_onRing (v : Verb) {l : Line} {s : State} (h : l.route = .ring) (hm : s.lineMode ≠ .M10) :
    noteLine v l s = { s with
      routes := (noteLine v l s).routes
      line := { s.line with typed := !l.csum && l.addr != .all, lastVerb := (noteLine v l s).line.lastVerb } } := by
  have hmode : (s.setRoute { s.route l.route with lastLine := s.now }).lineMode = s.lineMode := rfl
  unfold noteLine
  dsimp only
  rw [if_pos (by simpa using h), hmode]
  simp [hm]

/-- The time of the last line has no part in whether a route is busy. -/
theorem busyOn_lastLine (s : State) (at_ : Nat) :
    busyOn .ring (s.setRoute { s.route .ring with lastLine := at_ }) = busyOn .ring s := by
  have hroute : (s.setRoute { s.route .ring with lastLine := at_ }).route .ring = { s.route .ring with lastLine := at_ } := by
    have hput := routeGet_put s.routes { s.route .ring with lastLine := at_ }
    rwa [show ({ s.route .ring with lastLine := at_ } : RouteSt).route = .ring from routeGet_route _ _] at hput
  simp only [busyOn, hroute, State.setRoute_line]
  rfl

theorem noteLine_lastVerb (v : Verb) {l : Line} {s : State} (h : l.route = .ring) (hb : busyOn .ring s = none) :
    (noteLine v l s).line.lastVerb = v.name := by
  unfold noteLine
  dsimp only
  simp only [h, beq_self_eq_true, if_true, busyOn_lastLine, hb]
  rfl

/-! ### The checks see the state as it was before the record -/

@[simp] theorem noteLine_wrongAddress (v : Verb) (l : Line) (s : State) :
    wrongAddress (noteLine v l s) l = wrongAddress s l := by
  simp only [wrongAddress, noteLine_reg]

@[simp] theorem noteLine_refusedInM10 (v w : Verb) (l : Line) (s : State) :
    refusedInM10 w (noteLine v l s) = refusedInM10 w s := by
  simp only [refusedInM10, noteLine_lineMode]

@[simp] theorem noteLine_strictRefuses (v w : Verb) (l : Line) (s : State) :
    strictRefuses (noteLine v l s) w l = strictRefuses s w l := by
  simp only [strictRefuses, noteLine_lineMode, noteLine_reg]

@[simp] theorem noteLine_level (v : Verb) (l : Line) (s : State) : (noteLine v l s).level l.route = s.level l.route := by
  simp only [State.level, noteLine_lockOf, noteLine_route]

@[simp] theorem noteLine_noLoop (v : Verb) (l : Line) (s : State) : (noteLine v l s).noLoop = s.noLoop := by
  simp only [State.noLoop, noteLine_sec]

/-- A source that PWR.WAKE_EN shuts out does not wake. -/
theorem wake_shut {src : Nat} {s : State} (h : bitAt (s.reg .PWR_WAKE_EN) src = false) : wake src s = s := by
  simp [wake, h]

/-- Settles O10: `gate` is the chain of the checks of R98, judged on the state as the line found it. -/
theorem theChecksOfALineDecideInTheirOrder : Obligations.TheChecksOfALineDecideInTheirOrder := by
  refine ⟨fun v l s => ⟨noteLine_route v l s, fun r => noteLine_route_other v l s, noteLine_offRing v s,
    fun hr hm => ⟨noteLine_onRing v hr hm, noteLine_lastVerb v hr⟩⟩, fun v l run s hbusy haddr hm10 hlogin => ?checks⟩
  have hrefused : refusedInM10 v s = false := by simp [refusedInM10, hm10]
  refine ⟨fun hmode hwake => ?mode, fun hmode hstrict => ?strict, fun hmode hstrict hlevel => ?level,
    fun code k hmode hstrict hlevel hloop hargs => ?args, gate_run v l run s⟩
  case mode =>
    have hshut : ∀ c kv, bitAt ((reply l.route c kv (noteLine v l s)).reg .PWR_WAKE_EN) 1 = false := fun c kv => by
      rw [reply_reg _ _ _ _ _ _ (by decide), noteLine_reg, hwake]
    simp [gate, gateWith, hbusy, haddr, hrefused, noteLine_lineMode, hmode, wake_shut (hshut ..)]
  case strict => simp [gate, gateWith, hbusy, haddr, hrefused, noteLine_lineMode, hmode, hstrict]
  case level => simp [gate, gateWith, hbusy, haddr, hrefused, noteLine_lineMode, hmode, hstrict, hlogin, hlevel]
  case args =>
    simp [gate, gateWith, hbusy, haddr, hrefused, noteLine_lineMode, hmode, hstrict, hlogin, hlevel, hloop, hargs]

/-! ### Replies -/

/-- The ring sends at once where it is not silent, no forwarded line is in progress and the line controller runs. -/
theorem ringSend_now {o : Output} {s : State} (hhush : s.line.hush = false) (hfwd : s.line.fwdOpen = false)
    (hruns : lineRuns s = true) : ringSend o s = s.emit o := by
  simp [ringSend, hhush, hfwd, hruns]

/-- What the ring cannot send yet waits. -/
theorem ringSend_waits {o : Output} {s : State} (hhush : s.line.hush = false)
    (hheld : s.line.fwdOpen = true ∨ lineRuns s = false) :
    ringSend o s = { s with line := { s.line with own := s.line.own ++ [o] } } := by
  simp [ringSend, hhush, hheld]

theorem portSend_now {p : Nat} {o : Output} {s : State} (h : (s.port p).pauseUntil ≤ s.now) : portSend p o s = s.emit o := by
  simp [portSend, Nat.not_lt.2 h]

/-- A record that is not the last of its epoch leaves by the connection's port and is counted. -/
theorem tlsSend_now {n : Nat} {o : Output} {s : State} {x : TlsConn} (hx : s.net.tls.find? (·.num == n) = some x)
    (hlast : x.sentRecs + 1 < 2 ^ 23) (hpause : (s.port x.port).pauseUntil ≤ s.now) :
    tlsSend n o s = (s.emit o).setTls { x with sentRecs := x.sentRecs + 1 } := by
  have hout : tlsOut n o s = s.emit o := by simp only [tlsOut, hx, portSend_now hpause]
  simp only [tlsSend, hout, State.emit_net, hx]
  rw [if_neg (by omega)]

/-- Settles O9: the route decides how the line leaves, and a typed line's last reply brings the prompt. -/
theorem aReplyGoesOutByItsRoute : Obligations.AReplyGoesOutByItsRoute := by
  refine fun code kv s => ⟨fun r x => rfl, fun n x hx hlast hpause => tlsSend_now hx hlast hpause,
    fun hfwd hruns hhush htyped => ?now, fun hheld hhush htyped => ?waits, fun hfwd hruns hhush htyped hcode => ?typed⟩
  case now => simp [reply, ringSend_now hhush hfwd hruns, htyped]
  case waits => simp [reply, ringSend_waits hhush hheld, htyped]
  case typed =>
    have hsent : ringSend (replyOut .ring ⟨code, kv⟩ s) s = s.emit (replyOut .ring ⟨code, kv⟩ s) :=
      ringSend_now hhush hfwd hruns
    simp only [reply, hsent]
    rw [if_pos (by simpa [htyped] using hcode)]
    exact ringSend_now (s := s.emit _) hhush hfwd hruns

end Sys2Proof.Machine

namespace Sys2Proof.Machine

/-! ## One beat (R25, R27, R29, R301, R425) -/

/-- What waited for the end of a PAUSE touches the ports and what leaves the block. -/
theorem flushPort_frame (s : State) (p : Nat) :
    flushPort s p = { s with
      out := (flushPort s p).out
      net := { s.net with port0 := (flushPort s p).net.port0, port1 := (flushPort s p).net.port1 } } := by
  unfold flushPort State.setPort State.emits
  dsimp only
  (repeat' split) <;> rfl

/-- A port that holds nothing back sends nothing. -/
theorem flushPort_of_txq_nil {s : State} {p : Nat} (h : (s.port p).txq = []) : flushPort s p = s := by
  simp [flushPort, h]

@[simp] theorem flushPort_clk (s : State) (p : Nat) : (flushPort s p).clk = s.clk := by rw [flushPort_frame]
@[simp] theorem flushPort_sweep (s : State) (p : Nat) : (flushPort s p).sweep = s.sweep := by rw [flushPort_frame]

theorem engineBeat_frame (s : State) :
    engineBeat s = { s with sweep := { s.sweep with ctxs := (engineBeat s).sweep.ctxs } } := by
  unfold engineBeat
  dsimp only
  split <;> rfl

theorem engineBeat_resting {s : State} (h : s.coreUp = false ∨ bitAt s.pwr.on 9 = false) : engineBeat s = s := by
  rcases h with h | h <;> simp [engineBeat, h]

theorem clockTick_frame (s : State) : clockTick s = { s with clk := (clockTick s).clk } := rfl

@[simp] theorem engineBeat_clk (s : State) : (engineBeat s).clk = s.clk := by rw [engineBeat_frame]
@[simp] theorem engineBeat_pwr (s : State) : (engineBeat s).pwr = s.pwr := by rw [engineBeat_frame]
@[simp] theorem engineBeat_net (s : State) : (engineBeat s).net = s.net := by rw [engineBeat_frame]
@[simp] theorem engineBeat_out (s : State) : (engineBeat s).out = s.out := by rw [engineBeat_frame]
@[simp] theorem engineBeat_assoc (s : State) : (engineBeat s).assoc = s.assoc := by rw [engineBeat_frame]

theorem beatTick_eq (s : State) : beatTick s = flushPort (flushPort (clockTick (engineBeat s)) 0) 1 := rfl

@[simp] theorem beatTick_sweep (s : State) : (beatTick s).sweep = (engineBeat s).sweep := by
  simp [beatTick_eq, clockTick]

theorem beatTick_frame (s : State) :
    beatTick s = { s with
      clk := (beatTick s).clk, out := (beatTick s).out
      sweep := { s.sweep with ctxs := (beatTick s).sweep.ctxs }
      net := { s.net with port0 := (beatTick s).net.port0, port1 := (beatTick s).net.port1 } } := by
  rw [beatTick_eq, flushPort_frame, flushPort_frame (clockTick _), clockTick_frame, engineBeat_frame]

theorem beatTick_of_txq_nil {s : State} (h0 : s.net.port0.txq = []) (h1 : s.net.port1.txq = []) :
    beatTick s = clockTick (engineBeat s) := by
  have hnet : (clockTick (engineBeat s)).net = s.net := engineBeat_net s
  have hp0 : ((clockTick (engineBeat s)).port 0).txq = [] := by simpa [State.port, hnet] using h0
  have hp1 : ((clockTick (engineBeat s)).port 1).txq = [] := by simpa [State.port, hnet] using h1
  rw [beatTick_eq, flushPort_of_txq_nil hp0, flushPort_of_txq_nil hp1]

/-! ### The clocks -/

theorem beatTick_clk_stopped {s : State} (h : s.pwr.refclk = false) :
    (beatTick s).clk = { s.clk with now := s.clk.now + 1 } := by
  simp [beatTick_eq, clockTick, h]

/-- The clocks after a beat of the running core, but for BEAT itself. -/
def clkAfterBeat (s : State) : Clk :=
  cascLockTick (s.coreUp && bitAt s.pwr.on 10 && s.assoc.straps != 0) (taiBeats 1 { s.clk with now := s.clk.now + 1 })

theorem beatTick_clk_running {s : State} (hr : s.pwr.refclk = true) (hv : s.pwr.vaon = true) (hon : bitAt s.pwr.on 2 = true) :
    (beatTick s).clk =
      if s.pwr.held then clkAfterBeat s else { clkAfterBeat s with beat := ((clkAfterBeat s).beat + 1) % 2 ^ 64 } := by
  simp [beatTick_eq, clockTick, hr, hv, hon, State.coreUp, clkAfterBeat]

theorem beatTick_clk_byRefclk {s : State} (hr : s.pwr.refclk = true) (hv : s.pwr.vaon = true)
    (hon : bitAt s.pwr.on 2 = false) : (beatTick s).clk = refclkTick { s.clk with now := s.clk.now + 1 } := by
  simp [beatTick_eq, clockTick, hr, hv, hon]

theorem cascLockTick_frame (m : Bool) (c : Clk) :
    cascLockTick m c = { c with cascLock := (cascLockTick m c).cascLock, cascLockAt := (cascLockTick m c).cascLockAt } := by
  unfold cascLockTick
  split <;> rfl

@[simp] theorem cascLockTick_now (m : Bool) (c : Clk) : (cascLockTick m c).now = c.now := by rw [cascLockTick_frame]
@[simp] theorem cascLockTick_tai (m : Bool) (c : Clk) : (cascLockTick m c).tai = c.tai := by rw [cascLockTick_frame]
@[simp] theorem cascLockTick_taiFrac (m : Bool) (c : Clk) : (cascLockTick m c).taiFrac = c.taiFrac := by
  rw [cascLockTick_frame]
@[simp] theorem cascLockTick_beat (m : Bool) (c : Clk) : (cascLockTick m c).beat = c.beat := by rw [cascLockTick_frame]

/-- At the nominal rate a beat is 2/3 ns. -/
theorem taiBeats_nominal {c : Clk} (n : Nat) (h : c.rate = 0) :
    taiBeats n c = { c with tai := (c.tai + (c.taiFrac + n * 2000000) / 3000000) % 2 ^ 64
                            taiFrac := (c.taiFrac + n * 2000000) % 3000000 } := by
  simp [taiBeats, h]

theorem beatTick_now (s : State) : (beatTick s).clk.now = s.clk.now + 1 := by
  by_cases hr : s.pwr.refclk = true ∧ s.pwr.vaon = true
  · by_cases hon : bitAt s.pwr.on 2 = true
    · rw [beatTick_clk_running hr.1 hr.2 hon]
      split <;> simp [clkAfterBeat, taiBeats]
    · rw [beatTick_clk_byRefclk hr.1 hr.2 (by simpa using hon)]
      unfold refclkTick
      split <;> rfl
  · have : (beatTick s).clk = { s.clk with now := s.clk.now + 1 } := by
      simp only [not_and, Bool.not_eq_true] at hr
      by_cases h : s.pwr.refclk = true
      · simp [beatTick_eq, clockTick, hr h]
      · exact beatTick_clk_stopped (by simpa using h)
    rw [this]

/-- Settles O2: the beat is the engine's, the clocks' and the ports' in turn, and each touches its own part. -/
theorem anEmptyQueueLetsOneBeatPass : Obligations.AnEmptyQueueLetsOneBeatPass := by
  intro s hs
  refine ⟨beatTick s, by simp only [step, hs], beatTick_now s, beatTick_frame s, fun ⟨h0, h1⟩ => ?quietPorts,
    fun h => ?engineAtRest, beatTick_clk_stopped, fun hr hv hon => ⟨fun hrate hfrac htai => ?tai, fun hheld => ?beat⟩,
    fun hr hv hon => ⟨?noBeat, fun hsub => ?counting, fun hsub => ?cycle⟩⟩
  case quietPorts => rw [beatTick_of_txq_nil h0 h1]; exact ⟨engineBeat_net s, engineBeat_out s⟩
  case engineAtRest => rw [beatTick_sweep, engineBeat_resting h]
  case tai =>
    have hnom := taiBeats_nominal (c := { s.clk with now := s.clk.now + 1 }) 1 (by simpa using hrate)
    rw [beatTick_clk_running hr hv hon]
    split <;> simp only [clkAfterBeat, cascLockTick_tai, cascLockTick_taiFrac, hnom] <;> omega
  case beat =>
    rw [beatTick_clk_running hr hv hon]
    simp [hheld, clkAfterBeat, taiBeats]
  case noBeat =>
    rw [beatTick_clk_byRefclk hr hv hon]
    unfold refclkTick
    split <;> rfl
  case counting =>
    rw [beatTick_clk_byRefclk hr hv hon]
    simp [refclkTick, show s.clk.refSub + 1 < 60 by omega]
  case cycle =>
    rw [beatTick_clk_byRefclk hr hv hon]
    have hcycle : refclkTick { s.clk with now := s.clk.now + 1 } =
        { taiBeats 60 { s.clk with now := s.clk.now + 1 } with refSub := 0, refCount := s.clk.refCount + 1 } := by
      simp [refclkTick, hsub]
    rw [hcycle]
    refine ⟨rfl, rfl, fun hrate hfrac => ?_⟩
    rw [taiBeats_nominal 60 (by simpa using hrate)]
    dsimp only
    omega

end Sys2Proof.Machine

namespace Sys2Proof.Machine

/-! ## The supplies (R29, R31, R45, R46, R50, R58) -/

/-- Settles O13: what the way down keeps of a collapse, and the registers that it set before. -/
theorem aLossWithoutFlushLosesWhatIsDirty : Obligations.ALossWithoutFlushLosesWhatIsDirty := by
  intro s
  obtain ⟨hon, hotp, hdirty, hkeys, hsess⟩ := collapse_facts s
  refine ⟨hdirty, hkeys, hsess, hon, hotp, fun hpf => ⟨?_, ?_, ?_⟩⟩ <;> rw [collapse_reg s _ _ (by decide) hpf]
  · simp [setReg_reg]
  · simp
  · simp [setReg_reg]

/-! ### The absence of VDDIO_A -/

/-- Without VDDIO_A no source starts the block, and none brings the rail back. -/
theorem wake_without_vddioA {src : Nat} {s : State} (hm : s.mode = .M0) (hv : s.pwr.vddioA = false) :
    (wake src s).pwr.vddioA = false ∧ (wake src s).pwr.en = s.pwr.en := by
  have hnum : s.mode.num ≤ 1 := by rw [hm]; decide
  obtain ⟨b, n, hsee⟩ := seePwrFail_eq s
  unfold wake
  rw [if_pos hnum, hsee]
  have hstart : mayStart { s with pwr := { s.pwr with pwrFailN := b }, freeCtr := n } = false := by simp [mayStart, hv]
  have hmode : ({ s with pwr := { s.pwr with pwrFailN := b }, freeCtr := n } : State).mode = .M0 := hm
  dsimp only
  simp only [hstart, hmode]
  (repeat' split) <;> first | exact ⟨hv, rfl⟩ | contradiction

/-- Midnight as it is reached without VDDIO_A. -/
theorem reachMidnight_without_vddioA {s : State} (hv : s.pwr.vddioA = false) :
    (reachMidnight s).pwr.vddioA = false ∧ (reachMidnight s).pwr.en = 0 := by
  obtain ⟨-, hmode, -, -, -, -, -, hen, -, -⟩ := enterMidnight_facts s
  have hvm : (enterMidnight s).pwr.vddioA = false := by
    simpa [enterMidnight, domainsReady, setDomains, holdPins, enterMode] using hv
  unfold reachMidnight
  dsimp only
  split
  · have h := wake_without_vddioA (src := 3)
      (s := { enterMidnight s with pwr := { (enterMidnight s).pwr with pfHigh := false } }) hmode hvm
    exact ⟨h.1, h.2.trans hen⟩
  · exact ⟨hvm, hen⟩

/-- A collapse with every enable deasserted already is Midnight at once. -/
theorem collapse_without_enables {s : State} (hv : s.pwr.vddioA = false) (hen : s.pwr.en = 0) :
    (collapse s).pwr.vddioA = false ∧ (collapse s).pwr.en = 0 ∧ (collapse s).mode = .M0 := by
  unfold collapse powerDown
  dsimp only
  have htop : topEnable (dropService (loseDirty true ((s.setReg .PWR_PLP_STATUS
      (if s.kv.dirty.isEmpty then 3 else 2)).setReg .PWR_FLUSH_US 0))).pwr.en = none := by
    simp [loseDirty, hen]; decide
  rw [htop]
  refine ⟨(reachMidnight_without_vddioA ?_).1, (reachMidnight_without_vddioA ?_).2, (reachMidnight_facts _).2.1⟩ <;>
    simpa [loseDirty] using hv

@[simp] theorem flushOwn_pwr (s : State) : (flushOwn s).pwr = s.pwr := by unfold flushOwn; split <;> rfl
@[simp] theorem flushOwn_day (s : State) : (flushOwn s).day = s.day := by unfold flushOwn; split <;> rfl

/-! ### REFCLK -/

/-- The clocks as TAI stops being valid. -/
def Clk.lost (c : Clk) : Clk :=
  { c with valid := false, state := .FREE, master := none, good := 0, bad := 0, overrun := false }

theorem taiInvalid_free {s : State} (h : s.clk.state = .FREE) : taiInvalid s = { s with clk := s.clk.lost } := by
  simp only [taiInvalid, setTimeState, h, Clk.lost]
  rfl

theorem taiInvalid_told {s : State} (h : s.clk.state ≠ .FREE) :
    taiInvalid s = raise 0x0C0 [("from", .n s.clk.state.num), ("to", .n 0)] { s with clk := s.clk.lost } := by
  simp only [taiInvalid, setTimeState, Clk.lost]
  rw [if_neg (by simpa using h)]
  rfl

/-- The CLOCK source is armed while VAON stands. -/
theorem detect_clock {s : State} (h : s.pwr.vaon = true) :
    detectSource 5 s = fireAlarm 5 { s with sec := { s.sec with srcNow := setBit s.sec.srcNow 5 } } := by
  simp [detectSource, armed, h]

theorem detect_dark (src : Nat) {s : State} (h : s.pwr.vaon = false) : detectSource src s = s := by
  simp [detectSource, armed, h]

/-- Settles O12: each supply command by what it calls, with the collapse and TAI's loss from their own lemmas. -/
theorem supplyCommandsComplete : Obligations.SupplyCommandsComplete := by
  intro s
  refine ⟨⟨powerOn s, rfl, rfl, rfl, rfl, rfl, rfl, rfl, rfl, rfl, rfl, fun p i => rfl, fun hv => ?started⟩,
    ⟨_, rfl, rfl, rfl, rfl, rfl, rfl, rfl, fun p i => rfl⟩, fun hv hen => ?noted, fun hv hen => ?collapsed,
    fun hr => ?returned, fun hr hstart => ?restarted, fun hv hfree => ?darkLoss, fun hv hfree => ?loss,
    fun hv hfree => ?toldLoss, rfl⟩
  case started => simp [powerOn, hv, loseDirty]
  case noted =>
    show execVddioAAbsent s = _
    simp [execVddioAAbsent, hv, hen]
  case collapsed =>
    let u := (raise 0x018 [] (setDomains 1
      (({ s with pwr := { s.pwr with vddioA := false } } : State).incReg .PWR_PG_FAILS))).setReg .PWR_RESET_CAUSE 5
    let down := collapse { u with pwr := { u.pwr with causeHeld := true, en := 0 } }
    have hdark : u.pwr.vddioA = false := by simp [u, setDomains]
    obtain ⟨hvddio, henable, hmode⟩ :=
      collapse_without_enables (s := { u with pwr := { u.pwr with causeHeld := true, en := 0 } }) hdark rfl
    refine ⟨{ down with pwr := { down.pwr with restart := .vddioA } }, u, ?_, rfl, rfl, rfl, hvddio, henable, hmode⟩
    show execVddioAAbsent s = _
    unfold execVddioAAbsent
    rw [if_neg (by simp [hv])]
    dsimp only
    rw [if_neg (by simpa using hen)]
  case returned =>
    show execVddioAReturnRestart s = _
    unfold execVddioAReturnRestart
    dsimp only
    rw [if_neg (by simp [hr])]
  case restarted =>
    have hmay : mayStart (flushOwn { s with pwr := { s.pwr with vddioA := true } }) = true := by
      simpa only [mayStart, State.mode, flushOwn_pwr, flushOwn_day] using hstart
    show execVddioAReturnRestart s = _
    unfold execVddioAReturnRestart
    dsimp only
    rw [if_pos (Bool.and_eq_true_iff.2 ⟨by simp [hr], hmay⟩)]
  case darkLoss =>
    show execRefclkLoss s = _
    unfold execRefclkLoss
    rw [taiInvalid_free (by exact hfree), detect_dark 5 (by exact hv)]
    rfl
  case loss =>
    show execRefclkLoss s = _
    unfold execRefclkLoss
    rw [taiInvalid_free (by exact hfree), detect_clock (by exact hv)]
    rfl
  case toldLoss =>
    refine ⟨_, ?_, rfl⟩
    show execRefclkLoss s = _
    unfold execRefclkLoss
    rw [taiInvalid_told (by exact hfree), detect_clock (by simpa using hv)]
    rfl

end Sys2Proof.Machine

namespace Sys2Proof.Machine

/-! ## Bits -/

@[simp] theorem bitAt_setBit_same (v b : Nat) : bitAt (setBit v b) b = true := by
  unfold bitAt setBit
  split
  · next h => exact h
  · rw [Nat.add_div_right _ (Nat.two_pow_pos b)]
    simp_all
    omega

/-- Setting a bit leaves every other bit. -/
theorem bitAt_setBit_other {v b k : Nat} (h : k ≠ b) : bitAt (setBit v b) k = bitAt v k := by
  unfold setBit
  split
  · rfl
  · next hclear =>
    simp only [beq_iff_eq] at hclear
    unfold bitAt
    rcases Nat.lt_or_gt_of_ne h with hlt | hgt
    · obtain ⟨d, rfl⟩ : ∃ d, b = k + 1 + d := ⟨b - k - 1, by omega⟩
      have hpow : 2 ^ (k + 1 + d) = 2 * 2 ^ d * 2 ^ k := by
        rw [Nat.pow_add, Nat.pow_succ, Nat.mul_comm (2 ^ k) 2, Nat.mul_assoc, Nat.mul_assoc, Nat.mul_comm (2 ^ k)]
      rw [hpow, Nat.add_mul_div_right _ _ (Nat.two_pow_pos k), Nat.add_mul_mod_self_left]
    · obtain ⟨d, rfl⟩ : ∃ d, k = b + 1 + d := ⟨k - b - 1, by omega⟩
      have hpow : 2 ^ (b + 1 + d) = 2 ^ b * (2 * 2 ^ d) := by rw [Nat.pow_add, Nat.pow_succ, Nat.mul_assoc]
      rw [hpow, ← Nat.div_div_eq_div_mul, ← Nat.div_div_eq_div_mul, Nat.add_div_right _ (Nat.two_pow_pos b),
        ← Nat.div_div_eq_div_mul, ← Nat.div_div_eq_div_mul,
        show (v / 2 ^ b + 1) / 2 = v / 2 ^ b / 2 by omega]

end Sys2Proof.Machine

namespace Sys2Proof.Machine

/-! ## The sequencer (R47 to R50) -/

/-- Entry to Dawn: PD0 to PD2 on, the enables as they stand. -/
theorem startDawn_facts (s : State) :
    (startDawn s).mode = .M2 ∧ (startDawn s).pwr.seq = .idle ∧ (startDawn s).pwr.on = 7 ∧
      (startDawn s).pwr.en = s.pwr.en ∧ (startDawn s).pwr.held = false ∧ (startDawn s).pwr.resetN = s.pwr.resetN := by
  have hentered : (enterMode .M2 (domainsReady (setDomains (Mode.domains .M2 0)
      { s with pwr := { s.pwr with seq := .idle, held := false, restart := .none, causeHeld := false } }))).mode = .M2 := by
    simp [enterMode, fallAsleep, State.mode]
  unfold startDawn
  dsimp only
  split
  · exact ⟨hentered, by simp [enterMode, fallAsleep, domainsReady, setDomains, Mode.domains]⟩
  · refine ⟨?_, ?_⟩
    · simpa [State.mode] using hentered
    · simp [enterMode, fallAsleep, domainsReady, setDomains, Mode.domains]

/-- What entry to Dawn keeps: whatever is neither power nor mode, and no raise touches. -/
theorem startDawn_keep {β : Type} (f : State → β) (hp : ∀ s v, f { s with pwr := v } = f s)
    (hd : ∀ s v, f { s with day := v } = f s) (ht : ∀ s : State, f s.tick = f s) (hr : ∀ i k s, f (raise i k s) = f s)
    (s : State) : f (startDawn s) = f s := by
  have hentered : ∀ u, f (enterMode .M2 (domainsReady (setDomains (Mode.domains .M2 0) u))) = f u := by
    intro u
    unfold enterMode
    dsimp only
    rw [hr, ht]
    exact (hd _ _).trans ((hp _ _).trans (hp _ _))
  unfold startDawn
  dsimp only
  split
  · rw [hentered, hp]
  · rw [hp, hr, hentered, hp]

/-- With groups 0 and 1 good the way to Dawn is over. -/
theorem toDawn_ready {s : State} (h0 : groupGood s 0 = true) (h1 : groupGood s 1 = true) :
    toDawn s = if s.pwr.held then { s with pwr := { s.pwr with waking := false, seq := .idle } }
      else startDawn { s with pwr := { s.pwr with waking := false } } := by
  have k0 : groupGood { s with pwr := { s.pwr with waking := false } } 0 = true := h0
  have k1 : groupGood { s with pwr := { s.pwr with waking := false } } 1 = true := h1
  simp [toDawn, k0, k1]

/-- With group 1 not yet good the way to Dawn enables it and waits. -/
theorem toDawn_waits {s : State} (h0 : groupGood s 0 = true) (h1 : groupGood s 1 = false) :
    toDawn s = { s with pwr := { s.pwr with
      waking := false, seq := .up 1, en := setBit s.pwr.en 1
      pgSeen := if bitAt s.pwr.en 1 then s.pwr.pgSeen else clearBit s.pwr.pgSeen 1 } } := by
  have k0 : groupGood { s with pwr := { s.pwr with waking := false } } 0 = true := h0
  have k1 : groupGood { s with pwr := { s.pwr with waking := false } } 1 = false := h1
  simp [toDawn, k0, k1]

/-- The state as the power-good of an enabled group is seen. -/
def pgHigh (g : Nat) (s : State) : State :=
  { s with pwr := { s.pwr with pg := setBit s.pwr.pg g, pgSeen := setBit s.pwr.pgSeen g } }

theorem groupGood_pgHigh {g : Nat} {s : State} (h : bitAt s.pwr.en g = true) : groupGood (pgHigh g s) g = true := by
  simp [groupGood, pgHigh, h]

theorem groupGood_pgHigh_other {g k : Nat} {s : State} (h : k ≠ g) : groupGood (pgHigh g s) k = groupGood s k := by
  simp [groupGood, pgHigh, bitAt_setBit_other h]

/-- The power-good that the sequence waits for. -/
theorem execSeqPgHigh_awaited {g : Nat} {s : State} (hg : g ≤ 5) (hv : s.pwr.vddioA = true) (hseq : s.pwr.seq = .up g)
    (hen : bitAt s.pwr.en g = true) : execSeqPgHigh g s = .next
      (if s.pwr.waking then resumeGroups (pgHigh g s) else if g ≤ 1 then toDawn (pgHigh g s) else raiseGroups (pgHigh g s)) := by
  unfold execSeqPgHigh
  rw [if_neg (by simp [hv, hg])]
  simp only [hen, hseq, if_true, beq_self_eq_true]
  rfl

/-- What the loss of a seen power-good leaves before its consequences. -/
def pgLost (g : Nat) (s : State) : State :=
  let u := raise (0x018 + g) [] (if g = 0 then setDomains 1 (s.incReg .PWR_PG_FAILS) else s.incReg .PWR_PG_FAILS)
  { u with pwr := { u.pwr with pg := clearBit u.pwr.pg g, pgSeen := clearBit u.pwr.pgSeen g
                               restart := .pgFault, causeHeld := true } }

theorem pgLost_pwr (g : Nat) (s : State) :
    (pgLost g s).pwr.pg = clearBit s.pwr.pg g ∧ (pgLost g s).pwr.pgSeen = clearBit s.pwr.pgSeen g ∧
      goingDown (pgLost g s) = goingDown s := by
  unfold pgLost goingDown
  dsimp only
  split <;> simp [setDomains]

theorem execPowerGoodLoss_seen {g : Nat} {s : State} (hg : g ≤ 5) (hv : s.pwr.vddioA = true) (hgood : groupGood s g = true)
    (hup : goingDown s = false) : execPowerGoodLoss g s = .next
      (if g = 1 ∨ g = 5 then powerFail 5 (pgLost g s) else collapse ((pgLost g s).setReg .PWR_RESET_CAUSE 5)) := by
  have hgoing : goingDown (pgLost g s) = false := (pgLost_pwr g s).2.2.trans hup
  unfold pgLost at hgoing ⊢
  unfold execPowerGoodLoss
  rw [if_neg (by simp [hv, hg]), if_pos hgood]
  simp only [beq_iff_eq, Bool.or_eq_true, Bool.and_eq_true, Bool.not_eq_true'] at hgoing ⊢
  simp only [hgoing]
  simp

/-- A step of the way down that leaves an enable standing. -/
theorem powerDown_step {s : State} {h : Nat} (htop : topEnable s.pwr.en = some h) (hen : clearBit s.pwr.en h ≠ 0) :
    powerDown s = setDomains 1 { s with pwr := { s.pwr with
      failing := false, en := clearBit s.pwr.en h, seq := .down h, pgSeen := clearBit s.pwr.pgSeen h } } := by
  simp [powerDown, htop, hen]

/-- The last step of the way down. -/
theorem powerDown_last {s : State} {h : Nat} (htop : topEnable s.pwr.en = some h) (hen : clearBit s.pwr.en h = 0) :
    powerDown s = reachMidnight (setDomains 1 { s with pwr := { s.pwr with
      failing := false, en := 0, seq := .down h, pgSeen := clearBit s.pwr.pgSeen h } }) := by
  simp [powerDown, htop, hen]

theorem execPowerDownEnableStep_down {g : Nat} {s : State} (h : s.pwr.seq = .down g) :
    execPowerDownEnableStep s = .next (powerDown { s with pwr := { s.pwr with pg := clearBit s.pwr.pg g } }) := by
  simp only [execPowerDownEnableStep, h]

/-- Settles O14: the sequencer's commands by where the sequence stands, and the ways up and down by their own lemmas. -/
theorem sequencerCommandsComplete : Obligations.SequencerCommandsComplete := by
  intro s
  refine ⟨fun g hg hv hseq => ?noted, fun hv hseq hw h0 h1 => ?group0,
    fun hv hseq hw h0 h1 => ⟨fun hheld => ?dawn, fun hheld => ?heldDawn⟩,
    fun g hlo hhi hv hseq hw hen => ?raised, fun g hg hv hseq hw hen => ?resumed, fun g hseq => ?timeout,
    fun g hg hv hgood => ?unseen, fun g hg hv hgood hup => ?lost, fun g hg hv hgood hup => ?failing,
    fun g h hseq htop hen => ?stepDown, fun g h hseq htop hen hpf => ?midnight, fun hr hstart => ?restarted, fun hr => ?stays⟩
  case noted =>
    show execSeqPgHigh g s = _
    unfold execSeqPgHigh
    rw [if_neg (by simp [hv, hg])]
    dsimp only
    rw [if_neg (by simpa using hseq)]
  case group0 =>
    have hawaited := execSeqPgHigh_awaited (by omega) hv hseq h0
    have hnext : groupGood (pgHigh 0 s) 1 = false := by rw [groupGood_pgHigh_other (by omega)]; simp [groupGood, h1]
    rw [if_neg (by simp [hw]), if_pos (by omega), toDawn_waits (groupGood_pgHigh h0) hnext] at hawaited
    exact ⟨_, hawaited, rfl, rfl, rfl, rfl⟩
  case dawn =>
    have hawaited := execSeqPgHigh_awaited (by omega) hv hseq h1
    rw [if_neg (by simp [hw]), if_pos (by omega),
      toDawn_ready ((groupGood_pgHigh_other (by omega)).trans h0) (groupGood_pgHigh h1), if_neg (by simp [pgHigh, hheld])] at hawaited
    obtain ⟨hmode, hidle, hon, hen, -⟩ := startDawn_facts
      { pgHigh 1 s with pwr := { (pgHigh 1 s).pwr with waking := false } }
    exact ⟨_, hawaited, hmode, hidle, hon, hen⟩
  case heldDawn =>
    have hawaited := execSeqPgHigh_awaited (by omega) hv hseq h1
    rw [if_neg (by simp [hw]), if_pos (by omega),
      toDawn_ready ((groupGood_pgHigh_other (by omega)).trans h0) (groupGood_pgHigh h1), if_pos (by simp [pgHigh, hheld])] at hawaited
    exact ⟨_, hawaited, rfl, rfl, hheld⟩
  case raised =>
    refine (execSeqPgHigh_awaited hhi hv hseq hen).trans ?_
    rw [if_neg (by simp [hw]), if_neg (by omega)]
    rfl
  case resumed =>
    refine (execSeqPgHigh_awaited (by simp at hg; omega) hv hseq hen).trans ?_
    rw [if_pos hw]
    rfl
  case timeout =>
    refine ⟨_, ?_, rfl⟩
    show execPgTimeout s = _
    simp only [execPgTimeout, hseq, raise_pwr, State.incReg_pwr]
  case unseen =>
    show execPowerGoodLoss g s = _
    unfold execPowerGoodLoss
    rw [if_neg (by simp [hv]; omega), if_neg (by simp [hgood])]
  case lost =>
    obtain ⟨hpg, hseen, -⟩ := pgLost_pwr g s
    refine ⟨pgLost g s, (execPowerGoodLoss_seen ?_ hv hgood hup).trans ?_, rfl, hpg, hseen, rfl⟩
    · simp at hg; omega
    · rw [if_neg (by simp at hg; omega)]
  case failing =>
    have hne : g ≠ 0 := by simp at hg; omega
    refine (execPowerGoodLoss_seen ?_ hv hgood hup).trans ?_
    · simp at hg; omega
    · rw [if_pos (by simpa using hg)]
      simp [pgLost, hne]
  case stepDown =>
    have hstep := execPowerDownEnableStep_down hseq
    rw [powerDown_step (by exact htop) (by exact hen)] at hstep
    exact ⟨_, hstep, rfl, rfl, rfl, rfl, rfl, rfl⟩
  case midnight =>
    have hstep := execPowerDownEnableStep_down hseq
    rw [powerDown_last (by exact htop) (by exact hen)] at hstep
    obtain ⟨hon, hmode, -, -, -, -, -, hdown⟩ := reachMidnight_facts (setDomains 1 { s with pwr := { s.pwr with
      pg := clearBit s.pwr.pg g, failing := false, en := 0, seq := .down h, pgSeen := clearBit s.pwr.pgSeen h } })
    obtain ⟨hen0, hidle, -⟩ := hdown hpf
    exact ⟨_, hstep, hmode, hidle, hen0, hon⟩
  case restarted =>
    show execSequenceRestart s = _
    simp [execSequenceRestart, hr, hstart]
  case stays =>
    show execSequenceRestart s = _
    simp [execSequenceRestart, hr]

end Sys2Proof.Machine

namespace Sys2Proof.Machine

/-! ## Wake sources, RESET_N and the power-fail transition (R54 to R61) -/

theorem endSnapsTold_keep {β : Type} (f : State → β) (hr : ∀ i k s, f (raise i k s) = f s) (n : Nat) (s : State) :
    f (endSnapsTold n s) = f s := by
  unfold endSnapsTold
  exact foldl_keep f _ (fun s _ => hr ..) _ _

@[simp] theorem endSnapsTold_pwr (n : Nat) (s : State) : (endSnapsTold n s).pwr = s.pwr :=
  endSnapsTold_keep (·.pwr) (by simp) n s
@[simp] theorem endSnapsTold_day (n : Nat) (s : State) : (endSnapsTold n s).day = s.day :=
  endSnapsTold_keep (·.day) (by simp) n s
@[simp] theorem endSnapsTold_sec (n : Nat) (s : State) : (endSnapsTold n s).sec = s.sec :=
  endSnapsTold_keep (·.sec) (by simp) n s
@[simp] theorem endSnapsTold_kv (n : Nat) (s : State) : (endSnapsTold n s).kv = s.kv :=
  endSnapsTold_keep (·.kv) (by simp) n s
@[simp] theorem endSnapsTold_bridge (n : Nat) (s : State) : (endSnapsTold n s).bridge = s.bridge :=
  endSnapsTold_keep (·.bridge) (by simp) n s
/-- A raise pushes a record to every session or to none. -/
theorem raiseWith_sess (id sev : Nat) (kv : List (String × Val)) (late : Bool) (n : Nat) (s : State) :
    (raiseWith id sev kv late n s).sess = s.sess ∨ ∃ r, (raiseWith id sev kv late n s).sess = s.sess.map (·.push r) := by
  unfold raiseWith
  dsimp only
  split
  · exact .inl rfl
  · dsimp only
    exact (ite_either _ _ _).imp (fun h => h) fun h => ⟨_, h⟩

theorem raise_sess_nil {id : Nat} {kv : List (String × Val)} {s : State} (h : s.sess = []) : (raise id kv s).sess = [] := by
  rcases raiseWith_sess id ((evSeverity id).getD 0) kv false 1 s with e | ⟨r, e⟩
  · exact e.trans h
  · exact e.trans (by rw [h]; rfl)

theorem endSnapsTold_sess_nil (n : Nat) {s : State} (h : s.sess = []) : (endSnapsTold n s).sess = [] := by
  unfold endSnapsTold
  induction List.range n generalizing s with
  | nil => exact h
  | cons k ks ih => exact ih (raise_sess_nil h)
theorem endSnapsTold_reg (n : Nat) (s : State) (p : Param) (i : Nat) (h : p ≠ .EVT_LOG_LOST) :
    (endSnapsTold n s).reg p i = s.reg p i :=
  endSnapsTold_keep (·.reg p i) (fun id kv s => raise_reg id kv s p i h) n s

/-! ### The reset toward Dawn -/

theorem startDawn_reg (s : State) (p : Param) (i : Nat) (h : p ∉ sendRegs) : (startDawn s).reg p i = s.reg p i :=
  startDawn_keep (·.reg p i) (fun _ _ => rfl) (fun _ _ => rfl) (fun _ => rfl) (fun _ _ _ => raise_reg' _ _ _ _ _ h) s

/-! ### The end of the flush -/

theorem lateReply_reg (r : Route) (c : Nat) (kv : List (String × Val)) (s : State) (p : Param) (i : Nat) (h : p ∉ sendRegs) :
    (lateReply r c kv s).reg p i = s.reg p i := by
  unfold lateReply
  split
  · rfl
  · dsimp only
    rw [reply_reg _ _ _ _ _ _ h]
    split <;> rfl

theorem persistAll_reg (s : State) (p : Param) (i : Nat) (h : p ∉ sendRegs) : (persistAll s).reg p i = s.reg p i := by
  obtain ⟨d, n, c, v, q, e, -⟩ := programDirty_eq s.kv.dirty.length s
  unfold persistAll
  rw [e]
  exact answerWaits_keep (·.reg p i) (fun r c kv s => lateReply_reg r c kv s p i h)
    (fun a b c d e g s => respond_reg a b c d e g s p i h) _

/-! ### Wakes -/

theorem seePwrFail_high {s : State} (h : s.pwr.pwrFailN = true) : seePwrFail s = s := by simp [seePwrFail, h]

/-- A source that finds Small Hours at rest is recorded and begins the resume. -/
theorem wake_M1 {src : Nat} {s : State} (hm : s.mode = .M1) (hopen : bitAt (s.reg .PWR_WAKE_EN) src = true)
    (hpf : s.pwr.pwrFailN = true) (hw : s.pwr.waking = false) (hh : s.pwr.held = false) (hseq : s.pwr.seq = .idle) :
    wake src s = resumeGroups
      (({ s with pwr := { s.pwr with waking := true } } : State).setReg .PWR_WAKE_CAUSE src) := by
  have hnum : s.mode.num ≤ 1 := by rw [hm]; decide
  have hM0 : (s.mode == .M0) = false := by rw [hm]; decide
  unfold wake
  rw [if_neg (by simp [hopen]), if_pos hnum, seePwrFail_high hpf]
  dsimp only
  rw [if_neg (by simp [hpf]), if_neg (by simp [hM0]), if_pos (by simp [hm]), if_neg (by simp [hw, hh, hseq])]
  rfl

theorem goingDown_false_iff (s : State) :
    goingDown s = false ↔ s.pwr.failing = false ∧ ∀ g, s.pwr.seq ≠ .down g := by
  unfold goingDown
  cases s.pwr.seq <;> simp

/-- What RESET_N leaves as it begins to hold the core: the enables as they are, PD0 to PD2 on outside of Midnight, and the
wait for a group that Dawn needs. -/
theorem execResetNAssert_held {s : State} (hup : goingDown s = false) (hen : s.pwr.en ≠ 0) :
    ∃ t, execResetNAssert s = .next t ∧ t.pwr.held = true ∧ t.pwr.resetN = false ∧ t.pwr.en = s.pwr.en ∧
      t.pwr.on = (if s.mode = .M0 then 1 else 7) ∧ t.sec.otp = s.sec.otp ∧ t.kv.keys = s.kv.disk ∧ t.bridge = Bridge.reset ∧
      ∀ g, g ≤ 1 → s.pwr.seq = .up g → t.pwr.seq = .up g := by
  obtain ⟨hfail, -⟩ := (goingDown_false_iff s).1 hup
  unfold execResetNAssert
  dsimp only
  rw [if_neg (by simp [hfail]), if_neg (by rw [Bool.or_eq_true, not_or]; exact ⟨by simpa using hen, Bool.eq_false_iff.1 hup⟩)]
  refine ⟨_, rfl, rfl, ?_, ?_, ?_, ?_, ?_, ?_, fun g hg hseq => ?_⟩
  · simp [domainsReady, setDomains]
  · simp [domainsReady, setDomains]
  · have hmode := coreReset_mode { s with pwr := { s.pwr with resetN := false } }
    simp only [State.mode] at hmode
    simp only [State.mode, endSnapsTold_day, hmode, beq_iff_eq, domainsReady_pwr_on, setDomains_pwr_on]
    congr
  · simp
  · simp
  · simp
  · simp [domainsReady, setDomains, hseq, hg]

/-- The release of RESET_N with the rails of Dawn good. -/
theorem execResetNRelease_dawn {s : State} (hr : s.pwr.resetN = false) (hup : goingDown s = false) (h0 : groupGood s 0 = true)
    (h1 : groupGood s 1 = true) : ∃ t, execResetNRelease s = .next t ∧ t.mode = .M2 ∧ t.pwr.held = false ∧
      t.pwr.resetN = true ∧ t.pwr.on = 7 ∧ t.reg .PWR_RESET_CAUSE = 1 := by
  have hen : s.pwr.en ≠ 0 := by rintro h; simp [groupGood, h, bitAt] at h0
  let u := (coreReset { s with pwr := { s.pwr with resetN := true, held := false } }).setReg .PWR_RESET_CAUSE 1
  have hu : u.pwr = { s.pwr with resetN := true, held := false } := by simp [u]
  let v : State := { u with pwr := { u.pwr with byAt := 1, causeHeld := true } }
  have g0 : groupGood v 0 = true := by simpa only [groupGood, v, hu] using h0
  have g1 : groupGood v 1 = true := by simpa only [groupGood, v, hu] using h1
  have hexec : execResetNRelease s = .next (startDawn { v with pwr := { v.pwr with waking := false } }) := by
    have hdawn := toDawn_ready g0 g1
    rw [if_neg (by simp [v, hu])] at hdawn
    unfold execResetNRelease
    dsimp only
    rw [if_neg (by simp [hr]), if_neg (by exact Bool.eq_false_iff.1 hup), if_pos (by simpa using hen)]
    exact congrArg Host.Outcome.next hdawn
  obtain ⟨hmode, -, hon, -, hheld, hreset⟩ := startDawn_facts { v with pwr := { v.pwr with waking := false } }
  refine ⟨_, hexec, hmode, hheld, hreset.trans (congrArg Pwr.resetN hu), hon, ?_⟩
  rw [startDawn_reg _ _ _ (by decide)]
  show u.reg .PWR_RESET_CAUSE = 1
  exact setReg_reg_same ..

/-- Settles O15: wakes, the hold by RESET_N and its release by the lemmas above; the power failures by their guards. -/
theorem wakeResetAndPowerFailCommandsComplete : Obligations.WakeResetAndPowerFailCommandsComplete := by
  intro s
  refine ⟨fun hm hopen hpf hw hh hseq => ?wakeN, fun hshut => ?shut, fun hm hopen hpf hw hh hseq hbelow hat hreach => ?tai,
    fun h => ?noTai, fun hup hen => ?held, fun hf => ?flushEnds, fun hr hup h0 h1 => ?released, fun hv ha hup => ?failed,
    fun hv ha hdown => ?failedDown, fun hf hst => ?flushed, fun hf hd => ?cut, fun hw => ?idle, fun hw hup => ?woken,
    fun hw hdown => ?high⟩
  case wakeN =>
    exact congrArg Host.Outcome.next (wake_M1 (s := { s with pwr := { s.pwr with wakeN := false } }) hm hopen hpf hw hh hseq)
  case shut =>
    exact congrArg Host.Outcome.next (wake_shut (s := { s with pwr := { s.pwr with wakeN := false } }) hshut)
  case tai =>
    show execTaiWake s = _
    unfold execTaiWake
    rw [if_neg (by simp [hat, hbelow]; omega)]
    exact congrArg Host.Outcome.next
      (wake_M1 (s := { s with pwr := { s.pwr with belowWake := false } }) hm hopen hpf hw hh hseq)
  case noTai =>
    show execTaiWake s = _
    unfold execTaiWake
    rw [if_pos (by simpa [or_assoc] using h)]
  case held => exact execResetNAssert_held hup hen
  case flushEnds =>
    show execResetNAssert s = _
    simp [execResetNAssert, hf]
  case released => exact execResetNRelease_dawn hr hup h0 h1
  case failed =>
    show execPwrFailNAccepted s = _
    unfold execPwrFailNAccepted
    rw [if_neg (by simp [hv, ha])]
    dsimp only
    rw [if_neg (by simpa [goingDown] using hup)]
  case failedDown =>
    show execPwrFailNAccepted s = _
    unfold execPwrFailNAccepted
    rw [if_neg (by simp [hv, ha])]
    dsimp only
    rw [if_pos (by simpa [goingDown] using hdown)]
  case flushed =>
    have hstatus : (persistAll (programLog s)).reg .PWR_PLP_STATUS = 2 := (persistAll_reg _ _ _ (by decide)).trans hst
    show execPlpFlushComplete true s = _
    simp [execPlpFlushComplete, hf, endFlush, hstatus]
  case cut =>
    show execPlpFlushComplete false s = _
    simp [execPlpFlushComplete, hf, endFlush, hd]
  case idle =>
    show execPfDebounceExpiry s = _
    simp [execPfDebounceExpiry, hw]
  case woken =>
    show execPfDebounceExpiry s = _
    unfold execPfDebounceExpiry
    rw [if_neg (by simp [hw])]
    dsimp only
    rw [if_neg (by simp; exact hup)]
  case high =>
    show execPfDebounceExpiry s = _
    unfold execPfDebounceExpiry
    rw [if_neg (by simp [hw])]
    dsimp only
    rw [if_pos (by exact hdown)]

end Sys2Proof.Machine

namespace Sys2Proof.Machine

/-! ## Temperature, power and the domains (R43, R44, R62 to R64, R196) -/

/-! ### Readings -/

theorem toSigned_ofSigned {x : Int} (hlo : -128 ≤ x) (hhi : x ≤ 127) : toSigned 8 (ofSigned 8 x) = x := by
  have hb : ((ofSigned 8 x : Nat) : Int) = x % 256 := Int.toNat_of_nonneg (by omega)
  unfold toSigned
  dsimp only
  split <;> omega

theorem reportReadings_frame (rs : List Int) (s : State) :
    reportReadings rs s = { s with regs := (reportReadings rs s).regs } := by
  unfold reportReadings
  extract_lets old new seen u
  rfl

/-- A set of readings touches the registers and what power keeps of them. -/
theorem takeReadings_frame (rs : List Int) (s : State) :
    takeReadings rs s = { s with regs := (takeReadings rs s).regs, pwr := (takeReadings rs s).pwr } := by
  unfold takeReadings
  extract_lets xs u raw counts cool
  have hu : u = { s with regs := u.regs } := reportReadings_frame xs s
  clear_value counts cool raw u
  rw [hu]

/-- The eight readings with their offsets, as the registers hold them. -/
def reported (rs : List Int) (s : State) : List Nat := (List.range 8).map fun k => ofSigned 8 (rs.getD k 0 + monOffset s k)

/-- The highest of the reported readings. -/
def reportedMax (l : List Nat) : Int := (l.map (toSigned 8 ·)).foldl max ((l.map (toSigned 8 ·)).headD 0)

section
variable {a b c d e f g h : Int} {s : State} (hm : 2 ≤ s.mode.num)
include hm

/-- What the registers report of a full set of readings outside of Midnight and Small Hours. -/
theorem reportReadings_full :
    reportReadings [a, b, c, d, e, f, g, h] s =
      ((s.setReg .PWR_TEMP_MAX_C (ofSigned 8 (reportedMax (reported [a, b, c, d, e, f, g, h] s)))).setReg
        .PWR_TEMP_A (leNat ((reported [a, b, c, d, e, f, g, h] s).take 4))).setReg
        .PWR_TEMP_B (leNat ((reported [a, b, c, d, e, f, g, h] s).drop 4)) := by
  have hnum : ¬ s.mode.num ≤ 1 := by omega
  have hnew : ((List.range 8).map fun k => if k < [a, b, c, d, e, f, g, h].length
      then ofSigned 8 ([a, b, c, d, e, f, g, h].getD k 0 + monOffset s k)
      else (leBytes 8 (s.reg .PWR_TEMP_A + s.reg .PWR_TEMP_B * 2 ^ 32)).getD k 0) = reported [a, b, c, d, e, f, g, h] s :=
    List.map_congr_left fun k hk => if_pos (by simpa using hk)
  unfold reportReadings
  simp only [hnew, hnum, if_false]
  rfl

/-- What power keeps of a full set of readings. -/
theorem takeReadings_full_pwr :
    (takeReadings [a, b, c, d, e, f, g, h] s).pwr.raw = [a, b, c, d, e, f, g, h] ∧
      (takeReadings [a, b, c, d, e, f, g, h] s).pwr.tripCount =
        List.zipWith (fun n x => if (125 : Int) ≤ x then n + 1 else 0)
          ((List.range 8).map fun k => s.pwr.tripCount.getD k 0) [a, b, c, d, e, f, g, h] := by
  have hnum : ¬ s.mode.num ≤ 1 := by omega
  have hpwr : ∀ rs, (reportReadings rs s).pwr = s.pwr := fun rs => by rw [reportReadings_frame]
  unfold takeReadings
  simp only [hnum, if_false, hpwr]
  constructor
  · rfl
  · simp [List.range_succ]

theorem takeReadings_full_reg (p : Param) :
    (takeReadings [a, b, c, d, e, f, g, h] s).reg p = (reportReadings [a, b, c, d, e, f, g, h] s).reg p := by
  have hnum : ¬ s.mode.num ≤ 1 := by omega
  have hrs : (if s.mode.num ≤ 1 then [a, b, c, d, e, f, g, h].take 1 else [a, b, c, d, e, f, g, h].take 8) =
      [a, b, c, d, e, f, g, h] := by simp [hnum]
  unfold takeReadings
  rw [hrs]
  extract_lets _ u raw counts cool
  clear_value raw counts cool
  exact reg_of u _ rfl rfl p 0

end

/-! ### The trip and the window -/

theorem execTemperatureReading_some {rs : List Int} {s : State} (h : rs ≠ []) :
    exec (.temperatureReading rs) s = .next (judgeWindow (thermalTrip (takeReadings rs s))) := by
  show execTemperatureReading rs s = _
  unfold execTemperatureReading
  rw [if_neg (by simpa using h)]

/-- A reading within the tamper window quiets its source. -/
theorem judgeWindow_within {s : State} (hlo : toSigned 8 (s.reg .ALM_T_LO_C) ≤ s.pwr.raw.headD 0)
    (hhi : s.pwr.raw.headD 0 ≤ s.reg .ALM_T_HI_C) :
    judgeWindow s = { s with pwr := { s.pwr with tamperRun := 0 }, sec := { s.sec with srcNow := clearBit s.sec.srcNow 6 } } := by
  unfold judgeWindow
  dsimp only
  rw [if_neg (by simp only [Bool.or_eq_true, decide_eq_true_eq]; omega)]
  rfl

/-- Readings leave whether the block has tripped and where it goes. -/
theorem takeReadings_way (rs : List Int) (s : State) :
    (takeReadings rs s).pwr.tripped = s.pwr.tripped ∧ goingDown (takeReadings rs s) = goingDown s := by
  have hpwr : ∀ xs, (reportReadings xs s).pwr = s.pwr := fun xs => by rw [reportReadings_frame]
  unfold takeReadings goingDown
  dsimp only
  rw [hpwr]
  exact ⟨rfl, rfl⟩

theorem thermalTrip_third {s : State} (htrip : s.pwr.tripCount.any (3 ≤ ·) = true) (hnot : s.pwr.tripped = false)
    (hup : goingDown s = false) : thermalTrip s = powerFail 4 { raise 0x023 [] s with
      pwr := { (raise 0x023 [] s).pwr with tripped := true, needCool := true } } := by
  unfold thermalTrip
  rw [if_pos (by simp [htrip, hnot])]
  dsimp only
  rw [if_neg (by simpa [goingDown] using hup)]

/-- Settles O16: the readings register by register, the trip and the window by their guards, the domains by theirs. -/
theorem temperaturePowerAndDomainCommandsComplete : Obligations.TemperaturePowerAndDomainCommandsComplete := by
  intro s
  refine ⟨fun rs hrs htrip hlo hhi => ?within, fun a b c d e f g h hm => ?readings, fun rs hrs htrip hnot hup => ?tripped,
    fun hdis => ?disagree, fun core avg hm => ?power, fun core avg hm => ?trimmedPower, fun d hd hne hdec hidle => ?gated,
    fun hdec hr he => ?gated9, fun d hd hon hrails hdue => ?ready, fun hon hoff h0 hdue => ?lanes, fun d hoff => ?off⟩
  case within =>
    have hquiet : thermalTrip (takeReadings rs s) = takeReadings rs s := by simp [thermalTrip, htrip]
    refine ⟨_, _, ?_, rfl, rfl⟩
    rw [execTemperatureReading_some hrs, hquiet, judgeWindow_within hlo hhi]
  case readings =>
    obtain ⟨hraw, hcount⟩ := takeReadings_full_pwr (a := a) (b := b) (c := c) (d := d) (e := e) (f := f) (g := g) (h := h) hm
    refine ⟨takeReadings [a, b, c, d, e, f, g, h] s, rfl, takeReadings_frame .., hraw, hcount, ?_, ?_, fun huntrimmed hrange => ?_⟩
    · rw [takeReadings_full_reg hm, reportReadings_full hm]
      simp [setReg_reg, reported, List.range_succ]
    · rw [takeReadings_full_reg hm, reportReadings_full hm]
      simp [reported, List.range_succ]
    · rw [takeReadings_full_reg hm, reportReadings_full hm]
      have hoff : ∀ k, monOffset s k = 0 := by simp [monOffset, huntrimmed]
      have hback : ∀ x ∈ [a, b, c, d, e, f, g, h], toSigned 8 (ofSigned 8 x) = x := fun x hx =>
        toSigned_ofSigned (hrange x hx).1 (hrange x hx).2
      simp only [List.forall_mem_cons] at hback
      simp [setReg_reg, reported, reportedMax, List.range_succ, hoff, hback]
  case tripped =>
    refine ⟨_, _, ?_, rfl, rfl⟩
    obtain ⟨htripped, hway⟩ := takeReadings_way rs s
    rw [execTemperatureReading_some hrs, thermalTrip_third htrip (htripped.trans hnot) (hway.trans hup)]
  case disagree =>
    show execSensorDisagreement s = _
    unfold execSensorDisagreement
    dsimp only
    rw [if_pos hdis]
  case power =>
    show execPowerMeasurementUpdate core avg s = _
    simp only [execPowerMeasurementUpdate, sat_eq_min]
    simp [monPower, hm]
  case trimmedPower =>
    show execPowerMeasurementUpdate core avg s = _
    simp only [execPowerMeasurementUpdate, sat_eq_min]
    simp [monPower, hm]
  case gated =>
    show execDomainGated d s = _
    unfold execDomainGated
    rw [if_pos (by simp [hd, hdec, hidle])]
    simp [hne]
  case gated9 =>
    show execDomainGated 9 s = _
    unfold execDomainGated
    rw [if_pos (by simp [hdec, domainIdle, hr, he])]
    rfl
  case ready =>
    show execDomainOnComplete d s = _
    unfold execDomainOnComplete
    rw [if_pos (by simp [hd, hon, hrails])]
    dsimp only
    rw [if_neg (by simpa [Decidable.imp_iff_not_or] using hdue)]
  case lanes =>
    show execDomainOnComplete 7 s = _
    unfold execDomainOnComplete
    rw [if_pos (by simp [hon, railsGood, h0])]
    simp [hdue, switchOn, hoff, hon]
  case off =>
    show execDomainOnComplete d s = _
    simp [execDomainOnComplete, hoff]

end Sys2Proof.Machine

namespace Sys2Proof.Machine

/-! ## Modes (R70 to R73, R504) -/

/-- What the beginning of the drain leaves: M8 on the way to the target, the store and the clock as they were. -/
theorem startDrain_facts (m : Mode) (s : State) :
    (startDrain m s).mode = .M8 ∧ (startDrain m s).day.target = m ∧ (startDrain m s).day.drainFrom = s.now ∧
      (startDrain m s).kv = s.kv ∧ (startDrain m s).clk = s.clk := by
  simp [startDrain, State.mode, enterMode, State.now]

theorem noteLine_mode (v : Verb) (l : Line) (s : State) : (noteLine v l s).mode = s.mode := by simp [State.mode]

/-- A MODE.SET that passes its checks does what its target asks for. -/
theorem exec_modeSet {l : Line} {s : State} {m : Mode} {lv : Nat} (hp : passes (vModeSet l) l s = true)
    (hm : modeTarget (l.text "mode") = some (m, lv)) :
    exec (.modeSet l) s = .next (modeSet l m (noteLine (vModeSet l) l s)) := by
  refine congrArg Host.Outcome.next ((gate_run _ _ _ _ hp).trans ?_)
  rw [hm]

section
variable {l : Line} {s : State} {m : Mode} (hne : m ≠ s.mode)
include hne

/-- From Morning every other target begins the drain. -/
theorem modeSet_morning (hmode : s.mode = .M4) :
    modeSet l m s = startDrain m (reply l.route 1 [("mode", .w s.mode.text), ("target", .w m.text)] s) := by
  rw [hmode] at hne
  simp [modeSet, hmode, hne]

/-- In Evening the target alone changes, but for Morning. -/
theorem modeSet_evening (hmode : s.mode = .M8) (h4 : m ≠ .M4) :
    modeSet l m s = { reply l.route 1 [("mode", .w s.mode.text), ("target", .w m.text)] s with
      day := { (reply l.route 1 [("mode", .w s.mode.text), ("target", .w m.text)] s).day with target := m } } := by
  rw [hmode] at hne
  simp [modeSet, hmode, hne, h4]

/-- In Dusk a job that runs refuses the move or is aborted for it. -/
theorem modeSet_dusk {j : Nat} (hmode : s.mode = .M9) (hjob : runningJob s = some j) :
    modeSet l m s =
      if l.flag "abort" then
        { reply l.route 1 [("mode", .w s.mode.text), ("target", .w m.text)] s with
          day := { (reply l.route 1 [("mode", .w s.mode.text), ("target", .w m.text)] s).day with abortTo := some m } }
      else (reply l.route 202 [("job", .n j), ("ms", .n s.free)] s).tick := by
  rw [hmode] at hne
  simp [modeSet, hmode, hne, hjob]

end

/-- Settles O17: `modeSet` case by case of the mode it finds. -/
theorem modeVerbsComplete : Obligations.ModeVerbsComplete := by
  intro l s
  refine ⟨fun hp => ?shown, fun m lv hp hm => ?set⟩
  case shown =>
    refine congrArg Host.Outcome.next ((gate_run _ _ _ _ hp).trans ?_)
    simp only [done, noteLine_mode, noteLine_day, noteLine_reg]
  case set =>
    have hnote := noteLine_mode (vModeSet l) l s
    rw [exec_modeSet hp hm]
    generalize hu : noteLine (vModeSet l) l s = u at hnote
    have hday : u.day = s.day := by rw [← hu, noteLine_day]
    have hjob : runningJob u = runningJob s := by rw [runningJob, runningJob, hday]
    rw [← hnote, ← hjob]
    refine ⟨fun hsame => ?same, fun h4 hne => ?morning, fun h8 h4 hne => ?evening, fun j h9 hne hrun habort => ?refused,
      fun j h9 hne hrun habort => ?aborted⟩
    case same => simp [modeSet, hsame, done]
    case morning =>
      obtain ⟨hmode, htarget, hfrom, hkv, hclk⟩ := startDrain_facts m (reply l.route 1 [("mode", .w u.mode.text), ("target", .w m.text)] u)
      refine ⟨_, congrArg _ (modeSet_morning (by rwa [h4]) h4), hmode, htarget, ?_, ?_, ?_⟩
      · rw [hfrom]; simp [State.now, ← hu]
      · rw [hkv]; simp [← hu]
      · rw [hclk]; simp [← hu]
    case evening => rw [modeSet_evening (by rwa [h8]) h8 h4, reply_day, hday, h8]; rfl
    case refused =>
      refine ⟨_, congrArg _ ((modeSet_dusk (by rwa [h9]) h9 hrun).trans (if_neg (by simp [habort]))), ?_, ?_⟩
      · rw [← h9]; simp [State.mode]
      · rw [← hday]; simp
    case aborted =>
      refine ⟨_, congrArg _ ((modeSet_dusk (by rwa [h9]) h9 hrun).trans (if_pos habort)), ?_, rfl⟩
      rw [← h9]; simp [State.mode]

end Sys2Proof.Machine

namespace Sys2Proof.Machine

/-! ## Limited raises, gates of single registers -/

theorem raiseLimited_reg (id gap : Nat) (f : Nat → List (String × Val)) (s : State) (p : Param) (i : Nat)
    (h : p ≠ .EVT_LOG_LOST) : (raiseLimited id gap f s).reg p i = s.reg p i := by
  unfold raiseLimited
  split
  · split
    · rfl
    · exact raise_reg _ _ s p i h
  · exact raise_reg _ _ s p i h

/-- A write of one register that passes its checks is made. -/
theorem writeGate_run {r : Route} {level : Nat} {modes : List Mode} {s : State} (h : mayWrite r level modes s = true)
    (addr : Nat) (run : State → State) : writeGate r level addr modes run s = run s := by
  obtain ⟨hmode, hlevel⟩ := Bool.and_eq_true_iff.1 h
  unfold writeGate
  rw [if_neg (by simpa using hmode), if_neg (by simpa using hlevel)]

/-! ## The dirty limit (R86) -/

theorem recomputeLimit_reg (s : State) (p : Param) (i : Nat)
    (h : p ∉ [Param.EVT_LOG_LOST, .GOV_DIRTY_LIMIT_KIB, .GOV_PLP_BW]) : (recomputeLimit s).reg p i = s.reg p i := by
  simp only [List.mem_cons, List.not_mem_nil, or_false, not_or] at h
  obtain ⟨hlost, hlimit, hbw⟩ := h
  have hset : ∀ x v w : Nat, ∀ d, ({ (s.setReg .GOV_DIRTY_LIMIT_KIB v).setReg .GOV_PLP_BW w with day := d } : State).reg p i
      = s.reg p i := fun x v w d => by
    show ((s.setReg .GOV_DIRTY_LIMIT_KIB v).setReg .GOV_PLP_BW w).reg p i = _
    simp [setReg_reg, hlimit, hbw]
  unfold recomputeLimit
  dsimp only
  split <;> split <;> simp only [raise_reg _ _ _ _ _ hlost, raiseLimited_reg _ _ _ _ _ _ hlost, hset 0]

theorem dirtyMaxMoved_reg (s : State) (p : Param) (i : Nat)
    (h : p ∉ [Param.EVT_LOG_LOST, .GOV_DIRTY_LIMIT_KIB, .GOV_PLP_BW]) : (dirtyMaxMoved s).reg p i = s.reg p i := by
  unfold dirtyMaxMoved
  dsimp only
  split <;> exact recomputeLimit_reg s p i h

/-! ## A tick of the Almanac in which nothing asks for a move (R79 to R85) -/

/-- The state in which Morning is where the block stays: no demand, no pin, and Morning within the bounds. -/
structure Quiet (util : Nat) (s : State) : Prop where
  mode : s.mode = .M4
  notOver : isOver s = false
  pin : s.reg .GOV_PIN = 0
  min : s.reg .GOV_MODE_MIN ≤ 4
  max : 4 ≤ s.reg .GOV_MODE_MAX
  noQueue : queueDepth s = 0
  depth : 0 < s.reg .GOV_UP_QDEPTH
  util : util < 90
  noRerank : s.sweep.rerank = []
  noExact : s.sweep.exact = none

/-- Without demand the rule of R80 wants Morning again. -/
theorem Quiet.wantMode {util : Nat} {s : State} (h : Quiet util s) : wantMode 4 0 util s = (4, 0, 0, 0) := by
  have hdepth : s.reg .GOV_UP_QDEPTH ≠ 0 := by have := h.depth; omega
  have hutil : ¬ 90 ≤ util := by have := h.util; omega
  have hclamp : Max.max (s.reg .GOV_MODE_MIN) (Min.min (s.reg .GOV_MODE_MAX) 4) = 4 := by
    have := h.min; have := h.max; omega
  simp [Machine.wantMode, h.noQueue, h.pin, bitAt, hdepth, hutil, hclamp]

/-- A quiet tick of R80 ends the runs of ticks and moves nothing. -/
theorem Quiet.throttleTick {util : Nat} {s : State} (h : Quiet util s) :
    throttleTick 0 util s = Machine.notOver { s with day := { s.day with upTicks := 0, downTicks := 0 } } := by
  have hgrant : grantMode 4 4 (Machine.notOver { s with day := { s.day with upTicks := 0, downTicks := 0 } }) =
      (Machine.notOver { s with day := { s.day with upTicks := 0, downTicks := 0 } }, 4) := by
    simp [grantMode, Machine.notOver, h.noRerank, h.noExact]
  have hstay : (Machine.notOver { s with day := { s.day with upTicks := 0, downTicks := 0 } }).mode = .M4 := h.mode
  unfold Machine.throttleTick
  simp only [h.mode, Mode.num]
  simp [h.wantMode, h.notOver, chooseMode, hstay, Mode.num, hgrant]

/-- A quiet tick of the temperature leaves all but its flag, and what a raise touches. -/
theorem tempTick_keep {β : Type} (f : State → β) (hday : ∀ s b, f { s with day := { s.day with tempHi := b } } = f s)
    (hr : ∀ i k s, f (raise i k s) = f s) (s : State) : f (tempTick s) = f s := by
  unfold tempTick
  dsimp only
  split <;> simp [hday, hr]

theorem noteFree_keep {β : Type} (f : State → β)
    (hmem : ∀ s n, f { s with mem := { s.mem with freePermille := n } } = f s)
    (hday : ∀ s b, f { s with day := { s.day with gcHeld := b } } = f s)
    (hr : ∀ i k s, f (raise i k s) = f s) (n : Nat) (s : State) : f (noteFree n s) = f s := by
  unfold noteFree
  extract_lets _ u
  have hu : f u = f s := hmem s n
  clear_value u
  split
  · rw [hr, hday, hu]
  · split
    · rw [hday, hu]
    · exact hu

theorem gcTick_keep {β : Type} (f : State → β) (hset : ∀ s v, f (s.setReg .GOV_GC_SHARE_PCT v) = f s)
    (hr : ∀ i g k s, f (raiseLimited i g k s) = f s) (b : Bool) (s : State) : f (gcTick b s) = f s := by
  unfold gcTick
  dsimp only
  split <;> simp [hset, hr]

/-- What a tick of the Almanac notes before the rules of R80 and R85 are applied. -/
def tickNoted (util free : Nat) (hw : Bool) (s : State) : State :=
  tempTick (noteFree free ({ s with day := { s.day with
    idleTicks := if util < s.reg .GOV_MERGE_IDLE_PCT then s.day.idleTicks + 1 else 0
    hostWrites := hw } }.setReg .SWEEP_UTIL_PCT (min util 255)))

theorem exec_almanacTick {s : State} (h : s.inService = true) (due util free : Nat) (hw : Bool) :
    exec (.almanacTick due util free hw) s = .next (gcTick hw (throttleTick due util (tickNoted util free hw s))) := by
  show execAlmanacTick due util free hw s = _
  unfold execAlmanacTick
  rw [if_neg (by simp [h])]
  simp [tickNoted]

section
variable (util free : Nat) (hw : Bool) (s : State)

theorem tickNoted_keep {β : Type} (f : State → β)
    (hday : ∀ (s : State) (d : Day), f { s with day := { d with mode := s.day.mode } } = f s)
    (hmem : ∀ s n, f { s with mem := { s.mem with freePermille := n } } = f s)
    (hset : ∀ s v, f (s.setReg .SWEEP_UTIL_PCT v) = f s)
    (hr : ∀ i k s, f (raise i k s) = f s) : f (tickNoted util free hw s) = f s := by
  unfold tickNoted
  rw [tempTick_keep f (fun s b => hday s { s.day with tempHi := b }) hr,
    noteFree_keep f hmem (fun s b => hday s { s.day with gcHeld := b }) hr, hset]
  exact hday s { s.day with idleTicks := _, hostWrites := hw }

theorem tickNoted_reg {p : Param} (i : Nat) (hlost : p ≠ .EVT_LOG_LOST) (hutil : p ≠ .SWEEP_UTIL_PCT) :
    (tickNoted util free hw s).reg p i = s.reg p i :=
  tickNoted_keep util free hw s (·.reg p i) (fun _ _ => rfl) (fun _ _ => rfl)
    (fun _ _ => setReg_reg_other _ _ _ _ _ _ fun h => hutil h.1) fun _ _ _ => raise_reg _ _ _ _ _ hlost

@[simp] theorem tickNoted_mode : (tickNoted util free hw s).mode = s.mode :=
  tickNoted_keep util free hw s (·.mode) (fun _ _ => rfl) (fun _ _ => rfl) (fun _ _ => rfl) (by simp [State.mode])

@[simp] theorem tickNoted_pwr : (tickNoted util free hw s).pwr = s.pwr :=
  tickNoted_keep util free hw s (·.pwr) (fun _ _ => rfl) (fun _ _ => rfl) (fun _ _ => rfl) (by simp)

@[simp] theorem tickNoted_sweep : (tickNoted util free hw s).sweep = s.sweep :=
  tickNoted_keep util free hw s (·.sweep) (fun _ _ => rfl) (fun _ _ => rfl) (fun _ _ => rfl) (by simp)

@[simp] theorem tickNoted_colls : (tickNoted util free hw s).colls = s.colls :=
  tickNoted_keep util free hw s (·.colls) (fun _ _ => rfl) (fun _ _ => rfl) (fun _ _ => rfl) (by simp)

@[simp] theorem tickNoted_kv : (tickNoted util free hw s).kv = s.kv :=
  tickNoted_keep util free hw s (·.kv) (fun _ _ => rfl) (fun _ _ => rfl) (fun _ _ => rfl) (by simp)

theorem tickNoted_util : (tickNoted util free hw s).reg .SWEEP_UTIL_PCT = min util 255 := by
  unfold tickNoted
  rw [tempTick_keep (·.reg .SWEEP_UTIL_PCT) (fun _ _ => rfl) fun _ _ _ => raise_reg _ _ _ _ _ (by decide),
    noteFree_keep (·.reg .SWEEP_UTIL_PCT) (fun _ _ => rfl) (fun _ _ => rfl) fun _ _ _ => raise_reg _ _ _ _ _ (by decide)]
  exact setReg_reg_same _ _ _ _

theorem tickNoted_hostWrites : (tickNoted util free hw s).day.hostWrites = hw := by
  unfold tickNoted
  rw [tempTick_keep (·.day.hostWrites) (fun _ _ => rfl) (by simp),
    noteFree_keep (·.day.hostWrites) (fun _ _ => rfl) (fun _ _ => rfl) (by simp)]
  rfl

theorem tickNoted_quiet {util : Nat} {s : State} (h : Quiet util s) : Quiet util (tickNoted util free hw s) := by
  have hreg := fun p => @tickNoted_reg util free hw s p 0
  constructor
  case notOver =>
    rw [← h.notOver]
    unfold isOver overCap tempHot tempNow
    rw [hreg .GOV_PCAP_MW, hreg .PWR_P_CORE_MW, hreg .GOV_TEMP_HI_C, hreg .PWR_TEMP_MAX_C, tickNoted_pwr] <;> decide
  case noQueue => simpa [queueDepth] using h.noQueue
  all_goals simp [hreg, h.mode, h.pin, h.min, h.max, h.depth, h.util, h.noRerank, h.noExact]

end

/-- Settles O19: the quiet tick through `Quiet`, the rest by the guards of each command. -/
theorem almanacAndLimitWritesComplete : Obligations.AlmanacAndLimitWritesComplete := by
  intro s
  refine ⟨fun due util free hw hoff => ?idle, fun util hw hin hover hpin hmin hmax hq hdepth hutil hr he => ?quiet,
    fun hin hcorr hpin hmin => ?halves, fun hin hcorr hpin hq => ?counts, fun r v hw hv => ?holdupRange,
    fun r v u hw hv hns => ?holdup, fun r v hw hv => ?maxRange, fun r v hw hv => ?max⟩
  case idle =>
    show execAlmanacTick due util free hw s = _
    unfold execAlmanacTick
    rw [if_pos (by simp [hoff])]
  case quiet =>
    obtain ⟨hmode, hcore⟩ := Bool.and_eq_true_iff.1 hin
    have hmode : s.mode = .M4 := by simpa using hmode
    have hserve : s.inService = true := by simp [State.inService, hmode, Mode.num, hcore]
    have hquiet : Quiet util (tickNoted util s.mem.freePermille hw s) :=
      tickNoted_quiet _ _ ⟨hmode, hover, hpin, hmin, hmax, hq, hdepth, hutil, hr, he⟩
    have hgc := fun {β : Type} (f : State → β) h1 h2 u => gcTick_keep f h1 h2 hw u
    refine ⟨_, exec_almanacTick hserve .., ?_, ?_, ?_, ?_, ?_, ?_⟩
    all_goals rw [hquiet.throttleTick]
    · rw [hgc (·.mode) (by simp [State.mode]) (by simp [State.mode])]
      exact hquiet.mode
    · rw [hgc (·.day.upTicks) (by simp) (by simp)]
      rfl
    · rw [hgc (·.day.hostWrites) (by simp) (by simp)]
      exact tickNoted_hostWrites ..
    · rw [hgc (·.reg .SWEEP_UTIL_PCT) (by simp [setReg_reg]) fun _ _ _ _ => raiseLimited_reg _ _ _ _ _ _ (by decide)]
      exact (tickNoted_util ..).trans (by omega)
    · rw [hgc (·.colls) (by simp) (by simp)]
      exact tickNoted_colls ..
    · rw [hgc (·.kv.keys) (by simp) (by simp)]
      exact congrArg (·.keys) (tickNoted_kv ..)
  case halves =>
    show ∃ t, execScrubPeriodUpdate s = _ ∧ _
    have hpos : 0 < corrNow s := Nat.pos_of_ne_zero hcorr
    unfold execScrubPeriodUpdate
    rw [if_neg (by simp [hin])]
    simp only [hpin, hpos, Nat.max_eq_right hmin, Bool.false_eq_true, if_false, if_true]
    split
    case isTrue hsame => exact ⟨_, rfl, (beq_iff_eq.1 hsame).symm, rfl, rfl, rfl⟩
    case isFalse =>
      refine ⟨_, rfl, ?_, ?_, ?_, ?_⟩
      · exact (raiseLimited_reg _ _ _ _ _ _ (by decide)).trans (setReg_reg_same _ _ _ _)
      all_goals simp
  case counts =>
    show execScrubPeriodUpdate s = _
    unfold execScrubPeriodUpdate
    rw [if_neg (by simp [hin])]
    have hearly : ¬ 60 ≤ s.day.quietSecs + 1 := by omega
    simp [hcorr, hpin, hearly]
  case holdupRange =>
    refine congrArg Host.Outcome.next ((writeGate_run hw _ (holdupWrite r v)).trans ?_)
    exact if_pos hv
  case holdup =>
    refine congrArg Host.Outcome.next ((writeGate_run hw _ (holdupWrite r v)).trans ?_)
    simp [holdupWrite, Nat.not_lt.2 hv, hns, done]
  case maxRange =>
    refine congrArg Host.Outcome.next ((writeGate_run hw _ (dirtyMaxWrite r v)).trans ?_)
    exact if_pos hv
  case max =>
    refine ⟨_, congrArg Host.Outcome.next (writeGate_run hw _ (dirtyMaxWrite r v)), ?_⟩
    rw [dirtyMaxWrite, if_neg (Nat.not_lt.2 hv), done, reply_reg _ _ _ _ _ _ (by decide), dirtyMaxMoved_reg _ _ _ (by decide),
      setReg_reg_same]

end Sys2Proof.Machine

namespace Sys2Proof.Machine

/-! ## Breaks, losses, rates and notices (R102, R113, R116) -/

/-- With the line controller running and no forwarded line in progress the silence before a rate switch ends at once. -/
theorem endHush_now {s : State} (hruns : lineRuns s = true) (hfwd : s.line.fwdOpen = false) :
    endHush s = { s with out := s.out ++ (s.line.own ++ s.line.hushed)
                         line := { s.line with hush := false, own := [], hushed := [] } } := by
  have hsend : ∀ l : LineCtl, l.fwdOpen = false → flushOwn { s with line := l } =
      { s with out := s.out ++ l.own, line := { l with own := [] } } := fun l hl => by
    unfold flushOwn
    rw [if_neg (by simp [hl, show lineRuns { s with line := l } = true from hruns])]
  exact hsend _ hfwd

/-- The state that a break tells of: everything that a rate, a switch or a line in progress leaves is gone. -/
def broken (s : State) : State :=
  { s.setReg .LINE_BAUD 115200 with
    out := s.out ++ [.brk 500]
    line := { s.line.fresh with switchTo := none, prevRate := none, fwdOpen := false, fwdCR := false, lastCR := false } }

theorem breakActs_eq (s : State) : breakActs s = raise 0x3C8 [] (endHush (broken s)) := by
  unfold breakActs broken State.emit
  rfl

/-- The oldest notice of a route leaves by the route's way out. -/
theorem sendNotice_one {r : Route} {s : State} {n : Notice} {ns : List Notice} (hq : (s.route r).queue = n :: ns)
    (hlost : (s.route r).lost = 0) :
    sendNotice r s = (match r with | .tls c => tlsSend c | _ => ringSend) (.notice r n (ended (n.text (s.reg .LINE_ADDR))))
      (s.setRoute { s.route r with queue := ns, lost := 0 }) := by
  simp only [sendNotice, hq, hlost]
  cases r <;> rfl

/-- Behind the LOST line where notices were discarded. -/
theorem sendNotice_lost {s : State} {n : Notice} {ns : List Notice} (hq : (s.route .ring).queue = n :: ns)
    (hlost : (s.route .ring).lost ≠ 0) :
    sendNotice .ring s = raise 0x3CA [("count", .n (s.route .ring).lost)] (ringSend (.notice .ring n
      (ended (n.text (s.reg .LINE_ADDR)))) (ringSend (.lost .ring (s.route .ring).lost
        (ended (lostText (s.reg .LINE_ADDR) (s.route .ring).lost))) (s.setRoute { s.route .ring with queue := ns, lost := 0 }))) := by
  have hb : ((s.route .ring).lost == 0) = false := by simpa using hlost
  simp only [sendNotice, hq, hb]
  rfl

/-- Settles O21: every command of the ring by its guard, the break by the state that it tells of. -/
theorem ringBreakRateAndNoticeCommandsComplete : Obligations.RingBreakRateAndNoticeCommandsComplete := by
  intro s hruns
  refine ⟨fun hloss => ?received, ?breaks,
    endHush_now hruns, fun hloss => ?loss, fun hloss => ?again, fun hloss => ?restored, fun b hb => ?switched,
    fun hno => ?noSwitch, fun b hb => ?reverted, fun n ns hq hlost => ?ring, fun n ns hq hlost => ?ringLost,
    fun c n ns hc hq hlost => ?tls⟩
  case received =>
    show execBreakReceived s = _
    rw [execBreakReceived, if_pos (by simp [hruns, hloss])]
  case breaks =>
    have hbaud : (broken s).reg .LINE_BAUD = 115200 := setReg_reg_same s .LINE_BAUD 115200 0
    exact ⟨broken s, breakActs_eq s, hbaud, rfl, rfl, rfl, rfl, rfl, rfl, rfl, rfl⟩
  case loss =>
    show execReceiveLoss s = _
    rw [execReceiveLoss, if_pos (by simp [hruns, hloss])]
    rfl
  case again =>
    show execReceiveLossRepeat s = _
    rw [execReceiveLossRepeat, if_pos (by simp [hruns, hloss])]
    rfl
  case restored =>
    show execReceiveRestored s = _
    rw [execReceiveRestored, if_pos (by simp [hruns, hloss])]
  case switched =>
    show execLineRateSwitch s = _
    simp only [execLineRateSwitch, hb, hruns]
    rfl
  case noSwitch =>
    show execLineRateSwitch s = _
    rw [execLineRateSwitch, hno]
  case reverted =>
    show execRateRevert s = _
    simp only [execRateRevert, hb, hruns]
    rfl
  case ring =>
    show execNoticeSend .ring s = _
    simp only [execNoticeSend, hruns, if_true, sendNotice_one hq hlost]
  case ringLost =>
    show execNoticeSend .ring s = _
    simp only [execNoticeSend, hruns, if_true, sendNotice_lost hq hlost]
  case tls =>
    have hopen : (s.line.tlsConns.any (· == c)) = true := by simpa using hc
    show execNoticeSend (.tls c) s = _
    simp only [execNoticeSend, hopen, if_true, sendNotice_one hq hlost]

end Sys2Proof.Machine

namespace Sys2Proof.Machine

/-! ## A line that waits is checked and run (R98, R99, R123, R322) -/

section
variable {r : Route} {x : RxLine} {s : State}

theorem consumeLine_busy {p : String} (h : busyOn r s = some p) :
    consumeLine r x s = reply r 202 [("pending", .w p)] (noteConsumed r x s) := by
  simp only [consumeLine, h]

/-- A line in no form is answered with the code of its form; a checksum in error is told besides. -/
theorem consumeLine_malformed {code : Nat} {kv : List (String × Val)} (h : busyOn r s = none)
    (hx : lineForm x = .error (code, kv)) :
    consumeLine r x s = noteChecksum code kv (reply r code kv (noteConsumed r x s)) := by
  simp only [consumeLine, h, hx]

theorem consumeLine_unknown {p : Parsed} {sum : Bool} (h : busyOn r s = none) (hx : lineForm x = .ok (p, sum))
    (hv : verbNamed p.verb = none) : consumeLine r x s = reply r 101 [] (noteConsumed r x s) := by
  simp only [consumeLine, h, hx, hv]

theorem consumeLine_runs {p : Parsed} {sum : Bool} {run : Line → State → State} (h : busyOn r s = none)
    (hx : lineForm x = .ok (p, sum)) (hv : verbNamed p.verb = some run) :
    consumeLine r x s = run ⟨r, p.addr, sum, p.args⟩ s := by
  simp only [consumeLine, h, hx, hv]

end

/-- The lines that wait have no part in whether the ring is busy. -/
theorem busyOn_ready (s : State) (xs : List RxLine) : busyOn .ring { s with line := { s.line with ready := xs } } = busyOn .ring s :=
  rfl

/-- The oldest line of the ring leaves the queue of lines and is consumed. -/
theorem exec_ringLine {s : State} {x : RxLine} {rest : List RxLine} (hready : s.line.ready = x :: rest)
    (hruns : lineRuns s = true) :
    exec (.ibianLineReceived .ring) s = .next (consumeLine .ring x { s with line := { s.line with ready := rest } }) := by
  show execIbianLineReceived .ring s = _
  simp only [execIbianLineReceived, hready, hruns, if_true]

/-- A connection is busy only with a command of its own. -/
theorem busyOn_tls {s : State} {c : Nat} (h : (s.route (.tls c)).busy = none) : busyOn (.tls c) s = none := by
  simp only [busyOn, h]
  rfl

/-- A record of a connection whose epoch has room is counted before what it carries is done. -/
theorem takeTls_counted {c : Nat} {act : State → State} {s : State} {y : TlsConn} (hc : c ∈ s.line.tlsConns)
    (hy : s.net.tls.find? (fun y => y.num == c) = some y) (hroom : y.recvRecs + 1 < 2 ^ 23) :
    takeTls c act s = act (s.setTls { y with recvRecs := y.recvRecs + 1 }) := by
  have hopen : s.line.tlsConns.any (· == c) = true := by simpa using hc
  unfold takeTls
  simp only [hopen, hy]
  rw [if_neg (by simp), if_neg (by omega), if_neg (by simp; omega)]

theorem takeTls_uncounted {c : Nat} {act : State → State} {s : State} (hc : c ∈ s.line.tlsConns)
    (hy : s.net.tls.find? (fun y => y.num == c) = none) : takeTls c act s = act s := by
  have hopen : s.line.tlsConns.any (· == c) = true := by simpa using hc
  simp [takeTls, hopen, hy]

/-- Settles O22: the ring's oldest line and a connection's record by what `consumeLine` makes of them. -/
theorem aLineIsConsumedByItsVerb : Obligations.ALineIsConsumedByItsVerb := by
  intro s x rest hready hruns u
  have hbusy : busyOn .ring u = busyOn .ring s := busyOn_ready s rest
  rw [exec_ringLine hready hruns]
  refine ⟨fun p hp => ?busy, fun code kv hfree hform hcode => ?malformed, fun p sum hfree hform hv => ?unknown,
    fun p sum run hfree hform hv => ?runs, fun p sum run c t ht hc hfree hform hv => ⟨fun hy => ?uncounted, fun y hy hroom => ?counted⟩⟩
  case busy => exact congrArg _ (consumeLine_busy (hbusy.trans hp))
  case malformed =>
    rw [consumeLine_malformed (hbusy.trans hfree) hform]
    exact congrArg _ (if_pos (by simpa using hcode))
  case unknown => exact congrArg _ (consumeLine_unknown (hbusy.trans hfree) hform hv)
  case runs => exact congrArg _ (consumeLine_runs (hbusy.trans hfree) hform hv)
  case uncounted =>
    refine congrArg Host.Outcome.next ((takeTls_uncounted hc hy).trans ?_)
    exact (if_neg (by simpa using ht)).trans (consumeLine_runs (busyOn_tls hfree) hform hv)
  case counted =>
    refine congrArg Host.Outcome.next ((takeTls_counted hc hy hroom).trans ?_)
    exact (if_neg (by simpa using ht)).trans (consumeLine_runs (busyOn_tls hfree) hform hv)

end Sys2Proof.Machine

namespace Sys2Proof.Machine

/-! ## The ADDR, RING and LINE verbs (R102, R110, R111, R114 to R116, R118) -/

@[simp] theorem setAddr_line (n : Nat) (s : State) : (setAddr n s).line = s.line := by
  unfold setAddr
  split <;> simp

@[simp] theorem noteLine_upstream (v : Verb) (l : Line) (s : State) : (noteLine v l s).line.upstream = s.line.upstream := by
  unfold noteLine
  dsimp only
  split <;> rfl

theorem forwardRewritten_reg (verb : String) (l : Line) (s : State) (p : Param) (i : Nat) :
    (forwardRewritten verb l s).reg p i = s.reg p i := by
  unfold forwardRewritten
  dsimp only
  split
  · rfl
  · split <;> rfl

section
variable {l : Line} {s : State} {a : Nat} (hp : passes vAddrChain l s = true) (hb : asBroadcast l = true)
  (ha : l.int? "start" = some a) (hfree : s.reg .LINE_ADDR_LOCK = 0)
include hp hb ha hfree

/-- A chain gives the unit its address. -/
theorem doAddrChain_inRange (hr : a ≤ 62) :
    doAddrChain l s = reply l.route 0 [("addr", .n a)] { setAddr a (noteLine vAddrChain l s) with
      line := { (noteLine vAddrChain l s).line with upstream := if a = 0 then none else some (a - 1) } } := by
  have ha' : l.int? "start" = some (Int.ofNat a) := ha
  unfold doAddrChain
  rw [gate_run _ _ _ _ hp]
  simp [hb, ha', noteLine_reg, hfree, Nat.not_lt.2 hr, done]

/-- Above 62 it is left without one. -/
theorem doAddrChain_above (hr : 62 < a) :
    doAddrChain l s = reply l.route 103 [("arg", .w "start")] (setAddr 0 (noteLine vAddrChain l s)) := by
  have ha' : l.int? "start" = some (Int.ofNat a) := ha
  unfold doAddrChain
  rw [gate_run _ _ _ _ hp]
  simp [hb, ha', noteLine_reg, hfree, hr]

end

/-- A number that is none of the rates is well formed and out of range. -/
theorem checkArgs_lineRate {v : Text} {n : Nat} (hv : intVal v = some (Int.ofNat n)) (hn : n ∉ lineRates) :
    checkArgs vLineRate.args [⟨txt "baud", v, false⟩] = some (103, txt "baud") := by
  have hout : (lineRates.any fun m => (m : Int) == n) = false := by
    simp only [List.any_eq_false, beq_iff_eq, Int.natCast_inj]
    exact fun m hm h => hn (h ▸ hm)
  simp [checkArgs, vLineRate, firstBad, specOf, Form.wellFormed, Form.inRange, hv, hout]

/-- Settles O23: each verb past its gate. -/
theorem addressAndLineVerbsComplete : Obligations.AddressAndLineVerbsComplete := by
  intro l s
  refine ⟨fun a hr hall ha hfree => ?chain, fun hp hfree => ?addr, fun hp hlock => ?locked, fun hr hall hruns => ?probe,
    fun hp => ?rate, fun v n hv hn => checkArgs_lineRate hv hn, fun u hp hlock hns => ?pin, fun c hp hr => ?notices,
    fun hp => ?shown, fun a ha => if_neg (by simpa using ha)⟩
  case chain =>
    intro u hp
    have hb : asBroadcast l = true := by simp [asBroadcast, hr, hall]
    have hfree : u.reg .LINE_ADDR_LOCK = 0 := (forwardRewritten_reg ..).trans hfree
    refine ⟨_, rfl, fun hin => ?_, fun habove => ?_⟩
    · exact hr ▸ doAddrChain_inRange hp hb ha hfree hin
    · exact hr ▸ doAddrChain_above hp hb ha hfree habove
  case addr =>
    refine congrArg Host.Outcome.next ((gate_run _ _ _ _ hp).trans ?_)
    simp [noteLine_reg, hfree, done]
  case locked =>
    refine congrArg Host.Outcome.next ((gate_run _ _ _ _ hp).trans ?_)
    simp [noteLine_reg, hlock]
  case probe =>
    have hb : asBroadcast l = true := by simp [asBroadcast, hr, hall]
    refine congrArg Host.Outcome.next ?_
    simp [doRingProbe, forwardRewritten, hb, hruns]
  case rate => exact congrArg Host.Outcome.next (gate_run _ _ _ _ hp)
  case pin =>
    refine congrArg Host.Outcome.next ((gate_run _ _ _ _ hp).trans ?_)
    simp [hlock, hns, done]
  case notices =>
    refine congrArg Host.Outcome.next ((gate_run _ _ _ _ hp).trans ?_)
    simp [hr, done]
  case shown =>
    refine congrArg Host.Outcome.next ((gate_run _ _ _ _ hp).trans ?_)
    simp [noteLine_reg, noteLine_lockOf, done, lockLeft, State.now]

end Sys2Proof.Machine

namespace Sys2Proof.Machine

/-! ## The SYS verbs (R505, R506, R517) -/

theorem raise_sess_length (id : Nat) (kv : List (String × Val)) (s : State) : (raise id kv s).sess.length = s.sess.length := by
  rcases raiseWith_sess id ((evSeverity id).getD 0) kv false 1 s with e | ⟨r, e⟩
  · exact congrArg List.length e
  · exact (congrArg List.length e).trans (by simp)

/-- A line that passes its checks finds a mode of its verb. -/
theorem passes_mode {v : Verb} {l : Line} {s : State} (h : passes v l s = true) : s.lineMode ∈ v.modes := by
  simp only [passes, Bool.and_eq_true] at h
  obtain ⟨⟨⟨⟨⟨⟨-, hmode⟩, -⟩, -⟩, -⟩, -⟩, -⟩ := h
  simpa using hmode

/-- A unit whose lines are judged by a mode of service is not held in reset. -/
theorem notHeld_of_lineMode {s : State} (h2 : s.lineMode ≠ .M2) (h0 : s.lineMode ≠ .M0) : s.pwr.held = false := by
  refine eq_false_of_ne_true fun hheld => ?_
  unfold State.lineMode at h2 h0
  by_cases hfail : s.pwr.failing = true
  · simp [hfail] at h0
  · by_cases hm : s.mode = .M0
    · rw [if_neg hfail, if_neg (by simp [hm]), hm] at h0
      exact h0 (by split <;> rfl)
    · simp [hfail, hheld, hm] at h2

/-- A reset that finds the rails of Dawn good leads to Dawn at once, without sessions. -/
theorem resetToDawn_dawn {s : State} (cause by_ : Nat) (hheld : s.pwr.held = false) (h0 : groupGood s 0 = true)
    (h1 : groupGood s 1 = true) :
    (resetToDawn cause by_ s).mode = .M2 ∧ (resetToDawn cause by_ s).sess = [] ∧ (resetToDawn cause by_ s).pwr.on = 7 := by
  unfold resetToDawn
  dsimp only
  have hpwr : (coreReset s).pwr = s.pwr := coreReset_pwr s
  have hsess : (coreReset s).sess = [] := coreReset_sess s
  generalize coreReset s = c at hpwr hsess
  let v : State := { c.setReg .PWR_RESET_CAUSE cause with
    pwr := { (c.setReg .PWR_RESET_CAUSE cause).pwr with byAt := by_, failing := false } }
  have hdawn : toDawn v = startDawn { v with pwr := { v.pwr with waking := false } } := by
    rw [toDawn_ready (by simpa [groupGood, v, hpwr] using h0) (by simpa [groupGood, v, hpwr] using h1)]
    exact if_neg (by simp [v, hpwr, hheld])
  show (endSnapsTold _ (toDawn v)).mode = _ ∧ (endSnapsTold _ (toDawn v)).sess = _ ∧ (endSnapsTold _ (toDawn v)).pwr.on = _
  rw [hdawn]
  obtain ⟨hmode, -, hon, -⟩ := startDawn_facts { v with pwr := { v.pwr with waking := false } }
  refine ⟨?_, ?_, ?_⟩
  · simpa [State.mode] using hmode
  · refine endSnapsTold_sess_nil _ (List.length_eq_zero_iff.1 ?_)
    rw [startDawn_keep (·.sess.length) (fun _ _ => rfl) (fun _ _ => rfl) (fun _ => rfl) raise_sess_length]
    exact congrArg List.length hsess
  · simpa using hon

/-- Settles O25: each verb past its gate; a reset through the way to Dawn. -/
theorem sysVerbsComplete : Obligations.SysVerbsComplete := by
  intro l s
  refine ⟨fun hp => ?status, fun hm => ?early, fun hp => ?reset, fun hp h0 h1 => ?dawn, fun hp => ?diag⟩
  case status => exact congrArg Host.Outcome.next (gate_run _ _ _ _ hp)
  case early =>
    unfold statusFields
    dsimp only
    exact if_pos (by rcases hm with h | h | h <;> simp [h, Mode.num])
  case reset => exact congrArg Host.Outcome.next (gate_run _ _ _ _ hp)
  case dawn =>
    have hmodes := passes_mode hp
    simp only [vSysReset, List.mem_cons, List.not_mem_nil, or_false] at hmodes
    have hheld := notHeld_of_lineMode (s := s) (by rcases hmodes with h | h <;> simp [h]) (by rcases hmodes with h | h <;> simp [h])
    refine ⟨_, congrArg Host.Outcome.next (gate_run _ _ _ _ hp), ?_⟩
    exact resetToDawn_dawn 1 2 (by simpa [done] using hheld) (by simpa [done, groupGood] using h0)
      (by simpa [done, groupGood] using h1)
  case diag => exact ⟨_, congrArg Host.Outcome.next (gate_run _ _ _ _ hp)⟩

end Sys2Proof.Machine

namespace Sys2Proof.Machine

/-! ## The loop die by itself (R130 to R142, R160 to R177) -/

/-- A loop die that is fitted and has started runs. -/
theorem onLoop_run {s : State} (hfit : s.noLoop = false) (hstart : s.loop.started = true) (run : State → State) :
    onLoop run s = run s := by
  simp [onLoop, hfit, hstart]

@[simp] theorem Loop.setReg_reg_same (l : Loop) (p : Param) (v i : Nat) : (l.setReg p v i).reg p i = v :=
  cellsGet_set_same _ _ _ _ _

theorem Loop.setReg_reg_other (l : Loop) (p q : Param) (v i j : Nat) (h : ¬(q = p ∧ j = i)) :
    (l.setReg p v i).reg q j = l.reg q j :=
  congrArg (·.getD q.info.reset) (cellsGet_set_other l.regs p.info.reset p q i j v h)

/-- An event of the loop die keeps what neither the novelty bits nor the latched events are part of. -/
theorem ldRaise_keep {β : Type} (f : Loop → β) (h : ∀ l a b, f { l with hart := a, latched := b } = f l) (id : Nat)
    (kv : List (String × Val)) (s : State) : f (ldRaise id kv s).loop = f s.loop := by
  obtain ⟨a, b, hloop⟩ := ldRaise_loop id kv s
  rw [hloop, h]

/-! ### Fixed current -/

/-- The pending readings go, and the fields stand. -/
theorem dropPending_loop (s : State) :
    (dropPending s).loop.pend4 = none ∧ (dropPending s).loop.pend20 = none ∧ (dropPending s).loop.regs = s.loop.regs := by
  have hkeep := fun {β : Type} (f : Loop → β) h id kv s => ldRaise_keep f h id kv s
  have hfirst : ∀ u : State, (if u.loop.pend4.isSome then
      ldRaise 0x3A7 [("point", .n 4)] (u.setLoop { u.loop with pend4 := none }) else u).loop.pend4 = none ∧
      (if u.loop.pend4.isSome then
        ldRaise 0x3A7 [("point", .n 4)] (u.setLoop { u.loop with pend4 := none }) else u).loop.regs = u.loop.regs := fun u => by
    split
    · exact ⟨hkeep (·.pend4) (fun _ _ _ => rfl) .., hkeep (·.regs) (fun _ _ _ => rfl) ..⟩
    · next h => exact ⟨by simpa using h, rfl⟩
  obtain ⟨h4, hregs⟩ := hfirst s
  unfold dropPending
  dsimp only
  generalize (if s.loop.pend4.isSome then
      ldRaise 0x3A7 [("point", .n 4)] (s.setLoop { s.loop with pend4 := none }) else s) = u at h4 hregs
  split
  · refine ⟨?_, hkeep (·.pend20) (fun _ _ _ => rfl) .., ?_⟩
    · exact (hkeep (·.pend4) (fun _ _ _ => rfl) ..).trans h4
    · exact (hkeep (·.regs) (fun _ _ _ => rfl) ..).trans hregs
  · next h => exact ⟨h4, by simpa using h, hregs⟩

/-- The end of fixed current. -/
theorem setFixed_ends {s : State} (h : s.loop.reg .ISL_FIX_UA ≠ 0) :
    setFixed 0 s = dropPending (ldRaise 0x386 [("ma", .n 0)] (s.setLoop (s.loop.setReg .ISL_FIX_UA 0))) := by
  have hold : (s.loop.reg .ISL_FIX_UA != 0) = true := by simpa using h
  simp [setFixed, hold]

/-- Settles O28: each cause and departure by its guard. -/
theorem loopCurrentCommandsComplete : Obligations.LoopCurrentCommandsComplete := by
  intro s hfit hstart
  have hrun := onLoop_run hfit hstart
  refine ⟨fun hup hsrc hvalid => ?localTimeout, fun hup hsrc hnan => ?mainTimeout, fun hup => ?upAlready, fun hvalid => ?holdMax,
    fun hvalid => ?holdNot, fun hhold => ?faultFail, fun hhold => ?faultNot, congrArg _ (hrun _), fun hfix htime => ?fixed,
    fun t later hdep hoff hdue => ?departs, fun later h => ?noDeparture, fun t later hoff hearly => ?early,
    fun hdep hoff hlink => ?returns⟩
  case localTimeout =>
    refine congrArg Host.Outcome.next ((hrun _).trans ?_)
    simp [hup, hsrc, hvalid]
  case mainTimeout =>
    refine congrArg Host.Outcome.next ((hrun _).trans ?_)
    simp [hup, hsrc, hnan]
  case upAlready =>
    refine congrArg Host.Outcome.next ((hrun _).trans ?_)
    simp [hup]
  case holdMax =>
    refine congrArg Host.Outcome.next ((hrun _).trans ?_)
    simp [hvalid]
  case holdNot =>
    refine congrArg Host.Outcome.next ((hrun _).trans ?_)
    simp [hvalid]
  case faultFail =>
    refine congrArg Host.Outcome.next ((hrun _).trans ?_)
    simp [hhold]
  case faultNot =>
    refine congrArg Host.Outcome.next ((hrun _).trans ?_)
    simp [hhold]
  case fixed =>
    refine ⟨congrArg Host.Outcome.next ((hrun _).trans ?_), ?_⟩
    · simp [hfix, htime]
    · obtain ⟨h4, h20, hregs⟩ := dropPending_loop (ldRaise 0x386 [("ma", .n 0)] (s.setLoop (s.loop.setReg .ISL_FIX_UA 0)))
      rw [setFixed_ends hfix]
      refine ⟨?_, h4, h20⟩
      rw [Loop.reg, hregs, ldRaise_keep (·.regs) fun _ _ _ => rfl]
      exact Loop.setReg_reg_same ..
  case departs =>
    refine congrArg Host.Outcome.next ((hrun _).trans ?_)
    simp [hdep, hoff, hdue]
  case noDeparture =>
    refine congrArg Host.Outcome.next ((hrun _).trans ?_)
    rcases h with hdep | hoff
    · simp [hdep]
    · simp [hoff]
  case early =>
    refine congrArg Host.Outcome.next ((hrun _).trans ?_)
    simp [hoff, hearly]
  case returns => simp [noteDeparture, hoff, hdep, hlink]

end Sys2Proof.Machine

namespace Sys2Proof.Machine

/-! ## The front end (R41, R130, R147, R160, R162, R168, R170) -/

/-- What numbers and times the outputs of a loop die. -/
def Loop.numbering (l : Loop) : Nat × Nat × Nat × Nat × Nat × Bool × List Sample :=
  (l.fe.outN, l.fe.valid, l.tick, l.recN, l.src, l.loopOk, l.buf)

theorem ldRaise_numbering (id : Nat) (kv : List (String × Val)) (s : State) :
    (ldRaise id kv s).loop.numbering = s.loop.numbering := ldRaise_keep _ (fun _ _ _ => rfl) id kv s

theorem evalLoop_numbering (s : State) : (evalLoop s).loop.numbering = s.loop.numbering := by
  obtain ⟨told, h, es, hloop⟩ := evalLoop_loop s
  rw [hloop]
  rfl

/-- The judgement of the faults numbers nothing. -/
theorem judgeFaults_numbering (conds : List (Nat × Nat × Bool)) (s : State) :
    (judgeFaults conds s).loop.numbering = s.loop.numbering := by
  have hheld : ∀ u : State, (if u.loop.pvFault then u else u.setFe { u.loop.fe with holdFail := false }).loop.numbering =
      u.loop.numbering := fun u => by split <;> rfl
  unfold judgeFaults
  refine (hheld _).trans ((foldl_keep (·.loop.numbering) _ (fun u f => ?_) _ _).trans rfl)
  dsimp only
  split
  · exact ldRaise_numbering ..
  · split
    · exact ldRaise_numbering ..
    · rfl

theorem pvOutput_numbering (valid : Bool) (pv : F32) (s : State) : (pvOutput valid pv s).loop.numbering = s.loop.numbering := by
  unfold pvOutput
  extract_lets l isLocal x ok
  refine (evalLoop_numbering _).trans ?_
  split <;> rfl

theorem noteDeparture_numbering (s : State) : (noteDeparture s).loop.numbering = s.loop.numbering := by
  unfold noteDeparture
  dsimp only
  split
  · rfl
  · split <;> rfl

theorem Loop.setReg_numbering (l : Loop) (p : Param) (v i : Nat) : (l.setReg p v i).numbering = l.numbering := rfl

/-- What an output measures leaves the numbering alone, but for the state of the loop. -/
theorem measured_numbering (l : Loop) (x : FeInput) (m : IQ) :
    (l.measured x m).numbering = { l with loopOk := x.loopOk }.numbering := by
  have hset : ∀ k : Loop, ∀ ms, k.numbering = l.numbering →
      { k with loopOk := x.loopOk, fe := { k.fe with meas16 := ms } }.numbering = { l with loopOk := x.loopOk }.numbering := by
    intro k ms h
    simp only [Loop.numbering, Prod.mk.injEq] at h ⊢
    obtain ⟨h1, h2, h3, h4, h5, -, h7⟩ := h
    exact ⟨h1, h2, h3, h4, h5, trivial, h7⟩
  unfold Loop.measured
  exact hset _ _ (by simp only [Loop.setReg_numbering])

theorem Loop.setReg_supp {q : Param} (l : Loop) (v : Nat) (h : q ∉ [Param.FE_FILT, .FE_IIR_MS, .FE_RATE]) :
    (l.setReg q v).supp = l.supp := by
  simp only [List.mem_cons, List.not_mem_nil, or_false, not_or] at h
  obtain ⟨h1, h2, h3⟩ := h
  simp [Loop.supp, Loop.setReg_reg_other, Ne.symm h1, Ne.symm h2, Ne.symm h3]

theorem measured_supp (l : Loop) (x : FeInput) (m : IQ) : (l.measured x m).supp = l.supp := by
  have hset : ∀ k : Loop, ∀ ok fe, ({ k with loopOk := ok, fe := fe } : Loop).supp = k.supp := fun k ok fe => rfl
  unfold Loop.measured
  refine (hset _ _ _).trans ?_
  rw [Loop.setReg_supp _ _ (by decide), Loop.setReg_supp _ _ (by decide), Loop.setReg_supp _ _ (by decide),
    Loop.setReg_supp _ _ (by decide)]

/-- The results of an output leave the whole of it. -/
theorem report_numbering (l : Loop) (r q rf ru : F32) (b e : IQ) :
    ((l.report r q rf ru).reportAux b e).numbering = l.numbering := by
  unfold Loop.reportAux Loop.report
  split <;> simp only [Loop.setReg_numbering]

/-- Telling an output, and mapping it to the loop current, numbers nothing. -/
theorem toldOutput_numbering (first valid : Bool) (pv : F32) (id : Nat) (kv : List (String × Val))
    (conds : List (Nat × Nat × Bool)) (s : State) :
    (noteDeparture (pvOutput valid pv (judgeFaults conds (if first then ldRaise id kv s else s)))).loop.numbering =
      s.loop.numbering := by
  rw [noteDeparture_numbering, pvOutput_numbering, judgeFaults_numbering]
  split
  · exact ldRaise_numbering ..
  · rfl

/-- One output of the front end: it is numbered and takes its time, and before S outputs none is valid. -/
theorem feOutput_numbering (x : FeInput) (s : State) : ∃ valid, (feOutput x s).loop.numbering =
    (s.loop.fe.outN + 1, valid, s.loop.tick + x.elapsed, if s.loop.reg .ISL_REC_DIV = 0 then 0 else s.loop.recN + 1,
      s.loop.reg .ISL_PV_SRC, x.loopOk, s.loop.buf) ∧ (s.loop.fe.outN < s.loop.supp → valid = s.loop.fe.valid) := by
  unfold feOutput
  extract_lets l mode ga gb n fe0 recN
  rcases l.pathOut 0 0 l.fe.pathE x.e with ⟨e, pe⟩
  rcases l.pathOut 1 ga l.fe.pathA x.a with ⟨a, pa⟩
  rcases l.pathOut 2 0 l.fe.pathM x.m with ⟨m, pm⟩
  rcases l.pathOut 3 gb l.fe.pathB x.b with ⟨b, pb⟩
  dsimp -zeta only
  extract_lets fe l1 rf ru pv settled valid first l2 rec_ fe2 fe3 s1 s2 s3
  have hmeasured : l1.numbering = (n, l.fe.valid, l.tick + x.elapsed, recN, l.reg .ISL_PV_SRC, x.loopOk, l.buf) :=
    measured_numbering _ x m
  have hreported : l2.numbering = l1.numbering := by
    unfold l2
    split
    · exact report_numbering ..
    · rfl
  have hsupp : l1.supp = l.supp := measured_supp _ x m
  have hnumbers := hreported.trans hmeasured
  simp only [Loop.numbering, Prod.mk.injEq] at hnumbers
  obtain ⟨hn, hv, ht, hr, hs, ho, hb⟩ := hnumbers
  refine ⟨if valid then l2.fe.valid + 1 else l2.fe.valid, (toldOutput_numbering ..).trans ?_, fun hearly => ?_⟩
  · show (l2.fe.outN, (if valid then l2.fe.valid + 1 else l2.fe.valid), l2.tick, l2.recN, l2.src, l2.loopOk, l2.buf) = _
    rw [hn, ht, hr, hs, ho, hb]
    simp [n, recN, l]
  · have hunsettled : ¬ settled := by
      show ¬ l1.supp < l.fe.outN + 1
      rw [hsupp]
      exact Nat.not_lt.2 hearly
    simp [valid, hunsettled, hv, l]

/-! ### Recorded samples and synchronising resets -/

/-- A synchronising reset that a sync asks for begins the numbering anew and gives the trim its phase reference back. -/
theorem syncNow_loop (s : State) : (syncNow s).loop.fe.outN = 0 ∧ (syncNow s).loop.fe.valid = 0 ∧ (syncNow s).loop.synced = true := by
  have hreset : ∀ u : State, (syncReset 1 u).loop.fe.outN = 0 ∧ (syncReset 1 u).loop.fe.valid = 0 ∧
      (syncReset 1 u).loop.synced = u.loop.synced := fun u => by
    unfold syncReset
    refine ⟨?_, ?_, ?_⟩
    · exact ldRaise_keep (·.fe.outN) (fun _ _ _ => rfl) ..
    · exact ldRaise_keep (·.fe.valid) (fun _ _ _ => rfl) ..
    · exact ldRaise_keep (·.synced) (fun _ _ _ => rfl) ..
  exact hreset _

theorem syncNow_clk (s : State) : (syncNow s).clk = s.clk := by simp [syncNow, syncReset]

/-- The governor tells of its limit and leaves the loop die but for its events. -/
theorem toldLimit_keep (lim was : Bool) (kv : List (String × Val)) (u : State) :
    ∃ t, (if lim && !was then ldRaise 0x393 kv u else if was && !lim then ldRaise 0x394 [] u else u) = t ∧
      t.freeCtr = u.freeCtr ∧ t.loop.fe = u.loop.fe ∧ t.loop.regs = u.loop.regs := by
  refine ⟨_, rfl, ?_⟩
  split
  · exact ⟨by simp, ldRaise_keep (·.fe) (fun _ _ _ => rfl) .., ldRaise_keep (·.regs) (fun _ _ _ => rfl) ..⟩
  · split
    · exact ⟨by simp, ldRaise_keep (·.fe) (fun _ _ _ => rfl) .., ldRaise_keep (·.regs) (fun _ _ _ => rfl) ..⟩
    · exact ⟨rfl, rfl, rfl⟩

/-- The draw is measured, and the amplitude in force waits for its zero crossing. -/
theorem drawUpdate_facts (d e : Nat) (s : State) :
    (drawUpdate d e s).loop.fe.aNow = s.loop.fe.aNow ∧ (drawUpdate d e s).loop.reg .ISL_DRAW_UA =
      F.roundSat (F.mul (F.ofNat d) s.loop.otp.drawGain) 65535 ∧ (drawUpdate d e s).freeCtr = s.freeCtr + 1 := by
  unfold drawUpdate
  extract_lets l ua other allow aSet was
  rcases governor aSet l.fe.aNow e allow l.fe.limited s.free with ⟨a, lim, need⟩
  dsimp -zeta only
  extract_lets fe u
  obtain ⟨t, ht, hfree, hfe, hregs⟩ := toldLimit_keep lim was [("allow", .i allow), ("need", .i need)] u
  rw [ht]
  refine ⟨congrArg (·.aNow) hfe, ?_, hfree⟩
  rw [Loop.reg, hregs]
  exact Loop.setReg_reg_same ..

/-- A recorded sample is taken once the divisor is reached, and displaces the oldest of 512. -/
theorem takeSample_facts (s : State) : (takeSample s).loop.recN = 0 ∧ (takeSample s).loop.seq32 = s.loop.seq32 + 1 ∧
    (takeSample s).loop.buf = (if 512 ≤ s.loop.buf.length then s.loop.buf.drop 1 else s.loop.buf) ++ [s.loop.sample] ∧
    (takeSample s).loop.displaced = if 512 ≤ s.loop.buf.length then s.loop.displaced + 1 else s.loop.displaced := by
  have hsent : ∀ u : State, ∀ b, (if u.bridge.link == 2 then { u with bridge := b } else u).loop = u.loop := fun u b => by
    split <;> rfl
  unfold takeSample
  extract_lets l x full buf u
  rw [hsent]
  exact ⟨rfl, rfl, rfl, rfl⟩

/-- Settles O30: each command by its guard, an output by its numbering. -/
theorem frontEndCommandsComplete : Obligations.FrontEndCommandsComplete := by
  intro s hfit hstart
  have hrun := onLoop_run hfit hstart
  refine ⟨fun d e => ?draw, fun a ha => ?amplitude, fun ha => ?noAmplitude, fun x => ?output, fun hdiv hdue => ?sample,
    fun hearly => ?noSample, fun at_ hat hdue hlink => ?sync, fun at_ hat hearly => ?noSync⟩
  case draw =>
    exact ⟨_, congrArg Host.Outcome.next (hrun _), drawUpdate_facts d e s⟩
  case amplitude =>
    refine congrArg Host.Outcome.next ((hrun _).trans ?_)
    simp [ha]
  case noAmplitude =>
    refine congrArg Host.Outcome.next ((hrun _).trans ?_)
    simp [ha]
  case output =>
    obtain ⟨valid, hnumbers, hearly⟩ := feOutput_numbering x s
    simp only [Loop.numbering, Prod.mk.injEq] at hnumbers
    obtain ⟨hn, hv, ht, hr, hs, ho, hb⟩ := hnumbers
    exact ⟨_, congrArg Host.Outcome.next (hrun _), hn, ht, hb, hr, hs, ho, fun h => hv.trans (hearly h)⟩
  case sample =>
    have hexec : exec .recordedSampleTaken s = .next (takeSample s) := by
      refine congrArg Host.Outcome.next ((hrun _).trans ?_)
      simp [hdiv, Nat.not_lt.2 hdue]
    obtain ⟨hrec, hseq, hbuf, hdisp⟩ := takeSample_facts s
    refine ⟨_, hexec, hrec, hseq, fun hroom => ?_, fun hfull => ?_⟩
    · rw [hbuf, hdisp, if_neg (Nat.not_le.2 hroom), if_neg (Nat.not_le.2 hroom)]
      exact ⟨rfl, rfl⟩
    · rw [hbuf, hdisp, if_pos hfull, if_pos hfull]
      exact ⟨rfl, rfl⟩
  case noSample =>
    refine congrArg Host.Outcome.next ((hrun _).trans ?_)
    simp [hearly]
  case sync =>
    have hexec : exec .scheduledSyncFire s =
        .next (syncNow (raise 0x0C8 [("late", .n (s.clk.tai - at_))] { s with clk := { s.clk with syncAt := none } })) := by
      show execScheduledSyncFire s = _
      unfold execScheduledSyncFire
      rw [hat]
      dsimp only
      rw [if_neg (by simp [hlink, hfit, hstart, Nat.not_lt.2 hdue])]
    obtain ⟨hn, hv, hsync⟩ := syncNow_loop (raise 0x0C8 [("late", .n (s.clk.tai - at_))] { s with clk := { s.clk with syncAt := none } })
    refine ⟨_, hexec, rfl, ?_, hn, hsync, hv⟩
    rw [syncNow_clk, raise_clk]
  case noSync =>
    show execScheduledSyncFire s = _
    simp [execScheduledSyncFire, hat, hearly]

end Sys2Proof.Machine

namespace Sys2Proof.Machine

/-! ## The bridge (R16, R37, R41, R143, R144, R146) -/

@[simp] theorem lateReply_bridge (r : Route) (c : Nat) (kv : List (String × Val)) (s : State) :
    (lateReply r c kv s).bridge = s.bridge := by
  unfold lateReply; split <;> simp [freeBusy]; split <;> simp

@[simp] theorem answerUnit_bridge (r : Option Route) (c : Nat) (kv : List (String × Val)) (s : State) :
    (answerUnit r c kv s).bridge = s.bridge := by cases r <;> simp [answerUnit]

@[simp] theorem failUnits_bridge (s : State) : (failUnits s).bridge = { s.bridge with units := [] } := by
  unfold failUnits
  exact foldl_keep (·.bridge) _ (fun s u => answerUnit_bridge ..) _ _

theorem cancelSync_syncAt (s : State) : (cancelSync s).clk.syncAt = none := by
  unfold cancelSync
  split
  · assumption
  · simp

/-- The core-die end of a bridge that was not down: what waited is gone, and the mirror stands. -/
theorem coreEndLost_facts {s : State} (h : s.bridge.link ≠ 0) :
    (coreEndLost s).bridge.link = 0 ∧ (coreEndLost s).bridge.units = [] ∧ (coreEndLost s).clk.syncAt = none ∧
      (coreEndLost s).bridge.mirror = s.bridge.mirror := by
  have hclk : ∀ u, (coreEndDown u).clk.syncAt = none := fun u => cancelSync_syncAt _
  unfold coreEndLost
  rw [if_neg (by simpa using h)]
  dsimp only
  simp only [raise_bridge, raise_clk, hclk]
  simp [coreEndDown]

/-- The end of a novelty bit keeps the rest of the loop die but for its events. -/
theorem clearNovelty_keep {β : Type} (f : Loop → β) (h : ∀ l a b, f { l with hart := a, latched := b } = f l) (w why : Nat)
    (s : State) : f (clearNovelty w why s).loop = f s.loop := by
  unfold clearNovelty
  split
  · exact (ldRaise_keep f h ..).trans (h s.loop _ s.loop.latched)
  · rfl

/-- The loop-die end of a bridge that it saw: the phase reference goes. -/
theorem loopEndLost_facts {s : State} (h : s.loop.link = true) :
    (loopEndLost s).loop.link = false ∧ (loopEndLost s).loop.synced = false ∧ (loopEndLost s).loop.freqOk = false := by
  have hkeep := fun {β : Type} (f : Loop → β) hf u =>
    foldl_keep (fun s => f s.loop) (fun s w => clearNovelty w 3 s) (fun s w => clearNovelty_keep f hf w 3 s) (List.range 8) u
  unfold loopEndLost
  rw [if_neg (by simp [h])]
  exact ⟨hkeep (·.link) (fun _ _ _ => rfl) _, hkeep (·.synced) (fun _ _ _ => rfl) _, hkeep (·.freqOk) (fun _ _ _ => rfl) _⟩

/-- A raise keeps what of the loop die is no novelty bit. -/
theorem raiseWith_loop_keep {β : Type} (f : Loop → β) (h : ∀ l a, f { l with hart := a } = f l) (id sev : Nat)
    (kv : List (String × Val)) (late : Bool) (n : Nat) (s : State) : f (raiseWith id sev kv late n s).loop = f s.loop := by
  obtain ⟨a, hloop⟩ := raiseWith_loop id sev kv late n s
  rw [hloop, h]


/-- The end of the load: a restart of the loop die is told. -/
def restartTold (s : State) : State :=
  if s.loop.resetSince then
    raise 0x385 [] { s.setLoop { s.loop with resetSince := false } with bridge := { s.bridge with anchor := none } }
  else s

theorem restartTold_facts (s : State) :
    (restartTold s).bridge = { s.bridge with anchor := (restartTold s).bridge.anchor } ∧
      (restartTold s).loop.latched = s.loop.latched ∧ (restartTold s).loop.resetSince = false := by
  unfold restartTold
  split
  · refine ⟨by simp, ?_, ?_⟩
    · exact raiseWith_loop_keep (·.latched) (fun _ _ => rfl) ..
    · exact raiseWith_loop_keep (·.resetSince) (fun _ _ => rfl) ..
  · next h => exact ⟨rfl, rfl, by simpa using h⟩

/-- The mirror is the loop die as it stands, and what was latched there has been raised. -/
theorem mirrorLoaded_facts (s : State) :
    (mirrorLoaded s).bridge.link = 2 ∧ (mirrorLoaded s).bridge.mirror = s.loop.snapshot ∧
      (mirrorLoaded s).bridge.upSinceDawn = true ∧ (mirrorLoaded s).loop.latched = [] ∧
      (mirrorLoaded s).loop.resetSince = false := by
  unfold mirrorLoaded
  extract_lets _ _ up told latched _ cleared raised judged
  have hbridge : judged.bridge = up.bridge := by
    have hraised : raised.bridge = up.bridge :=
      (foldl_keep (·.bridge) _ (fun _ _ => raiseWith_bridge ..) _ _).trans (raise_bridge ..)
    unfold judged
    split
    · exact hraised
    · exact hraised
  have hlatched : judged.loop.latched = [] := by
    have hraised : raised.loop.latched = [] :=
      foldl_keep (·.loop.latched) _ (fun _ _ => raiseWith_loop_keep (·.latched) (fun _ _ => rfl) ..) _ _
    unfold judged
    split
    · exact hraised
    · exact hraised
  obtain ⟨hb, hl, hr⟩ := restartTold_facts judged
  have hdue : ∀ (c : Bool) (u : State), (if c then dueBackfill u else u).loop = u.loop ∧
      (if c then dueBackfill u else u).bridge.link = u.bridge.link ∧
      (if c then dueBackfill u else u).bridge.mirror = u.bridge.mirror ∧
      (if c then dueBackfill u else u).bridge.upSinceDawn = u.bridge.upSinceDawn := fun c u => by
    split <;> exact ⟨rfl, rfl, rfl, rfl⟩
  obtain ⟨hloop, hlink, hmirror, hsince⟩ := hdue (m4to7.any (· == (restartTold judged).mode) && (restartTold judged).inService)
    (restartTold judged)
  refine ⟨hlink.trans ?_, hmirror.trans ?_, hsince.trans ?_, (congrArg _ hloop).trans (hl.trans hlatched),
    (congrArg _ hloop).trans hr⟩ <;> rw [hb, hbridge]

/-- Settles O26: each command of the bridge by its guard. -/
theorem bridgeCommandsComplete : Obligations.BridgeCommandsComplete := by
  intro s hfit
  refine ⟨fun hstart hfw hpf hdown => ?begins, fun hstart hfw hpf hlink => ?beats, fun hany => ?lost, fun h => coreEndLost_facts h,
    fun h => loopEndLost_facts h, fun hstart hlink => ?mirrored, fun k i p hp hlink => ?change,
    fun u us r hlink hunits hout hcode => ?refused, fun u us r hlink hunits hout hcode hcore => ?accepted,
    fun hstart hfw hpf => ?checkFails⟩
  case begins =>
    show execBridgeHeartbeat s = _
    unfold execBridgeHeartbeat
    rw [if_neg (by simp [hfit, hstart, hfw, hpf])]
    simp [State.setLoop, hdown]
  case beats =>
    show execBridgeHeartbeat s = _
    unfold execBridgeHeartbeat
    rw [if_neg (by simp [hfit, hstart, hfw, hpf])]
    simp [State.setLoop, hlink]
  case lost =>
    show execBridgeLost s = _
    unfold execBridgeLost
    rw [if_neg (by rcases hany with h | h <;> simp [hfit, h])]
  case mirrored =>
    refine ⟨_, ?_, mirrorLoaded_facts s⟩
    show execBridgeMirrorLoaded s = _
    simp [execBridgeMirrorLoaded, hlink, hfit, hstart]
  case change =>
    show execMirrorChangeReport k i s = _
    simp [execMirrorChangeReport, hp, hlink, hfit]
  case refused =>
    show execMirroredWriteAck s = _
    simp [execMirroredWriteAck, unitAck, unitFields, hlink, hunits, hout, hcode]
  case accepted =>
    show execMirroredWriteAck s = _
    simp [execMirroredWriteAck, unitAck, hlink, hunits, hout, hcode, hcore]
  case checkFails =>
    show execBridgeFrameCheckFail s = _
    unfold execBridgeFrameCheckFail
    rw [if_neg (by simp [hfit, hstart, hfw, hpf])]

end Sys2Proof.Machine

namespace Sys2Proof.Machine

/-! ## Recording and backfill (R147 to R152) -/

/-- With TAI valid and nothing held for want of it there is nothing to note. -/
theorem noteTai_valid {s : State} (hvalid : s.clk.valid = true) (hheld : s.bridge.taiHeld = false) : noteTai s = s := by
  simp [noteTai, hvalid, hheld]

theorem noteTai_idle {s : State} (h : records s = false) : noteTai s = s := by simp [noteTai, h]

/-- The loss of TAI is told once. -/
theorem noteTai_lost {s : State} (h : records s = true) (hvalid : s.clk.valid = false) (hheld : s.bridge.taiHeld = false) :
    noteTai s = raise 0x38D [] { s with bridge := { s.bridge with taiHeld := true } } := by
  simp [noteTai, h, hvalid, hheld]

/-- What recording as samples come takes. -/
theorem recordsLive_iff (s : State) :
    recordsLive s = true ↔ records s = true ∧ s.bridge.backfill = false ∧ s.clk.valid = true := by
  simp [recordsLive, and_assoc]

/-- A sample that finds none before it becomes the anchor and goes to the store, and waits there where it is refused. -/
theorem arriveSample_first {x : Sample} {after : List Arrived} {s : State} (hlive : recordsLive s = true)
    (hheld : s.bridge.taiHeld = false) :
    arriveSample x [] after s = match storeSample x (s.clk.tai - 24000) false
        { s with bridge := { s.bridge with anchor := some (s.clk.tai - 24000, x.tick) } } with
      | (u, true) => { u with bridge := { u.bridge with arrived := after } }
      | (u, false) => { u with bridge := { u.bridge with arrived := ⟨x, some (s.clk.tai - 24000)⟩ :: after } } := by
  obtain ⟨-, -, hvalid⟩ := (recordsLive_iff s).1 hlive
  unfold arriveSample
  extract_lets stamp _ u keep
  have hnote : u = { s with bridge := { s.bridge with anchor := some (s.clk.tai - 24000, x.tick) } } :=
    noteTai_valid (s := { s with bridge := { s.bridge with anchor := some (s.clk.tai - 24000, x.tick) } }) hvalid hheld
  have hlive' : recordsLive u = true := by
    rw [hnote]
    exact hlive
  rw [if_neg (by simp [hlive']), if_neg (by simp), hnote] <;> rfl

theorem exec_sampleStore {x : Sample} {s : State} (hlive : recordsLive s = true) (hheld : s.bridge.taiHeld = false)
    (harrived : s.bridge.arrived = [⟨x, none⟩]) :
    exec .sampleStore s = .next (match storeSample x (s.clk.tai - 24000) false
        { s with bridge := { s.bridge with anchor := some (s.clk.tai - 24000, x.tick) } } with
      | (u, true) => { u with bridge := { u.bridge with arrived := [] } }
      | (u, false) => { u with bridge := { u.bridge with arrived := [⟨x, some (s.clk.tai - 24000)⟩] } }) := by
  have hspan : (s.bridge.arrived.span fun a => a.stamp.isSome) = ([], [⟨x, none⟩]) := by rw [harrived]; rfl
  show execSampleStore s = _
  unfold execSampleStore
  rw [hspan]
  exact congrArg Host.Outcome.next (arriveSample_first hlive hheld)

/-- The oldest sample that waits is tried again. -/
theorem exec_sampleStoreRetry {x : Sample} {st : Nat} {rest : List Arrived} {s : State} (hlive : recordsLive s = true)
    (harrived : s.bridge.arrived = ⟨x, some st⟩ :: rest) :
    exec .sampleStoreRetry s = .next (match storeSample x st false s with
      | (u, true) => { u with bridge := { u.bridge with arrived := rest } }
      | (u, false) => u) := by
  show execSampleStoreRetry s = _
  simp only [execSampleStoreRetry, harrived, hlive, Bool.not_true, Bool.false_eq_true, if_false] <;> rfl

/-- A backfill with nothing to store tells its counts and is over. -/
theorem runBackfill_empty {s : State} (hfill : s.bridge.fill = []) (hheld : heldSamples s = []) :
    (runBackfill s).bridge.backfill = false ∧ (runBackfill s).bridge.asked = false ∧ (runBackfill s).kv = s.kv ∧
      (runBackfill s).reg .ISL_BF_LOST = min s.bridge.lost (2 ^ 32 - 1) ∧
      (runBackfill s).reg .ISL_BF_OVERLAP = min s.bridge.overlap 65535 := by
  have hfillNone : ∀ a u, storeFill a true s.bridge.fill s.bridge.stored s.bridge.overlap u =
      (u, [], s.bridge.stored, s.bridge.overlap) := fun a u => by rw [hfill]; rfl
  unfold runBackfill
  extract_lets lost anchor
  rw [hfillNone]
  dsimp -zeta only
  extract_lets _ v w _ told left
  rw [if_neg (by simp)]
  have hloop : told.loop.buf = s.loop.buf := raiseWith_loop_keep (·.buf) (fun _ _ => rfl) ..
  have hbridge : told.bridge = { w.bridge with backfill := false, asked := false } := raise_bridge ..
  have hnone : heldSamples told = [] := by
    rw [← hheld, heldSamples, heldSamples, hloop, hbridge]
    rfl
  have hregs : ∀ p, p ≠ .EVT_LOG_LOST → told.reg p = w.reg p := fun p hp => raise_reg _ _ _ _ _ hp
  have hrest : storeRest anchor (heldSamples told) told = (told, []) := by rw [hnone]; rfl
  have hleft : left = told.bridge := congrArg (·.1.bridge) hrest
  rw [hrest, hleft, hbridge]
  refine ⟨rfl, rfl, raise_kv .., ?_, ?_⟩
  · refine (hregs .ISL_BF_LOST (by decide)).trans ?_
    simp [w, setReg_reg, sat_eq_min, lost]
  · refine (hregs .ISL_BF_OVERLAP (by decide)).trans ?_
    simp [w, sat_eq_min]

/-- Settles O31: each command by its guard. -/
theorem recordingCommandsComplete : Obligations.RecordingCommandsComplete := by
  intro s
  refine ⟨fun x u hlive hheld harr hstore => ?stored, fun x u hlive hheld harr hstore => ?waits, fun harr => ?none,
    fun x st rest u harr hlive hstore => ?retried, fun x st rest u harr hlive hstore => ?refused,
    fun hrec hvalid hlink hheld hfill hasked => ?asks, fun hrec hvalid hheld => ?told, fun hrec => ?idle,
    fun hrec hvalid hfill hasked hleft hbuf => ?ends, fun x stamp b ht => ?throttled, fun hasked => ?notAsked⟩
  case stored => rw [exec_sampleStore hlive hheld harr, hstore]
  case waits => rw [exec_sampleStore hlive hheld harr, hstore]
  case none =>
    show execSampleStore s = _
    simp [execSampleStore, harr, List.span, List.span.loop]
  case retried => rw [exec_sampleStoreRetry hlive harr, hstore]
  case refused => rw [exec_sampleStoreRetry hlive harr, hstore]
  case asks =>
    show execBackfillStart s = _
    unfold execBackfillStart
    dsimp only
    rw [noteTai_valid hvalid hheld, if_pos (by simp [hfill, hasked, hvalid, hlink, hrec])]
  case told =>
    show execBackfillStart s = _
    unfold execBackfillStart
    dsimp only
    rw [noteTai_lost hrec hvalid hheld, if_neg (by simp [hvalid])]
  case idle =>
    show execBackfillStart s = _
    unfold execBackfillStart
    dsimp only
    rw [noteTai_idle hrec, if_neg (by simp [hrec])]
  case ends =>
    refine ⟨_, ?_, runBackfill_empty hleft hbuf⟩
    show execBackfillComplete s = _
    simp [execBackfillComplete, hfill, hasked, hvalid, hrec]
  case throttled => simp [storeSample, ht]
  case notAsked =>
    show execBackfillComplete s = _
    simp [execBackfillComplete, hasked]

end Sys2Proof.Machine

namespace Sys2Proof.Machine

/-! ## The verbs of the loop die (R40, R141, R145, R186 to R194, R514) -/

section
variable {v : Verb} {l : Line} {run : State → State} {s : State}

/-- With the bridge UP a verb of the loop die that passes its checks runs. -/
theorem gate_whenUp (hp : passes v l s = true) (hlink : s.bridge.link = 2) :
    gate v l (whenUp l.route run) s = run (noteLine v l s) := by
  rw [gate_run _ _ _ _ hp]
  exact if_pos (by simp [hlink])

/-- With the bridge not UP it is answered with 205. -/
theorem gate_whenDown (hp : passes v l s = true) (hlink : s.bridge.link ≠ 2) :
    gate v l (whenUp l.route run) s = reply l.route 205 [("link", .w "down")] (noteLine v l s) := by
  rw [gate_run _ _ _ _ hp]
  exact if_neg (by simp [hlink])

end

theorem shown_up {r : Route} {s : State} (kv : List (String × Val)) (h : s.bridge.link = 2) : shown r kv s = reply r 0 kv s := by
  simp [shown, h, done]

/-- A sync that is asked for at once replaces one that is pending. -/
theorem islSync_now {l : Line} {s : State} (h : l.nat? "at" = none) :
    islSync l s = reply l.route 0 ((if s.clk.syncAt.isSome then [("replaced", .n 1)] else []) ++ settleFields s)
      (syncNow { s with clk := { s.clk with syncAt := none } }) := by
  simp only [islSync, h, done]

/-- A sync at an instant within its window waits for it. -/
theorem islSync_at {l : Line} {s : State} {t : Nat} (h : l.nat? "at" = some t) (hlo : s.clk.tai + 10000000 ≤ t)
    (hhi : t ≤ s.clk.tai + 86400000000000) (hlocked : s.clk.state = .LOCKED) (hnone : s.clk.syncAt = none) :
    islSync l s = reply l.route 0 (settleFields s) { s with clk := { s.clk with syncAt := some t } } := by
  have hin : ¬ (t < s.clk.tai + 10000000 ∨ s.clk.tai + 86400000000000 < t) := by omega
  simp [islSync, h, hin, hlocked, hnone, done]

/-- One that comes too soon is out of range. -/
theorem islSync_soon {l : Line} {s : State} {t : Nat} (h : l.nat? "at" = some t) (hlo : t < s.clk.tai + 10000000) :
    islSync l s = reply l.route 103 [("arg", .w "at")] s := by
  simp [islSync, h, hlo]

/-- Fields of the loop die alone leave as one write unit. -/
theorem runSet_posts {b : Block} {verb : String} {l : Line} {s : State} (hne : stagedLine b l ≠ [])
    (hloop : ∀ w ∈ stagedLine b l, w.p.info.core = false) :
    runSet b verb l s = postUnit l.route verb (l.nat? "cc") (.fields (stagedLine b l)) [] s := by
  have hcore : (stagedLine b l).filter (·.p.info.core) = [] := List.filter_eq_nil_iff.2 fun w hw => by simp [hloop w hw]
  have hrest : (stagedLine b l).filter (fun w => !w.p.info.core) = stagedLine b l :=
    List.filter_eq_self.2 fun w hw => by simp [hloop w hw]
  simp [runSet, hcore, hrest, hne]

/-- Settles O32: SHOW by the mirror, SET and SYNC past their gates. -/
theorem loopVerbsComplete : Obligations.LoopVerbsComplete := by
  intro l s
  refine ⟨fun hp hlink => ?isl, fun hp hlink hsince => ?islNever, fun hp hlink => ?fe, fun hp hlink => ?hart,
    fun r kv hlink hsince => ?stale, fun b verb hlink hne hloop => runSet_posts hne hloop,
    fun hp hlink => congrArg _ (gate_whenUp hp hlink), fun hp hlink => congrArg _ (gate_whenDown hp hlink),
    fun hp hlink => congrArg _ (gate_whenUp hp hlink), fun hp ho hlink => ?hartSet, fun hp ho hlink => ?hartOwner,
    fun hp hlink hat => ?sync, fun t hp hlink hat hlo hhi hlocked hnone => ?syncAt, fun t hp hlink hat hlo => ?syncSoon⟩
  case isl =>
    refine congrArg Host.Outcome.next ((gate_run _ _ _ _ hp).trans ?_)
    simp [hlink, linkWord, done]
  case islNever =>
    refine congrArg Host.Outcome.next ((gate_run _ _ _ _ hp).trans ?_)
    simp [hlink, hsince]
  case fe =>
    refine congrArg Host.Outcome.next ((gate_run _ _ _ _ hp).trans ?_)
    simp [hlink, shown_up]
  case hart =>
    refine congrArg Host.Outcome.next ((gate_run _ _ _ _ hp).trans ?_)
    simp [hlink, shown_up]
  case stale => simp [shown, hlink, hsince, ofDown]
  case hartSet =>
    refine congrArg Host.Outcome.next ?_
    rw [doHartSet, ho]
    exact gate_whenUp hp hlink
  case hartOwner =>
    refine congrArg Host.Outcome.next ?_
    rw [doHartSet, ho]
    exact gate_whenUp hp hlink
  case sync =>
    refine congrArg Host.Outcome.next ((gate_whenUp hp hlink).trans ((islSync_now hat).trans ?_))
    simp [settleFields]
  case syncAt =>
    refine congrArg Host.Outcome.next ((gate_whenUp hp hlink).trans ((islSync_at hat ?_ ?_ ?_ ?_).trans ?_)) <;>
      simp [settleFields, hlo, hhi, hlocked, hnone]
  case syncSoon =>
    exact congrArg Host.Outcome.next ((gate_whenUp hp hlink).trans (islSync_soon hat (by simpa using hlo)))

theorem more_keep {β : Type} (f : State → β) (h : ∀ r c kv s, f (reply r c kv s) = f s) (r : Route)
    (rows : List (List (String × Val))) (s : State) : f (more r rows s) = f s :=
  foldl_keep f _ (fun s kv => h r 4 kv s) rows s

/-- The fields that CAL.SHOW writes do not depend on the record of its line. -/
theorem calRows_noteLine (v : Verb) (l : Line) (s : State) : calRows (noteLine v l s) = calRows s := by
  simp only [calRows, noteLine_bridge, noteLine_reg]

/-- Settles O33: each verb past its gate, where the bridge is UP. -/
theorem calVerbsComplete : Obligations.CalVerbsComplete := by
  intro l s
  refine ⟨fun v hv hp hlink => ?zero, fun v hv hp hlink => ?span, fun v hv hp hlink => ?phase, fun v hv hp hlink => ?loop,
    fun hp => ?point, fun v pts hv hp hlink hpts => ?commit, fun v k hv hp hlink hpts => ?missing, fun v hv hp hlink => ?save,
    fun v hv hp hlink => ?restore, fun v hv hp hlink => ?clear, fun hp hlink => ?shown, fun hp hlink hsince => ?never⟩
  case zero => subst hv; exact congrArg _ (gate_whenUp hp hlink)
  case span => subst hv; exact congrArg _ (gate_whenUp hp hlink)
  case phase => subst hv; exact congrArg _ (gate_whenUp hp hlink)
  case loop => subst hv; exact congrArg _ (gate_whenUp hp hlink)
  case save => subst hv; exact congrArg _ (gate_whenUp hp hlink)
  case restore => subst hv; exact congrArg _ (gate_whenUp hp hlink)
  case clear => subst hv; exact congrArg _ (gate_whenUp hp hlink)
  case point =>
    refine ⟨_, congrArg Host.Outcome.next (gate_run _ _ _ _ hp), ?_⟩
    simp [done]
  case commit =>
    subst hv
    refine congrArg Host.Outcome.next ((gate_whenUp hp hlink).trans ?_)
    simp [hpts]
  case missing =>
    subst hv
    refine congrArg Host.Outcome.next ((gate_whenUp hp hlink).trans ?_)
    simp [hpts]
  case shown =>
    refine congrArg Host.Outcome.next ((gate_run _ _ _ _ hp).trans ?_)
    have hmore : (more l.route (calRows s) (noteLine vCalShow l s)).bridge = s.bridge :=
      (more_keep (·.bridge) (by simp) ..).trans (noteLine_bridge ..)
    simp [hlink, calRows_noteLine, shown_up, hmore, done]
  case never =>
    refine congrArg Host.Outcome.next ((gate_run _ _ _ _ hp).trans ?_)
    simp [hlink, hsince]

end Sys2Proof.Machine

namespace Sys2Proof.Machine

/-! ## HART (R201 to R213) -/

theorem bitAt_clearBit_same (v k : Nat) : bitAt (clearBit v k) k = false := by
  unfold clearBit
  split
  · next h =>
    have hone : (v - 2 ^ k) / 2 ^ k = v / 2 ^ k - 1 := by simpa using Nat.sub_mul_div v (2 ^ k) 1
    simp only [beq_iff_eq] at h
    simp only [bitAt, hone, beq_eq_false_iff_ne]
    omega
  · next h => simpa [bitAt] using h

section
variable {cmd : Nat} {q : HartReq} {run : Text → State → State × HartAns} {s : State}
  (hfit : s.noLoop = false) (hstart : s.loop.started = true) (hfor : hartFor s.loop cmd q.addr = true)
include hfit hstart hfor

/-- A command for a loop die that has started is answered with what it comes to on the state with its master heard. -/
theorem hartRun_answers {t : State} {rc : Nat} {data : Text} (h : run q.data (hear q.secondary s) = (t, some (rc, data))) :
    hartRun cmd q run s = hartSend q.addr q.secondary cmd rc data t := by
  rw [hartRun, onLoop_run hfit hstart, if_neg (by simp [hfor])]
  dsimp only
  rw [h]

/-- A command that has no answer leaves what it comes to. -/
theorem hartRun_silent {t : State} (h : run q.data (hear q.secondary s) = (t, none)) : hartRun cmd q run s = t := by
  rw [hartRun, onLoop_run hfit hstart, if_neg (by simp [hfor])]
  dsimp only
  rw [h]

end

/-- Every frame that leaves is one output and ends the cold-start bit of its master. -/
theorem hartSend_facts (a : HartAddr) (m : Bool) (cmd rc : Nat) (data : Text) (s : State) :
    (hartSend a m cmd rc data s).out = s.out ++ [.hart (addressBytes s.loop a m ++
      [cmd, data.length + 2, rc, s.loop.deviceStatus m (cmd == 48 && rc == 0)] ++ data)] ∧
      bitAt (hartSend a m cmd rc data s).loop.hart.cold m.toNat = false := by
  refine ⟨rfl, ?_⟩
  unfold hartSend
  dsimp only [State.setHart, State.emit]
  split
  · split <;> exact bitAt_clearBit_same ..
  · exact bitAt_clearBit_same ..

theorem needing_enough {n : Nat} {run : Text → State → State × HartAns} {d : Text} (h : n ≤ d.length) (s : State) :
    needing n run d s = run d s := if_neg (Nat.not_lt.2 h)

theorem needing_short {n : Nat} {run : Text → State → State × HartAns} {d : Text} (h : d.length < n) (s : State) :
    needing n run d s = (s, some (5, [])) := if_pos h

theorem withCodes_known {most : Nat} {data : List Nat → Loop → Text} {d : Text} {s : State}
    (h : ∀ c ∈ d.take most, (deviceVariable s.loop c).isSome = true) :
    withCodes most data d s = (s, some (0, data (d.take most) s.loop)) := if_pos (List.all_eq_true.2 h)

theorem byTag_found {p : Param} {d : Text} {s : State} (h : d.take p.textBytes = s.loop.textOf p) :
    byTag p d s = (s, some (0, identity s.loop)) := by simp [byTag, h]

theorem byTag_other {p : Param} {d : Text} {s : State} (h : d.take p.textBytes ≠ s.loop.textOf p) :
    byTag p d s = (s, none) := by simp [byTag, h]

/-- Settles O35: the commands that read, one by one, and the frame that answers them. -/
theorem hartReadCommandsComplete : Obligations.HartReadCommandsComplete := by
  intro q s hfit hstart u
  have hlen : ∀ {d : Text}, d ≠ [] → 1 ≤ d.length := fun h => List.length_pos_iff.2 h
  refine ⟨fun c n f hmem hfor => ?reads, fun hfor hne hcodes => ?vars, fun hfor hne hcodes => ?slots, fun hfor hne hcode => ?info,
    fun hfor htag => ?tag, fun hfor htag => ?noTag, fun hfor htag => ?longTag, fun n hn hfor => ?unsupported,
    fun a m cmd rc data => hartSend_facts a m cmd rc data s⟩
  case reads =>
    simp only [List.mem_cons, List.not_mem_nil, or_false, Prod.mk.injEq] at hmem
    rcases hmem with ⟨rfl, rfl, rfl⟩ | ⟨rfl, rfl, rfl⟩ | ⟨rfl, rfl, rfl⟩ | ⟨rfl, rfl, rfl⟩ | ⟨rfl, rfl, rfl⟩ | ⟨rfl, rfl, rfl⟩ |
      ⟨rfl, rfl, rfl⟩ | ⟨rfl, rfl, rfl⟩ | ⟨rfl, rfl, rfl⟩ | ⟨rfl, rfl, rfl⟩ | ⟨rfl, rfl, rfl⟩ | ⟨rfl, rfl, rfl⟩ | ⟨rfl, rfl, rfl⟩ |
      ⟨rfl, rfl, rfl⟩ | ⟨rfl, rfl, rfl⟩ | ⟨rfl, rfl, rfl⟩ | ⟨rfl, rfl, rfl⟩ | ⟨rfl, rfl, rfl⟩ | ⟨rfl, rfl, rfl⟩
    all_goals exact congrArg Host.Outcome.next (hartRun_answers hfit hstart hfor rfl)
  case vars =>
    exact congrArg Host.Outcome.next (hartRun_answers hfit hstart hfor ((needing_enough (hlen hne) _).trans (withCodes_known hcodes)))
  case slots =>
    exact congrArg Host.Outcome.next (hartRun_answers hfit hstart hfor ((needing_enough (hlen hne) _).trans (withCodes_known hcodes)))
  case info =>
    exact congrArg Host.Outcome.next
      (hartRun_answers hfit hstart hfor ((needing_enough (hlen hne) _).trans (if_neg (Nat.not_lt.2 hcode))))
  case tag => exact congrArg Host.Outcome.next (hartRun_answers hfit hstart hfor (byTag_found htag))
  case noTag =>
    exact congrArg Host.Outcome.next (hartRun_silent hfit hstart hfor (byTag_other htag))
  case longTag => exact congrArg Host.Outcome.next (hartRun_answers hfit hstart hfor (byTag_found htag))
  case unsupported =>
    refine congrArg Host.Outcome.next ((if_neg ?_).trans (hartRun_answers hfit hstart hfor rfl))
    simpa using hn

end Sys2Proof.Machine

namespace Sys2Proof.Machine

/-! ## HART commands that write (R203, R205, R206, R211, R212) -/

/-- Write-protect refuses every unit that it may, so that one that is accepted finds it off (R155, R156). -/
theorem wp_of_accepted {op : UnitOp} {s t : State} {kv : List (String × Val)} (hw : wpRefuses op = true)
    (h : runUnit .hart none op s = (t, 0, kv)) : s.loop.wp = false := by
  refine eq_false_of_ne_true fun hwp => ?_
  have hrefused : runUnit .hart none op s = (s, 201, [("wp", .n 1)]) := if_pos (by simp [hw, hwp])
  simp [hrefused] at h

/-- A field that is held in MTP is one that write-protect refuses. -/
theorem wpRefuses_field {p : Param} (h : p.isMtp = true) (v : Nat) (rest : List Staged) :
    wpRefuses (.fields (⟨p, 0, v⟩ :: rest)) = true := by
  simp [wpRefuses, h]

section
variable {run : Text → State → State × HartAns} {d : Text} {s : State}

theorem unlessWp_on (h : s.loop.wp = true) : unlessWp run d s = (s, some (7, [])) := if_pos h

theorem unlessWp_off (h : s.loop.wp = false) : unlessWp run d s = run d s := if_neg (by simp [h])

end

/-- An accepted write answers with the values then in force. -/
theorem hartWrite_accepted {set : List Staged} {s t : State} {kv : List (String × Val)} (data : Loop → Text)
    (h : runUnit .hart none (.fields set) s = (t, 0, kv)) : hartWrite set data s = (t, some (0, data t.loop)) := by
  simp [hartWrite, h, hartCode]

/-- Settles O36: the commands that write, one by one. -/
theorem hartWriteCommandsComplete : Obligations.HartWriteCommandsComplete := by
  intro q s t kv hfit hstart u d
  have hans := fun {cmd : Nat} {run : Text → State → State × HartAns} (hfor : hartFor s.loop cmd q.addr = true) {v : State}
    {rc : Nat} {data : Text} (h : run d u = (v, some (rc, data))) => hartRun_answers hfit hstart hfor h
  refine ⟨fun c n need set f hmem hfor => ?writes, fun hfor hlen hrun => ?polling, fun v hfor hlen hv hrun => ?damping,
    fun hfor hlen hunits hrun => ?range, fun hfor hlen hwp hunits => ?rangeUnits, fun c n need hmem hfor hlen hwp => ?wp,
    fun c n p hmem hfor hstale hfault hrun => ?here, fun v hfor hlen hzero hv hrun => ?fixed,
    fun hfor hlen h0 h250 h253 hrun => ?units, fun hfor hlen h0 hrun => ?period, fun hfor hlen hcmd h1 hrun => ?burst,
    fun hfor hlen hon h1 hrun => ?control⟩
  case writes =>
    simp only [List.mem_cons, List.not_mem_nil, or_false, Prod.mk.injEq] at hmem
    rcases hmem with ⟨rfl, rfl, rfl, rfl, rfl⟩ | ⟨rfl, rfl, rfl, rfl, rfl⟩ | ⟨rfl, rfl, rfl, rfl, rfl⟩ | ⟨rfl, rfl, rfl, rfl, rfl⟩ |
      ⟨rfl, rfl, rfl, rfl, rfl⟩ | ⟨rfl, rfl, rfl, rfl, rfl⟩ | ⟨rfl, rfl, rfl, rfl, rfl⟩ | ⟨rfl, rfl, rfl, rfl, rfl⟩
    all_goals exact ⟨
      fun hlen hrun => congrArg Host.Outcome.next (hans hfor ((needing_enough hlen _).trans (hartWrite_accepted _ hrun))),
      fun hshort => congrArg Host.Outcome.next (hans hfor (needing_short hshort _))⟩
  case polling =>
    exact congrArg Host.Outcome.next (hans hfor ((needing_enough hlen _).trans (hartWrite_accepted _ hrun)))
  case damping =>
    have hwp := wp_of_accepted (wpRefuses_field (by decide) v []) hrun
    refine congrArg Host.Outcome.next (hans hfor ((needing_enough hlen _).trans ((unlessWp_off hwp).trans ?_)))
    rw [hv]
    exact hartWrite_accepted _ hrun
  case range =>
    have hwp := wp_of_accepted (wpRefuses_field (by decide) _ _) hrun
    refine congrArg Host.Outcome.next (hans hfor ((needing_enough hlen _).trans ((unlessWp_off hwp).trans ?_)))
    exact (if_neg (by simpa using hunits)).trans (hartWrite_accepted _ hrun)
  case rangeUnits =>
    refine congrArg Host.Outcome.next (hans hfor ((needing_enough hlen _).trans ((unlessWp_off hwp).trans ?_)))
    exact if_pos (by simpa using hunits)
  case wp =>
    have hwp : u.loop.wp = true := hwp
    simp only [List.mem_cons, List.not_mem_nil, or_false, Prod.mk.injEq] at hmem
    rcases hmem with ⟨rfl, rfl, rfl⟩ | ⟨rfl, rfl, rfl⟩ | ⟨rfl, rfl, rfl⟩ | ⟨rfl, rfl, rfl⟩ | ⟨rfl, rfl, rfl⟩ | ⟨rfl, rfl, rfl⟩ |
      ⟨rfl, rfl, rfl⟩ | ⟨rfl, rfl, rfl⟩
    case inr.inr.inl => exact congrArg Host.Outcome.next (hans hfor (unlessWp_on hwp))
    case inr.inr.inr.inl => exact congrArg Host.Outcome.next (hans hfor (unlessWp_on hwp))
    all_goals exact congrArg Host.Outcome.next (hans hfor ((needing_enough hlen _).trans (unlessWp_on hwp)))
  case here =>
    have hrange : ∀ p, p.isMtp = true → runUnit .hart none (.fields [⟨p, 0, u.loop.y⟩]) u = (t, 0, kv) →
        unlessWp (rangeHere p) d u = (t, some (0, [])) := fun p hp hrun => by
      rw [unlessWp_off (wp_of_accepted (wpRefuses_field hp _ []) hrun), rangeHere, if_neg (by simp [u, hstale, hfault])]
      exact hartWrite_accepted _ hrun
    simp only [List.mem_cons, List.not_mem_nil, or_false, Prod.mk.injEq] at hmem
    rcases hmem with ⟨rfl, rfl, rfl⟩ | ⟨rfl, rfl, rfl⟩
    · exact congrArg Host.Outcome.next (hans hfor (hrange _ (by decide) hrun))
    · exact congrArg Host.Outcome.next (hans hfor (hrange _ (by decide) hrun))
  case fixed =>
    refine congrArg Host.Outcome.next (hans hfor ((needing_enough hlen _).trans ?_))
    dsimp only
    rw [if_neg (by simp [hzero]), hv]
    exact hartWrite_accepted _ hrun
  case units =>
    have hwp := wp_of_accepted (wpRefuses_field (by decide) _ []) hrun
    refine congrArg Host.Outcome.next (hans hfor ((needing_enough hlen _).trans ((unlessWp_off hwp).trans ?_)))
    exact (if_neg (by simp [h0, h250]; omega)).trans (hartWrite_accepted _ hrun)
  case period =>
    have hwp := wp_of_accepted (wpRefuses_field (by decide) _ []) hrun
    refine congrArg Host.Outcome.next (hans hfor ((needing_enough hlen _).trans ((unlessWp_off hwp).trans ?_)))
    exact (if_neg (by simp [h0])).trans (hartWrite_accepted _ hrun)
  case burst =>
    have hwp := wp_of_accepted (wpRefuses_field (by decide) _ []) hrun
    refine congrArg Host.Outcome.next (hans hfor ((needing_enough hlen _).trans ((unlessWp_off hwp).trans ?_)))
    have hin : fieldInRange ⟨.HART_BURST_CMD, 0, hartByte d 0⟩ = true := by simpa [fieldInRange] using hcmd
    exact (if_neg (by simp [hin, h1])).trans (hartWrite_accepted _ hrun)
  case control =>
    have hwp := wp_of_accepted (wpRefuses_field (by decide) _ []) hrun
    refine congrArg Host.Outcome.next (hans hfor ((needing_enough hlen _).trans ((unlessWp_off hwp).trans ?_)))
    exact (if_neg (by simp [h1]; omega)).trans (hartWrite_accepted _ hrun)

end Sys2Proof.Machine

namespace Sys2Proof.Machine

/-! ## HART trims, sets, resets and burst mode (R191, R203, R206, R207, R211, R213) -/

/-- An event of the loop die leaves of HART what is no novelty bit. -/
theorem ldRaise_hart_keep {β : Type} (f : Hart → β) (h : ∀ x n, f { x with novelty := n } = f x) (id : Nat)
    (kv : List (String × Val)) (s : State) : f (ldRaise id kv s).loop.hart = f s.loop.hart := by
  unfold ldRaise
  split
  · rfl
  · split
    · rw [raise, raiseWith_hart]
      exact h ..
    · rfl

/-- An accepted trim answers with its data. -/
theorem hartTrim_accepted {op : UnitOp} {s t : State} {kv : List (String × Val)} (below : Bool) (point : F32)
    (data : Verdict → Loop → Text) (h : runUnit .hart none op s = (t, 0, kv)) :
    hartTrim op below point data s = (t, some (0, data (0, kv) t.loop)) := by
  simp [hartTrim, h, trimCode, hartCode]

/-- A meter reading is a trim of the loop at its point. -/
theorem meterReading_accepted {pt : Nat} {d : Text} {s t : State} {kv : List (String × Val)}
    (hfin : F.isFinite (beAt d 0 4) = true)
    (h : runUnit .hart none (.loop pt (F.round (F.mul (beAt d 0 4) 0x447A0000)).toNat false) s = (t, 0, kv)) :
    meterReading pt d s = (t, some (0, be4 (beAt d 0 4))) := by
  unfold meterReading
  dsimp only
  rw [if_pos hfin]
  exact hartTrim_accepted _ _ _ h

/-- A meter reading that is no number is out of range, on the side that its sign gives. -/
theorem meterReading_noNumber {pt : Nat} {d : Text} {s : State} (hpt : pt = 4 ∨ pt = 20) (hwp : s.loop.wp = false)
    (hnan : F.isFinite (beAt d 0 4) = false) :
    meterReading pt d s = (s, some (if F.lt (beAt d 0 4) 0 then 4 else 3, [])) := by
  have hpoint : (pt != 4 && pt != 20) = false := by rcases hpt with rfl | rfl <;> rfl
  have hunit : ∀ m, (m < 3000 ∨ 22000 < m) →
      runUnit .hart none (.loop pt m false) s = (s, 103, [("arg", .w "meas_ua")]) := fun m hm => by
    simp [runUnit, hwp, runLoop, hpoint, hm]
  unfold meterReading
  dsimp only
  rw [if_neg (by simp [hnan])]
  cases F.lt (beAt d 0 4) 0 with
  | true => simp [hartTrim, hunit 0 (by omega), trimCode, hartCode]
  | false => simp [hartTrim, hunit 4294967296 (by omega), trimCode, hartCode]

section
variable {run : State → State × HartAns} {s : State} (hwp : s.loop.wp = false)
include hwp

/-- What needs no owner runs once write-protect is off. -/
theorem ownerOnly_free : ownerOnly false run s = run s := by simp [ownerOnly, hwp]

theorem ownerOnly_refused (hown : s.loop.reg .HART_OWNER_EN = 0) : ownerOnly true run s = (s, some (16, [])) := by
  simp [ownerOnly, hwp, hown]

end

/-! ### Resets -/

theorem dropPending_keep {β : Type} (f : Loop → β) (h : ∀ l a b, f { l with hart := a, latched := b } = f l)
    (hp : ∀ l a b, f { l with pend4 := a, pend20 := b } = f l) (s : State) : f (dropPending s).loop = f s.loop := by
  have hfirst : f (if s.loop.pend4.isSome then
      ldRaise 0x3A7 [("point", .n 4)] (s.setLoop { s.loop with pend4 := none }) else s).loop = f s.loop := by
    split
    · exact (ldRaise_keep f h ..).trans (hp s.loop none s.loop.pend20)
    · rfl
  unfold dropPending
  dsimp only
  generalize (if s.loop.pend4.isSome then
      ldRaise 0x3A7 [("point", .n 4)] (s.setLoop { s.loop with pend4 := none }) else s) = u at hfirst
  split
  · exact (ldRaise_keep f h ..).trans ((hp u.loop u.loop.pend4 none).trans hfirst)
  · exact hfirst

/-- The end of fixed current leaves the banks. -/
theorem setFixed_banks (ua : Nat) (s : State) :
    (setFixed ua s).loop.bankA = s.loop.bankA ∧ (setFixed ua s).loop.bankB = s.loop.bankB := by
  have hkeep : ∀ {β : Type} (f : Loop → β), (∀ l a b, f { l with hart := a, latched := b } = f l) →
      (∀ l a b, f { l with pend4 := a, pend20 := b } = f l) → (∀ l, f (l.setReg .ISL_FIX_UA ua) = f l) →
      f (setFixed ua s).loop = f s.loop := by
    intro β f h hp hset
    unfold setFixed
    dsimp only
    split
    · exact (ldRaise_keep f h ..).trans (hset _)
    · split
      · exact (dropPending_keep f h hp _).trans ((ldRaise_keep f h ..).trans (hset _))
      · exact hset _
  exact ⟨hkeep (·.bankA) (fun _ _ _ => rfl) (fun _ _ _ => rfl) fun _ => rfl,
    hkeep (·.bankB) (fun _ _ _ => rfl) (fun _ _ _ => rfl) fun _ => rfl⟩

/-- A loop-die reset loses what is volatile; the banks stand. -/
theorem resetLoop_facts (s : State) :
    (resetLoop s).loop.started = false ∧ (resetLoop s).loop.bankA = s.loop.bankA ∧ (resetLoop s).loop.bankB = s.loop.bankB := by
  have hcleared : ∀ u : State, (if u.bridge.link == 2 then clearLatch 0x38E u else u).loop = u.loop := fun u => by split <;> rfl
  obtain ⟨hA, hB⟩ := setFixed_banks 0 s
  unfold resetLoop
  dsimp only
  rw [hcleared]
  exact ⟨rfl, hA, hB⟩

/-! ### Frames in error -/

/-- The state that a frame in error has counted in. -/
def frameCounted (s : State) : State :=
  s.setLoop (s.loop.setReg .HART_FRAME_ERRORS (sat 16 (s.loop.reg .HART_FRAME_ERRORS + 1)))

/-- The first frame in error of a second is told with those before it. -/
theorem execHartFrameError_told {s : State} (hfit : s.noLoop = false) (hstart : s.loop.started = true)
    (h : s.loop.hart.frameAt = none) : exec .hartFrameError s = .next (ldRaise 0x3B2 [("count", .n (s.loop.hart.frameN + 1))]
      ((frameCounted s).setHart { s.loop.hart with frameAt := some s.now, frameN := 0 })) := by
  refine congrArg Host.Outcome.next ((onLoop_run hfit hstart _).trans ?_)
  dsimp only
  rw [if_pos (by simp [State.setLoop, Loop.setReg, h])]
  rfl

/-- One within a second of the last that was told counts. -/
theorem execHartFrameError_counted {at_ : Nat} {s : State} (hfit : s.noLoop = false) (hstart : s.loop.started = true)
    (h : s.loop.hart.frameAt = some at_) (hearly : s.now < at_ + sec 1) (hlink : s.bridge.link ≠ 2) :
    exec .hartFrameError s = .next ((frameCounted s).setHart { s.loop.hart with frameN := s.loop.hart.frameN + 1 }) := by
  refine congrArg Host.Outcome.next ((onLoop_run hfit hstart _).trans ?_)
  dsimp only
  rw [if_neg ?hdue, if_neg ?hlink]
  · rfl
  case hdue =>
    change ¬ (s.loop.hart.frameAt.elim true fun t => decide (t + sec 1 ≤ s.now)) = true
    rw [h, Option.elim_some, decide_eq_true_eq]
    exact Nat.not_le.2 hearly
  case hlink => exact fun hup => hlink (beq_iff_eq.1 hup)

/-- Settles O37: the trims by their units, the resets and the burst by what they leave. -/
theorem hartTrimAndControlCommandsComplete : Obligations.HartTrimAndControlCommandsComplete := by
  intro q s t kv hfit hstart u d
  have hans := fun {cmd : Nat} {run : Text → State → State × HartAns} (hfor : hartFor s.loop cmd q.addr = true) {v : State}
    {rc : Nat} {data : Text} (h : run d u = (v, some (rc, data))) => hartRun_answers hfit hstart hfor h
  refine ⟨fun hfor hrun => ?pvZero, fun c n pt hmem hfor hlen => ?loopTrim, fun hfor hlen h4 hrun => ?zero,
    fun hfor hlen h4 hrun => ?span, fun hfor hlen h0 h5 hrun => ?phase, fun c n hmem hfor hlen h4 hwp hown => ?owner,
    fun hfor hlen h0 hrun => ?save, fun hfor hlen => ?changed, fun hfor hlen hcc => ?counter,
    fun hfor hlen h0 h1 hwp => ?trigger, fun hfor => ?reset, resetLoop_facts s, fun hfor => ?sync, fun hon => ?burst,
    fun hoff => ?noBurst, fun hnone => ?frame, fun at_ hat hearly hlink => ?counted⟩
  case pvZero => exact congrArg Host.Outcome.next (hans hfor (hartTrim_accepted _ _ _ hrun))
  case loopTrim =>
    simp only [List.mem_cons, List.not_mem_nil, or_false, Prod.mk.injEq] at hmem
    rcases hmem with ⟨rfl, rfl, rfl⟩ | ⟨rfl, rfl, rfl⟩
    all_goals exact ⟨
      fun hfin hrun =>
        congrArg Host.Outcome.next (hans hfor ((needing_enough hlen _).trans (meterReading_accepted hfin hrun))),
      fun hnan hwp =>
        congrArg Host.Outcome.next (hans hfor ((needing_enough hlen _).trans (meterReading_noNumber (by decide) hwp hnan)))⟩
  case zero =>
    have hwp := wp_of_accepted rfl hrun
    refine congrArg Host.Outcome.next (hans hfor ((needing_enough hlen _).trans ?_))
    simp only [h4, bne_self_eq_false, ownerOnly_free hwp]
    exact hartTrim_accepted _ _ _ hrun
  case span =>
    have hwp := wp_of_accepted rfl hrun
    refine congrArg Host.Outcome.next (hans hfor ((needing_enough hlen _).trans ?_))
    simp only [h4, bne_self_eq_false, ownerOnly_free hwp]
    exact hartTrim_accepted _ _ _ hrun
  case phase =>
    have hwp := wp_of_accepted rfl hrun
    refine congrArg Host.Outcome.next (hans hfor ((needing_enough hlen _).trans ((unlessWp_off hwp).trans ?_)))
    simp only [h0, h5, bne_self_eq_false, ownerOnly_free hwp]
    exact (if_neg (by decide)).trans (hartTrim_accepted _ _ _ hrun)
  case owner =>
    have hforce : (hartByte d 4 != 0) = true := by simpa using h4
    have hrefuse : ∀ run : Bool → State → State × HartAns,
        ownerOnly (hartByte d 4 != 0) (run (hartByte d 4 != 0)) u = (u, some (16, [])) := fun run => by
      rw [hforce]
      exact ownerOnly_refused hwp hown
    simp only [List.mem_cons, List.not_mem_nil, or_false, Prod.mk.injEq] at hmem
    rcases hmem with ⟨rfl, rfl⟩ | ⟨rfl, rfl⟩
    · exact congrArg Host.Outcome.next (hans hfor ((needing_enough hlen _).trans (hrefuse fun f =>
        hartTrim (.zero (beAt d 0 4) f) false (beAt d 0 4) fun v l => trimData v ++ be4 (l.reg .CAL_U_OFS))))
    · exact congrArg Host.Outcome.next (hans hfor ((needing_enough hlen _).trans (hrefuse fun f =>
        hartTrim (.span (beAt d 0 4) f) false (beAt d 0 4) fun v l =>
          trimData v ++ be4 (l.reg .CAL_U_SPAN) ++ be4 (l.reg .CAL_U_OFS))))
  case save =>
    have hwp := wp_of_accepted rfl hrun
    refine congrArg Host.Outcome.next (hans hfor ((needing_enough hlen _).trans ((unlessWp_off hwp).trans ?_)))
    simp [calAction, h0, hrun, hartCode]
  case changed => exact congrArg Host.Outcome.next (hans hfor (if_neg (by simp; omega)))
  case counter => exact congrArg Host.Outcome.next (hans hfor (if_pos (by simp [hlen, hcc])))
  case trigger =>
    refine congrArg Host.Outcome.next (hans hfor ((needing_enough hlen _).trans ((unlessWp_off hwp).trans ?_)))
    exact if_neg (by simp [h0, h1])
  case reset =>
    refine congrArg Host.Outcome.next ((if_neg (by simp [hfit, hstart, hfor])).trans ?_)
    exact congrArg (fun v => resetLoop (ldRaise 0x3B3 [] v)) (hans hfor rfl)
  case sync => exact congrArg Host.Outcome.next (hans hfor rfl)
  case burst =>
    refine ⟨_, congrArg Host.Outcome.next ((onLoop_run hfit hstart _).trans (if_neg (by simpa using hon))), rfl, rfl, ?_⟩
    simp [State.setHart, State.emit]
  case noBurst => exact congrArg Host.Outcome.next ((onLoop_run hfit hstart _).trans (if_pos (by simpa using hoff)))
  case frame =>
    refine ⟨_, execHartFrameError_told hfit hstart hnone, ?_, ?_, ?_⟩
    · rw [ldRaise_keep (·.reg .HART_FRAME_ERRORS) fun _ _ _ => rfl]
      exact (Loop.setReg_reg_same ..).trans ((sat_eq_min ..).trans (Nat.min_comm ..))
    · exact ldRaise_hart_keep (·.frameAt) (fun _ _ => rfl) ..
    · exact ldRaise_hart_keep (·.frameN) (fun _ _ => rfl) ..
  case counted =>
    refine ⟨_, execHartFrameError_counted hfit hstart hat hearly hlink, rfl, rfl⟩

end Sys2Proof.Machine

namespace Sys2Proof.Machine

/-! ## Dawn and handover (R225, R230, R231, R232, R241) -/

/-- What a reset toward Dawn keeps: whatever neither power, mode nor a raise touches is as the core reset leaves it. -/
theorem resetToDawn_keep {β : Type} (f : State → β) (cause by_ : Nat) {s : State} (hheld : s.pwr.held = false)
    (h0 : groupGood s 0 = true) (h1 : groupGood s 1 = true) (hp : ∀ s v, f { s with pwr := v } = f s)
    (hd : ∀ s v, f { s with day := v } = f s) (ht : ∀ s : State, f s.tick = f s) (hr : ∀ i k s, f (raise i k s) = f s) :
    f (resetToDawn cause by_ s) = f ((coreReset s).setReg .PWR_RESET_CAUSE cause) := by
  unfold resetToDawn
  dsimp only
  have hpwr : (coreReset s).pwr = s.pwr := coreReset_pwr s
  generalize coreReset s = c at hpwr
  let v : State := { c.setReg .PWR_RESET_CAUSE cause with
    pwr := { (c.setReg .PWR_RESET_CAUSE cause).pwr with byAt := by_, failing := false } }
  have hdawn : toDawn v = startDawn { v with pwr := { v.pwr with waking := false } } := by
    rw [toDawn_ready (by simpa [groupGood, v, hpwr] using h0) (by simpa [groupGood, v, hpwr] using h1)]
    exact if_neg (by simp [v, hpwr, hheld])
  show f (endSnapsTold _ (toDawn v)) = _
  rw [hdawn, endSnapsTold_keep f hr, startDawn_keep f hp hd ht hr, hp, hp]

/-- An entry of the boot trace keeps whatever no write of a register touches. -/
theorem trace_keep {β : Type} (f : State → β) (h : ∀ (s : State) p v i, f (s.setReg p v i) = f s) (code slot detail : Nat)
    (s : State) : f (trace code slot detail s) = f s := by
  unfold trace
  exact (h ..).trans (h ..)

@[simp] theorem trace_pwr (code slot detail : Nat) (s : State) : (trace code slot detail s).pwr = s.pwr :=
  trace_keep (·.pwr) (fun _ _ _ _ => rfl) ..
@[simp] theorem trace_boot (code slot detail : Nat) (s : State) : (trace code slot detail s).boot = s.boot :=
  trace_keep (·.boot) (fun _ _ _ _ => rfl) ..
@[simp] theorem trace_sec (code slot detail : Nat) (s : State) : (trace code slot detail s).sec = s.sec :=
  trace_keep (·.sec) (fun _ _ _ _ => rfl) ..
@[simp] theorem trace_mem (code slot detail : Nat) (s : State) : (trace code slot detail s).mem = s.mem :=
  trace_keep (·.mem) (fun _ _ _ _ => rfl) ..
@[simp] theorem trace_day (code slot detail : Nat) (s : State) : (trace code slot detail s).day = s.day :=
  trace_keep (·.day) (fun _ _ _ _ => rfl) ..
@[simp] theorem trace_sess (code slot detail : Nat) (s : State) : (trace code slot detail s).sess = s.sess :=
  trace_keep (·.sess) (fun _ _ _ _ => rfl) ..
@[simp] theorem trace_clk (code slot detail : Nat) (s : State) : (trace code slot detail s).clk = s.clk :=
  trace_keep (·.clk) (fun _ _ _ _ => rfl) ..
@[simp] theorem trace_line (code slot detail : Nat) (s : State) : (trace code slot detail s).line = s.line :=
  trace_keep (·.line) (fun _ _ _ _ => rfl) ..
@[simp] theorem trace_routes (code slot detail : Nat) (s : State) : (trace code slot detail s).routes = s.routes :=
  trace_keep (·.routes) (fun _ _ _ _ => rfl) ..
@[simp] theorem trace_kv (code slot detail : Nat) (s : State) : (trace code slot detail s).kv = s.kv :=
  trace_keep (·.kv) (fun _ _ _ _ => rfl) ..

/-- An entry of the boot trace changes the trace's registers alone. -/
theorem trace_reg (code slot detail : Nat) (s : State) (p : Param) (i : Nat) (h : p ≠ .BOOT_TRACE) (h' : p ≠ .BOOT_TRACE_IDX) :
    (trace code slot detail s).reg p i = s.reg p i := by
  simp [trace, setReg_reg, h, h']

@[simp] theorem enterMode_mode' (m : Mode) (s : State) : (enterMode m s).mode = m := by
  unfold enterMode fallAsleep
  dsimp only [State.mode]
  simp only [raise_day, State.tick_day]
  split <;> rfl

@[simp] theorem raiseGroups_day (s : State) : (raiseGroups s).day = s.day := by unfold raiseGroups; split <;> rfl
@[simp] theorem raiseGroups_sec (s : State) : (raiseGroups s).sec = s.sec := by unfold raiseGroups; split <;> rfl
@[simp] theorem raiseGroups_boot (s : State) : (raiseGroups s).boot = s.boot := by unfold raiseGroups; split <;> rfl
@[simp] theorem raiseGroups_pwr_on (s : State) : (raiseGroups s).pwr.on = s.pwr.on := by unfold raiseGroups; split <;> rfl
@[simp] theorem raiseGroups_reg (s : State) (p : Param) (i : Nat) : (raiseGroups s).reg p i = s.reg p i := by
  unfold raiseGroups; split <;> rfl

/-- Night sets the ROM's locks. -/
theorem enterNight_facts (s : State) : (enterNight s).mode = .M11 ∧ (enterNight s).sec.romLocks = true := by
  have hmode : (raiseGroups (domainsReady (setDomains (Mode.domains .M11 0) (enterMode .M11 s)))).mode = .M11 := by
    unfold State.mode
    rw [raiseGroups_day]
    exact enterMode_mode' .M11 s
  exact ⟨hmode, rfl⟩

/-- Nightfall waits for REC lines without an image in assembly. -/
theorem enterNightfall_facts (s : State) : (enterNightfall s).mode = .M10 ∧ (enterNightfall s).boot.recov = none ∧
    (enterNightfall s).boot.lastReject = s.boot.lastReject := by
  refine ⟨?_, rfl, by simp [enterNightfall]⟩
  exact enterMode_mode' .M10 _

/-- A life cycle that is read stands in a raise and a trace. -/
theorem lifeCycle_of_sec {s t : State} (h : t.sec = s.sec) : lifeCycle t = lifeCycle s := by simp [lifeCycle, h]

theorem cutShort_slot (b : Bool) (s : State) :
    (cutShort (.slot b) s).boot.slotA = (if b then s.boot.slotA else none) ∧
      (cutShort (.slot b) s).boot.slotB = (if b then none else s.boot.slotB) := by
  cases b <;> exact ⟨rfl, rfl⟩

theorem dawn_scrapped {s : State} (nor : NorFound) (h : lifeCycle s = 4) :
    (dawn nor s).mode = .M11 ∧ (dawn nor s).sec.romLocks = true := by
  unfold dawn
  dsimp only
  rw [if_pos (by simp [lifeCycle_of_sec (trace_sec ..), h])]
  exact enterNight_facts _

theorem readOtp_sound {s : State} (h : s.sec.otp.bad = []) : readOtp s = s := by simp [readOtp, h]

theorem deriveKeys_blank {s : State} (h : lifeCycle s = 0) :
    deriveKeys s = loadSlot 0 (kekOf s.sec.otp 8) (loadSlot 14 (logKey s.sec.otp) (loadSlot 1 [] s)) := by
  have hlc : lifeCycle (loadSlot 14 (logKey s.sec.otp) (loadSlot 1 [] s)) = 0 := h
  unfold deriveKeys
  dsimp only
  rw [hlc]
  rfl

/-- A blank unit whose NOR does not answer is in Nightfall. -/
theorem dawn_blank_norless {s : State} (hlc : lifeCycle s = 0) (hbad : s.sec.otp.bad = []) (hlatch : s.sec.latch = 0) :
    (dawn .none s).mode = .M10 ∧ (dawn .none s).boot.recov = none := by
  unfold dawn
  dsimp only
  have hsec : (trace 0x02 15 (lifeCycle (trace 0x01 15 (s.reg .PWR_RESET_CAUSE) s))
    (trace 0x01 15 (s.reg .PWR_RESET_CAUSE) s)).sec = s.sec := by simp
  have hlc0 : lifeCycle (trace 0x01 15 (s.reg .PWR_RESET_CAUSE) s) = 0 := (lifeCycle_of_sec (trace_sec ..)).trans hlc
  rw [hlc0] at hsec ⊢
  generalize trace 0x02 15 0 (trace 0x01 15 (s.reg .PWR_RESET_CAUSE) s) = u at hsec
  rw [readOtp_sound (by rw [hsec, hbad]), if_neg (by decide), if_neg (c := (_ && _) = true) (by simp),
    if_neg (by simp [udsBad, hsec, hbad]), deriveKeys_blank ((lifeCycle_of_sec hsec).trans hlc),
    if_neg (by simp [loadSlot, hsec, hlatch])]
  exact ⟨(enterNightfall_facts _).1, (enterNightfall_facts _).2.1⟩

/-- The first slot that passes every check is to be handed over. -/
theorem trySlots_passed {b : Bool} {s : State} (bs : List Bool) (h : imageCheck s (slotImage s b) = none) :
    trySlots (b :: bs) s = trace 0x20 (slotNum b) (slotImage s b).svn
      { s with boot := { s.boot with handover := some b, sram := (slotImage s b).body } } := by
  simp [trySlots, h]

/-- The slot that is tried last and fails leads to Nightfall, its rejection noted. -/
theorem trySlots_failed {b : Bool} {code : Nat} {s : State} (h : imageCheck s (slotImage s b) = some code) :
    (trySlots [b] s).mode = .M10 ∧ (trySlots [b] s).boot.lastReject = some (code, b) := by
  unfold trySlots
  dsimp only
  rw [h]
  dsimp only
  generalize (trace code (slotNum b) 0 s).setReg .BOOT_SLOT_CODE _ = u
  unfold trySlots
  obtain ⟨hmode, -, hrej⟩ := enterNightfall_facts (raise 0x041 [("slot", slotVal b), ("code", codeVal code)]
    { u with boot := { u.boot with lastReject := some (code, b) } })
  exact ⟨hmode, hrej.trans (by simp)⟩

/-- What is told on the way from the handover to Sunrise keeps what neither a raise, the power nor the mode touches. -/
theorem intoSunrise_keep {β : Type} (f : State → β) (hp : ∀ s v, f { s with pwr := v } = f s)
    (hd : ∀ s v, f { s with day := v } = f s) (ht : ∀ s : State, f s.tick = f s) (hr : ∀ i k s, f (raise i k s) = f s) (s : State) :
    f (raiseGroups (domainsReady (setDomains (Mode.domains .M3 0) (enterMode .M3 s)))) = f s := by
  have hgroups : ∀ u, f (raiseGroups u) = f u := fun u => by unfold raiseGroups; split <;> exact hp ..
  have hentered : f (enterMode .M3 s) = f s := by
    unfold enterMode fallAsleep
    dsimp only
    rw [hr, ht]
    exact hd ..
  rw [hgroups]
  exact (hp ..).trans ((hp ..).trans hentered)

/-- A handover: the image of the slot runs, from the first stage of Sunrise, under the ROM's locks and the watchdog. -/
theorem handOver_facts (b : Bool) (s : State) : (handOver b s).mode = .M3 ∧
    (handOver b s).boot.started = some ((slotImage s b).field 0x00C 4) ∧ (handOver b s).boot.handover = none ∧
    (handOver b s).boot.watchdog = true ∧ (handOver b s).boot.handoverAt = s.now ∧ (handOver b s).sec.romLocks = true ∧
    (handOver b s).reg .BOOT_RUN_SLOT = slotNum b ∧ (handOver b s).reg .BOOT_ATTEMPTS = 0 ∧
    (handOver b s).reg .BOOT_RUN_SVN = (slotImage s b).svn ∧ (handOver b s).mem.sunrise.stage = 1 ∧ (handOver b s).pwr.on = 0x67F := by
  unfold handOver
  extract_lets img lock s1 s2 s3 s4 _ _ s5 s6 s7 s8 s9
  have htold : ∀ {β : Type} (f : State → β), (∀ i k u, f (raise i k u) = f u) → f s7 = f s5 := by
    intro β f hr
    show f (if b == activeSlot s6 then s6 else raise 0x042 _ s6) = _
    split
    · exact hr ..
    · exact (hr ..).trans (hr ..)
  have hs9 : ∀ {β : Type} (f : State → β), (∀ s v, f { s with pwr := v } = f s) → (∀ s v, f { s with day := v } = f s) →
      (∀ s : State, f s.tick = f s) → (∀ i k s, f (raise i k s) = f s) → f s9 = f s5 :=
    fun f hp hd ht hr => (intoSunrise_keep f hp hd ht hr s7).trans (htold f hr)
  have hboot : s9.boot = s5.boot := hs9 (·.boot) (fun _ _ => rfl) (fun _ _ => rfl) (fun _ => rfl) (by simp)
  have hsec : s9.sec = s5.sec := hs9 (·.sec) (fun _ _ => rfl) (fun _ _ => rfl) (fun _ => rfl) (by simp)
  have hreg : ∀ p, p ∉ sendRegs → s9.reg p 0 = s4.reg p 0 := fun p hp =>
    (hs9 (·.reg p 0) (fun _ _ => rfl) (fun _ _ => rfl) (fun _ => rfl) fun _ _ _ => raise_reg' _ _ _ _ _ hp).trans
      (reg_of s4 s5 rfl rfl p 0)
  have hclk : s4.clk = s.clk :=
    calc s4.clk = s2.clk := (State.setReg_clk ..).trans ((State.setReg_clk ..).trans ((State.setReg_clk ..).trans (State.setReg_clk ..)))
      _ = s.clk := (trace_clk ..).trans ((State.setReg_clk ..).trans ((State.setReg_clk ..).trans (State.setReg_clk ..)))
  have hattempts : s4.reg .BOOT_ATTEMPTS = 0 := by
    simp only [s4, s3, setReg_reg]
    simp [s2, trace_reg]
  have hslot : s4.reg .BOOT_RUN_SLOT = slotNum b := by simp only [s4, s3, setReg_reg]; simp
  have hsvn : s4.reg .BOOT_RUN_SVN = img.svn := by simp only [s4, s3, setReg_reg]; simp
  refine ⟨?_, ?_, ?_, ?_, ?_, ?_, ?_, ?_, ?_, rfl, ?_⟩
  · show s9.day.mode = _
    simp only [s9, raiseGroups_day, domainsReady_day, setDomains_day]
    exact enterMode_mode' .M3 s7
  · exact congrArg Boot.started hboot
  · exact congrArg Boot.handover hboot
  · exact congrArg Boot.watchdog hboot
  · exact (congrArg Boot.handoverAt hboot).trans (congrArg Clk.now hclk)
  · exact congrArg Sec.romLocks hsec
  · exact (hreg .BOOT_RUN_SLOT (by decide)).trans hslot
  · exact (hreg .BOOT_ATTEMPTS (by decide)).trans hattempts
  · exact (hreg .BOOT_RUN_SVN (by decide)).trans hsvn
  · show s9.pwr.on = _
    simp only [s9, raiseGroups_pwr_on, domainsReady_pwr_on, setDomains_pwr_on]
    rfl

/-- A retry of Nightfall is a reset toward Dawn that names the way it was asked for. -/
theorem nightfallRetry_facts (d : Nat) {s : State} (hheld : s.pwr.held = false) (h0 : groupGood s 0 = true)
    (h1 : groupGood s 1 = true) :
    (nightfallRetry d s).mode = .M2 ∧ (nightfallRetry d s).reg .BOOT_LAST_END = (if d == 0 then 1 else 3) ∧
      (nightfallRetry d s).reg .PWR_RESET_CAUSE = 2 := by
  obtain ⟨hmode, -, -⟩ := resetToDawn_dawn 2 0 hheld h0 h1
  have hcause := resetToDawn_keep (·.reg .PWR_RESET_CAUSE 0) 2 0 hheld h0 h1 (fun _ _ => rfl) (fun _ _ => rfl) (fun _ => rfl)
    fun _ _ _ => raise_reg _ _ _ _ _ (by decide)
  refine ⟨?_, ?_, ?_⟩
  · simpa [nightfallRetry, State.mode] using hmode
  · unfold nightfallRetry
    rw [trace_reg _ _ _ _ _ _ (by decide) (by decide)]
    exact setReg_reg_same ..
  · unfold nightfallRetry
    rw [trace_reg _ _ _ _ _ _ (by decide) (by decide), setReg_reg_other _ _ _ _ _ _ (by decide)]
    exact hcause.trans (setReg_reg_same ..)

/-- Settles O38: the ROM's way through its early ends; a handover and the ends of a start by what each leaves. -/
theorem dawnAndHandoverComplete : Obligations.DawnAndHandoverComplete := by
  intro s
  refine ⟨fun nor cut straps hin hidle hnone => ?dawn, fun found hmode => ?elsewhere, fun b => cutShort_slot b s,
    fun nor h => dawn_scrapped nor h, fun hlc hbad hlatch => dawn_blank_norless hlc hbad hlatch,
    fun b bs h => trySlots_passed bs h, fun b code h => trySlots_failed h, fun b hin hidle hb => ?handover,
    fun hdog hup h0 h1 => ?watchdog, fun hdog => ?noWatchdog, fun hin hidle h0 h1 hover => ?retry, fun hmode hnot => ?early⟩
  case dawn => exact congrArg Host.Outcome.next (if_pos (by simp [hin, hidle, hnone]))
  case elsewhere => exact congrArg Host.Outcome.next (if_neg (by simp [State.runsIn, hmode]))
  case handover =>
    refine ⟨handOver b s, congrArg Host.Outcome.next ?_, handOver_facts b s⟩
    rw [hb]
    exact if_pos (by simp [hin, hidle])
  case watchdog =>
    have hheld : s.pwr.held = false := by
      simp only [State.coreUp, Bool.and_eq_true, Bool.not_eq_true'] at hup
      exact hup.1.2
    obtain ⟨hmode, hsess, -⟩ := resetToDawn_dawn 1 3 hheld h0 h1
    have hotp := resetToDawn_keep (·.sec.otp) 1 3 hheld h0 h1 (fun _ _ => rfl) (fun _ _ => rfl) (fun _ => rfl) (by simp)
    refine ⟨_, congrArg Host.Outcome.next (if_neg (by simp [hdog, hup])), ?_, ?_, ?_, ?_, ?_⟩
    · simpa [State.mode] using hmode
    · rw [raise_reg _ _ _ _ _ (by decide), trace_reg _ _ _ _ _ _ (by decide) (by decide), setReg_reg_same]
    · simp
    · exact raise_sess_nil (by simpa using hsess)
    · simpa using hotp
  case noWatchdog => exact congrArg Host.Outcome.next (if_pos (by simp [hdog]))
  case retry =>
    have hheld : s.pwr.held = false := by
      simp only [State.runsIn, State.coreUp, Bool.and_eq_true, Bool.not_eq_true'] at hin
      exact hin.2.1.2
    exact ⟨nightfallRetry 0 s, congrArg Host.Outcome.next (if_pos (by simp [hin, hidle, hover])),
      nightfallRetry_facts 0 hheld h0 h1⟩
  case early => exact congrArg Host.Outcome.next (if_neg (by simp [hnot]))

end Sys2Proof.Machine

namespace Sys2Proof.Machine

/-! ## The recovery listener (R233, R234) -/

/-- The record of a line moves of the boot state the time of the last REC or LOGIN line alone. -/
theorem noteLine_boot (v : Verb) (l : Line) (s : State) : ∃ t, (noteLine v l s).boot = { s.boot with lastRecLine := t } := by
  unfold noteLine
  dsimp only
  split
  · dsimp only
    split
    · exact ⟨_, rfl⟩
    · exact ⟨s.boot.lastRecLine, rfl⟩
  · exact ⟨s.boot.lastRecLine, rfl⟩

/-- What of the boot state that time is not reads through the record of a line as before it. -/
theorem noteLine_bootKeep {β : Type} (f : Boot → β) (h : ∀ x t, f { x with lastRecLine := t } = f x) (v : Verb) (l : Line)
    (s : State) : f (noteLine v l s).boot = f s.boot := by
  obtain ⟨t, ht⟩ := noteLine_boot v l s
  rw [ht, h]

@[simp] theorem noteLine_recov (v : Verb) (l : Line) (s : State) : (noteLine v l s).boot.recov = s.boot.recov :=
  noteLine_bootKeep (·.recov) (fun _ _ => rfl) v l s
@[simp] theorem noteLine_upd (v : Verb) (l : Line) (s : State) : (noteLine v l s).boot.upd = s.boot.upd :=
  noteLine_bootKeep (·.upd) (fun _ _ => rfl) v l s
@[simp] theorem noteLine_selected (v : Verb) (l : Line) (s : State) : (noteLine v l s).boot.selected = s.boot.selected :=
  noteLine_bootKeep (·.selected) (fun _ _ => rfl) v l s
@[simp] theorem noteLine_lastReject (v : Verb) (l : Line) (s : State) : (noteLine v l s).boot.lastReject = s.boot.lastReject :=
  noteLine_bootKeep (·.lastReject) (fun _ _ => rfl) v l s
@[simp] theorem noteLine_norWrites (v : Verb) (l : Line) (s : State) : (noteLine v l s).boot.norWrites = s.boot.norWrites :=
  noteLine_bootKeep (·.norWrites) (fun _ _ => rfl) v l s
@[simp] theorem noteLine_badPos (v : Verb) (l : Line) (s : State) : (noteLine v l s).boot.badPos = s.boot.badPos :=
  noteLine_bootKeep (·.badPos) (fun _ _ => rfl) v l s
@[simp] theorem noteLine_slotA (v : Verb) (l : Line) (s : State) : (noteLine v l s).boot.slotA = s.boot.slotA :=
  noteLine_bootKeep (·.slotA) (fun _ _ => rfl) v l s
@[simp] theorem noteLine_slotB (v : Verb) (l : Line) (s : State) : (noteLine v l s).boot.slotB = s.boot.slotB :=
  noteLine_bootKeep (·.slotB) (fun _ _ => rfl) v l s

@[simp] theorem noteLine_lifeCycle (v : Verb) (l : Line) (s : State) : lifeCycle (noteLine v l s) = lifeCycle s := by simp [lifeCycle]
@[simp] theorem noteLine_activeSlot (v : Verb) (l : Line) (s : State) : activeSlot (noteLine v l s) = activeSlot s := by
  simp [activeSlot]

/-! ### Slots and flag records -/

/-- Where the NOR can be written a slot is programmed. -/
theorem programSlot_ok {b : Bool} {bytes : Text} {s : State} (hw : s.boot.norWrites = true) (hx : s.reg .BOOT_XSPI_MODE ≠ 0) :
    programSlot b bytes s = ({ s with boot :=
      if b then { s.boot with slotB := some (Image.ofBytes bytes) } else { s.boot with slotA := some (Image.ofBytes bytes) } }, true) := by
  simp [programSlot, hw, hx]

/-- A place for a flag record is found with the sectors alone changed. -/
theorem flagPlace_sectors (x : Boot) (sector1 : Bool) (after : Nat) :
    ∃ b i l m, flagPlace x sector1 after = (b, i, { x with sector0 := l, sector1 := m }) := by
  unfold flagPlace
  split
  · exact ⟨_, _, _, _, rfl⟩
  · cases sector1 <;> exact ⟨_, _, _, _, rfl⟩

/-- A NOR without bad positions takes a flag record at the first try. -/
theorem placeFlag_sound {x : Boot} (n : Nat) (sector1 : Bool) (after : Nat) (p : Text) (h : x.badPos = []) :
    ∃ b i l m, placeFlag (n + 1) sector1 after p x = ({ x with sector0 := l, sector1 := m }, some (b, i)) := by
  obtain ⟨b, i, l, m, hplace⟩ := flagPlace_sectors x sector1 after
  unfold placeFlag
  rw [hplace]
  refine ⟨b, i, ?_⟩
  cases b <;> exact ⟨_, _, if_neg (by simp [h])⟩

theorem showFlag_boot (s : State) : (showFlag s).boot = s.boot := (State.setReg_boot ..).trans (State.setReg_boot ..)

/-- BOOT.FLAG_SEQ shows the sequence of the selected record. -/
theorem showFlag_seq {s : State} {n i : Nat} {b sec1 : Bool} (h : s.boot.selected = some (n, b, sec1, i)) :
    (showFlag s).reg .BOOT_FLAG_SEQ = n := by
  unfold showFlag
  rw [h]
  exact (setReg_reg_other _ _ _ _ _ _ (by decide)).trans (setReg_reg_same ..)

/-- The first flag record of a NOR: its sequence is 0 and it names its slot active. -/
theorem writeFlag_first {s : State} (writer : Nat) (b : Bool) (img : Image) (hw : s.boot.norWrites = true)
    (hx : s.reg .BOOT_XSPI_MODE ≠ 0) (hsel : s.boot.selected = none) (hbad : s.boot.badPos = []) :
    ∃ sec1 i l m, writeFlag writer b img s =
      (showFlag { s with boot := { s.boot with sector0 := l, sector1 := m, selected := some (0, b, sec1, i) } }, .ok 0) := by
  unfold writeFlag
  extract_lets seq tai p
  obtain ⟨sec1, i, k, m, hplace⟩ := placeFlag_sound (x := s.boot) 1 false 0 p hbad
  refine ⟨sec1, i, k, m, ?_⟩
  have hseq : seq = 0 := by simp [seq, hsel]
  rw [if_neg (by simp [hseq]), if_neg (by simp [hw, hx])]
  simp only [flagAfter, hsel, hplace, hseq] <;> rfl

/-- Steps 6 to 8 of REC.COMMIT on a NOR without a flag record. -/
theorem recWrite_first {r : Route} {x : Session} {s : State} (hw : s.boot.norWrites = true) (hx : s.reg .BOOT_XSPI_MODE ≠ 0)
    (hsel : s.boot.selected = none) (hbad : s.boot.badPos = []) :
    (recWrite r x s).boot.recov = none ∧
      (x.slotB = false → (recWrite r x s).boot.slotA = some (Image.ofBytes x.bytes) ∧ (recWrite r x s).boot.slotB = s.boot.slotB) ∧
      (x.slotB = true → (recWrite r x s).boot.slotB = some (Image.ofBytes x.bytes) ∧ (recWrite r x s).boot.slotA = s.boot.slotA) ∧
      activeSlot (recWrite r x s) = x.slotB ∧ (recWrite r x s).reg .BOOT_FLAG_SEQ = 0 := by
  unfold recWrite
  dsimp only
  rw [programSlot_ok hw hx]
  dsimp only
  generalize hv : ({ s with boot := if x.slotB then { s.boot with slotB := some (Image.ofBytes x.bytes) }
    else { s.boot with slotA := some (Image.ofBytes x.bytes) } } : State) = v
  obtain ⟨sec1, i, k, m, hflag⟩ := writeFlag_first (s := v) 2 x.slotB (Image.ofBytes x.bytes)
    (by rw [← hv]; cases x.slotB <;> exact hw) (by rw [← hv]; exact hx) (by rw [← hv]; cases x.slotB <;> exact hsel)
    (by rw [← hv]; cases x.slotB <;> exact hbad)
  rw [hflag]
  generalize hw' : showFlag { v with boot := { v.boot with sector0 := k, sector1 := m, selected := some (0, x.slotB, sec1, i) } } = w
  have hwboot : w.boot = { v.boot with sector0 := k, sector1 := m, selected := some (0, x.slotB, sec1, i) } := by
    rw [← hw']
    exact showFlag_boot _
  have hwseq : w.reg .BOOT_FLAG_SEQ = 0 := by
    rw [← hw']
    exact showFlag_seq rfl
  dsimp only [done]
  refine ⟨?_, fun hb => ?_, fun hb => ?_, ?_, ?_⟩
  · simp
  · simp [hwboot, ← hv, hb]
  · simp [hwboot, ← hv, hb]
  · simp [activeSlot, hwboot]
  · rw [reply_reg _ _ _ _ _ _ (by decide), raise_reg _ _ _ _ _ (by decide), trace_reg _ _ _ _ _ _ (by decide) (by decide)]
    exact hwseq

/-- Settles O39: each REC verb past its gate; a commit by the record that it writes first. -/
theorem recoveryVerbsComplete : Obligations.RecoveryVerbsComplete := by
  intro l s
  refine ⟨fun hp hsel hrej => ?info, fun v u hv hu hp h16 hsel hrecov => ?opened, fun v u hv hu hp h16 => ?ragged,
    fun v u x hv hu hp hx hd ho hfit => ?data, fun v u x hv hu hp hx hd ho => ?misplaced,
    fun v u x hv hu hp hx hpass hw hxspi hsel hbad => ?commit, fun v hv hp hx => ?noImage, fun x hshort => ?short,
    fun v u hv hu hp hx => ?aborted, fun v hv hp h0 h1 => ?rebooted⟩
  case info =>
    refine congrArg Host.Outcome.next ((gate_run _ _ _ _ hp).trans ?_)
    simp [hsel, hrej, done, activeSlot, profileName, noteLine_reg, slotVal, slotNum]
  case opened =>
    subst hv hu
    refine congrArg Host.Outcome.next ((gate_run _ _ _ _ hp).trans ?_)
    simp [h16, hsel, hrecov, done]
  case ragged =>
    subst hv hu
    exact congrArg Host.Outcome.next ((gate_run _ _ _ _ hp).trans (if_pos (by simpa using h16)))
  case data =>
    subst hv hu
    refine congrArg Host.Outcome.next ((gate_run _ _ _ _ hp).trans ?_)
    have hok : appendData l x = .ok { x with bytes := x.bytes ++ l.bytes "d" } := by
      simp [appendData, hd, ho, hfit]
    simp [hx, hok, done]
  case misplaced =>
    subst hv hu
    refine congrArg Host.Outcome.next ((gate_run _ _ _ _ hp).trans ?_)
    have hbad : appendData l x = .error (204, [("next", .n x.bytes.length)]) := by simp [appendData, hd, ho]
    simp [hx, hbad]
  case commit =>
    subst hv hu
    refine ⟨_, congrArg Host.Outcome.next ((gate_run _ _ _ _ hp).trans ?_), rfl, ?_⟩
    · simp [hx, hpass]
    · simpa using recWrite_first (r := l.route) (x := x) (s := noteLine (vRec "REC.COMMIT" [crcArg] s) l s) (by simpa using hw)
        (by rwa [noteLine_reg]) (by simpa using hsel) (by simpa using hbad)
  case noImage =>
    subst hv
    refine congrArg Host.Outcome.next ((gate_run _ _ _ _ hp).trans ?_)
    simp [hx]
  case short => exact if_pos hshort
  case aborted =>
    subst hv hu
    exact congrArg Host.Outcome.next ((gate_run _ _ _ _ hp).trans (if_neg (by simpa [Option.isNone_iff_eq_none] using hx)))
  case rebooted =>
    subst hv
    refine ⟨_, congrArg Host.Outcome.next (gate_run _ _ _ _ hp), rfl, ?_⟩
    have hmodes := passes_mode hp
    simp only [vRec, List.mem_cons, List.not_mem_nil, or_false] at hmodes
    have hheld := notHeld_of_lineMode (s := s) (by simp [hmodes]) (by simp [hmodes])
    obtain ⟨hmode, hend, -⟩ := nightfallRetry_facts 1 (s := done l.route [] (noteLine (vRec "REC.BOOT" [] s) l s))
      (by simpa [done] using hheld) (by simpa [done, groupGood] using h0) (by simpa [done, groupGood] using h1)
    exact ⟨hmode, hend⟩

end Sys2Proof.Machine

namespace Sys2Proof.Machine

/-! ## The update of the slot that is not running (R235, R236) -/

@[simp] theorem noteLine_updState (v : Verb) (l : Line) (s : State) : updState (noteLine v l s) = updState s := by
  simp [updState]
@[simp] theorem noteLine_updNext (v : Verb) (l : Line) (s : State) : updNext (noteLine v l s) = updNext s := by
  simp [updNext]

/-- Bytes that join on at the end of an image in assembly, and fit, are taken. -/
theorem appendData_ok {l : Line} {x : Session} (hd : l.bytes "d" ≠ []) (ho : l.nat "o" = x.bytes.length)
    (hfit : x.bytes.length + (l.bytes "d").length ≤ x.size) :
    appendData l x = .ok { x with bytes := x.bytes ++ l.bytes "d" } := by
  simp [appendData, hd, ho, hfit]

/-- Settles O40: each BOOT verb past its gate. -/
theorem bootVerbsComplete : Obligations.BootVerbsComplete := by
  intro l s
  refine ⟨fun hp hmode => ?shown, fun v u hv hu hp h16 hupd => ?opened, fun v u x hv hu hp h16 hupd hcom hroute => ?held,
    fun v u x hv hu hp hx hd ho hfit => ?data, fun v u w x e hv hu hp hx hread hfit => ?fromkv,
    fun v u w x hv hu hp hx hpass hprog => ?commit, fun v u w b seq hv hu hp hb hpass hflag => ?activated,
    fun v u b c hv hu hp hb hfail => ?rejected, fun v u hv hu hp hopen => ?aborted⟩
  case shown =>
    refine congrArg Host.Outcome.next ((gate_run _ _ _ _ hp).trans ?_)
    simp [done, noteLine_reg]
  all_goals
    subst hv hu
    refine congrArg Host.Outcome.next ((gate_run _ _ _ _ hp).trans ?_)
  case opened => simp [h16, hupd, doBootOpen.opened, done, noteLine_reg]
  case held => simp [h16, hupd, hcom, hroute]
  case data => simp [hx, appendData_ok hd ho hfit, done]
  case fromkv => simp [hx, hread, Nat.not_lt.mpr hfit, done]
  case commit => simp [hx, hpass, hprog, done]
  case activated => simp [hb, hpass, hflag, done]
  case rejected => simp [hb, hfail]
  case aborted => simp [hopen, done]

end Sys2Proof.Machine

namespace Sys2Proof.Machine

/-! ## Alarms (R253 to R260) -/

theorem ringSend_pin (o : Output) (s : State) : (ringSend o s).line.pin = s.line.pin := by
  unfold ringSend
  split
  · rfl
  · split <;> rfl

theorem reply_ring_pin (c : Nat) (kv : List (String × Val)) (s : State) : (reply .ring c kv s).line.pin = s.line.pin := by
  unfold reply
  dsimp only
  split
  · rw [ringSend_pin, ringSend_pin]
  · rw [ringSend_pin]

theorem lateReply_sec (r : Route) (c : Nat) (kv : List (String × Val)) (s : State) : (lateReply r c kv s).sec = s.sec := by
  unfold lateReply
  split
  · rfl
  · dsimp only
    rw [reply_sec]
    split <;> rfl

theorem lateReply_ring_pin (c : Nat) (kv : List (String × Val)) (s : State) :
    (lateReply .ring c kv s).line.pin = s.line.pin := by
  unfold lateReply
  split
  · rfl
  · exact (reply_ring_pin ..).trans rfl

/-! ### The end of every session and connection -/

/-- What neither the network nor the end of a session or connection touches. -/
structure NetBlind {β : Type} (f : State → β) : Prop where
  raise : ∀ i k s, f (raise i k s) = f s
  setReg : ∀ s p v i, f (State.setReg s p v i) = f s
  net : ∀ s v, f { s with net := v } = f s
  out : ∀ s v, f { s with out := v } = f s
  sess : ∀ s v, f { s with sess := v } = f s
  owned : ∀ s a b c, f { s with kv := { s.kv with snaps := a }, assoc := b, routes := c } = f s
  conns : ∀ s v w, f { s with line := { s.line with tlsConns := v }, net := w } = f s

namespace NetBlind
variable {β : Type} {f : State → β} (h : NetBlind f)
include h

theorem setPort (s : State) (p : Nat) (x : Port) : f (s.setPort p x) = f s := by
  unfold State.setPort
  split <;> exact h.net s _

theorem portSend (p : Nat) (o : Output) (s : State) : f (portSend p o s) = f s := by
  unfold Machine.portSend
  split
  · exact h.setPort ..
  · exact h.out s _

theorem tlsOut (c : Nat) (o : Output) (s : State) : f (tlsOut c o s) = f s := by
  unfold Machine.tlsOut
  split
  · exact h.portSend ..
  · exact h.out s _

theorem closeRoute (r : Route) (s : State) : f (closeRoute r s) = f s :=
  (endSnapsTold_keep f h.raise ..).trans (h.owned s _ _ _)

theorem closeSession (reason n : Nat) (s : State) : f (closeSession reason n s) = f s := by
  unfold Machine.closeSession
  split
  · rfl
  next x _ =>
    dsimp only
    rw [h.raise, h.closeRoute, h.portSend]
    refine (h.sess ..).trans ((h.setReg ..).trans ?_)
    split
    · exact h.raise ..
    · rfl

theorem closeTls (c : Nat) (s : State) : f (closeTls c s) = f s := by
  unfold Machine.closeTls
  split
  · rfl
  · dsimp only
    rw [h.raise, h.closeRoute]
    exact (h.conns ..).trans (h.tlsOut ..)

theorem closeAll (hboot : ∀ s v, f { s with boot := v } = f s) (s : State) : f (closeAll s) = f s := by
  unfold Machine.closeAll
  refine (h.net ..).trans ?_
  rw [foldl_keep f _ (fun s c => h.closeTls c s), foldl_keep f _ (fun s n => h.closeSession 3 n s)]
  exact dropUpdate_keep f hboot h.raise s

end NetBlind

theorem sec_netBlind : NetBlind (·.sec) := ⟨by simp, by simp, fun _ _ => rfl, fun _ _ => rfl, fun _ _ => rfl,
  fun _ _ _ _ => rfl, fun _ _ _ => rfl⟩
theorem day_netBlind : NetBlind (·.day) := ⟨by simp, by simp, fun _ _ => rfl, fun _ _ => rfl, fun _ _ => rfl,
  fun _ _ _ _ => rfl, fun _ _ _ => rfl⟩
theorem pin_netBlind : NetBlind (·.line.pin) := ⟨by simp, by simp, fun _ _ => rfl, fun _ _ => rfl, fun _ _ => rfl,
  fun _ _ _ _ => rfl, fun _ _ _ => rfl⟩

/-- What an alarm cuts short is neither a secret nor the mode. -/
theorem alarmCuts_facts (s : State) :
    (alarmCuts s).sec = s.sec ∧ (alarmCuts s).mode = s.mode ∧ (alarmCuts s).line.pin = s.line.pin := by
  unfold alarmCuts
  dsimp only [clearQueries]
  refine ⟨(sec_netBlind.closeAll (fun _ _ => rfl) _).trans ?_, (congrArg Day.mode (day_netBlind.closeAll (fun _ _ => rfl) _)).trans ?_, (pin_netBlind.closeAll (fun _ _ => rfl) _).trans ?_⟩
  · split
    · exact lateReply_sec ..
    · rfl
  · split
    · exact congrArg Day.mode (lateReply_day ..)
    · rfl
  · split
    · exact lateReply_ring_pin ..
    · rfl

/-- In Morning, its supplies and sequence at rest, an alarm's record is due and the mode stands for now. -/
theorem alarmPath_morning {s : State} (hmode : s.mode = .M4) (hfail : s.pwr.failing = false) (hheld : s.pwr.held = false)
    (hseq : s.pwr.seq = .idle) :
    alarmPath s = { alarmCuts s with sec := { (alarmCuts s).sec with recordDue := true } } := by
  simp [alarmPath, hmode, hfail, hheld, hseq]

/-- Of what the keys were loaded in, zeroisation leaves the slot of the persistent-log key alone. -/
theorem zeroise_vault (s : State) : (∀ e ∈ (zeroise s).sec.vault, e.slot = 14) ∧ (zeroise s).sec.olk = none ∧
    (zeroise s).sec.kek = none ∧ (zeroise s).sec.xts = [] ∧ (zeroise s).sec.recKeys = [] := by
  have hall : ∀ e ∈ (zeroise s).sec.vault, e.slot = 14 := fun e he => by
    simpa using (List.mem_filter.1 he).2
  have hnone : ∀ n, n ≠ 14 → (zeroise s).sec.slotKey n = none := fun n hn => by
    simp only [Sec.slotKey, Option.map_eq_none_iff, List.find?_eq_none]
    intro e he heq
    exact hn ((beq_iff_eq.1 heq).symm.trans (hall e he))
  exact ⟨hall, hnone 2 (by decide), hnone 0 (by decide), rfl, rfl⟩

/-- Without the ERASE latch the first alarm of class A names it and burns the active seed's revoke fuse. -/
theorem fireAlarm_erase {src n : Nat} {s : State} (hclass : classInForce s src = 1) (herase : eraseHeld s = false)
    (hseed : activeSeed s = some n) (hmode : s.mode = .M4) (hfail : s.pwr.failing = false) (hheld : s.pwr.held = false)
    (hseq : s.pwr.seq = .idle) :
    (fireAlarm src s).sec = { (zeroise s).sec with
        burning := some n, burnAt := s.now, otp := { s.sec.otp with revoked := setBit s.sec.otp.revoked n }, latch := 1,
        latchSrc := src, recordDue := true } ∧
      (fireAlarm src s).line.pin = none ∧ (fireAlarm src s).mode = .M4 := by
  have hlatch : s.sec.latch ≠ 1 := by
    simp only [eraseHeld, Bool.or_eq_false_iff, beq_eq_false_iff_ne] at herase
    exact herase.1
  unfold fireAlarm
  dsimp only
  rw [if_neg (by simp [hclass]), if_pos (by simp [hclass]), if_neg (by simp [herase])]
  generalize hu : raiseWith (0x080 + src) 3 _ false 1 (zeroise s) = u
  have husec : u.sec = (zeroise s).sec := by simp [← hu]
  have hupwr : u.pwr = s.pwr := by simp [← hu, zeroise]
  have humode : u.mode = .M4 := by simpa [State.mode, ← hu, zeroise] using hmode
  have hunow : u.now = s.now := by simp [State.now, ← hu, zeroise]
  have huseed : activeSeed u = some n := by simpa [activeSeed, husec, zeroise] using hseed
  rw [huseed]
  dsimp only
  generalize hv : ({ u with line := _, sec := _ } : State) = v
  have hvpwr : v.pwr = s.pwr := by rw [← hv]; exact hupwr
  have hvmode : v.mode = .M4 := by rw [← hv]; exact humode
  rw [alarmPath_morning hvmode (by rw [hvpwr, hfail]) (by rw [hvpwr, hheld]) (by rw [hvpwr, hseq])]
  obtain ⟨hcsec, hcmode, hcpin⟩ := alarmCuts_facts v
  refine ⟨?_, ?_, ?_⟩
  · rw [hcsec, ← hv]
    simp [hlatch, husec, hunow, zeroise]
  · exact hcpin.trans (by rw [← hv])
  · exact hcmode.trans hvmode

/-- The first alarm of class B names the LOCK latch; what is burned stands. -/
theorem fireAlarm_lock {src : Nat} {s : State} (hclass : classInForce s src = 2) (hlatch : s.sec.latch = 0)
    (hmode : s.mode = .M4) (hfail : s.pwr.failing = false) (hheld : s.pwr.held = false) (hseq : s.pwr.seq = .idle) :
    (fireAlarm src s).sec = { (zeroise s).sec with latch := 2, latchSrc := src, recordDue := true } := by
  unfold fireAlarm
  dsimp only
  rw [if_neg (by simp [hclass]), if_neg (by simp [hclass])]
  generalize hu : raiseWith (0x080 + src) 3 _ false 1 (zeroise s) = u
  have husec : u.sec = (zeroise s).sec := by simp [← hu]
  have hupwr : u.pwr = s.pwr := by simp [← hu, zeroise]
  have humode : u.mode = .M4 := by simpa [State.mode, ← hu, zeroise] using hmode
  rw [if_pos (by simp [husec, zeroise, hlatch])]
  generalize hv : raise 0x091 [] ({ u with sec := _ } : State) = v
  have hvsec : v.sec = { (zeroise s).sec with latch := 2, latchSrc := src } := by simp [← hv, husec]
  have hvpwr : v.pwr = s.pwr := by simp [← hv, hupwr]
  have hvmode : v.mode = .M4 := by simpa [State.mode, ← hv] using humode
  rw [alarmPath_morning hvmode (by rw [hvpwr, hfail]) (by rw [hvpwr, hheld]) (by rw [hvpwr, hseq]), (alarmCuts_facts v).1, hvsec]

theorem coreReset_latch (s : State) : (coreReset s).sec.latch = s.sec.latch := by simp [coreReset, loseDirty]

/-- The end of the burn, as it is told (R255). -/
def burnTold (us n : Nat) (s : State) : State := raise 0x090 [("seed", .n n), ("us", .n us)]
  (({ s with sec := { s.sec with burning := none } } : State).setReg .ALM_ERASE_US (min us 65535))

theorem burnTold_seed (us n : Nat) (s : State) : activeSeed (burnTold us n s) = activeSeed s := by
  simp [activeSeed, burnTold]

theorem execEraseBurnComplete_eq {n : Nat} {s : State} (us : Nat) (h : s.sec.burning = some n) :
    exec (.eraseBurnComplete us) s =
      .next (if (activeSeed (burnTold us n s)).isNone then raise 0x094 [] (burnTold us n s) else burnTold us n s) := by
  show execEraseBurnComplete us s = _
  unfold execEraseBurnComplete
  rw [h, sat_eq_min]
  rfl

/-- Settles O42: the class of the source decides; the latch, the fuse and the keys by what each class leaves. -/
theorem alarmCommandsComplete : Obligations.AlarmCommandsComplete := by
  intro s
  refine ⟨fun src h8 harmed => ?fires, fun src hnot => ?unarmed, fun src hclass => ?record,
    fun src n hclass herase hseed hmode hfail hheld hseq => ?erase, fun src hclass hlatch hmode hfail hheld hseq => ?lock,
    fun src => rfl, fun us n hburn hseed => ?burned, fun us n hburn hseed => ?lastBurned, fun hdue hfw h0 h1 => ?written,
    fun hok => ?health, fun hok => ?unhealthy, rfl⟩
  case fires => exact congrArg Host.Outcome.next (if_neg (by simp [harmed]; omega))
  case unarmed => exact congrArg Host.Outcome.next (if_pos (by rcases hnot with h | h <;> simp [h]))
  case record =>
    unfold fireAlarm
    dsimp only
    rw [if_pos (by simp [hclass]), hclass]
    rfl
  case erase =>
    obtain ⟨hsec, hpin, hm4⟩ := fireAlarm_erase hclass herase hseed hmode hfail hheld hseq
    obtain ⟨hvault, holk, hkek, hxts, hrec⟩ := zeroise_vault s
    refine ⟨_, rfl, ?_⟩
    rw [hsec]
    exact ⟨rfl, rfl, bitAt_setBit_same .., rfl, holk, hkek, hvault, hxts, hrec, hpin, rfl, hm4⟩
  case lock =>
    obtain ⟨-, holk, -⟩ := zeroise_vault s
    refine ⟨_, rfl, ?_⟩
    rw [fireAlarm_lock hclass hlatch hmode hfail hheld hseq]
    exact ⟨rfl, rfl, holk, rfl, rfl⟩
  case burned =>
    have hleft : (activeSeed (burnTold us n s)).isNone = false := by
      rw [burnTold_seed]
      simpa using hseed
    exact (execEraseBurnComplete_eq us hburn).trans (congrArg Host.Outcome.next (if_neg (by simp [hleft])))
  case lastBurned =>
    have hnone : (activeSeed (burnTold us n s)).isNone = true := by rw [burnTold_seed, hseed]; rfl
    exact (execEraseBurnComplete_eq us hburn).trans (congrArg Host.Outcome.next (if_pos hnone))
  case written =>
    have hup := hfw
    simp only [State.firmware, State.coreUp, Bool.and_eq_true, Bool.not_eq_true'] at hup
    obtain ⟨-, ⟨-, hheld⟩, hfail⟩ := hup
    have hkeep : ∀ {β : Type} (f : State → β), (∀ s v, f { s with pwr := v } = f s) → (∀ s v, f { s with day := v } = f s) →
        (∀ s : State, f s.tick = f s) → (∀ i k s, f (raise i k s) = f s) → _ := fun {β} f =>
      resetToDawn_keep f 1 5 (s := programLog { s with sec := { s.sec with recordDue := false } }) hheld h0 h1
    have hsec := hkeep (·.sec) (fun _ _ => rfl) (fun _ _ => rfl) (fun _ => rfl) (by simp)
    refine ⟨resetToDawn 1 5 (programLog { s with sec := { s.sec with recordDue := false } }),
      congrArg Host.Outcome.next (if_pos (by simp [hdue, hfw, hfail, hheld])), ?_, ?_, ?_, ?_, ?_⟩
    · exact (resetToDawn_dawn 1 5 (s := programLog { s with sec := { s.sec with recordDue := false } }) hheld h0 h1).1
    · exact congrArg Sec.recordDue hsec
    · exact (congrArg Sec.latch hsec).trans (coreReset_latch _)
    · exact congrArg Sec.vault hsec
    · exact (hkeep (·.reg .PWR_RESET_CAUSE 0) (fun _ _ => rfl) (fun _ _ => rfl) (fun _ => rfl)
        fun _ _ _ => raise_reg _ _ _ _ _ (by decide)).trans (setReg_reg_same ..)
  case health => exact congrArg Host.Outcome.next (if_pos hok)
  case unhealthy => exact congrArg Host.Outcome.next (if_neg (by simp [hok]))

end Sys2Proof.Machine

namespace Sys2Proof.Machine

/-! ## Authority and the life cycle (R240, R242, R243, R245, R259) -/

theorem yesNo_eq (b : Bool) : yesNo b = b.toNat := by cases b <;> rfl

@[simp] theorem noteLine_hasAuth (v : Verb) (l : Line) (s : State) : hasAuth l.route (noteLine v l s) = (s.route l.route).auth := by
  simp [hasAuth, noteLine_route]
@[simp] theorem noteLine_activeSeed (v : Verb) (l : Line) (s : State) : activeSeed (noteLine v l s) = activeSeed s := by
  simp [activeSeed]
@[simp] theorem noteLine_seedVal (v : Verb) (l : Line) (s : State) : seedVal (noteLine v l s) = seedVal s := by simp [seedVal]
@[simp] theorem noteLine_seedsLeft (v : Verb) (l : Line) (s : State) : seedsLeft (noteLine v l s) = seedsLeft s := by
  simp [seedsLeft]
@[simp] theorem noteLine_debugState (v : Verb) (l : Line) (s : State) : debugState (noteLine v l s) = debugState s := by
  simp [debugState]
@[simp] theorem noteLine_detecting (v : Verb) (l : Line) (s : State) (n : Nat) :
    detecting (noteLine v l s) n = detecting s n := by
  simp [detecting, detectsNow, armed, classInForce, meshEn, noteLine_reg]

/-! ### The fuses of a move -/

/-- The life cycle that a word of fuses names. -/
def lcOf (f : Nat) : Nat := if bitAt f 3 then 4 else if bitAt f 2 then 3 else if bitAt f 1 then 2 else if bitAt f 0 then 1 else 0

theorem lifeCycle_eq (s : State) : lifeCycle s = lcOf s.sec.otp.fuses := rfl

/-- A fuse above the present state names the next one. -/
theorem lcOf_setBit {f dst : Nat} (h1 : 1 ≤ dst) (h4 : dst ≤ 4) (h : lcOf f < dst) : lcOf (setBit f (dst - 1)) = dst := by
  have hclear : ∀ k, dst ≤ k → k ≤ 3 → bitAt f k = false := by
    intro k hk hk3
    refine eq_false_of_ne_true fun hset => ?_
    have : k + 1 ≤ lcOf f := by
      unfold lcOf
      have hk' : k = 0 ∨ k = 1 ∨ k = 2 ∨ k = 3 := by omega
      rcases hk' with rfl | rfl | rfl | rfl
      · simp only [hset, if_true]
        (repeat' split) <;> omega
      · simp only [hset, if_true]
        (repeat' split) <;> omega
      · simp only [hset, if_true]
        (repeat' split) <;> omega
      · simp [hset]
    omega
  have hbit : ∀ k, bitAt (setBit f (dst - 1)) k = (k == dst - 1 || bitAt f k) := fun k => by
    by_cases hk : k = dst - 1
    · rw [hk, bitAt_setBit_same]
      simp
    · simp [bitAt_setBit_other hk, hk]
  have hdst : dst = 1 ∨ dst = 2 ∨ dst = 3 ∨ dst = 4 := by omega
  unfold lcOf
  rcases hdst with rfl | rfl | rfl | rfl
  · rw [Nat.sub_self] at hbit
    simp [hbit, hclear 1, hclear 2, hclear 3]
  · simp [hbit, hclear 2, hclear 3]
  · simp [hbit, hclear 3]
  · simp [hbit]

/-- The reset that ends a move leads to Dawn; what is burned stands, and so does the latch. -/
theorem lcReset_facts {s : State} (hheld : s.pwr.held = false) (h0 : groupGood s 0 = true) (h1 : groupGood s 1 = true) :
    (lcReset s).mode = .M2 ∧ (lcReset s).sec.otp = s.sec.otp ∧ (lcReset s).sec.latch = s.sec.latch := by
  have hsec := resetToDawn_keep (·.sec) 1 4 hheld h0 h1 (fun _ _ => rfl) (fun _ _ => rfl) (fun _ => rfl) (by simp)
  exact ⟨(resetToDawn_dawn 1 4 hheld h0 h1).1, (congrArg Sec.otp hsec).trans (coreReset_otp s),
    (congrArg Sec.latch hsec).trans (coreReset_latch s)⟩

/-- The fourth part of an answer is judged at once, and the nonce is spent on it. -/
theorem exec_lcAuth_judged {l : Line} {s : State} {n : Nonce} {ps : List (Nat × Text)} (hp : passes vLcAuth l s = true)
    (hn : (s.route l.route).lcNonce = some n) (hage : s.now ≤ n.at_ + sec 60)
    (hps : ps = (partIndex (l.text "part"), (groupBytes 24 (l.text "d")).getD []) ::
      (s.route l.route).lcParts.filter (fun p => p.1 != partIndex (l.text "part"))) (h4 : 4 ≤ ps.length) :
    let v := (noteLine vLcAuth l s).setRoute { (noteLine vLcAuth l s).route l.route with lcNonce := none, lcParts := [] }
    exec (.lcAuth l) s = .next (if authProved v n.bytes l.route (l.has "purpose") ps then
        done l.route [("auth", .n 1)] (grantAuth l.route (l.has "purpose") v)
      else loginFailed l.route (raise 0x062 [("route", routeVal l.route)] (reply l.route 207 [] v))) := by
  refine congrArg Host.Outcome.next ((gate_run _ _ _ _ hp).trans ?_)
  dsimp only
  rw [noteLine_route]
  dsimp only
  rw [hn]
  dsimp only
  rw [if_neg (by simpa [State.now] using hage), ← hps, if_neg (by omega)]

/-- The moves of Table 11.1 lead from a state to a later one. -/
theorem move_bounds {lc dst : Nat} (h : (lc, dst) ∈ [(0, 1), (1, 2), (2, 3), (2, 4), (3, 4)]) : 1 ≤ dst ∧ dst ≤ 4 ∧ lc < dst := by
  simp only [List.mem_cons, List.not_mem_nil, or_false, Prod.mk.injEq] at h
  omega

/-- A move of Table 11.1 that is asked for lacks something or is made. -/
theorem exec_lcAdvance {l : Line} {s : State} {dst : Nat} (hp : passes vLcAdvance l s = true) (hdst : dst = lcTarget (l.text "to"))
    (hmem : (lifeCycle s, dst) ∈ [(0, 1), (1, 2), (2, 3), (2, 4), (3, 4)]) :
    exec (.lcAdvance l) s = .next (match advanceNeed l.route dst (noteLine vLcAdvance l s) with
      | some f => reply l.route 204 [f] (noteLine vLcAdvance l s)
      | none => lcReset (raise 0x060 [("from", .c (lifeCycle s) (lcName (lifeCycle s))), ("to", .c dst (lcName dst))]
          (advanceBurn dst (reply l.route 1 [("from", .c (lifeCycle s) (lcName (lifeCycle s))), ("to", .c dst (lcName dst))]
            (noteLine vLcAdvance l s))))) := by
  have hmove : ((lifeCycle s == 0 && dst == 1) || (lifeCycle s == 1 && dst == 2) || (lifeCycle s == 2 && dst == 3) ||
      ((lifeCycle s == 2 || lifeCycle s == 3) && dst == 4)) = true := by
    simp only [List.mem_cons, List.not_mem_nil, or_false, Prod.mk.injEq] at hmem
    rcases hmem with ⟨h, h'⟩ | ⟨h, h'⟩ | ⟨h, h'⟩ | ⟨h, h'⟩ | ⟨h, h'⟩ <;> simp [h, h']
  refine congrArg Host.Outcome.next ((gate_run _ _ _ _ hp).trans ?_)
  dsimp only
  rw [noteLine_lifeCycle, ← hdst]
  exact if_neg (by simp [hmove])

/-- What recommissioning leaves before its reset (R259). -/
def recommissioned (n : Nat) (s : State) : State :=
  { burn (fun o => { o with commissioned := setBit o.commissioned n }) s with
    sec := { (burn (fun o => { o with commissioned := setBit o.commissioned n }) s).sec with latch := 0 } }

/-- Settles O43: each verb past its gate; a move by the fuse that it burns and the reset that ends it. -/
theorem lifeCycleVerbsComplete : Obligations.LifeCycleVerbsComplete := by
  intro l s
  refine ⟨fun hp => ?shown, fun u n hu hn hp hok => ?challenge, fun u n hu hp hn hage hparts => ?firstPart,
    fun u v n ps hu hv hp hn hage hps h4 => ?judged, fun u dst hu hp hdst hmem hneed h0 h1 => ?moved,
    fun u dst f hu hp hdst hmem hneed => ?needs, fun n hp hauth hlc hseed hcom hdet h0 h1 => ?recommissioned,
    fun hp hlc hnone => ?debugkey, fun hp hlc => ?notBlank, fun u n hu hn hp hlc hheld => ?signer, fun u n hu hn hp hauth => ?revoked⟩
  case shown =>
    refine congrArg Host.Outcome.next ((gate_run _ _ _ _ hp).trans ?_)
    simp [done, yesNo_eq, ownerSet]
  case challenge =>
    subst hu hn
    refine congrArg Host.Outcome.next ((gate_run _ _ _ _ hp).trans ?_)
    simp [done, hok, State.now]
  case firstPart =>
    subst hu
    refine congrArg Host.Outcome.next ((gate_run _ _ _ _ hp).trans ?_)
    dsimp only
    rw [noteLine_route]
    dsimp only
    rw [hn]
    dsimp only
    rw [if_neg (by simpa [State.now] using hage), hparts]
    exact if_pos (by simp)
  case judged =>
    subst hu hv
    have hrun := exec_lcAuth_judged hp hn hage hps h4
    exact ⟨fun hproved => hrun.trans (congrArg Host.Outcome.next (if_pos hproved)),
      fun hnot => hrun.trans (congrArg Host.Outcome.next (if_neg (by simp [hnot])))⟩
  case moved =>
    subst hu
    have hrun := exec_lcAdvance hp hdst hmem
    rw [hneed] at hrun
    obtain ⟨hpos, hle, hlt⟩ := move_bounds hmem
    have hmodes := passes_mode hp
    simp only [vLcAdvance, List.mem_cons, List.not_mem_nil, or_false] at hmodes
    have hheld := notHeld_of_lineMode (s := s) (by rcases hmodes with h | h <;> simp [h]) (by rcases hmodes with h | h <;> simp [h])
    refine ⟨_, hrun, ?_⟩
    generalize hv : raise 0x060 _ _ = v
    have hpwr : v.pwr = s.pwr := by simp [← hv, advanceBurn, burn]
    have hfuses : v.sec.otp.fuses = setBit s.sec.otp.fuses (dst - 1) := by simp [← hv, advanceBurn, burn]
    obtain ⟨hmode, hotp, -⟩ := lcReset_facts (s := v) (by rw [hpwr, hheld]) (by simpa [groupGood, hpwr] using h0)
      (by simpa [groupGood, hpwr] using h1)
    refine ⟨?_, hmode, rfl⟩
    rw [lifeCycle_eq, hotp, hfuses]
    exact lcOf_setBit hpos hle (by rwa [lifeCycle_eq] at hlt)
  case needs =>
    subst hu
    have hrun := exec_lcAdvance hp hdst hmem
    rw [hneed] at hrun
    exact hrun
  case recommissioned =>
    have hmodes := passes_mode hp
    simp only [vLcRecommission, List.mem_cons, List.not_mem_nil, or_false] at hmodes
    have hheld := notHeld_of_lineMode (s := s) (by simp [hmodes]) (by simp [hmodes])
    have hrun : exec (.lcRecommission l) s = .next (lcReset (raise 0x066 [("seed", .n n)] (recommissioned n
        (reply l.route 1 [("seed", .n n)] (noteLine vLcRecommission l s))))) := by
      refine congrArg Host.Outcome.next ((gate_run _ _ _ _ hp).trans ?_)
      simp [hauth, hlc, hseed, hcom, hdet, recommissioned]
    generalize hv : raise 0x066 [("seed", .n n)] _ = v at hrun
    have hpwr : v.pwr = s.pwr := by simp [← hv, recommissioned, burn]
    have hcommissioned : v.sec.otp.commissioned = setBit s.sec.otp.commissioned n := by simp [← hv, recommissioned, burn]
    have hlatch : v.sec.latch = 0 := by simp [← hv, recommissioned]
    obtain ⟨hmode, hotp, hlat⟩ := lcReset_facts (s := v) (by rw [hpwr, hheld]) (by simpa [groupGood, hpwr] using h0)
      (by simpa [groupGood, hpwr] using h1)
    refine ⟨_, hrun, ?_, hlat.trans hlatch, hmode⟩
    rw [hotp, hcommissioned]
    exact bitAt_setBit_same ..
  case debugkey =>
    refine congrArg Host.Outcome.next ((gate_run _ _ _ _ hp).trans ?_)
    simp [done, hlc, hnone]
  case notBlank => exact congrArg Host.Outcome.next ((gate_run _ _ _ _ hp).trans (if_pos (by simpa using hlc)))
  case signer =>
    subst hu hn
    refine congrArg Host.Outcome.next ((gate_run _ _ _ _ hp).trans ?_)
    have hfree : signerHeld (noteLine vLcSigner l s) (signerNum (l.text "idx")) = false := by
      simpa [signerHeld, signerBad] using hheld
    simp [signerNeed, hlc, hfree, done]
  case revoked =>
    subst hu hn
    exact congrArg Host.Outcome.next ((gate_run _ _ _ _ hp).trans (if_neg (by simp [hauth])))

end Sys2Proof.Machine

namespace Sys2Proof.Machine

/-! ## The vault (R247 to R252, R311 to R316, R515) -/

@[simp] theorem noteLine_changeLocked (v : Verb) (l : Line) (s : State) (n : Nat) :
    changeLocked (noteLine v l s) n = changeLocked s n := by simp [changeLocked, noteLine_reg]
@[simp] theorem noteLine_useLocked (v : Verb) (l : Line) (s : State) (n : Nat) :
    useLocked (noteLine v l s) n = useLocked s n := by simp [useLocked, noteLine_reg]
@[simp] theorem noteLine_ownerEntry (v : Verb) (l : Line) (s : State) (n : Nat) :
    ownerEntry (noteLine v l s) n = ownerEntry s n := by simp [ownerEntry]
@[simp] theorem noteLine_attrWord (v : Verb) (l : Line) (s : State) (n : Nat) :
    attrWord (noteLine v l s) n = attrWord s n := by simp [attrWord, noteLine_reg]
@[simp] theorem noteLine_credGet (v : Verb) (l : Line) (s : State) (n : Nat) :
    credGet (noteLine v l s) n = credGet s n := by simp [credGet]

/-- A slot holds what it was last loaded with. -/
theorem loadSlot_slotKey_same (n : Nat) (key : Text) (s : State) : (loadSlot n key s).sec.slotKey n = some key := by
  simp [loadSlot, Sec.slotKey]

/-- The load of one slot leaves the others. -/
theorem loadSlot_slotKey_other {n k : Nat} (h : k ≠ n) (key : Text) (s : State) :
    (loadSlot n key s).sec.slotKey k = s.sec.slotKey k := by
  have hfind : (s.sec.vault.filter fun e => e.slot != n).find? (fun e => e.slot == k) = s.sec.vault.find? fun e => e.slot == k := by
    rw [List.find?_filter]
    congr 1
    funext e
    by_cases he : e.slot = k
    · simp [he, h]
    · simp [he]
  simp [loadSlot, Sec.slotKey, Ne.symm h, hfind]

/-- A write to a lock register sets bits and answers with the register. -/
theorem lockWrite_sets (r : Route) (change : Bool) {v : Nat} (hv : v < 2 ^ 32) (s : State) :
    lockWrite r change v s = reply r 0 [("value", .n (s.reg (if change then .VAULT_LOCK_CHANGE else .VAULT_LOCK_USE) ||| v))]
      (s.setReg (if change then .VAULT_LOCK_CHANGE else .VAULT_LOCK_USE)
        (s.reg (if change then .VAULT_LOCK_CHANGE else .VAULT_LOCK_USE) ||| v)) := by
  unfold lockWrite
  dsimp only
  rw [if_neg (Nat.not_le.2 hv), setReg_reg_same]
  rfl

/-- Settles O44: each verb past its gate; the keys that it loads by the rules of the slots. -/
theorem vaultVerbsComplete : Obligations.VaultVerbsComplete := by
  intro l s
  refine ⟨fun hp => ?shown, fun u n hu hp hlc hseed hnone hbad => ?setowner, fun u n hu hp hlc hseed hset => ?ownerSet,
    fun u w hu hp hchain h3 h4 hok hns => ?genid, fun u w n hu hp hn hfree hns => ?psk,
    fun u x hu hp hlast hx => ?caPiece, fun u w x hu hp hlast hx hcert hns => ?caLast,
    fun u x hu hp hlast hx => ?certPiece, fun u v w x n hu hv hp hlast hx hmatch hns => ?certLast,
    fun u hu hp hid h3 h4 => ?csr, fun hp hargs => ?credRead, fun u w c hu hc hp hargs hgood htype hns => ?credWrite,
    fun r v hw hv => ?locks⟩
  case shown =>
    refine congrArg Host.Outcome.next ((gate_run _ _ _ _ hp).trans ?_)
    simp [done, yesNo_eq]
  case setowner =>
    subst hu
    refine ⟨_, loadSlot 2 ((groupBytes 16 (l.text "key")).getD []) (burn (fun o => { o with
        owner := o.owner ++ [(n, xorText ((groupBytes 16 (l.text "key")).getD []) (ownerMask o n))] }) (noteLine vVaultSetowner l s)),
      congrArg Host.Outcome.next ((gate_run _ _ _ _ hp).trans ?_), rfl, loadSlot_slotKey_same .., ?_, rfl⟩
    · have h2 : (lifeCycle s == 2) = false := by simp; omega
      simp [h2, show ¬2 < lifeCycle s by omega, hseed, hnone, hbad, done]
    · simp [loadSlot, burn]
  case ownerSet =>
    subst hu
    refine congrArg Host.Outcome.next ((gate_run _ _ _ _ hp).trans ?_)
    have h2 : (lifeCycle s == 2) = false := by simp; omega
    simp [h2, show ¬2 < lifeCycle s by omega, hseed, hset]
  case genid =>
    subst hu
    refine ⟨_, loadIdentity { w with sec := { w.sec with identity := true, identNo := w.sec.identNo + 1 } },
      congrArg Host.Outcome.next ((gate_run _ _ _ _ hp).trans ?_), rfl, rfl, rfl, ?_, ?_, rfl⟩
    · have hseed : seedVal (loadIdentity { w with sec := { w.sec with identity := true, identNo := w.sec.identNo + 1 } }) =
          seedVal w := rfl
      simp [hchain, h3, h4, hok, hns, done, hseed]
    · exact (loadSlot_slotKey_other (by decide) ..).trans (loadSlot_slotKey_same ..)
    · exact loadSlot_slotKey_same ..
  case psk =>
    subst hu hn
    refine congrArg Host.Outcome.next ((gate_run _ _ _ _ hp).trans ?_)
    simp [hfree, hns, done]
  case caPiece =>
    subst hu
    refine congrArg Host.Outcome.next ((gate_run _ _ _ _ hp).trans ?_)
    simp [noteLine_route, hx, hlast, done]
  case caLast =>
    subst hu
    refine congrArg Host.Outcome.next ((gate_run _ _ _ _ hp).trans ?_)
    simp [noteLine_route, hx, hlast, hcert, hns, done]
  case certPiece =>
    subst hu
    refine congrArg Host.Outcome.next ((gate_run _ _ _ _ hp).trans ?_)
    simp [noteLine_route, hx, hlast, done]
  case certLast =>
    subst hu hv
    refine congrArg Host.Outcome.next ((gate_run _ _ _ _ hp).trans ?_)
    simp [noteLine_route, hx, hlast, hmatch, hns, done]
  case csr =>
    subst hu
    refine congrArg Host.Outcome.next ((gate_run _ _ _ _ hp).trans ?_)
    simp [hid, h3, h4, done]
  case credRead =>
    refine congrArg Host.Outcome.next ((gate_run _ _ _ _ hp).trans ?_)
    simp [hargs, done]
  case credWrite =>
    subst hu hc
    refine congrArg Host.Outcome.next ((gate_run _ _ _ _ hp).trans ?_)
    simp [show ¬l.args.length ≤ 1 by omega, hgood, htype, hns, done]
  case locks =>
    exact ⟨congrArg Host.Outcome.next ((writeGate_run hw _ (lockWrite r true v)).trans (lockWrite_sets r true hv s)),
      congrArg Host.Outcome.next ((writeGate_run hw _ (lockWrite r false v)).trans (lockWrite_sets r false hv s))⟩

end Sys2Proof.Machine

namespace Sys2Proof.Machine

/-! ## The ALM verbs and the debug port (R242, R262, R523, R524) -/

@[simp] theorem noteLine_eraseHeld (v : Verb) (l : Line) (s : State) : eraseHeld (noteLine v l s) = eraseHeld s := by
  simp [eraseHeld]
@[simp] theorem noteLine_latchName (v : Verb) (l : Line) (s : State) : latchName (noteLine v l s) = latchName s := by
  simp [latchName]

/-- The fields of an address that has some, none of them absent, are there for the port. -/
theorem fields_present {a : Nat} {s : State} (hfields : fieldsAt a ≠ []) (habs : ∀ x ∈ fieldsAt a, fieldAbsent s x.1 = false) :
    ((fieldsAt a).isEmpty || (fieldsAt a).any (fun x => fieldAbsent s x.1)) = false := by
  have hany : (fieldsAt a).any (fun x => fieldAbsent s x.1) = false := by
    rw [List.any_eq_false]
    intro x hx
    simp [habs x hx]
  simp [hany, hfields]

/-- Settles O45: each verb past its gate; the port by what its address names. -/
theorem alarmVerbsAndDebugPortComplete : Obligations.AlarmVerbsAndDebugPortComplete := by
  intro l s
  refine ⟨fun hp h0 => ?noLatch, fun hp hne h8 => ?latch, fun hp herase hdet hlc h0 h1 => ?cleared, fun hp herase => ?erased,
    fun a w hdead => ?dead, fun a hlive h4 hfields habs => ?read, fun a hlive h4 hnone => ?nothing,
    fun a v set hlive h4 hfields habs hwr hloop hset hclass hval hjoint hlatch => ?written,
    fun a v hlive h4 hfields habs hro => ?readOnly⟩
  case noLatch =>
    refine congrArg Host.Outcome.next ((gate_run _ _ _ _ hp).trans ?_)
    simp [done, h0]
  case latch =>
    refine congrArg Host.Outcome.next ((gate_run _ _ _ _ hp).trans ?_)
    simp [done, hne, show ¬8 < s.sec.latchSrc by omega]
  case cleared =>
    have hmodes := passes_mode hp
    simp only [vAlmClear, List.mem_cons, List.not_mem_nil, or_false] at hmodes
    have hheld := notHeld_of_lineMode (s := s) (by simp [hmodes]) (by simp [hmodes])
    have hrun : exec (.almClear l) s = .next (lcReset (raise 0x092 [] { reply l.route 1 [] (noteLine vAlmClear l s) with
        sec := { (reply l.route 1 [] (noteLine vAlmClear l s)).sec with latch := 0 } })) := by
      refine congrArg Host.Outcome.next ((gate_run _ _ _ _ hp).trans ?_)
      simp [herase, hdet, hlc]
    generalize hv : raise 0x092 [] _ = v at hrun
    have hpwr : v.pwr = s.pwr := by simp [← hv]
    obtain ⟨hmode, hotp, hlat⟩ := lcReset_facts (s := v) (by rw [hpwr, hheld]) (by simpa [groupGood, hpwr] using h0)
      (by simpa [groupGood, hpwr] using h1)
    exact ⟨_, hrun, hlat.trans (by simp [← hv]), hmode, hotp.trans (by simp [← hv])⟩
  case erased => exact congrArg Host.Outcome.next ((gate_run _ _ _ _ hp).trans (if_pos (by simpa using herase)))
  case dead => exact congrArg Host.Outcome.next (if_pos (by simp [hdead]))
  case read =>
    refine congrArg Host.Outcome.next ((if_neg (by simp [hlive, h4])).trans ?_)
    exact if_neg (Bool.eq_false_iff.1 (fields_present hfields habs))
  case nothing =>
    refine congrArg Host.Outcome.next ((if_neg (by simp [hlive, h4])).trans ?_)
    exact if_pos (by simp [hnone])
  case written =>
    refine congrArg Host.Outcome.next ((if_neg (by simp [hlive, h4])).trans ?_)
    unfold debugWrite
    dsimp only
    rw [← hset, if_neg (by simpa [List.any_map, Function.comp_def] using fields_present hfields habs),
      if_neg (by simpa [List.any_map, Function.comp_def] using hwr), if_neg (by simp [hclass]),
      if_neg (by simpa [List.any_map, Function.comp_def] using hloop), if_neg (by simp [hval, hjoint]), hlatch]
  case readOnly =>
    refine congrArg Host.Outcome.next ((if_neg (by simp [hlive, h4])).trans ?_)
    unfold debugWrite
    dsimp only
    rw [if_neg (by simpa [List.any_map, Function.comp_def] using fields_present hfields habs),
      if_pos (by simpa [List.any_map, Function.comp_def] using hro)]

end Sys2Proof.Machine

namespace Sys2Proof.Machine

/-! ## Sunrise (R267, R268, R291) -/

/-- The reset state in stage 2 of Sunrise. -/
def sunriseStage2 : State :=
  { State.reset with
    day := { State.reset.day with mode := .M3 }
    mem := { State.reset.mem with sunrise := { State.reset.mem.sunrise with stage := 2 } } }

/-- Training time is kept whether or not every channel trains (R268). -/
theorem dramStage_untrained {ids : List Nat} {fast : Bool} {s : State} (gib : Nat) (le : Bool) (c ms : Nat)
    (hids : ∀ x ∈ ids, x = ids.headD 0) (hrate : s.mem.rateKept = 1 → fast = true) :
    dramStage ids gib fast le (some c) ms s = haltStage 3 [("ch", .n c)] (s.setReg .DRAM_TRAIN_MS (sat 16 ms)) := by
  unfold dramStage
  rw [if_neg (by simpa using hids), if_neg (by simpa using hrate)]

/-- Refutes O46: with a channel that does not train DRAM.TRAIN_MS takes the time all the same, where the clause says that
the halt and its event are all that changes. -/
theorem not_sunriseCommandsComplete : ¬ Obligations.SunriseCommandsComplete := by
  intro h
  obtain ⟨hstages, -⟩ := h sunriseStage2 rfl
  obtain ⟨-, -, huntrained, -⟩ := hstages rfl rfl
  have hclaim := huntrained [] 0 true false 1 0 rfl (by simp) (fun _ => rfl)
  have hrun : exec (.sunriseStageComplete (.dram [] 0 true false (some 0) 1)) sunriseStage2 =
      .next (haltStage 3 [("ch", .n 0)] (sunriseStage2.setReg .DRAM_TRAIN_MS (sat 16 1))) :=
    congrArg Host.Outcome.next ((if_neg (by decide)).trans (dramStage_untrained 0 false 0 1 (by simp) fun _ => rfl))
  have hreg := congrArg (State.reg · .DRAM_TRAIN_MS) (Host.Outcome.next.inj (hrun.symm.trans hclaim))
  unfold haltStage at hreg
  dsimp only at hreg
  rw [raise_reg _ _ _ _ _ (by decide), raise_reg _ _ _ _ _ (by decide)] at hreg
  exact absurd hreg (by decide)

end Sys2Proof.Machine

namespace Sys2Proof.Machine

/-! ## DRAM and NAND at work (R269, R276 to R295, R382) -/

/-! ### What a flush that ends short leaves of the NAND's targets -/

theorem coreReset_targets (s : State) : (coreReset s).mem.targets = s.mem.targets := by simp [coreReset, loseDirty]

theorem wake_targets (src : Nat) (s : State) : (wake src s).mem.targets = s.mem.targets := by
  have hsee : ∀ u : State, (seePwrFail u).mem.targets = u.mem.targets := fun u => by
    unfold seePwrFail
    split <;> rfl
  have hup : ∀ u : State, (startUp u).mem.targets = u.mem.targets := coreReset_targets
  have hres : ∀ u : State, (resumeGroups u).mem.targets = u.mem.targets := fun u => by
    unfold resumeGroups
    split <;> rfl
  unfold wake
  split
  · rfl
  · extract_lets v w x _
    have hv : v.mem.targets = s.mem.targets := by
      show (if s.mode.num ≤ 1 then seePwrFail s else s).mem.targets = _
      split
      · exact hsee s
      · rfl
    split
    · exact hv
    · split
      · split
        · have hx : x.mem.targets = v.mem.targets := by
            show (if w.pwr.causeHeld then w else w.setReg .PWR_RESET_CAUSE 6).mem.targets = _
            split <;> rfl
          exact (hup _).trans (hx.trans hv)
        · exact hv
      · split
        · split
          · exact hv
          · exact (hres _).trans hv
        · exact hv

theorem enterMidnight_targets (s : State) : (enterMidnight s).mem.targets = s.mem.targets := by
  have hsync : ∀ u : State, (cancelSync u).mem = u.mem := fun u => by
    unfold cancelSync
    split
    · rfl
    · rw [raise_mem]
  unfold enterMidnight
  dsimp only
  rw [enterMode_mem]
  exact congrArg Mem.targets (hsync s)

theorem powerDown_targets (s : State) : (powerDown s).mem.targets = s.mem.targets := by
  have hreach : ∀ u : State, (reachMidnight u).mem.targets = u.mem.targets := fun u => by
    unfold reachMidnight
    dsimp only
    split
    · exact (wake_targets ..).trans (enterMidnight_targets u)
    · exact enterMidnight_targets u
  unfold powerDown
  dsimp only
  split
  · exact hreach _
  · split
    · exact hreach _
    · rfl

theorem endFlush_targets (s : State) : (endFlush false s).mem.targets = s.mem.targets := by
  have hdone : ∀ u : State, (plpDone u).mem = u.mem := fun u => by
    unfold plpDone
    split
    · rfl
    · dsimp only
      rw [raise_mem]
      rfl
  unfold endFlush
  dsimp only
  rw [powerDown_targets, hdone, if_neg Bool.false_ne_true]
  split <;> rfl

/-- A retired target is out of use. -/
theorem retireTarget_facts {ch tgt : Nat} {s : State}
    (h : (s.mem.targets.any fun t => t.ch == ch && t.tgt == tgt && t.used) = true) :
    (retireTarget ch tgt s).mem.targets = s.mem.targets.map fun t =>
      if t.ch == ch && t.tgt == tgt then { t with used := false, retired := true } else t := by
  unfold retireTarget
  rw [if_neg (by simp [h])]
  extract_lets _ u v w
  have hw : w.mem.targets = u.mem.targets := by
    have hv : v.mem = u.mem := raise_mem ..
    show (if (v.mem.targets.any fun t => t.ch == ch && t.used) then v else raise _ _ v).mem.targets = _
    split
    · rw [hv]
    · rw [raise_mem, hv]
  split
  · rw [recompute_mem, hw]
  · split
    · rw [endFlush_targets, hw]
    · exact hw

/-! ### The patrol -/

theorem setEntry_foldl_day (ups : List Upset) (s : State) : (ups.foldl applyUpset s).day = s.day :=
  foldl_keep (·.day) applyUpset (fun s u => by unfold applyUpset; split <;> rfl) ups s

/-- What arises in memory cells is no more than errors that wait and faults of the array. -/
theorem arise_day (f : CellFaults) (s : State) : (arise f s).day = s.day := setEntry_foldl_day f.upsets s

theorem arise_nothing (n : Nat) (s : State) : arise ⟨n, [], []⟩ s = s := by simp [arise]

theorem arise_error {n : Nat} {e : DramErr} {s : State} (h : e ∉ s.mem.ue) :
    arise ⟨n, [e], []⟩ s = { s with mem := { s.mem with ue := s.mem.ue ++ [e] } } := by
  have hnew : (s.mem.ue.any (· == e)) = false := by
    rw [List.any_eq_false]
    intro x hx
    simpa using fun hxe : x = e => h (hxe ▸ hx)
  simp [arise, hnew]

theorem countCorrected_facts (ch n : Nat) (s : State) : (countCorrected ch n s).mem.ue = s.mem.ue ∧
    (countCorrected ch n s).reg .DRAM_CE_COUNT = min (s.reg .DRAM_CE_COUNT + n) (2 ^ 32 - 1) := by
  unfold countCorrected
  extract_lets hour old _ u v
  have hue : v.mem.ue = s.mem.ue := rfl
  have hreg : v.reg .DRAM_CE_COUNT = min (s.reg .DRAM_CE_COUNT + n) (2 ^ 32 - 1) :=
    (setReg_reg_same ..).trans (sat_eq_min 32 _)
  split
  · rw [raise_mem, raise_reg _ _ _ _ _ (by decide)]
    exact ⟨hue, hreg⟩
  · exact ⟨hue, hreg⟩

/-- The patrol with one error on its channel, in a region that is always checked, meets it. -/
theorem patrol_meets {ch : Nat} {e : DramErr} {s : State} (hch : ch ≤ 15) (hserv : s.inService = true) (ht : s.day.t < 16)
    (hue : s.mem.ue = []) (hon : errChannel s e = ch) (hdet : detected s e.region = true) :
    exec (.dramPatrolScrub ch ⟨0, [e], []⟩) s = .next (uncorrectable e { s with mem := { s.mem with ue := [e] } }) := by
  have hfound : arise ⟨0, [e], []⟩ s = { s with mem := { s.mem with ue := [e] } } := by
    rw [arise_error (by simp [hue]), hue]
    rfl
  refine congrArg Host.Outcome.next ((if_neg (by simp [hserv]; omega)).trans ?_)
  dsimp only
  rw [hfound, if_neg (by simp; omega)]
  have hmet : ([e].filter fun x => errChannel { s with mem := { s.mem with ue := [e] } } x == ch &&
      detected { s with mem := { s.mem with ue := [e] } } x.region) = [e] :=
    List.filter_eq_self.2 fun x hx => by
      rw [List.mem_singleton.1 hx]
      exact Bool.and_eq_true_iff.2 ⟨beq_iff_eq.2 hon, hdet⟩
  exact (congrArg (List.foldl _ _) hmet).trans rfl

/-- An error in INDEX or META is counted and leaves its structure to be rebuilt. -/
theorem uncorrectable_rebuild {e : DramErr} {s : State} (h : e.region = 3 ∨ e.region = 4) :
    (uncorrectable e s).mode = s.mode ∧ e.region ∈ (uncorrectable e s).mem.repair ∧
      (uncorrectable e s).mem.ue = s.mem.ue.filter (· != e) ∧
      (uncorrectable e s).reg .DRAM_UE_COUNT = min (s.reg .DRAM_UE_COUNT + 1) 65535 := by
  unfold uncorrectable
  extract_lets ch _ u v
  have hvday : v.day = s.day := raise_day ..
  have hvmem : v.mem = { s.mem with ue := s.mem.ue.filter (· != e) } := raise_mem ..
  have hvreg : v.reg .DRAM_UE_COUNT = min (s.reg .DRAM_UE_COUNT + 1) 65535 :=
    (raise_reg _ _ _ _ _ (by decide)).trans ((setReg_reg_same ..).trans (sat_eq_min 16 _))
  clear_value v
  have hrepair : ∀ r, r ∈ (if v.mem.repair.any (· == r) then v.mem.repair else v.mem.repair ++ [r]) := fun r => by
    split
    next hin =>
      obtain ⟨x, hx, hxr⟩ := List.any_eq_true.1 hin
      exact beq_iff_eq.1 hxr ▸ hx
    next => simp
  have hmode : v.mode = s.mode := congrArg Day.mode hvday
  have hue : v.mem.ue = s.mem.ue.filter (· != e) := congrArg Mem.ue hvmem
  rcases h with h | h <;> rw [h]
  · exact ⟨hmode, hrepair 3, hue, hvreg⟩
  · exact ⟨hmode, hrepair 4, hue, hvreg⟩

/-- An error in SYS or DIRTY resets. -/
theorem uncorrectable_reset {e : DramErr} {s : State} (h : e.region = 1 ∨ e.region = 2) (hheld : s.pwr.held = false)
    (h0 : groupGood s 0 = true) (h1 : groupGood s 1 = true) :
    (uncorrectable e s).mode = .M2 ∧ (uncorrectable e s).sess = [] := by
  unfold uncorrectable
  extract_lets ch _ u v
  have hvpwr : v.pwr = s.pwr := raise_pwr ..
  clear_value v
  obtain ⟨hmode, hsess, -⟩ := resetToDawn_dawn (s := v) 1 6 (by rw [hvpwr, hheld]) (by simpa [groupGood, hvpwr] using h0)
    (by simpa [groupGood, hvpwr] using h1)
  rcases h with h | h <;> rw [h] <;> exact ⟨hmode, hsess⟩

/-! ### Wear -/

theorem noteWear_calm {mean : Nat} {s : State} (top : Nat) (h : wearPct mean s.kv.endurance < 80) :
    noteWear mean top s = { s with kv := { s.kv with eraseMean := mean, eraseMax := top } } := by
  have h80 : ¬80 ≤ wearPct mean s.kv.endurance := by omega
  have h100 : ¬100 ≤ wearPct mean s.kv.endurance := by omega
  simp [noteWear, h80, h100]

theorem noteWear_mem (mean top : Nat) (s : State) : (noteWear mean top s).mem = s.mem := by
  unfold noteWear
  dsimp only
  split <;> split <;> simp

theorem notHeld_of_coreUp {s : State} (h : s.coreUp = true) : s.pwr.held = false := by
  simp only [State.coreUp, Bool.and_eq_true, Bool.not_eq_true'] at h
  exact h.1.2

theorem notHeld_of_firmware {s : State} (h : s.firmware = true) : s.pwr.held = false :=
  notHeld_of_coreUp (Bool.and_eq_true_iff.1 h).2

theorem notHeld_of_inService {s : State} (h : s.inService = true) : s.pwr.held = false :=
  notHeld_of_coreUp (Bool.and_eq_true_iff.1 h).2

/-- The reserve stands again, and the dirty limit follows. -/
theorem execPlpReserveRebuilt_rebuilt {s : State} (hno : s.mem.plpOk = false) (hfw : s.firmware = true) :
    ∃ u, exec .plpReserveRebuilt s = .next (recomputeLimit u) ∧ u.mem.plpOk = true := by
  have hstay : (s.mem.plpOk || !s.firmware) = false := by simp [hno, hfw]
  have hrun : exec .plpReserveRebuilt s = execPlpReserveRebuilt s := rfl
  unfold execPlpReserveRebuilt at hrun
  rw [hstay, if_neg Bool.false_ne_true] at hrun
  dsimp only at hrun
  exact ⟨_, hrun, by rw [State.setReg_mem]⟩

/-- Settles O47: each command by what its guard finds; errors by their region, targets by what takes them out of use. -/
theorem memoryCommandsComplete : Obligations.MemoryCommandsComplete := by
  intro s
  refine ⟨fun ch hch hfw hstage => ⟨?retrain, fun h0 h1 => ?retrainTwice⟩, fun ch => ?noFailure, fun e he => ?channel,
    fun j k hk => ?sketch, fun ch n hch hserv ht hn hue => ?corrected, fun ch hch hserv hue => ?clean,
    fun ch found hch hserv ht => ?throttled, fun n => arise_nothing n s, fun n e he => ?error, fun n ups => ?upsets,
    fun ch e hch hserv ht hue hon hreg h0 h1 => ?reset, fun ch e hch hserv ht hue hon hreg => ?rebuild, fun k => rfl,
    fun ch tgt b mean top hruns hcalm => ?programmed, fun ch tgt b mean top hruns hany hfew => ?failed,
    fun ch tgt hruns hany => ?timeout, fun ch tgt hany => ?unused, fun n hruns => ?relocated, fun hserv hbusy => ?checkpoint,
    fun n hbusy => ?checkpointed, fun hno hfw => ?reserve, fun hok => ?reserved⟩
  case retrain =>
    exact congrArg Host.Outcome.next (if_neg (by simp [hfw]; omega))
  case retrainTwice =>
    let v := raise (0x280 + 4 * ch + 3) [("ch", .n ch)] (raise (0x280 + 4 * ch + 2) [("ch", .n ch)] s)
    have hpwr : v.pwr = s.pwr := (raise_pwr ..).trans (raise_pwr ..)
    have hheld : v.pwr.held = false := by rw [hpwr, notHeld_of_firmware hfw]
    have g0 : groupGood v 0 = true := by simpa [groupGood, hpwr] using h0
    have g1 : groupGood v 1 = true := by simpa [groupGood, hpwr] using h1
    obtain ⟨hmode, hsess, -⟩ := resetToDawn_dawn 1 6 hheld g0 g1
    refine ⟨resetToDawn 1 6 v, congrArg Host.Outcome.next (if_neg (by simp [hfw]; omega)), hmode, hsess, ?_⟩
    exact (resetToDawn_keep (·.reg .PWR_RESET_CAUSE 0) 1 6 hheld g0 g1 (fun _ _ => rfl) (fun _ _ => rfl) (fun _ => rfl)
      fun _ _ _ => raise_reg _ _ _ _ _ (by decide)).trans (setReg_reg_same ..)
  case noFailure => exact congrArg Host.Outcome.next (if_pos (by simp))
  case channel =>
    have h5 : (e.region == 5) = false := by simpa using he
    simp [errChannel, stripeChannel, h5]
  case sketch =>
    simp only [stripeChannel, beq_self_eq_true, if_true]
    omega
  case corrected =>
    obtain ⟨hue', hce⟩ := countCorrected_facts ch n s
    refine ⟨_, congrArg Host.Outcome.next ?_, rfl, hce⟩
    rw [if_neg (by simp [hserv]; omega)]
    dsimp only
    rw [arise_nothing, if_neg (by omega), if_neg (by simpa using hn), hue', hue, List.filter_nil, List.foldl_nil]
  case clean =>
    refine congrArg Host.Outcome.next ?_
    rw [if_neg (by simp [hserv]; omega)]
    dsimp only
    rw [arise_nothing, if_pos (c := (0 == 0) = true) (by rfl), hue, List.filter_nil, List.foldl_nil, ite_self]
  case throttled =>
    refine congrArg Host.Outcome.next ?_
    rw [if_neg (by simp [hserv]; omega)]
    dsimp only
    rw [if_pos (by rw [arise_day]; exact ht)]
  case error => rw [arise_error he]
  case upsets => simp [arise]
  case reset =>
    have hdet : detected s e.region = true := by rcases hreg with h | h <;> simp [detected, h]
    exact ⟨_, patrol_meets hch hserv ht hue hon hdet,
      uncorrectable_reset (s := { s with mem := { s.mem with ue := [e] } }) hreg (notHeld_of_inService hserv) h0 h1⟩
  case rebuild =>
    have hdet : detected s e.region = true := by rcases hreg with h | h <;> simp [detected, h]
    obtain ⟨hmode, hrepair, hue', hcount⟩ := uncorrectable_rebuild (s := { s with mem := { s.mem with ue := [e] } }) hreg
    exact ⟨_, patrol_meets hch hserv ht hue hon hdet, hmode, hrepair, hue'.trans (by simp), hcount⟩
  case programmed =>
    exact congrArg Host.Outcome.next ((if_neg (by simp [hruns])).trans (noteWear_calm top hcalm))
  case failed =>
    have hfine : ((s.mem.targets.map fun t => if t.ch == ch && t.tgt == tgt then { t with grown := t.grown + 1 } else t).any
        fun t => t.ch == ch && t.tgt == tgt && decide (t.blocks * 5 < t.grown * 100)) = false := by
      rw [List.any_eq_false]
      intro x hx
      obtain ⟨y, hy, rfl⟩ := List.mem_map.1 hx
      have hroom := hfew y hy
      split
      · simp
        omega
      next hother => simp_all
    refine ⟨_, congrArg Host.Outcome.next ?_, rfl⟩
    rw [if_neg (by simp [hruns])]
    dsimp only [List.foldl]
    rw [noteWear_mem, if_neg (by simp [hany]), if_neg]
    rw [raise_mem]
    exact Bool.eq_false_iff.1 hfine
  case timeout =>
    refine ⟨retireTarget ch tgt s, congrArg Host.Outcome.next (if_pos hruns), fun x hx hc ht => ?_⟩
    rw [retireTarget_facts hany, List.mem_map] at hx
    obtain ⟨y, -, rfl⟩ := hx
    by_cases hy : (y.ch == ch && y.tgt == tgt) = true
    · rw [if_pos hy]
      exact ⟨rfl, rfl⟩
    · rw [if_neg hy] at hc ht
      exact absurd (by simp [hc, ht]) hy
  case unused =>
    have hsame : retireTarget ch tgt s = s := if_pos (by simp [hany])
    refine congrArg Host.Outcome.next ?_
    rw [hsame]
    split <;> rfl
  case relocated => exact congrArg Host.Outcome.next (if_pos hruns)
  case checkpoint => exact congrArg Host.Outcome.next (if_pos (by simp [hserv, hbusy]))
  case checkpointed => exact congrArg Host.Outcome.next (if_pos hbusy)
  case reserve =>
    obtain ⟨u, hrun, hu⟩ := execPlpReserveRebuilt_rebuilt hno hfw
    exact ⟨_, hrun, by rw [recompute_mem, hu]⟩
  case reserved => exact congrArg Host.Outcome.next (if_pos (by simp [hok]))

end Sys2Proof.Machine

namespace Sys2Proof.Machine

/-! ## The jobs of Dusk (R73, R274, R285, R407, R530) -/

theorem wantDomain_keep {β : Type} (f : State → β) (hp : ∀ s v, f { s with pwr := v } = f s) (d : Nat) (on : Bool) (s : State) :
    f (wantDomain d on s) = f s := by
  unfold wantDomain
  split
  · unfold switchOn
    split
    · exact hp ..
    · split <;> exact hp ..
  · unfold switchOff
    dsimp only
    split <;> split
    · exact (hp ..).trans (hp ..)
    · exact hp ..
    · exact hp ..
    · rfl

theorem serviceDomains_keep {β : Type} (f : State → β) (hp : ∀ s v, f { s with pwr := v } = f s) (m : Mode) (s : State) :
    f (serviceDomains m s) = f s := by
  unfold serviceDomains
  split
  · rfl
  · exact wantDomain_keep f hp ..
  · exact (wantDomain_keep f hp ..).trans ((wantDomain_keep f hp ..).trans (hp ..))

theorem enterService_mode (m : Mode) (s : State) : (enterService m s).mode = m := by
  unfold enterService
  extract_lets was stay s1 _ s2 s3 s4
  have h2 : s2.mode = m := enterMode_mode' m s
  have h3 : s3.mode = s2.mode := serviceDomains_keep (·.mode) (fun _ _ => rfl) ..
  have h4 : s4.mode = s3.mode := by
    show (if m4to7.any (· == m) && !stay then dueBackfill s3 else s3).mode = _
    split <;> rfl
  split
  · have hlim : (recomputeLimit s4).mode = s4.mode := by
      unfold State.mode
      rw [recompute_day]
    rw [resumeMerges_keep (·.mode) (fun _ _ _ => rfl) (by simp [State.mode]),
      stopRecall_keep (·.mode) (fun _ _ => rfl) (by simp [State.mode]), hlim, h4, h3, h2]
  · rw [h4, h3, h2]

/-- A job whose needs do not hold leaves the queue. -/
theorem startJob_refused {j : Job} {s : State} (h : jobHolds j s = false) :
    startJob j s = raise 0x24A [("job", .n j.num), ("status", .n 209)] (dropJob j.num s) := if_pos (by simp [h])

/-- A format has nothing to note and nothing to rebuild as it starts. -/
theorem startJob_format {j : Job} {s : State} (h : jobHolds j s = true) (hk : j.kind = .format) :
    startJob j s = updJob j.num (fun j => { j with running := true, parts := j.parts ||| 8 }) s := by
  have hpend : pendRecords j s = (s, none) := if_pos (by simp [hk])
  have hcolls : j.colls = [] := by simp [Job.colls, hk]
  unfold startJob
  rw [if_neg (by simp [h]), hpend]
  dsimp only
  rw [hcolls]
  split <;> rfl

/-- The jobs of Dusk as they stop at a persisted point (R73). -/
def jobsStopped (s : State) : State :=
  { s with
    day := { s.day with queue := s.day.queue.map fun j => { j with running := false }, abortTo := none }
    colls := s.colls.map Coll.resumed
    collsDisk := s.collsDisk.map Coll.resumed }

/-- With its jobs stopped the block moves on to where it was asked to. -/
theorem execDuskJobStopped_eq {d : Mode} {s : State} (hin : s.runsIn .M9 = true) (hd : s.day.abortTo = some d) :
    exec .duskJobStopped s = .next (if d == .M4 then
        enterService .M4 { jobsStopped s with day := { (jobsStopped s).day with target := .M4 } }
      else startDrain d (jobsStopped s)) := by
  refine congrArg Host.Outcome.next ?_
  rw [hd]
  exact if_neg (by simp [duskRuns, hin])

/-- Settles O48: each command by the job that it finds. -/
theorem duskJobsComplete : Obligations.DuskJobsComplete := by
  intro s
  refine ⟨fun hin => ⟨fun j q hrun habort hq => ?started, fun hq => ?empty, fun d hd hne => ?stopped, fun hd => ?toMorning,
    fun n j hj hrun => ⟨fun hk => ?repartition, fun hk => ?format, fun hk => ?rebuild, fun hk hneed => ?pieceA,
      fun hk hneed => ?pieceB, fun hk hneed => ?pieceC, fun hk hbound hready => ?commit⟩⟩,
    fun hmode => ?notDusk, fun j h => startJob_refused h, fun j h hk => startJob_format h hk, fun n => rfl⟩
  case started =>
    refine congrArg Host.Outcome.next ((if_neg (by simp [duskRuns, hin, hrun, habort])).trans ?_)
    rw [hq]
  case empty =>
    refine congrArg Host.Outcome.next ?_
    rw [hq]
    split <;> rfl
  case stopped =>
    refine ⟨_, jobsStopped s, ?_, rfl, rfl, rfl, rfl⟩
    exact (execDuskJobStopped_eq hin hd).trans (congrArg Host.Outcome.next (if_neg (by simpa using hne)))
  case toMorning =>
    exact ⟨_, (execDuskJobStopped_eq hin hd).trans (congrArg Host.Outcome.next (if_pos (by rfl))), enterService_mode ..⟩
  case repartition =>
    refine congrArg Host.Outcome.next ?_
    rw [hj]
    exact (if_neg (by simp [duskRuns, hin, hrun, Job.partitions, hk])).trans (if_neg (by simp [hk]))
  case format =>
    refine congrArg Host.Outcome.next ?_
    rw [hj]
    exact (if_neg (by simp [duskRuns, hin, hrun, Job.formats, hk])).trans (if_neg (by simp [hk]))
  case rebuild =>
    refine congrArg Host.Outcome.next ?_
    rw [hj]
    exact (if_neg (by simp [duskRuns, hin, hrun, Job.colls, hk])).trans (if_neg (by simp [hk]))
  case pieceA =>
    refine congrArg Host.Outcome.next ?_
    rw [hj]
    exact (if_neg (by simp [duskRuns, hin, hrun, Job.partitions, hk, hneed])).trans (if_pos (by simp [hk]))
  case pieceB =>
    refine congrArg Host.Outcome.next ?_
    rw [hj]
    exact (if_neg (by simp [duskRuns, hin, hrun, Job.formats, hk, hneed])).trans (if_pos (by simp [hk]))
  case pieceC =>
    refine congrArg Host.Outcome.next ?_
    rw [hj]
    exact (if_neg (by simpa [duskRuns, hin, hrun, Job.colls, hk] using hneed)).trans (if_pos (by simp [hk]))
  case commit =>
    refine congrArg Host.Outcome.next ?_
    rw [hj]
    exact if_neg (by simp [duskRuns, hin, hrun, hk, hbound, hready])
  case notDusk =>
    have hout : duskRuns s = false := by simp [duskRuns, State.runsIn, hmode]
    refine ⟨congrArg Host.Outcome.next (if_pos (by simp [hout])), fun n => ⟨?_, ?_, ?_, ?_⟩⟩
    all_goals
      refine congrArg Host.Outcome.next ?_
      cases jobGet s n with
      | none => rfl
      | some j => exact if_pos (by simp [hout])

end Sys2Proof.Machine

namespace Sys2Proof.Machine

/-! ## Ports and addresses (R299 to R306, R326) -/

@[simp] theorem setPort_port_same (s : State) (p : Nat) (x : Port) : (s.setPort p x).port p = x := by
  unfold State.setPort State.port
  split <;> rfl

theorem raise_port (id : Nat) (kv : List (String × Val)) (s : State) (p : Nat) : (raise id kv s).port p = s.port p := by
  unfold State.port
  rw [raise_net]

theorem setPort_reg (s : State) (q : Nat) (x : Port) (p : Param) (i : Nat) : (s.setPort q x).reg p i = s.reg p i := by
  unfold State.setPort
  split <;> rfl

/-- What a port transmits, or keeps for the end of its PAUSE, leaves the rest of its state. -/
theorem portSend_port {β : Type} (f : Port → β) (h : ∀ x v, f { x with txq := v } = f x) (p : Nat) (o : Output) (s : State) :
    f ((portSend p o s).port p) = f (s.port p) := by
  unfold portSend
  split
  · rw [setPort_port_same]
    exact h ..
  · rfl

theorem netSend_port {β : Type} (f : Port → β) (h : ∀ x v, f { x with txq := v } = f x) (p : Nat) (what : String)
    (args : List Nat) (s : State) : f ((netSend p what args s).port p) = f (s.port p) := by
  unfold netSend
  split
  · exact portSend_port f h ..
  · rfl

/-- A port seeks an address by one message and by what it notes of the address. -/
theorem startAddr_keep {β : Type} (f : State → β) {p : Nat} {v6 : Bool} {s : State}
    (h : ∀ what args a, f (netSend p what args (s.setPort p ((s.port p).setAddr v6 a))) = f s) :
    f (startAddr p v6 s) = f s := by
  unfold startAddr
  extract_lets x dhcp fixed
  split
  · rfl
  · split
    · rfl
    · exact h ..
  · split
    next hv6 =>
      subst hv6
      split
      · exact h ..
      · rfl
    · exact h ..
  · exact h ..

theorem startAddr_port {β : Type} (f : Port → β) (h : ∀ x v, f { x with txq := v } = f x) (ha : ∀ x v6 a, f (Port.setAddr x v6 a) = f x)
    (p : Nat) (v6 : Bool) (s : State) : f ((startAddr p v6 s).port p) = f (s.port p) :=
  startAddr_keep (fun u => f (u.port p)) fun _ _ _ =>
    (netSend_port f h ..).trans ((congrArg f (setPort_port_same ..)).trans (ha ..))

theorem setPort_sess (s : State) (p : Nat) (x : Port) : (s.setPort p x).sess = s.sess := by
  unfold State.setPort
  split <;> rfl

theorem netSend_sess (p : Nat) (what : String) (args : List Nat) (s : State) : (netSend p what args s).sess = s.sess := by
  unfold netSend
  split
  · exact portSend_sess ..
  · rfl

theorem startAddr_sess (p : Nat) (v6 : Bool) (s : State) : (startAddr p v6 s).sess = s.sess :=
  startAddr_keep (·.sess) fun _ _ _ => (netSend_sess ..).trans (setPort_sess ..)

/-- A raise pushes its record to sessions that are subscribed, and holds none. -/
theorem raise_held {id : Nat} {kv : List (String × Val)} {s : State} {p : Nat} {b : Bool}
    (h : ∀ y ∈ s.sess, y.port = p → y.held = b) : ∀ y ∈ (raise id kv s).sess, y.port = p → y.held = b := by
  rcases raiseWith_sess id ((evSeverity id).getD 0) kv false 1 s with e | ⟨r, e⟩
  · intro y hy
    exact h y (e ▸ hy)
  · intro y hy hp
    have hy' : y ∈ s.sess.map (·.push r) := e ▸ hy
    obtain ⟨z, hz, rfl⟩ := List.mem_map.1 hy'
    have hpush : (z.push r).port = z.port ∧ (z.push r).held = z.held := by
      unfold Sess.push
      split
      · split <;> exact ⟨rfl, rfl⟩
      · exact ⟨rfl, rfl⟩
    rw [hpush.2]
    exact h z hz (hpush.1 ▸ hp)

/-- A link that comes up releases what was held for it. -/
theorem linkUp_facts {p : Nat} {s : State} (hp : p < 2) (hon : netOn s = true) (hlink : (s.port p).link = false)
    (hen : s.reg .NET_P_EN p = 1) : ∃ t, exec (.linkUp p) s = .next t ∧ (t.port p).link = true ∧ (t.port p).holding = false ∧
      ∀ y ∈ t.sess, y.port = p → y.held = false := by
  refine ⟨_, congrArg Host.Outcome.next (if_neg (by simp [hon, hp, hlink, hen])), ?_⟩
  extract_lets x y u v
  have hx : x.port p = _ := setPort_port_same ..
  have hu : u.port p = x.port p := raise_port ..
  have hport : ∀ {β : Type} (f : Port → β), (∀ x v, f { x with txq := v } = f x) → (∀ x v6 a, f (Port.setAddr x v6 a) = f x) →
      f ((List.foldl (fun (s : State) v6 => if ((s.port p).addr v6).now_ == 0 && ((s.port p).addr v6).probe.isNone then
        startAddr p v6 s else s) v [false, true]).port p) = f (x.port p) := by
    intro β f h ha
    have hv : f (v.port p) = f (u.port p) := by
      show f ((if addrMode u p true == 0 then u else netSend p "router_solicitation" [] u).port p) = _
      split
      · rfl
      · exact netSend_port f h ..
    refine (foldl_keep (fun w => f (w.port p)) _ (fun w v6 => ?_) _ _).trans (hv.trans (congrArg f hu))
    split
    · exact startAddr_port f h ha ..
    · rfl
  refine ⟨(hport (·.link) (fun _ _ => rfl) (fun _ _ _ => by unfold Port.setAddr; split <;> rfl)).trans (congrArg Port.link hx),
    (hport (·.holding) (fun _ _ => rfl) (fun _ _ _ => by unfold Port.setAddr; split <;> rfl)).trans (congrArg Port.holding hx), ?_⟩
  have hsess : (List.foldl (fun (s : State) v6 => if ((s.port p).addr v6).now_ == 0 && ((s.port p).addr v6).probe.isNone then
      startAddr p v6 s else s) v [false, true]).sess = u.sess := by
    refine (foldl_keep (·.sess) _ (fun w v6 => ?_) _ _).trans ?_
    · split
      · exact startAddr_sess ..
      · rfl
    · show (if addrMode u p true == 0 then u else netSend p "router_solicitation" [] u).sess = _
      split
      · rfl
      · exact netSend_sess ..
  rw [hsess]
  refine raise_held fun z hz hzp => ?_
  obtain ⟨z', -, rfl⟩ := List.mem_map.1 hz
  by_cases hz' : (z'.port == p) = true
  · rw [if_pos hz']
  · rw [if_neg hz'] at hzp
    exact absurd (beq_iff_eq.2 hzp) hz'

/-- A link that goes down holds the sessions of its port. -/
theorem linkDown_facts {p : Nat} {s : State} (hp : p < 2) (hon : netOn s = true) (hlink : (s.port p).link = true)
    (hhold : s.reg .NET_LINK_HOLD_S ≠ 0) : ∃ t, exec (.linkDown p) s = .next t ∧ (t.port p).link = false ∧
      (t.port p).holding = true ∧ (∀ y ∈ t.sess, y.port = p → y.held = true) ∧ t.sess.length = s.sess.length := by
  refine ⟨linkLost p s, congrArg Host.Outcome.next (if_pos (by simp [hon, hp])), ?_⟩
  unfold linkLost
  extract_lets x idle u _ v
  have hu : u.port p = { x with link := false, v4 := idle x.v4, v6 := idle x.v6, reasm := [], txq := [] } :=
    (raise_port ..).trans (setPort_port_same ..)
  have hreg : u.reg .NET_LINK_HOLD_S = s.reg .NET_LINK_HOLD_S := (raise_reg _ _ _ _ _ (by decide)).trans (setPort_reg ..)
  have hv : v.port p = { u.port p with holding := true } := setPort_port_same ..
  have hlen : u.sess.length = s.sess.length := (raise_sess_length ..).trans (congrArg List.length (setPort_sess ..))
  rw [if_neg (by simp [x, hlink]), if_neg (by simpa [hreg] using hhold)]
  refine ⟨?_, ?_, ?_, ?_⟩
  · exact (congrArg Port.link hv).trans (congrArg Port.link hu)
  · exact congrArg Port.holding hv
  · intro y hy hyp
    obtain ⟨z, -, rfl⟩ := List.mem_map.1 hy
    by_cases hz : (z.port == p) = true
    · rw [if_pos hz]
    · rw [if_neg hz] at hyp
      exact absurd (beq_iff_eq.2 hyp) hz
  · exact (List.length_map ..).trans ((congrArg List.length (setPort_sess ..)).trans hlen)

/-- A PAUSE frame on a port that nothing has held: its hold is in force. -/
theorem execPauseFrame_first {s : State} {p : Nat} (hp : p < 2) (hon : netOn s = true) (hlink : (s.port p).link = true)
    (hholds : (s.port p).holds = []) (q : Nat) : exec (.pauseFrame p q) s = .next (flushPort (s.setPort p { s.port p with
      pauseUntil := s.now + min q 65535 * quantumBeats s p / 100, pausedBeats := (s.port p).paused s.now
      holds := [(s.now, s.now + min q 65535 * quantumBeats s p / 100)] }) p) := by
  have hfew : ¬ms 100 ≤ 0 := by decide
  have htotal : ∀ f : Nat × Nat → Nat, sumNat ([].map f) = 0 := fun _ => rfl
  refine congrArg Host.Outcome.next ((if_neg (by simp [hon, hp, hlink])).trans ?_)
  dsimp only
  rw [hholds, List.map_nil, List.filter_nil, List.map_nil, htotal, if_neg hfew, if_neg hfew, List.nil_append]

/-- What a DHCP server says to a client over IPv4. -/
theorem execDhcpMessage_v4 {s : State} {p : Nat} {m : DhcpMsg} (hp : p < 2) (hon : netOn s = true)
    (hlink : (s.port p).link = true) (hv6 : m.v6 = false) (hmode : s.reg .NET_P_V4_MODE p = 2) :
    exec (.dhcpMessage p m) s = .next (
      if (s.port p).v4.dhcp == .selecting && m.kind == 2 then netSend p "dhcp4_request" [m.addr]
        (s.setPort p { s.port p with v4 := { (s.port p).v4 with dhcp := .requesting } })
      else if ((s.port p).v4.dhcp == .requesting || (s.port p).v4.dhcp == .renewing || (s.port p).v4.dhcp == .rebinding) && m.kind == 6 then
        leaseOver p false 2 s
      else if ((s.port p).v4.dhcp == .requesting || (s.port p).v4.dhcp == .renewing || (s.port p).v4.dhcp == .rebinding) && m.kind == 5 then
        (if (s.port p).v4.now_ == m.addr then s.setPort p { s.port p with
            v4 := { (s.port p).v4 with leaseEnd := some (s.now + sec m.lease), dhcp := .bound }, gateway := m.router }
         else startProbe p false m.addr (s.setPort p { s.port p with
            v4 := { (s.port p).v4 with leaseEnd := some (s.now + sec m.lease), dhcp := .requesting }, gateway := m.router }))
      else s) := by
  have hclient : (addrMode s p false == 2) = true := by simpa [addrMode] using hmode
  refine congrArg Host.Outcome.next ?_
  dsimp only
  rw [hv6, if_neg (by simp [hon, hp, hlink, hclient])]
  rfl

/-- A static address that conflicted and is set is probed again; the other family's address stands. -/
theorem startAddr_static {s : State} {p : Nat} (hmode : s.reg .NET_P_V4_MODE p = 1) (haddr : s.reg .NET_P_V4_ADDR p ≠ 0) :
    startAddr p false s = startProbe p false (s.reg .NET_P_V4_ADDR p) s := by
  have hm : addrMode s p false = 1 := hmode
  unfold startAddr
  dsimp only
  rw [hm]
  exact if_neg (by simpa using haddr)

theorem startProbe_v6 (s : State) (p a : Nat) : ((startProbe p false a s).port p).v6 = (s.port p).v6 :=
  (netSend_port (·.v6) (fun _ _ => rfl) ..).trans ((congrArg Port.v6 (setPort_port_same ..)).trans rfl)

/-- Settles O49: each command by what it finds of its port. -/
theorem networkPortCommandsComplete : Obligations.NetworkPortCommandsComplete := by
  intro s p hp hon
  dsimp only
  have hframe : ∀ f : Frame, (s.port p).link = true → f.uncorr = 0 → exec (.ethernetFrameReceived p f) s = .next
      (if f.full then rxDrop p 1 s else if !frameOk s p f then rxError p s else takePacket p f.packet s) := by
    intro f hlink hun
    refine congrArg Host.Outcome.next ((if_neg (by simp [hon, hp, hlink])).trans ?_)
    simp [hun]
  refine ⟨fun f hlink hun hfull => ?full, fun f hlink hun hfull hbad => ?bad, fun f hlink hun hfull hok => ?taken,
    fun c hdkp hserv hnone => ?stray, fun q hlink hholds => execPauseFrame_first hp hon hlink hholds q, fun o hpause => if_pos hpause,
    fun o hpause => if_neg (Nat.not_lt.2 hpause), fun hlink hen => linkUp_facts hp hon hlink hen,
    fun hlink hhold => linkDown_facts hp hon hlink hhold, fun hlink => ?stillDown, fun hlink hhold => ?holdOver,
    fun m hlink hv6 hmode hst hk => ?offer, fun m hlink hv6 hmode hst hk haddr => ?renewed,
    fun m hlink hv6 hmode hst hk => ?nak, fun hlease hst => ?renew, fun v6 hlease => ?leaseEnd,
    fun v6 a hlink hprobe hst => ?probed, fun hlink h4 h6 hmode haddr => ?again, fun hlink h4 h6 => ?noConflict,
    fun a => ?aged, fun i r hr => ?abandoned, fun i hnone => ?nothing, fun r f a hlink hmode => ?router,
    fun r f hlink hmode hnone => ?slaac⟩
  case full => rw [hframe f hlink hun, if_pos hfull]
  case bad => rw [hframe f hlink hun, if_neg (by simp [hfull]), if_pos (by simp [hbad])]
  case taken => rw [hframe f hlink hun, if_neg (by simp [hfull]), if_neg (by simp [hok])]
  case stray => exact (if_pos (by simp [hserv])).trans (if_neg (by simp [hnone]))
  case stillDown =>
    refine congrArg Host.Outcome.next ?_
    have hsame : linkLost p s = s := if_pos (by simp [hlink])
    rw [hsame, ite_self]
  case holdOver => exact congrArg Host.Outcome.next (if_pos (by simp [hp, hlink, hhold]))
  case offer => rw [execDhcpMessage_v4 hp hon hlink hv6 hmode, if_pos (by simp [hst, hk])]
  case renewed =>
    rw [execDhcpMessage_v4 hp hon hlink hv6 hmode, if_neg (by simp [hst]), if_neg (by simp [hk]), if_pos (by simp [hst, hk]),
      if_pos (by simp [haddr])]
  case nak => rw [execDhcpMessage_v4 hp hon hlink hv6 hmode, if_neg (by simp [hst]), if_pos (by simp [hst, hk])]
  case renew =>
    refine congrArg Host.Outcome.next ?_
    dsimp only [Port.addr]
    exact (if_neg (by simp [hon, hp, hlease])).trans ((if_pos (by rfl)).trans (if_pos (by simp [hst])))
  case leaseEnd =>
    refine congrArg Host.Outcome.next ?_
    dsimp only
    exact (if_neg (by simp [hon, hp, hlease])).trans ((if_neg (by decide)).trans (if_neg (by decide)))
  case probed =>
    refine congrArg Host.Outcome.next ?_
    dsimp only
    rw [hprobe]
    dsimp only
    rw [if_pos (by simp [hon, hp, hlink]), hst]
    rfl
  case again =>
    refine congrArg Host.Outcome.next ((if_pos (by simp [hon, hp, hlink])).trans ?_)
    have hfirst : (((s.port p).addr false).conflict && addrMode s p false == 1) = true := by simp [Port.addr, addrMode, h4, hmode]
    rw [List.foldl_cons, if_pos hfirst, startAddr_static hmode haddr, List.foldl_cons, List.foldl_nil]
    exact if_neg (by simp [Port.addr, startProbe_v6, h6])
  case noConflict =>
    refine congrArg Host.Outcome.next ((if_pos (by simp [hon, hp, hlink])).trans ?_)
    simp [Port.addr, h4, h6]
  case aged => exact congrArg Host.Outcome.next (if_pos (by simp [hon, hp]))
  case abandoned =>
    refine congrArg Host.Outcome.next ?_
    dsimp only
    rw [hr]
  case nothing =>
    refine congrArg Host.Outcome.next ?_
    dsimp only
    rw [hnone]
  case router =>
    have hfirst : (addrMode s p true == 2 && a && (s.port p).prefix6.isNone) = false := by simp [addrMode, hmode]
    refine congrArg Host.Outcome.next ((if_neg (by simp [hon, hp, hlink, addrMode, hmode])).trans ?_)
    dsimp only
    rw [hfirst, if_neg Bool.false_ne_true, if_neg Bool.false_ne_true]
  case slaac =>
    have hfirst : (addrMode s p true == 2 && true && (s.port p).prefix6.isNone) = true := by simp [addrMode, hmode, hnone]
    refine congrArg Host.Outcome.next ((if_neg (by simp [hon, hp, hlink, addrMode, hmode])).trans ?_)
    dsimp only
    rw [hfirst, if_pos rfl, if_pos rfl]

end Sys2Proof.Machine

namespace Sys2Proof.Machine

/-! ## Handshakes and the openings they lead to (R123, R309, R313 to R319) -/

/-- A raise queues notices on routes and leaves their levels and roles. -/
theorem raise_route (id : Nat) (kv : List (String × Val)) (s : State) (r : Route) :
    ((raise id kv s).route r).level = (s.route r).level ∧ ((raise id kv s).route r).roles = (s.route r).roles := by
  have hnote : ∀ (x : RouteSt) (n : Notice), (x.queueNotice n).route = x.route ∧ (x.queueNotice n).level = x.level ∧
      (x.queueNotice n).roles = x.roles := fun x n => by
    unfold RouteSt.queueNotice
    split <;> exact ⟨rfl, rfl, rfl⟩
  have hmap : ∀ (g : RouteSt → RouteSt) (l : List RouteSt),
      (∀ x, (g x).route = x.route ∧ (g x).level = x.level ∧ (g x).roles = x.roles) →
      (routeGet (l.map g) r).level = (routeGet l r).level ∧ (routeGet (l.map g) r).roles = (routeGet l r).roles := by
    intro g l hg
    induction l with
    | nil => exact ⟨rfl, rfl⟩
    | cons x xs ih =>
      simp only [List.map_cons, routeGet, (hg x).1]
      split
      · exact (hg x).2
      · exact ih
  unfold raise raiseWith State.route
  dsimp only
  split
  · exact ⟨rfl, rfl⟩
  · dsimp only
    split
    · refine hmap _ _ fun x => ?_
      split
      · split
        · exact hnote ..
        · exact ⟨rfl, rfl, rfl⟩
      · split
        · exact hnote ..
        · exact ⟨rfl, rfl, rfl⟩
      · exact ⟨rfl, rfl, rfl⟩
    · exact ⟨rfl, rfl⟩

/-- A route opened behind those that stand, where it did not stand. -/
theorem routeGet_append {l : List RouteSt} {x : RouteSt} (h : ∀ r ∈ l, r.route ≠ x.route) :
    routeGet (l ++ [x]) x.route = x := by
  induction l with
  | nil => simp [routeGet]
  | cons y ys ih =>
    rw [List.cons_append, routeGet, if_neg (by simpa using h y (List.mem_cons_self ..))]
    exact ih fun r hr => h r (List.mem_cons_of_mem _ hr)

theorem ringLock_netBlind : NetBlind (·.line.ringLock) := ⟨by simp, by simp, fun _ _ => rfl, fun _ _ => rfl,
  fun _ _ => rfl, fun _ _ _ _ => rfl, fun _ _ _ => rfl⟩

theorem closeRoute_line (r : Route) (s : State) : (closeRoute r s).line = s.line :=
  endSnapsTold_keep (·.line) (by simp) ..

/-- A command connection that closes is none of those that stand. -/
theorem closeTls_gone {c : Nat} {s : State} (h : c ∈ s.line.tlsConns) : c ∉ (closeTls c s).line.tlsConns := by
  unfold closeTls
  rw [if_neg (by simpa using h)]
  dsimp only
  rw [raise_line, closeRoute_line]
  simp

/-- Settles O50: a hello, a flight and a proof by what they find, an opening by what it adds. -/
theorem handshakeCommandsComplete : Obligations.HandshakeCommandsComplete := by
  intro s
  refine ⟨fun h hon hserv hp hlink hin hnone => ?hello, fun h x htls => ?old, fun h x htls hsuite => ?suite,
    fun n p x hx hserv hsent => ?complete, fun n p x hon hserv hlink hx hsent => ?tls,
    fun n p hon hserv hlink hx hfull => ?fifth, fun x p c slot hpsk hfin hcred => ?opens, fun x p slot hpsk hfin => ?binder,
    fun x c => ⟨?more, ?next⟩, fun x c hfresh => ?level, fun x c => ?conn, fun n x hx => ?timeout,
    fun n x hx hsvc hlo hhi => ?again, fun n x hx hmax => ?last, rfl, ⟨_, rfl, rfl, rfl, rfl⟩,
    fun c hc => ⟨_, rfl, closeTls_gone hc, ringLock_netBlind.closeTls c s⟩, fun c hc => ?closed⟩
  case hello =>
    dsimp only
    refine ⟨fun hsvc hck => ?_, fun hsvc hck htok => ?_, fun hsvc hck htok hroom => ?_⟩ <;>
      refine congrArg Host.Outcome.next ((if_neg (by simp [hon, hp, hsvc, hlink])).trans ((if_neg (by simp [hserv])).trans ?_)) <;>
      rw [hin] <;> dsimp only <;> rw [hnone]
    · exact if_pos (by simp [hsvc, hck])
    · exact (if_neg (by simp [hck])).trans (if_pos (by simp [htok]))
    · have hused : ¬1024 ≤ s.sess.length + (s.net.hs.filter fun x => x.svc == h.svc).length := by
        have := List.length_filter_le (fun x : Hs => x.svc == h.svc) s.net.hs
        omega
      refine (if_neg (by simp [hck])).trans ((if_neg (by simpa using htok)).trans ?_)
      exact (if_neg (by simp [hused])).trans (if_neg (by simp [hsvc]))
  case old =>
    unfold judgeHello
    rw [htls]
  case suite =>
    unfold judgeHello
    rw [htls, hsuite]
  case complete =>
    refine congrArg Host.Outcome.next ?_
    rw [hx]
    exact if_pos (by simp [hserv, hsent])
  case tls =>
    refine congrArg Host.Outcome.next ((if_neg (by simp [hon, hlink])).trans ((if_neg (by simp [hserv])).trans ?_))
    rw [hx]
    exact if_pos hsent
  case fifth =>
    refine congrArg Host.Outcome.next ((if_neg (by simp [hon, hlink])).trans ((if_neg (by simp [hserv])).trans ?_))
    rw [hx]
    exact if_pos (by omega)
  case opens =>
    unfold finishHandshake
    dsimp only
    have hm : matching (dropHs x.num s) x p = matching s x p := rfl
    rw [hm, hcred]
    simp [hpsk, hfin]
  case binder =>
    unfold finishHandshake
    dsimp only
    rw [if_neg (by simp [hpsk]), if_pos (by simp [hfin])]
    rfl
  case more => exact (raise_sess_length ..).trans (by simp)
  case next => exact raise_nextSess ..
  case level =>
    have hnew := routeGet_append (x := RouteSt.start (.dkp s.nextSess) false c.level c.roles) hfresh
    refine ⟨(raise_route ..).1.trans ?_, (raise_route ..).2.trans ?_⟩
    · exact congrArg RouteSt.level hnew
    · exact congrArg RouteSt.roles hnew
  case conn => exact congrArg (·.tlsConns) (raise_line ..)
  case timeout =>
    refine congrArg Host.Outcome.next ?_
    rw [hx]
  case again =>
    refine congrArg Host.Outcome.next ?_
    dsimp only
    rw [hx]
    exact (if_pos (by simp [hsvc, hlo, hhi])).trans (by rw [hsvc])
  case last =>
    refine congrArg Host.Outcome.next ?_
    dsimp only
    rw [hx]
    exact if_neg (by simp [Nat.not_lt.2 hmax])
  case closed => exact congrArg Host.Outcome.next (if_pos (by simpa using fun d hd (e : d = c) => hc (e ▸ hd)))

end Sys2Proof.Machine

namespace Sys2Proof.Machine

/-! ## Records and the end of sessions (R321 to R323) -/

/-- A number that was taken is no longer new: the window holds it at its front or at its distance from it. -/
theorem windowNew_windowTake {x : Sess} {k : Nat} (h : windowNew x k = true) : windowNew (windowTake x k) k = false := by
  unfold windowTake
  by_cases hk : x.heard < k
  · rw [if_pos hk]
    simp [windowNew]
  · rw [if_neg hk]
    have hnear : x.heard - k < 64 := by
      simp only [windowNew, hk, decide_false, Bool.false_or, Bool.and_eq_true, decide_eq_true_eq] at h
      exact h.1
    simp [windowNew, hk]

/-- A raise pushes its record to sessions, and none stands that did not. -/
theorem raise_session_none {id : Nat} {kv : List (String × Val)} {s : State} {n : Nat} (h : s.session n = none) :
    (raise id kv s).session n = none := by
  have hnum : ∀ (x : Sess) (r : Record), (x.push r).num = x.num := fun x r => by
    unfold Sess.push
    split
    · split <;> rfl
    · rfl
  unfold State.session sessGet at h ⊢
  rw [List.find?_eq_none] at h ⊢
  rcases raiseWith_sess id ((evSeverity id).getD 0) kv false 1 s with e | ⟨r, e⟩
  · exact fun x hx => h x (e ▸ hx)
  · intro x hx
    have hx' : x ∈ s.sess.map (·.push r) := e ▸ hx
    obtain ⟨y, hy, rfl⟩ := List.mem_map.1 hx'
    rw [hnum]
    exact h y hy

theorem endSnapsTold_session_none {k : Nat} {s : State} {n : Nat} (h : s.session n = none) : (endSnapsTold k s).session n = none := by
  unfold endSnapsTold
  exact List.foldlRecOn (motive := fun u : State => u.session n = none) _ _ h fun _ hu _ _ => raise_session_none hu

/-- A session that closes is gone. -/
theorem closeSession_gone (k n : Nat) (s : State) : (closeSession k n s).session n = none := by
  unfold closeSession
  cases hx : s.session n with
  | none => exact hx
  | some x =>
    refine raise_session_none (endSnapsTold_session_none ?_)
    unfold State.session sessGet
    dsimp only
    rw [portSend_sess]
    simp

/-- Settles O51: a record by what the session finds of it, and a session that closes is gone. -/
theorem recordsAndSessionsComplete : Obligations.RecordsAndSessionsComplete := by
  intro s n r
  refine ⟨fun hearly hon => ?early, fun hearly hnone hserv => ?stray, fun x hearly hx hheld => ?known,
    fun x k hnew => windowNew_windowTake hnew, fun x hx hidle => ?idle, fun x hx hbusy => ?busy,
    fun k => closeSession_gone k n s, fun k hnone => ?closed⟩
  case early => exact congrArg Host.Outcome.next ((if_pos hearly).trans (if_pos hon))
  case stray =>
    refine congrArg Host.Outcome.next ((if_neg (by simp [hearly])).trans ?_)
    rw [hnone]
    exact if_pos hserv
  case known =>
    have hrun : ∀ {t}, (if r.epoch != x.epoch || !windowNew x r.num then s.incReg .NET_REPLAY_DROPS
        else if !r.authentic then
          (if 2 ^ 20 ≤ x.forged + 1 then closeSession 6 n ((s.incReg .NET_AUTH_DROPS).setSess { x with forged := x.forged + 1 })
           else (s.incReg .NET_AUTH_DROPS).setSess { x with forged := x.forged + 1 })
        else takeRecord x r s) = t → exec (.dtlsRecordReceived n r) s = .next t := fun ht => by
      refine congrArg Host.Outcome.next ((if_neg (by simp [hearly])).trans ?_)
      rw [hx]
      exact (if_neg (by simp [hheld])).trans ht
    refine ⟨fun he => hrun (if_pos (by simp [he])), fun hw => hrun (if_pos (by simp [hw])),
      fun he hw ha hf => hrun ((if_neg (by simp [he, hw])).trans ((if_pos (by simp [ha])).trans (if_neg (by omega)))),
      fun he hw ha hf => hrun ((if_neg (by simp [he, hw])).trans ((if_pos (by simp [ha])).trans (if_pos hf))),
      fun he hw ha => hrun ((if_neg (by simp [he, hw])).trans (if_neg (by simp [ha]))), fun hk hfew => ?_⟩
    have hupdate : ¬(x.recvRecs + 1 == 2 ^ 23) = true := by rw [beq_iff_eq]; omega
    unfold takeRecord
    dsimp only
    rw [if_neg hupdate, if_neg (by omega), hk]
  case idle =>
    refine congrArg Host.Outcome.next ?_
    rw [hx]
    exact if_pos hidle
  case busy =>
    refine congrArg Host.Outcome.next ?_
    rw [hx]
    exact if_neg (Nat.not_le.2 hbusy)
  case closed =>
    unfold closeSession
    rw [hnone]

end Sys2Proof.Machine

namespace Sys2Proof.Machine

/-! ## Segments, acknowledgements and their times (R330 to R337, R339) -/

/-- A request in one segment is whole at once: it runs without an acknowledgement of its own. -/
theorem enterRequest_whole {x : Sess} {h : Header} {b : Text} (s : State) (hoff : h.off = 0) (hlen : h.len = b.length)
    {y : Sess} (hy : y = { x with
      admitted := x.admitted ++ [{ id := h.id, op := h.op, len := h.len, reexec := false, body := [] }]
      asm := x.asm ++ [{ id := h.id, op := h.op, flags := h.plain, len := h.len, runs := [], sinceAck := 0, at_ := s.now }]
      total := x.total + 1, refused := x.refused.filter fun z => z.1 != h.id }) :
    enterRequest x h b s = runOp h.op ⟨x.num, h.id, b⟩ (((s.incReg .DKP_TOKENS).setSess y).setSess (y.dropAsm h.id)) := by
  have hruns : runsFront (runsPut [] 0 b) = b.length ∧ runsGaps (runsPut [] 0 b) = 0 ∧
      ((runsPut [] 0 b).headD (0, [])).2 = b := by
    cases b with
    | nil => exact ⟨rfl, rfl, rfl⟩
    | cons c t => exact ⟨rfl, rfl, rfl⟩
  obtain ⟨hfront, hgaps, hbody⟩ := hruns
  have hagree : (b.isEmpty && b.length != 0) = false := by cases b <;> rfl
  subst hy
  unfold enterRequest takeSegment
  dsimp only
  rw [hoff, hlen, if_neg (by simp [hagree]), if_neg (by simp [runsHold]), hgaps, if_neg (by omega), hfront, hbody]
  simp

/-- Where a session of a segment stands and its link is up, the segment is taken. -/
theorem execSegment {s : State} {x : Sess} (hx : s.session x.num = some x) (hheld : x.held = false) {seg : Text} {t : State}
    (ht : segmentIn x seg s = t) : exec (.dkpSegmentReceived x.num seg) s = .next (rekeyCheck x.num t) := by
  refine congrArg Host.Outcome.next ?_
  rw [hx]
  exact (if_neg (by simp [hheld])).trans (by rw [ht])

/-- The first segment of a request is judged. -/
theorem segmentIn_first {s : State} {x : Sess} {seg : Text} (hun : undecodable seg = false)
    (hack : bitAt (headerOf seg).flags 1 = false) (hasm : (x.asm.find? fun a => a.id == (headerOf seg).id) = none)
    (hlate : refusedLately x (headerOf seg) s = false) : segmentIn x seg s = judge x seg s := by
  unfold segmentIn
  dsimp only
  rw [if_neg (by simp [hun]), if_neg (by simp [hack]), hasm]
  exact if_neg (by simp [hlate])

/-- Step 4 of Table 14.2 and what follows it, on a segment that passed the steps before. -/
theorem judge_afterForm {s : State} {x : Sess} {seg : Text} (hbad : headerBad seg = false) (hlo : 1 ≤ (headerOf seg).op)
    (hhi : (headerOf seg).op ≤ 13) (hlen : (headerOf seg).len ≤ 2359296) : judge x seg s =
      (match x.cache.find? fun c => c.id == (headerOf seg).id with
      | some c => replay x (headerOf seg) c s
      | none =>
        if x.admitted.any fun a => a.id == (headerOf seg).id then refuseSegment x (headerOf seg) 204 (detailConflict 2 0) s
        else if x.floor.any fun f => f == (headerOf seg).id || serialBelow (headerOf seg).id f then
          refuseSegment x (headerOf seg) 208 [] (raiseCount 0x193 [("sess", .n x.num)] (s.incReg .DKP_STALE_IDS))
        else if 256 ≤ x.admitted.length then busySegment x (headerOf seg) 1 s
        else if 8388608 < sumNat (x.admitted.map (·.len)) + (headerOf seg).len then busySegment x (headerOf seg) 2 s
        else if tokenLimit s ≤ s.reg .DKP_TOKENS then
          (if tokenLimit s < 65536 then busySegment x (headerOf seg) 8 s
           else busySegment x (headerOf seg) 3 (raiseCount 0x192 [] s))
        else enterRequest x (headerOf seg) (seg.drop 20) s) :=
  (if_neg (by simp [hbad])).trans ((if_neg (by simp; omega)).trans (if_neg (by omega)))

/-- An acknowledgement of the whole response ends it. -/
theorem takeAck_whole {s : State} {x : Sess} {seg : Text} {t : Tx} (hlong : 28 ≤ seg.length)
    (ht : (x.tx.find? fun t => t.id == (headerOf seg).id && t.op == (headerOf seg).op) = some t)
    (hsent : t.sent = t.body.length) (hacked : t.acked ≤ t.body.length) (hfront : natAt seg 20 4 = t.body.length) :
    takeAck x seg s = s.setSess (x.dropTx t.id) := by
  unfold takeAck
  dsimp only
  rw [if_neg (by omega), ht]
  exact (if_neg (by simp [hsent, hfront, hacked])).trans (if_pos (Nat.le_of_eq hfront.symm))

/-- Settles O52: a first segment by the first check that it fails, and the rest by what stands under the request's number. -/
theorem dkpSegmentCommandsComplete : Obligations.DkpSegmentCommandsComplete := by
  intro s x hx hheld
  have hlimit : s.day.t < 16 → tokenLimit s = 65536 := fun ht => if_neg (by omega)
  refine ⟨fun seg hun => execSegment hx hheld ?bad, fun seg hun => ?badAck, fun seg hun hack hasm hlate => ?first,
    fun h b hoff hlen => enterRequest_whole s hoff hlen rfl, fun seg t hun hack hlong ht hsent hacked hfront => ⟨?ack, ?ackIn⟩,
    fun id t ht hgoing => ⟨fun hfew => ?again, fun hmax => ?given⟩, fun id hnone => ?noTx, fun id hany => ?dropped, fun id hnone => ?noAsm⟩
  case bad =>
    unfold segmentIn
    exact if_pos hun
  case badAck =>
    refine congrArg Host.Outcome.next ?_
    rw [hx]
    exact (if_neg (by simp [hheld])).trans (if_pos hun)
  case first =>
    dsimp only
    have hjudge := segmentIn_first (s := s) hun hack hasm hlate
    refine ⟨fun hbad => execSegment hx hheld (hjudge.trans ?_), fun hbad hop => execSegment hx hheld (hjudge.trans ?_),
      fun hbad hlo hhi => ⟨fun hlen => execSegment hx hheld (hjudge.trans ?_), fun c b hlen hc htx hb => ?_, fun hlen hc => ?_⟩⟩
    · exact if_pos hbad
    · exact (if_neg (by simp [hbad])).trans (if_pos (by simp; omega))
    · exact (if_neg (by simp [hbad])).trans ((if_neg (by simp; omega)).trans (if_pos hlen))
    · refine execSegment hx hheld (hjudge.trans ((judge_afterForm hbad hlo hhi hlen).trans ?_))
      rw [hc]
      unfold replay
      dsimp only
      rw [htx, hb]
    · have hnew : ∀ {t}, _ = t → exec (.dkpSegmentReceived x.num seg) s = .next (rekeyCheck x.num t) := fun ht =>
        execSegment hx hheld (hjudge.trans ((judge_afterForm hbad hlo hhi hlen).trans (by rw [hc]; exact ht)))
      refine ⟨fun hadm => hnew (if_pos hadm), fun hadm => ⟨fun f hf hbelow => hnew ((if_neg (by simp [hadm])).trans ?_),
        fun hf => ?_⟩⟩
      · exact if_pos (by simp [hf, hbelow])
      · have hroom : ∀ {t}, _ = t → exec (.dkpSegmentReceived x.num seg) s = .next (rekeyCheck x.num t) := fun ht =>
          hnew ((if_neg (by simp [hadm])).trans ((if_neg (by simp [hf])).trans ht))
        refine ⟨fun hn => hroom (if_pos hn), fun hn hb => hroom ((if_neg (Nat.not_le.2 hn)).trans (if_pos hb)),
          fun hn hb => ⟨fun htok ht => hroom ?_, fun htok ht => hroom ?_⟩⟩
        · refine (if_neg (Nat.not_le.2 hn)).trans ((if_neg (Nat.not_lt.2 hb)).trans ?_)
          rw [hlimit ht, if_pos htok, if_neg (by omega)]
        · refine (if_neg (Nat.not_le.2 hn)).trans ((if_neg (Nat.not_lt.2 hb)).trans ?_)
          rw [hlimit ht, if_neg (Nat.not_le.2 htok)]
  case ack =>
    refine congrArg Host.Outcome.next ?_
    rw [hx]
    exact (if_neg (by simp [hheld])).trans ((if_neg (by simp [hun])).trans ((if_pos hack).trans
      (by rw [takeAck_whole hlong ht hsent hacked hfront])))
  case ackIn =>
    refine execSegment hx hheld ?_
    unfold segmentIn
    dsimp only
    rw [if_neg (by simp [hun]), if_pos (by simp [hack]; omega), takeAck_whole hlong ht hsent hacked hfront]
  case again =>
    refine congrArg Host.Outcome.next ?_
    dsimp only
    rw [hx]
    dsimp only
    rw [ht]
    exact (if_neg (by simp [hgoing])).trans (if_neg (by omega))
  case given =>
    have hid : t.id = id := by simpa using List.find?_some ht
    refine congrArg Host.Outcome.next ?_
    dsimp only
    rw [hx]
    dsimp only
    rw [ht]
    refine (if_neg (by simp [hgoing])).trans ((if_pos hmax).trans ?_)
    unfold abandonTx
    rw [hid]
  case noTx =>
    refine congrArg Host.Outcome.next ?_
    dsimp only
    rw [hx]
    dsimp only
    rw [hnone]
  case dropped =>
    refine ⟨_, _, ?_, rfl, rfl⟩
    refine congrArg Host.Outcome.next ?_
    dsimp only
    rw [hx]
    refine (if_neg (by simp [hany])).trans ?_
    rw [State.incReg, setReg_reg_other _ _ _ _ _ _ (by decide)]
    rfl
  case noAsm =>
    refine congrArg Host.Outcome.next ?_
    dsimp only
    rw [hx]
    exact if_pos (by simp [hnone])

end Sys2Proof.Machine

namespace Sys2Proof.Machine

/-! ## The ops of an admitted request (R335, R340 to R353) -/

section
variable {s : State} {q : DkpReq} {x y : Sess} {op : Nat} {modes : List Mode} (hx : s.session q.sess = some x)
  (hop : (x.admitted.any fun a => a.id == q.id && a.op == op) = true)
  (hy : { x with admitted := x.admitted.map fun a => if a.id == q.id then { a with body := q.body } else a } = y)
include hx hop hy

theorem dkpRun_error (off : Nat) : dkpRun q op (.error off) modes s =
    respond q.sess q.id op 100 (detailOffset off) 0 (s.setSess y) := by
  subst hy
  unfold dkpRun
  rw [hx]
  exact if_neg (by simp [hop])

theorem dkpRun_mode (run : Sess → State → State) (hmode : modes.any (· == s.mode) = false) : dkpRun q op (.ok run) modes s =
    respond q.sess q.id op 200 (detailState s.mode.num (modesMask modes)) 0 (s.setSess y) := by
  subst hy
  unfold dkpRun
  rw [hx]
  exact (if_neg (by simp [hop])).trans (if_neg (ne_true_of_eq_false hmode))

theorem dkpRun_run (run : Sess → State → State) (hmode : modes.any (· == s.mode) = true) :
    dkpRun q op (.ok run) modes s = run y (s.setSess y) := by
  subst hy
  unfold dkpRun
  rw [hx]
  exact (if_neg (by simp [hop])).trans (if_pos hmode)

/-- A command that is an op whose body has its form runs what the body asks for. -/
theorem exec_dkpRun {i : Instr} {form : Except Nat (Sess → State → State)} {run : Sess → State → State}
    (hi : exec i s = .next (dkpRun q op form modes s)) (hform : form = .ok run) (hmode : modes.any (· == s.mode) = true) :
    exec i s = .next (run y (s.setSess y)) :=
  hi.trans (hform ▸ congrArg Host.Outcome.next (dkpRun_run hx hop hy run hmode))

/-- A request of EVENTS whose fields are in range does what its mode does. -/
theorem eventsOp_run {mode : Nat} (run : Sess → State → State) (h11 : op = 11) (hmode : m4to9.any (· == s.mode) = true)
    (hlen : lengthError q.body 16 = none) (hsub : byteAt q.body 0 = mode) (hle : mode ≤ 2) (hleast : byteAt q.body 1 ≤ 3)
    (hfirst : natAt q.body 2 2 ≤ 0x3FF) (hlast : natAt q.body 4 2 ≤ 0x3FF) : eventsOp mode q run s = run y (s.setSess y) := by
  subst h11
  unfold eventsOp
  rw [if_neg (by simp [hsub]), hlen]
  refine (dkpRun_run hx hop hy _ hmode).trans ?_
  rw [if_neg (by omega), if_neg (by omega), if_neg (by omega), if_neg (by omega)]

/-- A request of ASSOC whose body has the form of its sub-op runs it. -/
theorem assocOp_run {sub : Nat} {form : Except Nat (Sess → State → State)} {run : Sess → State → State} (h13 : op = 13)
    (hform : form = .ok run) (hmode : modes.any (· == s.mode) = true) (hbody : q.body.length ≠ 0) (hsub : byteAt q.body 0 = sub)
    (hle : sub ≤ 3) : assocOp sub q modes form s = run y (s.setSess y) := by
  subst h13 hform
  have hany : q.body.isEmpty = false := by simpa using hbody
  unfold assocOp
  rw [if_neg (by simp [hsub]), if_neg (by simp [hany, hsub]; omega)]
  exact dkpRun_run hx hop hy run hmode

end

/-- The response of a write that need not wait. -/
theorem dkpWrote_now {q : DkpReq} {op : Nat} {c : Committed} {body : Nat → Text} {s : State} (h : c.through = false) :
    dkpWrote q op c body s = respond q.sess q.id op 0 (body (if c.pos ≤ s.kv.diskPos then 1 else 0)) 0 s :=
  if_neg (by simp [h])

/-- Settles O53: the form of a body, then the mode, then what the op does with what it finds. -/
theorem dkpOpsComplete : Obligations.DkpOpsComplete := by
  intro s q x hx
  dsimp only
  generalize hy : ({ x with admitted := x.admitted.map fun a => if a.id == q.id then { a with body := q.body } else a } : Sess) = y
  have hroles : y.roles = x.roles := hy ▸ rfl
  refine ⟨fun op form modes hop => ⟨fun off hform => ?error, fun run hform hmode => ?mode, fun run hform hmode => ?run⟩,
    fun hop hmode hlen => ⟨fun t r hget => ?getRefused, fun t e tag hget hver => ?get⟩,
    fun hop hmode hshort hlen => ?put, fun hop hmode hlen => ?delete, fun hop hmode hshort hlen => ?cas,
    fun o hop hmode hform => ?vput, fun hop hmode hlen => ?vdel,
    fun op ns o body z v t => ⟨fun i r hw => ?refused, fun c hw hthrough => ?wrote, fun c hw hthrough hpos hop => ?waits⟩,
    fun subs hop hmode hshort hform hns hlo hhi => ?batch, fun hop hmode hlen hns hlo hhi t z hscan => ?scan, fun l hop hmode hlen hitems => ?stat,
    fun hop hmode hshort => ?search, fun hop hmode hlen hleast hfirst hlast => ?events, fun hop hmode hfree => ?admin,
    fun p hop hmode hbusy => ?adminBusy, fun hop hmode hsub hdw hlen => ?assocSearch, fun hop hmode hsub hlen => ?assocStep,
    fun t hop hmode hsub hlen hclosed => ?assocClose, fun t hop hmode hsub hdw hlen hw => ?assocWrite,
    fun p hp hq hheld hlost => ?push, fun h => ?noPush⟩
  case error =>
    subst hform
    exact dkpRun_error hx hop hy off
  case mode =>
    subst hform
    exact dkpRun_mode hx hop hy run hmode
  case run =>
    subst hform
    exact dkpRun_run hx hop hy run hmode
  case getRefused =>
    refine (exec_dkpRun hx hop hy rfl (by rw [hlen]) hmode).trans (congrArg Host.Outcome.next ?_)
    dsimp only
    rw [hroles, hget]
    rfl
  case get =>
    have hrun : ∀ bytes past, (if bitAt (byteAt q.body 1) 0 then (([] : Text), false)
        else valueRange e.val (natAt q.body 4 4) (natAt q.body 8 4)) = (bytes, past) →
        exec (.dkpGet q) s = .next (respond q.sess q.id 1 (if past then 2 else 0) (getBody e t.clk.tai tag bytes) e.ver t) := by
      intro bytes past hrange
      refine (exec_dkpRun hx hop hy rfl (by rw [hlen]) hmode).trans (congrArg Host.Outcome.next ?_)
      dsimp only
      rw [hroles, hget]
      dsimp only
      rw [hver, hrange]
      rfl
    refine ⟨fun hflag => hrun [] false ?_, fun hflag hin hall => hrun _ false ?_, fun hflag hpast => hrun [] true ?_⟩
    · exact if_pos (by rw [hflag]; rfl)
    · rw [hflag, hall]
      exact (if_neg (by decide)).trans ((if_neg (by omega)).trans (if_pos rfl))
    · rw [hflag]
      exact (if_neg (by decide)).trans (if_pos hpast)
  case put =>
    exact exec_dkpRun hx hop hy rfl ((if_neg (by omega)).trans (by rw [hlen])) hmode
  case delete => exact exec_dkpRun hx hop hy rfl (by rw [hlen]) hmode
  case cas => exact exec_dkpRun hx hop hy rfl ((if_neg (by omega)).trans (by rw [hlen])) hmode
  case vput => exact exec_dkpRun hx hop hy rfl (by rw [hform]) hmode
  case vdel => exact exec_dkpRun hx hop hy rfl (by rw [hlen]) hmode
  case refused =>
    unfold dkpWrite
    rw [hw]
    rfl
  case wrote =>
    unfold dkpWrite
    rw [hw]
    exact dkpWrote_now hthrough
  case waits =>
    unfold dkpWrite
    rw [hw]
    refine (if_pos (by simp [hthrough, hpos])).trans ((if_neg ?_).trans rfl)
    simp [hop, Route.isDkp]
  case batch =>
    have hrun : exec (.dkpBatch q) s = .next (runBatch q subs y (s.setSess y)) :=
      exec_dkpRun hx hop hy rfl ((if_neg (by omega)).trans (by rw [hform])) hmode
    have hns' : ¬byteAt q.body 0 ≤ 1 := by omega
    have hc : ¬(byteAt q.body 1 == 0 || decide (64 < byteAt q.body 1)) = true := by simp; omega
    refine ⟨fun t i r hw => hrun.trans (congrArg Host.Outcome.next ?_), fun t c hw hthrough => hrun.trans (congrArg Host.Outcome.next ?_)⟩ <;>
      unfold runBatch <;> dsimp only <;> rw [if_neg hns', if_neg hc, hroles, hw]
    exact dkpWrote_now hthrough
  case scan =>
    refine (exec_dkpRun hx hop hy rfl (by rw [hlen]) hmode).trans (congrArg Host.Outcome.next ?_)
    rw [if_neg (by simpa using hns), if_neg (by simp; omega), hroles, hscan]
    simp only [beq_iff_eq]
  case stat =>
    refine (exec_dkpRun hx hop hy rfl (by rw [hlen]) hmode).trans (congrArg Host.Outcome.next ?_)
    rw [hitems]
  case search =>
    have hrun := exec_dkpRun (i := .dkpSearch q) hx hop hy rfl (if_neg (Nat.not_lt.2 hshort)) hmode
    refine ⟨fun t r hask => hrun.trans (congrArg Host.Outcome.next ?_), fun t hask => hrun.trans (congrArg Host.Outcome.next ?_)⟩ <;>
      rw [hroles, hask]
    rfl
  case events =>
    have hrun : ∀ {mode} (run : Sess → State → State), byteAt q.body 0 = mode → mode ≤ 2 →
        eventsOp mode q run s = run y (s.setSess y) := fun run hsub hle =>
      eventsOp_run hx hop hy run rfl hmode hlen hsub hle hleast hfirst hlast
    refine ⟨fun hsub hlo hhi => congrArg Host.Outcome.next ((hrun _ hsub (by omega)).trans ?_),
      fun hsub => congrArg Host.Outcome.next (hrun _ hsub (by omega)),
      fun z hsub hz => congrArg Host.Outcome.next ((hrun _ hsub (by omega)).trans ?_)⟩
    · exact if_neg (by simp; omega)
    · dsimp only
      rw [hz]
  case admin =>
    refine congrArg Host.Outcome.next ?_
    unfold doDkpAdmin
    refine (dkpRun_run hx hop hy _ hmode).trans ?_
    rw [hfree]
  case adminBusy =>
    refine congrArg Host.Outcome.next ?_
    unfold doDkpAdmin
    refine (dkpRun_run hx hop hy _ hmode).trans ?_
    rw [hbusy]
    rfl
  case assocSearch =>
    have hlong : lengthError q.body (4 + if bitAt (byteAt q.body 1) 2 then 40 else 20) = none := by simp [lengthError, hdw, hlen]
    have hrun : exec (.dkpAssocSearch q) s = .next (
        match searchRefusal (s.setSess y) y.roles (natAt q.body 2 2) false false (bitAt (byteAt q.body 1) 0) with
        | some r => dkpRefuse q 13 r (s.setSess y)
        | none => runSearch ⟨.dkp q.sess, q.id, ""⟩ (leNat (q.body.drop 4)) (natAt q.body 2 2) false (bitAt (byteAt q.body 1) 0)
            (bitAt (byteAt q.body 1) 1) (s.setSess y)) := by
      refine congrArg Host.Outcome.next ((assocOp_run hx hop hy rfl (by rw [hlong]) hmode (by omega) hsub (by omega)).trans ?_)
      rw [hdw]
      rfl
    refine ⟨fun r hr => ?_, fun hr => ?_⟩ <;> rw [hrun, hroles, hr]
    rfl
  case assocStep =>
    have hlong : lengthError q.body 2 = none := by simp [lengthError, hlen]
    refine congrArg Host.Outcome.next ((assocOp_run hx hop hy rfl (by rw [hlong]) hmode (by omega) hsub (by omega)).trans ?_)
    rw [hroles]
  case assocClose =>
    have hlong : lengthError q.body 2 = none := by simp [lengthError, hlen]
    refine congrArg Host.Outcome.next ((assocOp_run hx hop hy rfl (by rw [hlong]) hmode (by omega) hsub (by omega)).trans ?_)
    rw [hclosed]
  case assocWrite =>
    have hlong : lengthError q.body (16 + 2 * if bitAt (byteAt q.body 1) 0 then 40 else 20) = none := by
      simp [lengthError, hdw, hlen]
    refine congrArg Host.Outcome.next ((assocOp_run hx hop hy rfl (by rw [hlong]) hmode (by omega) hsub (by omega)).trans ?_)
    rw [hdw, hroles, if_neg Bool.false_ne_true, hw]
  case push =>
    refine congrArg Host.Outcome.next ?_
    dsimp only
    rw [hx]
    dsimp only
    rw [hp]
    exact (if_neg (by simp [hq, hheld])).trans (if_pos (by simp [hlost]))
  case noPush =>
    refine congrArg Host.Outcome.next ?_
    dsimp only
    rw [hx]
    dsimp only
    rcases h with hnone | hheld
    · rw [hnone]
    · split
      · rfl
      · exact if_pos (by simp [hheld])

end Sys2Proof.Machine

namespace Sys2Proof.Machine

/-! ## Keys: the KV verbs and what time and the NAND do to the store (R342 to R345, R356 to R384, R511) -/

/-- An argument that a line does not give reads as its default. -/
theorem Line.nat_of_not_has {l : Line} {k : String} (h : l.has k = false) (d : Nat) : l.nat k d = d := by
  have hnone : (l.args.find? fun a => a.key == txt k) = none := by
    rw [List.find?_eq_none]
    simpa [Line.has] using h
  unfold Line.nat Line.nat? Line.int? Line.raw
  rw [hnone]
  rfl

theorem noteLine_nsAction (v : Verb) (l : Line) (s : State) (n : Nat) : nsAction (noteLine v l s) n = nsAction s n := by
  simp [nsAction, noteLine_reg]

theorem noteLine_nsCounts (v : Verb) (l : Line) (s : State) (n : Nat) : nsCounts (noteLine v l s) n = nsCounts s n := by
  simp [nsCounts]

/-- The reply of a line that waits keeps its route busy. -/
theorem waitFor_line {w : Wait} (h : w.op = 0x0C) (s : State) :
    waitFor w s = setBusy w.route w.verb { s with kv := { s.kv with waits := s.kv.waits ++ [w] } } :=
  if_pos (by simp [h])

/-- Settles O55: a verb by what the store answers, a removal and a snapshot by their conditions. -/
theorem keyCommandsComplete : Obligations.KeyCommandsComplete := by
  intro l s
  refine ⟨fun u hu hp => ⟨fun t r hget => ?getRefused, fun t e tag hget hoff hlen hval hroom => ?get⟩,
    fun u hu hp hns t x hscan hlines => ?scan, fun hp hns => ?stat,
    fun hp => ⟨fun hv hh => ?putVal, fun hv hh => ?putHex, fun hv hh => ?putNone, fun hv hh => ?putBoth⟩,
    fun hp => ⟨fun hv hh hd => ?casVal, fun hv hh hd => ?casDel⟩, fun hp => ?del,
    fun o u t i r hw verb => ?refused, fun o u t c hw => ⟨fun hthrough => ?now, fun hthrough hpos => ?waits⟩,
    fun u hu hp => ⟨fun hpos => ?synced, fun hpos => ?sync⟩, fun hp hns hone => ?nsShow, fun u hp hns hmore => ?nsSet,
    fun ns key e hserv hkey hexp hvec => ?expired, fun ns key e hkey hexp => ?alive, fun token hany => ?idle,
    fun token hany => ?inUse, fun token x xs hsnaps hfree => ?space, fun token reason => ⟨_, rfl⟩,
    fun n hch hruns => ?programmed, fun moved free hfw => congrArg Host.Outcome.next (if_pos hfw), fun free hfree hheld => ?gcHeld,
    fun free hfree hlo => ?gcOver⟩
  case getRefused =>
    subst hu
    refine congrArg Host.Outcome.next ((gate_run _ _ _ _ hp).trans ?_)
    rw [hget]
    rfl
  case get =>
    subst hu
    refine congrArg Host.Outcome.next ((gate_run _ _ _ _ hp).trans ?_)
    have hrange : valueRange e.val 0 0xFFFFFFFF = (e.val, false) := by
      have : e.val.length ≠ 0 := by simpa using hval
      unfold valueRange
      rw [if_neg (by omega)]
      rfl
    rw [hget]
    dsimp only
    rw [Line.nat_of_not_has hoff, Line.nat_of_not_has hlen, hrange]
    dsimp only
    rw [if_neg (by simpa using hroom), List.take_of_length_le hroom]
    rfl
  case scan =>
    subst hu
    refine congrArg Host.Outcome.next ((gate_run _ _ _ _ hp).trans ((if_neg (by simpa using hns)).trans ?_))
    rw [hscan]
    dsimp only
    rw [hlines]
    simp
  case stat =>
    refine congrArg Host.Outcome.next ((gate_run _ _ _ _ hp).trans ((if_neg (by simpa using hns)).trans ?_))
    rw [noteLine_nsCounts]
    rfl
  case putVal | putHex | putNone | putBoth =>
    refine congrArg Host.Outcome.next ((gate_run _ _ _ _ hp).trans ?_)
    simp [valueArg, hv, hh]
  case casVal | casDel =>
    refine congrArg Host.Outcome.next ((gate_run _ _ _ _ hp).trans ?_)
    simp [valueArg, hv, hh, hd]
  case del => exact congrArg Host.Outcome.next (gate_run _ _ _ _ hp)
  case refused =>
    unfold lineWrite
    dsimp only
    rw [hw]
    rfl
  case now =>
    unfold lineWrite
    dsimp only
    rw [hw]
    exact if_neg (by simp [hthrough])
  case waits =>
    unfold lineWrite
    dsimp only
    rw [hw]
    exact (if_pos (by simp [hthrough, hpos])).trans (waitFor_line rfl t)
  case synced =>
    subst hu
    exact congrArg Host.Outcome.next ((gate_run _ _ _ _ hp).trans (if_pos hpos))
  case sync =>
    subst hu
    exact congrArg Host.Outcome.next ((gate_run _ _ _ _ hp).trans ((if_neg (Nat.not_le.2 hpos)).trans (waitFor_line rfl _)))
  case nsShow =>
    refine congrArg Host.Outcome.next ((gate_run _ _ _ _ hp).trans ?_)
    dsimp only
    rw [if_neg (by simpa using hns), if_pos (by omega), noteLine_nsAction, noteLine_reg]
    rfl
  case nsSet =>
    intro ns w wt hw hnew
    refine congrArg Host.Outcome.next ((gate_run _ _ _ _ hp).trans ?_)
    dsimp only
    rw [if_neg (by simpa using hns), if_neg (by omega), noteLine_nsAction, noteLine_reg, hw]
    have hchanged : ¬(w == nsAction s ns && wt == u.reg .KV_NS_ATTR ns) = true := by simp [hnew]
    exact congrArg (done l.route _) (if_neg hchanged)
  case expired =>
    refine congrArg Host.Outcome.next ((if_neg (by simp [hserv])).trans ?_)
    rw [hkey]
    refine (if_neg (by simp [hexp])).trans ?_
    have hnone : dropVec e s = (s, .ok ([], 0)) := by
      unfold dropVec
      rw [hvec]
    rw [hnone]
    rfl
  case alive =>
    refine congrArg Host.Outcome.next ?_
    split
    · rfl
    · rw [hkey]
      exact if_pos (by simp [hexp])
  case idle => exact congrArg Host.Outcome.next ((if_neg Bool.false_ne_true).trans (if_pos hany))
  case inUse => exact congrArg Host.Outcome.next ((if_neg Bool.false_ne_true).trans (if_neg (by simp [hany])))
  case space =>
    refine congrArg Host.Outcome.next ((if_pos rfl).trans ?_)
    rw [hsnaps]
    exact if_pos hfree
  case programmed =>
    obtain ⟨d, k, c, v, p, he, hpos⟩ := programDirty_eq n s
    refine ⟨_, congrArg Host.Outcome.next ((if_neg (by rcases hruns with h | h <;> simp [hch, h])).trans he), rfl, rfl, rfl, rfl,
      fun w hw => ?_⟩
    rw [hw] at hpos
    exact hpos
  case gcHeld =>
    unfold noteFree
    exact if_pos (by simp [hfree, hheld])
  case gcOver =>
    unfold noteFree
    exact (if_neg (by simp; omega)).trans (if_pos hlo)

end Sys2Proof.Machine

namespace Sys2Proof.Machine

/-! ## The free values and what a reply does

No reply reads a free value: that the count of free values goes on before or after it is the same. -/

theorem ite_tick (c : Prop) [Decidable c] {a b a' b' : State} (ha : a' = a.tick) (hb : b' = b.tick) :
    (if c then a' else b') = (if c then a else b).tick := by
  split
  · exact ha
  · exact hb

theorem setPort_tick (s : State) (p : Nat) (x : Port) : s.tick.setPort p x = (s.setPort p x).tick := ite_tick _ rfl rfl

theorem raise_tick (id : Nat) (kv : List (String × Val)) (s : State) : raise id kv s.tick = (raise id kv s).tick :=
  ite_tick _ rfl rfl

theorem portSend_tick (p : Nat) (o : Output) (s : State) : portSend p o s.tick = (portSend p o s).tick :=
  ite_tick _ (setPort_tick ..) rfl

theorem sendKeyUpdate_tick (n p : Nat) (b : Bool) (s : State) : sendKeyUpdate n p b s.tick = (sendKeyUpdate n p b s).tick := by
  unfold sendKeyUpdate
  rw [portSend_tick, raise_tick]

theorem tlsOut_tick (c : Nat) (o : Output) (s : State) : tlsOut c o s.tick = (tlsOut c o s).tick := by
  have hnet : s.tick.net = s.net := rfl
  unfold tlsOut
  rw [hnet]
  split
  · exact portSend_tick ..
  · rfl

theorem setTls_tick (s : State) (x : TlsConn) : s.tick.setTls x = (s.setTls x).tick := rfl

theorem tlsKeyUpdate_tick (c : Nat) (b : Bool) (s : State) : tlsKeyUpdate c b s.tick = (tlsKeyUpdate c b s).tick := by
  have hnet : s.tick.net = s.net := rfl
  unfold tlsKeyUpdate
  rw [hnet]
  split
  · rw [setTls_tick, sendKeyUpdate_tick]
  · rfl

theorem tlsSend_tick (c : Nat) (o : Output) (s : State) : tlsSend c o s.tick = (tlsSend c o s).tick := by
  have hnet : (tlsOut c o s).tick.net = (tlsOut c o s).net := rfl
  unfold tlsSend
  dsimp only
  rw [tlsOut_tick, hnet]
  split
  · rfl
  · rw [setTls_tick]
    exact ite_tick _ (tlsKeyUpdate_tick ..) rfl

theorem ringSend_tick (o : Output) (s : State) : ringSend o s.tick = (ringSend o s).tick :=
  ite_tick _ rfl (ite_tick _ rfl rfl)

theorem setSess_tick (s : State) (x : Sess) : s.tick.setSess x = (s.setSess x).tick := rfl

theorem sendSegs_tick (n : Nat) (segs : List Text) (s : State) : sendSegs n segs s.tick = (sendSegs n segs s).tick := by
  have hsess : s.tick.session n = s.session n := rfl
  have hfold : ∀ (p : Nat) (l : List Text) (u : State), l.foldl (fun s t => portSend p (.segment n t) s) u.tick =
      (l.foldl (fun s t => portSend p (.segment n t) s) u).tick := by
    intro p l
    induction l with
    | nil => exact fun _ => rfl
    | cons t ts ih => exact fun u => (congrArg (ts.foldl _) (portSend_tick ..)).trans (ih _)
  unfold sendSegs
  rw [hsess]
  split
  · rfl
  next x _ =>
    dsimp only
    rw [setSess_tick]
    split
    · rw [← sendKeyUpdate_tick]
      refine congrArg (sendKeyUpdate n x.port false) (ite_tick _ rfl (hfold _ _ _))
    · exact ite_tick _ rfl (hfold _ _ _)

theorem sendResponse_tick (n op flags id status : Nat) (body : Text) (s : State) :
    sendResponse n op flags id status body s.tick = (sendResponse n op flags id status body s).tick := by
  have hsess : s.tick.session n = s.session n := rfl
  unfold sendResponse
  rw [hsess]
  split
  · rfl
  · dsimp only
    rw [setSess_tick, sendSegs_tick]

theorem respond_tick (n id op status : Nat) (body : Text) (ver : Nat) (s : State) :
    respond n id op status body ver s.tick = (respond n id op status body ver s).tick := by
  have hsess : s.tick.session n = s.session n := rfl
  unfold respond
  rw [hsess]
  split
  · rfl
  · dsimp only
    rw [setSess_tick]
    generalize s.setSess _ = u
    generalize Option.elim (List.find? _ _) false _ = again
    rw [← sendResponse_tick]
    cases again
    · exact congrArg (sendResponse n op _ id status body) (ite_tick _ rfl rfl)
    · exact congrArg (sendResponse n op _ id status body) (ite_tick _ rfl rfl)

theorem reply_tick (r : Route) (code : Nat) (kv : List (String × Val)) (s : State) :
    reply r code kv s.tick = (reply r code kv s).tick := by
  unfold reply
  cases r with
  | ring =>
    dsimp only
    have hsend : ringSend (replyOut .ring ⟨code, kv⟩ s.tick) s.tick = (ringSend (replyOut .ring ⟨code, kv⟩ s) s).tick := ringSend_tick ..
    rw [hsend]
    exact ite_tick _ (ringSend_tick ..) rfl
  | tls c => exact tlsSend_tick ..
  | dkp n =>
    refine ite_tick _ rfl ?_
    have hroute : s.tick.route (.dkp n) = s.route (.dkp n) := rfl
    have hset : ∀ x, s.tick.setRoute x = (s.setRoute x).tick := fun _ => rfl
    rw [hroute]
    split
    · rfl
    · rw [hset, respond_tick]
      rfl

theorem done_tick (r : Route) (kv : List (String × Val)) (s : State) : done r kv s.tick = (done r kv s).tick :=
  reply_tick ..

end Sys2Proof.Machine

namespace Sys2Proof.Machine

/-! ## Collections: the COLL and MAINT verbs, merges and reloads (R84, R293, R385 to R388, R402 to R408, R411, R512) -/

theorem noteLine_namedColl (v : Verb) (l : Line) (s : State) (t : Text) : namedColl t (noteLine v l s) = namedColl t s := by
  simp [namedColl, State.liveColl, State.coll]

section
variable {v : Verb} {l : Line} {s : State} (hp : passes v l s = true)
include hp

/-- A verb of a collection that stands runs on it. -/
theorem onColl_some {c : Coll} (hc : namedColl (l.text "coll") s = some c) (run : Coll → State → State) :
    onColl v l run s = run c (noteLine v l s) := by
  refine (gate_run _ _ _ _ hp).trans ?_
  rw [noteLine_namedColl, hc]

theorem onColl_none (hc : namedColl (l.text "coll") s = none) (run : Coll → State → State) :
    onColl v l run s = reply l.route 205 [] (noteLine v l s) := by
  refine (gate_run _ _ _ _ hp).trans ?_
  rw [noteLine_namedColl, hc]

end

/-- A key that lost its vector in a collection holds none of that collection. -/
theorem KeyEnt.without_vec (n : Nat) (e : KeyEnt) (i : Nat) : (e.without n).vec ≠ some (n, i) := by
  unfold KeyEnt.without
  split
  next m j hv =>
    split
    · exact Option.some_ne_none _ |>.symm
    next h =>
      rw [hv]
      exact fun he => h (beq_iff_eq.2 (congrArg Prod.fst (Option.some.inj he)))
  next hv => exact fun he => nomatch hv.symm.trans he

/-- What a collection leaves whose last vector is gone (R388). -/
def collGone (n : Nat) (s : State) : State :=
  { s with
    kv := { s.kv with
      keys := s.kv.keys.map (KeyEnt.without n), disk := s.kv.disk.map (KeyEnt.without n)
      dirty := s.kv.dirty.map fun w => { w with items := w.items.map (Item.without n) } }
    colls := s.colls.filter fun x => x.num != n
    collsDisk := s.collsDisk.filter fun x => x.num != n
    sweep := { s.sweep with cache := s.sweep.cache.filter fun x => x.1 != n } }

theorem execCollDropComplete_dropping {n : Nat} {c : Coll} {s : State} (hc : s.coll n = some c) (hst : c.state = 4) :
    exec (.collDropComplete n) s = .next (collEvent c 2 (collGone n s)) := by
  refine congrArg Host.Outcome.next ?_
  rw [hc]
  exact if_neg (by simp [hst])

/-- Without a recall job and without watches a collection that is dropped takes nothing else with it. -/
theorem dropWatches_none {n : Nat} {s : State} (hjob : s.sweep.recallJob = none) (hwatches : s.sweep.watches = []) :
    dropWatches n (stopRecallOf n 2 s) = s := by
  have hstop : stopRecallOf n 2 s = s := if_neg (by simp [hjob])
  rw [hstop]
  unfold dropWatches
  rw [hwatches]
  rfl

/-- Settles O56: a verb by the collection that it finds, a merge and a reload by its state. -/
theorem collectionCommandsComplete : Obligations.CollectionCommandsComplete := by
  intro l s
  refine ⟨fun u hp hnum hname hrange hshort hrec => ?create, fun hp hnum => ?taken, fun code w hp hnum hname hrange hshort => ?short,
    fun c u hp hc hrec hjob hwatches hsweep => ?drop, fun n c hc hst => ?dropped, fun n c hc hst => ?standing,
    fun c u hp hc hfew hlo hhi hmax hrec => ?set, fun c hp hc => ?shown, fun hp hc => ?absent, fun hp => ?list,
    fun c hp hc => ⟨fun hst hm hq hside => ?queued, fun hst hm hq hside => ?nothing, fun hst => ?conflict⟩,
    fun n hmay hq => ?start, fun n c hc hst hm hlo hhi hwork => ?starts, fun n c m j js hc hm hj hst hgo hwait hbuilt hch hfail hserv => ?built,
    fun n c hc hm => ?noMerge, fun c hp hc hst => ?reload, fun n c failed hc hst hrel hserv => ?reloaded,
    fun c hp hc => ?rebuild, fun hp => ?jobs, fun util c hutil hidle hpin hmode hmay hq hfull hm => ?idle, fun util hutil => ?busy⟩
  case create =>
    refine congrArg Host.Outcome.next ((gate_run _ _ _ _ hp).trans ?_)
    simp only [noteLine_colls]
    rw [if_neg (by simp [hnum]), if_neg (by simp [hname]), hrange]
    dsimp only
    rw [hshort]
    dsimp only
    rw [hrec]
    rfl
  case taken =>
    refine congrArg Host.Outcome.next ((gate_run _ _ _ _ hp).trans ?_)
    simp only [noteLine_colls]
    exact if_pos hnum
  case short =>
    refine congrArg Host.Outcome.next ((gate_run _ _ _ _ hp).trans ?_)
    simp only [noteLine_colls]
    rw [if_neg (by simp [hnum]), if_neg (by simp [hname]), hrange]
    dsimp only
    rw [hshort]
    rfl
  case drop =>
    refine ⟨_, congrArg Host.Outcome.next ((onColl_some hp hc _).trans ?_), rfl⟩
    rw [hrec]
    exact dropWatches_none (by simp [State.bothColls, hsweep, hjob]) (by simp [State.bothColls, hsweep, hwatches])
  case dropped =>
    refine ⟨_, execCollDropComplete_dropping hc hst, by simp [collGone], by simp [collGone], ?_, List.length_map .., rfl⟩
    intro e he i
    obtain ⟨e', -, rfl⟩ := List.mem_map.1 he
    exact KeyEnt.without_vec n e' i
  case standing =>
    refine congrArg Host.Outcome.next ?_
    rw [hc]
    exact if_pos (by simp [hst])
  case set =>
    refine congrArg Host.Outcome.next ((onColl_some hp hc _).trans ?_)
    have hnone : ∀ u, maxChunksRefusal c (l.nat "max_chunks") "max_chunks" u = none := fun u =>
      (if_neg (by simp; omega)).trans (if_pos hhi)
    rw [hnone]
    dsimp only
    rw [hrec]
    rfl
  case shown => exact congrArg Host.Outcome.next (onColl_some hp hc _)
  case absent => exact congrArg Host.Outcome.next (onColl_none hp hc _)
  case list =>
    refine congrArg Host.Outcome.next ((gate_run _ _ _ _ hp).trans ?_)
    rw [noteLine_colls]
    rfl
  case queued =>
    refine congrArg Host.Outcome.next ((onColl_some hp hc _).trans ?_)
    exact (if_neg (by simp [hst, hm, hq])).trans (if_neg (by simpa using hside))
  case nothing =>
    refine congrArg Host.Outcome.next ((onColl_some hp hc _).trans ?_)
    exact (if_neg (by simp [hst, hm, hq])).trans (if_pos (by simp [hside]))
  case conflict => exact congrArg Host.Outcome.next ((onColl_some hp hc _).trans (if_pos (by simp [hst])))
  case start => exact congrArg Host.Outcome.next (if_pos (by simp [hmay, hq]))
  case starts =>
    have hupTo : (if c.pub == 1 then 2 ^ 32 - 1 else (c.pub + 2 ^ 32 - 1) % 2 ^ 32) = c.pub - 1 := by
      rw [if_neg (by simp; omega)]
      omega
    unfold startMerge
    rw [hc]
    dsimp only
    rw [hupTo]
    exact if_neg (by simp [hst, hm, hwork])
  case built =>
    refine congrArg Host.Outcome.next ?_
    rw [hc]
    dsimp only
    rw [hm]
    dsimp only
    rw [hj]
    exact if_neg (by simp [hst, hgo, hwait, hbuilt, hch, hfail, hserv])
  case noMerge =>
    refine congrArg Host.Outcome.next ?_
    rw [hc]
    dsimp only
    rw [hm]
  case reload => exact congrArg Host.Outcome.next ((onColl_some hp hc _).trans (if_neg (by simp [hst])))
  case reloaded =>
    intro mine u
    have hrun : exec (.collectionReloadComplete n failed) s = .next (match mine with
        | x :: _ => raise 0x244 [("coll", .n n), ("code", .n x.code)] u
        | [] => raise 0x243 [("coll", .n n), ("chunks", .n c.chunks.length)] u) := by
      refine congrArg Host.Outcome.next ((if_pos (by simp [hc, hst, hrel, hserv])).trans ?_)
      unfold reloadColl
      split
      next hnone => exact nomatch hnone.symm.trans hc
      next c' hsome =>
        obtain rfl := Option.some.inj (hsome.symm.trans hc)
        rfl
    exact ⟨fun x xs hmine => hrun.trans (by rw [hmine]), fun hmine => hrun.trans (by rw [hmine])⟩
  case rebuild => exact congrArg Host.Outcome.next (onColl_some hp hc _)
  case jobs =>
    refine congrArg Host.Outcome.next ((gate_run _ _ _ _ hp).trans ?_)
    have hfree : (noteLine (vColl "MAINT.JOBS" 0 false []) l s).free = s.free := by simp [State.free]
    dsimp only
    rw [done_tick, noteLine_day, hfree]
    rfl
  case idle =>
    refine congrArg Host.Outcome.next ((if_neg ?_).trans ?_)
    · have hup : s.coreUp = true := by
        unfold mayMerge at hmay
        simp only [Bool.and_eq_true] at hmay
        exact hmay.1.2
      simp [hutil, hidle, hpin, hmode, hmay, hq, hup]
    · rw [hfull]
      exact if_pos hm
  case busy => exact congrArg Host.Outcome.next (if_pos (by simp [Nat.not_lt.2 hutil]))

end Sys2Proof.Machine

namespace Sys2Proof.Machine

/-! ## The associative array: searches, entries, banks and the cascade (R36, R349, R446 to R479, R513) -/

/-! ### What a search finds -/

/-- A winner that a search returns was confirmed by the shadow. -/
theorem resolve_confirmed {key banks : Nat} {after : Option (Nat × Nat)} {t : State} {e : Entry} {m : Nat} :
    ∀ (n : Nat) (s : State), resolve key banks after n s = (t, some e, m) → e.confirmed key = true := by
  intro n
  induction n with
  | zero =>
    intro s h
    exact nomatch congrArg (·.2.1) h
  | succ n ih =>
    intro s h
    unfold resolve at h
    dsimp only at h
    split at h
    · exact nomatch congrArg (·.2.1) h
    next f _ =>
      split at h
      · exact ih _ h
      · split at h
        next hconf =>
          obtain rfl := Option.some.inj (congrArg (·.2.1) h)
          exact hconf
        · exact ih _ h

/-- A search whose only candidate is confirmed returns it at its first issue. -/
theorem searchArray_one {s : State} {e : Entry} {key banks : Nat} (hes : s.assoc.entries = [e]) (hbank : bitAt banks e.bank = true)
    (hhit : e.hits key = true) (hconf : e.confirmed key = true) (hcode : e.code = 0) :
    searchArray key banks none s = (s, some e, 1) := by
  have hmatch : matchesOf s.assoc.entries key banks none = [e] := by simp [matchesOf, hes, hbank, hhit]
  have hself : ({ e with code := 0 } : Entry) = e := by rw [← hcode]
  unfold searchArray resolve
  dsimp only
  rw [hmatch]
  dsimp only [winner]
  rw [hself, if_neg (by simp [hcode]), if_pos hconf, if_neg (by simp [hcode])]
  rfl

theorem searchArray_nothing {s : State} {key banks : Nat}
    (hnone : ∀ e ∈ s.assoc.entries, bitAt banks e.bank = true → e.hits key = false) :
    searchArray key banks none s = (s, none, 0) := by
  have hmatch : matchesOf s.assoc.entries key banks none = [] := by
    unfold matchesOf
    rw [List.filter_eq_nil_iff]
    intro e he
    cases hb : bitAt banks e.bank with
    | false => simp
    | true => simp [hnone e he hb]
  unfold searchArray resolve
  dsimp only
  rw [hmatch]
  rfl

/-! ### Entries -/

theorem entryGet_bank (l : List Entry) (bank idx : Nat) : (entryGet l bank idx).bank = bank ∧ (entryGet l bank idx).idx = idx := by
  induction l with
  | nil => exact ⟨rfl, rfl⟩
  | cons e es ih =>
    rw [entryGet]
    split
    next h => simpa using h
    · exact ih

/-- An entry that was put in its place is read back there. -/
theorem entryGet_entryPut (l : List Entry) (x : Entry) : entryGet (entryPut l x) x.bank x.idx = x := by
  induction l with
  | nil => simp [entryPut, entryGet]
  | cons e es ih =>
    rw [entryPut]
    split
    · simp [entryGet]
    next hne =>
      split
      · simp [entryGet]
      · have hother : ¬(e.bank == x.bank && e.idx == x.idx) = true := fun h => hne (by
          simp only [Bool.and_eq_true, beq_iff_eq] at h
          simp [Entry.global, h.1, h.2])
        rw [entryGet, if_neg hother]
        exact ih

/-- What a write makes of an entry in the shadow. -/
def writtenEntry (old : Entry) (value mask word : Nat) : Entry :=
  { old with valid := true, value := Nat.land value mask, mask := mask, word := word, suspect := false, falseHits := 0,
             suspected := 0, code := 0 }

theorem putEntry_entries (bank idx value mask word : Nat) (s : State) :
    (putEntry bank idx value mask word false s).assoc.entries =
      entryPut s.assoc.entries (writtenEntry (entryGet s.assoc.entries bank idx) value mask word).repaired := by
  unfold putEntry
  dsimp only
  split <;> rfl

theorem entryGet_putEntry (bank idx value mask word : Nat) (s : State) :
    entryGet (putEntry bank idx value mask word false s).assoc.entries bank idx =
      (writtenEntry (entryGet s.assoc.entries bank idx) value mask word).repaired := by
  obtain ⟨hb, hi⟩ := entryGet_bank s.assoc.entries bank idx
  have hput := entryGet_entryPut s.assoc.entries (writtenEntry (entryGet s.assoc.entries bank idx) value mask word).repaired
  rw [putEntry_entries]
  rwa [show (writtenEntry (entryGet s.assoc.entries bank idx) value mask word).repaired.bank = bank from hb,
    show (writtenEntry (entryGet s.assoc.entries bank idx) value mask word).repaired.idx = idx from hi] at hput

@[simp] theorem noteLine_roles (v : Verb) (l : Line) (s : State) : (noteLine v l s).roles l.route = s.roles l.route := by
  unfold State.roles
  cases h : l.route with
  | ring =>
    have hlevel := noteLine_level v l s
    rw [h] at hlevel
    rw [hlevel, noteLine_reg]
  | tls c =>
    have hroute := noteLine_route v l s
    rw [h] at hroute
    exact (congrArg RouteSt.roles hroute).trans rfl
  | dkp n =>
    have hroute := noteLine_route v l s
    rw [h] at hroute
    exact (congrArg RouteSt.roles hroute).trans rfl

theorem noteLine_dwPair (v : Verb) (l : Line) (s : State) (b : Nat) : dwPair (noteLine v l s) b = dwPair s b := by
  simp [dwPair, noteLine_reg]

theorem noteLine_bankOn (v : Verb) (l : Line) (s : State) (b : Nat) : bankOn (noteLine v l s) b = bankOn s b := by
  simp [bankOn, noteLine_reg]

theorem noteLine_validCount (v : Verb) (l : Line) (s : State) (b : Nat) : validCount (noteLine v l s) b = validCount s b := by
  simp [validCount, noteLine_dwPair]

theorem noteLine_coveredSet (v : Verb) (l : Line) (s : State) : coveredSet (noteLine v l s) = coveredSet s := by
  simp [coveredSet, cascN]

theorem noteLine_cursorGet (v : Verb) (l : Line) (s : State) (n : Nat) : cursorGet (noteLine v l s) n = cursorGet s n := by
  simp [cursorGet]

/-! ### Cursors -/

/-- The cursor of a number, where the one who asks owns it. -/
theorem cursorGet_owned {s : State} {n : Nat} {c : Cursor} {r : Route} (hc : cursorGet s n = some c) (hown : c.owner = r) :
    ((cursorGet s n).filter fun c => c.owner == r) = some c := by
  simp [hc, hown]

/-- A step of a cursor that its owner may search with: it is stale and goes, or the step is taken here. -/
theorem runStep_owned {k : Seeker} {roles n : Nat} {c : Cursor} {s : State} (hverb : k.verb ≠ "") (hc : cursorGet s n = some c)
    (hown : c.owner = k.route) (hcasc : c.casc = false)
    (hroles : ((maskBanks c.banks).any fun b =>
      if b < 4 then k.verb == "" || s.level k.route != 2 else !bankRole s roles b false) = false) :
    runStep k roles n s = if cursorStale s c then reply k.route 208 [] (cursorDrop n s)
      else reply k.route 0 ((localStep c (s.incReg .ASSOC_SEARCHES)).2.fields k.isStep) (localStep c (s.incReg .ASSOC_SEARCHES)).1 := by
  unfold runStep
  rw [cursorGet_owned hc hown]
  dsimp only
  rw [if_neg (ne_true_of_eq_false hroles), hcasc]
  simp [refuseSeeker, tellFound, hverb, stale208]

/-! ### The scrub and the cascade -/

/-- A repair by the scrub puts the shadow's copy into the array and counts. -/
theorem scrubEntry_assoc {e : Entry} {s : State} (hcode : e.code = 0) (hfix : e.repaired ≠ e) : (scrubEntry e s).assoc =
    { s.assoc with entries := entryPut s.assoc.entries e.repaired, corr := s.assoc.corr + 1 } := by
  have hself : ({ e with code := 0 } : Entry) = e := by rw [← hcode]
  unfold scrubEntry
  dsimp only
  rw [hself, if_neg (by simp [hcode]), if_neg (by simpa using hfix), if_neg (by simp [hcode]), raiseCount_assoc]
  rfl

/-- With no request that waits for a frame nothing is answered from here. -/
theorem answerAllHere_none {s : State} (h : s.assoc.reqs = []) : answerAllHere s = s := by
  unfold answerAllHere
  dsimp only
  rw [h, List.foldl_nil, ← h]

/-! ### Settling the statement -/

/-- Settles O58: a search by its winner, a cursor by its owner, an entry by its place, a slot by whose turn it is. -/
theorem associativeCommandsComplete : Obligations.AssociativeCommandsComplete := by
  intro l s
  refine ⟨fun u hp hdw hu => ?search, fun k key banks dw open_ hverb => ?runs,
    fun key banks after t e n hfound => ?confirmed,
    fun e key banks hes hbank hhit hconf hcode => searchArray_one hes hbank hhit hconf hcode,
    fun key banks hnone => searchArray_nothing hnone, fun hp => ?step,
    fun k roles n c hverb hc hown hcasc hroles => ⟨fun hstale => ?stale, fun hstale => ?stepped⟩,
    fun k roles n hverb hnone => ?noCursor, fun hp => ⟨fun c hc hown => ?close, fun hnone => ?closeNone⟩,
    fun u hp hu => ⟨fun t x hw => ?writeRefused, fun t hw => ?write⟩,
    fun roles bank idx value mask word dw inv owner n hbank hcheck => ?table,
    fun bank idx value mask word hbank hidx => ?entry, fun v hv hp hdw hon hcode => ?read, fun hp => ?shown, fun hp => ?cascShown,
    fun r v u hw hv hns => ?policy, fun old new hne hes hst => ?flip, fun r v u hw hv hfree hns => ?bankOn,
    fun r v b hw hv hbusy => ?bankBusy, fun r v u hw hv hfree hns => ?dw, fun b e he => ?dropped, fun hst => ?reload,
    fun hst => ?noReload, fun hserv => ?scrubDue, fun hdue => ?noScrub, fun e hdue hserv htime hes hon hcode hfix => ?scrub,
    fun n c hc hlate => ?idle, fun n c hc hearly => ?busy, fun n hnone => ?noIdle, fun n => ?dropsCursor, fun f hone => ?single,
    fun f hmany hserv hturn => ?own, fun f hwith hcov hreqs => ?header, fun f q qs hwith hcov hreqs hq => ?frame,
    fun f a hfs => ?part, fun q qs r hreqs hq => ⟨fun hvoid => ?void, fun hvoid => ?resolved⟩, fun p hp hhere => ?absent,
    fun p hp hgone hserv => ?present, fun hst hlock hreqs => ?withdraw, fun hst hlock => ?unlocked,
    fun hmis hserv hlock htime => ?rejoin⟩
  case search =>
    subst hu
    refine ⟨fun x hx => ?_, fun hx => ?_⟩ <;> refine congrArg Host.Outcome.next ((gate_run _ _ _ _ hp).trans ?_) <;>
      dsimp only <;> rw [hdw, if_neg Bool.false_ne_true, hx]
    rfl
  case runs =>
    unfold runSearch
    dsimp only
    rw [if_neg (by simp), if_neg (by simp)]
    obtain ⟨t, r | f⟩ := localSearch k key banks dw open_ false (s.incReg .ASSOC_SEARCHES)
    · simp [refuseSeeker, hverb]
    · simp [tellFound, hverb]
  case confirmed =>
    have hconf := resolve_confirmed _ _ hfound
    simp only [Entry.confirmed, Bool.and_eq_true, Bool.not_eq_true', beq_iff_eq] at hconf
    obtain ⟨⟨⟨hvalid, hsuspect⟩, hkey⟩, hword⟩ := hconf
    exact ⟨hvalid, hsuspect, hkey, hword⟩
  case step =>
    refine congrArg Host.Outcome.next ((gate_run _ _ _ _ hp).trans ?_)
    rw [noteLine_roles]
  case stale => exact (runStep_owned hverb hc hown hcasc hroles).trans (if_pos hstale)
  case stepped => exact (runStep_owned hverb hc hown hcasc hroles).trans (if_neg (by simp [hstale]))
  case noCursor =>
    unfold runStep
    rw [hnone]
    simp [refuseSeeker, hverb, absent205]
  case close =>
    refine congrArg Host.Outcome.next ((gate_run _ _ _ _ hp).trans ?_)
    unfold closeCursor
    rw [cursorGet_owned ((noteLine_cursorGet ..).trans hc) hown]
    rfl
  case closeNone =>
    refine congrArg Host.Outcome.next ((gate_run _ _ _ _ hp).trans ?_)
    unfold closeCursor
    rw [noteLine_cursorGet, hnone]
    rfl
  case writeRefused =>
    subst hu
    refine congrArg Host.Outcome.next ((gate_run _ _ _ _ hp).trans ?_)
    rw [hw]
    rfl
  case write =>
    subst hu
    refine congrArg Host.Outcome.next ((gate_run _ _ _ _ hp).trans ?_)
    rw [hw]
    rfl
  case table =>
    unfold tableWrite
    rw [hcheck]
    exact if_neg (by omega)
  case entry =>
    intro e _
    have he : e = (writtenEntry (entryGet s.assoc.entries bank idx) value mask word).repaired := entryGet_putEntry ..
    rw [he]
    exact ⟨rfl, rfl, rfl, rfl, rfl, rfl, rfl, rfl, rfl⟩
  case read =>
    subst hv
    intro e
    refine congrArg Host.Outcome.next ((gate_run _ _ _ _ hp).trans ?_)
    dsimp only
    rw [noteLine_dwPair, noteLine_bankOn, if_neg (by simp [hdw]), if_neg (by simp [hon]), noteLine_assoc]
    have hshadow : ∀ u, checkShadow e u = u := fun u => by
      unfold checkShadow
      rw [hcode]
      rfl
    rw [hshadow, noteLine_dwPair, noteLine_assoc, hdw]
    rfl
  case shown =>
    refine congrArg Host.Outcome.next ((gate_run _ _ _ _ hp).trans ?_)
    simp only [banksOn, noteLine_reg, noteLine_assoc, noteLine_validCount]
    rfl
  case cascShown =>
    refine congrArg Host.Outcome.next ((gate_run _ _ _ _ hp).trans ?_)
    simp only [noteLine_reg, noteLine_assoc, noteLine_coveredSet]
    rfl
  case policy =>
    refine congrArg Host.Outcome.next ((writeGate_run hw _ _).trans ((if_neg (by omega)).trans ?_))
    dsimp only [keepAssoc]
    rw [hns]
    rfl
  case flip =>
    unfold flipPolicy
    dsimp only
    rw [hes, List.filter_nil, if_neg (c := (old == new) = true) (by simp [hne])]
    exact (if_pos rfl).trans (if_neg (by simp [hst]))
  case bankOn =>
    refine congrArg Host.Outcome.next ((writeGate_run hw _ _).trans ((if_neg (by omega)).trans ?_))
    dsimp only
    rw [hfree]
    dsimp only [keepAssoc]
    rw [hns]
    rfl
  case bankBusy =>
    refine congrArg Host.Outcome.next ((writeGate_run hw _ _).trans ((if_neg (by omega)).trans ?_))
    dsimp only
    rw [hbusy]
    rfl
  case dw =>
    refine congrArg Host.Outcome.next ((writeGate_run hw _ _).trans ((if_neg (by omega)).trans ?_))
    dsimp only
    rw [hfree]
    dsimp only [keepAssoc]
    rw [hns]
    rfl
  case dropped =>
    have hmem : e ∈ s.assoc.entries.filter fun e => !(e.bank == b || (dwPair s b && e.bank / 2 == b / 2)) := he
    rintro rfl
    simp at hmem
  case reload => exact congrArg Host.Outcome.next (if_neg (by simp [hst]))
  case noReload => exact congrArg Host.Outcome.next (if_pos (by simp [hst]))
  case scrubDue => exact congrArg Host.Outcome.next (if_pos hserv)
  case noScrub => exact congrArg Host.Outcome.next (if_pos (by simp [hdue]))
  case scrub =>
    have hsweep : (s.assoc.entries.filter fun e => bankOn s e.bank).foldl (fun s e => scrubEntry e s) s = scrubEntry e s := by
      simp [hes, hon]
    have hassoc := scrubEntry_assoc (s := s) hcode hfix
    refine ⟨_, congrArg Host.Outcome.next (if_neg (by simp [hdue, hserv]; omega)), ?_, rfl, ?_⟩
    · dsimp only
      rw [hsweep, hassoc, hes]
      exact if_pos (by simp [Entry.repaired, Entry.global])
    · dsimp only
      rw [hsweep, hassoc]
  case idle =>
    refine congrArg Host.Outcome.next ?_
    rw [hc]
    exact if_pos hlate
  case busy =>
    refine congrArg Host.Outcome.next ?_
    rw [hc]
    exact if_neg (Nat.not_le.2 hearly)
  case noIdle =>
    refine congrArg Host.Outcome.next ?_
    rw [hnone]
  case dropsCursor => simp [cursorGet, cursorDrop]
  case single => exact congrArg Host.Outcome.next (if_pos hone)
  case own =>
    exact congrArg Host.Outcome.next ((if_neg (Nat.not_le.2 hmany)).trans ((if_neg (by simp [hserv])).trans (if_pos (by simp [hturn]))))
  case header =>
    unfold ownSlot
    dsimp only
    rw [if_neg (by simp [hwith]), if_neg (by simp [hcov]), hreqs]
  case frame =>
    unfold ownSlot
    dsimp only
    rw [if_neg (by simp [hwith]), if_neg (by simp [hcov]), hreqs]
    exact if_neg (by simp [hq])
  case part =>
    unfold takePart
    rw [hfs]
    rfl
  case void =>
    refine congrArg Host.Outcome.next ?_
    rw [hreqs]
    exact (if_neg (by simp [hq])).trans (if_pos (by simp [hvoid]))
  case resolved =>
    refine congrArg Host.Outcome.next ?_
    rw [hreqs]
    exact (if_neg (by simp [hq])).trans (if_neg (by simp [hvoid]))
  case absent => exact congrArg Host.Outcome.next (if_neg (by simp [hhere]; omega))
  case present => exact congrArg Host.Outcome.next (if_neg (by simp [hgone, hserv]; omega))
  case withdraw =>
    refine congrArg Host.Outcome.next ((if_neg (by simp [hst])).trans ((if_neg (by simp [hlock])).trans ?_))
    exact answerAllHere_none (by simp [withdraw, hreqs])
  case unlocked => exact congrArg Host.Outcome.next ((if_neg (by simp [hst])).trans (if_pos (by simp [hlock])))
  case rejoin => exact congrArg Host.Outcome.next (if_neg (by simp [hmis, hserv, hlock]; omega))

end Sys2Proof.Machine

namespace Sys2Proof.Machine

/-! ## The EVT verbs, latches, pins and the log (R482 to R498, R516, R517) -/

theorem noteLine_evSeverityNow (v : Verb) (l : Line) (s : State) (id : Nat) :
    evSeverityNow (noteLine v l s) id = evSeverityNow s id := by
  simp [evSeverityNow, classInForce, noteLine_reg]

theorem noteLine_evtWord (v : Verb) (l : Line) (s : State) (id : Nat) : evtWord (noteLine v l s) id = evtWord s id := by
  simp [evtWord, noteLine_evSeverityNow]

theorem noteLine_evtRow (v : Verb) (l : Line) (s : State) (id : Nat) : evtRow (noteLine v l s) id = evtRow s id := by
  simp [evtRow, noteLine_evtWord, noteLine_evSeverityNow]

theorem noteLine_maskRefusal (v : Verb) (l : Line) (s : State) (id masks : Nat) :
    maskRefusal (noteLine v l s) id masks = maskRefusal s id masks := by
  simp [maskRefusal]

theorem noteLine_gpioGet (v : Verb) (l : Line) (s : State) (k : Nat) : gpioGet (noteLine v l s) k = gpioGet s k := by
  simp [gpioGet, noteLine_reg]

/-- Outside of Night ev= names all of its range. -/
theorem lineEvents_range {l : Line} {s : State} {lo hi : Nat} (hr : evRange (l.text "ev") = some (lo, hi)) (hm : s.lineMode ≠ .M11) :
    lineEvents l s = evIds lo hi := by
  unfold lineEvents
  rw [hr]
  simp [hm]

/-- The argument ev= alone: its form, then its range. -/
theorem checkArgs_ev {a : Arg} (most : Nat) (hkey : a.key = txt "ev") (hquoted : a.quoted = false) :
    checkArgs [⟨"ev", true, .events most⟩] [a] =
      if (evRange a.val).isSome then (if Form.inRange (.events most) a then none else some (103, txt "ev"))
      else some (102, txt "ev") := by
  have hspec : specOf [⟨"ev", true, .events most⟩] (txt "ev") = some ⟨"ev", true, .events most⟩ := by simp [specOf]
  have hform : Form.wellFormed (.events most) a = (evRange a.val).isSome := by simp [Form.wellFormed, hquoted]
  unfold checkArgs firstBad
  rw [hkey, hspec]
  dsimp only
  rw [hform]
  cases (evRange a.val).isSome with
  | false => simp
  | true =>
    cases hrange : Form.inRange (.events most) a <;> simp [firstBad, hspec, hkey, hrange]

/-- What masks on several events make of each. -/
theorem evtGet_foldMasks (masks : Nat) (ids : List Nat) (l : List EvtCell) (k : Nat) :
    evtGet (ids.foldl (fun l id => evtPut l { evtGet l id with masks := masks }) l) k =
      if k ∈ ids then { evtGet l k with masks := masks } else evtGet l k := by
  induction ids generalizing l with
  | nil => simp
  | cons i is ih =>
    rw [List.foldl_cons, ih, evtGet_put, evtGet_id]
    by_cases hk : k = i
    · subst hk
      simp
    · simp [hk]

/-- What a clear makes of one event: its latch goes but where its condition holds it. -/
theorem evtGet_clearEvents (id : Nat) (counters : Bool) (s : State) (k : Nat) :
    evtGet (clearEvents [id] counters s).1.evt.cells k = if k = id then { evtGet s.evt.cells id with
        latch := (evtGet s.evt.cells id).latch && latchHeld s id
        count := if counters then 0 else (evtGet s.evt.cells id).count }
      else evtGet s.evt.cells k := by
  have hput := evtGet_put s.evt.cells { evtGet s.evt.cells id with
    latch := (evtGet s.evt.cells id).latch && latchHeld s id
    count := if counters then 0 else (evtGet s.evt.cells id).count } k
  rw [evtGet_id] at hput
  exact hput

/-- Settles O59: a verb by the events that it names, a latch by what it clears, a record by its place. -/
theorem eventCommandsComplete : Obligations.EventCommandsComplete := by
  intro l s
  refine ⟨fun a most hkey hquoted => ⟨fun hnone => ?badForm, fun lo hi hr => ?range⟩,
    fun lo hi hr hm => ⟨fun hp => ?shown, fun u hp hmay hns => ?set, fun hp => ?clear⟩,
    fun id counters => ⟨rfl, fun hid hdep => ?kept, fun hid => ?cleared, fun k hk => ?others⟩,
    fun ids masks id hid hbit => ?masks, fun hp hm hfew => ?list, fun w u hp hw hput => ?gpio, fun k w u hput => ?gpioPut,
    fun hp hm => ?log, fun sev hp hout hsev => ?inject, fun hp hlo hhi => ?alarm, fun r id hid hw => ?latchClear, fun k => rfl,
    fun hready hfew => ?program, fun hready => congrArg Host.Outcome.next (if_neg (by simp [hready]))⟩
  case badForm =>
    rw [checkArgs_ev most hkey hquoted, hnone]
    rfl
  case range =>
    rw [checkArgs_ev most hkey hquoted, hr]
    simp only [Form.inRange, hr, Bool.and_eq_true, decide_eq_true_eq, and_assoc]
    rfl
  case shown =>
    refine congrArg Host.Outcome.next ((gate_run _ _ _ _ hp).trans ?_)
    rw [lineEvents_range hr (by simpa [noteLine_lineMode] using hm), List.map_congr_left fun id _ => noteLine_evtRow ..]
    rfl
  case set =>
    refine congrArg Host.Outcome.next ((gate_run _ _ _ _ hp).trans ?_)
    rw [lineEvents_range hr (by simpa [noteLine_lineMode] using hm)]
    unfold writeMasks
    rw [List.findSome?_eq_none_iff.2 fun id hid => (noteLine_maskRefusal ..).trans (hmay id hid)]
    dsimp only
    rw [hns]
    rfl
  case clear =>
    refine congrArg Host.Outcome.next ((gate_run _ _ _ _ hp).trans ?_)
    rw [lineEvents_range hr (by simpa [noteLine_lineMode] using hm)]
    rfl
  case kept =>
    rw [evtGet_clearEvents, if_pos rfl]
    simp [latchHeld, hid, hdep]
  case cleared =>
    rw [evtGet_clearEvents, if_pos rfl]
    simp [latchHeld, hid]
  case others => rw [evtGet_clearEvents, if_neg hk]
  case masks =>
    unfold setMasks
    dsimp only
    rw [if_pos hbit, evtGet_foldMasks, if_pos hid]
  case list =>
    refine congrArg Host.Outcome.next ((gate_run _ _ _ _ hp).trans ?_)
    have hnight : ((noteLine vEvtList l s).lineMode != .M11) = true := by simpa [noteLine_lineMode] using hm
    simp only [hnight, Bool.true_or, Bool.and_true, noteLine_evt]
    rw [List.take_of_length_le (by simpa using hfew), if_neg (Nat.lt_irrefl _), List.map_map]
    rfl
  case gpio =>
    subst hw
    refine congrArg Host.Outcome.next ((gate_run _ _ _ _ hp).trans ?_)
    dsimp only
    rw [noteLine_gpioGet, hput]
    rfl
  case gpioPut =>
    unfold gpioPut at hput
    dsimp only at hput
    split at hput
    · exact nomatch congrArg Prod.snd hput
    next v _ =>
      obtain rfl := congrArg Prod.fst hput
      refine ⟨?_, bitAt_clearBit_same _ k⟩
      show gpioGet (([⟨.EVT_GPIO_EV, k, w.ev⟩, ⟨.EVT_GPIO_ON, k, w.on⟩, ⟨.EVT_GPIO_LOW, k, w.low⟩, ⟨.EVT_GPIO_PULSE, k, w.pulse⟩,
        ⟨.EVT_GPIO_MS, k, w.ms⟩] : List Cell).foldl (fun s c => s.setReg c.p c.v c.i) v) k = w
      simp [gpioGet, setReg_reg_other]
  case log =>
    refine congrArg Host.Outcome.next ((gate_run _ _ _ _ hp).trans ?_)
    dsimp only
    rw [if_neg (by simpa [noteLine_lineMode] using hm)]
    have hheld : ∀ n m, logFrom (noteLine vEvtLog l s) n m = logFrom s n m := fun n m => by simp [logFrom, logHeld]
    rw [hheld]
    rfl
  case inject =>
    have hin : within (l.nat "ev") 0x060 0x0BF = false := by simp [within]; omega
    refine congrArg Host.Outcome.next ((gate_run _ _ _ _ hp).trans ((if_neg (by simp [hin])).trans ?_))
    rw [hsev, noteLine_loop]
    rfl
  case alarm =>
    have hin : within (l.nat "ev") 0x060 0x0BF = true := by simp [within]; omega
    exact congrArg Host.Outcome.next ((gate_run _ _ _ _ hp).trans (if_pos hin))
  case latchClear => exact congrArg Host.Outcome.next ((if_neg (Nat.not_lt.2 hid)).trans (writeGate_run hw _ _))
  case program =>
    refine ⟨programLog s, congrArg Host.Outcome.next (if_pos hready), ?_, rfl, rfl⟩
    have hlen : (s.evt.log ++ s.evt.staged).length - 65536 = 0 := by rw [List.length_append]; omega
    unfold programLog
    dsimp only
    rw [hlen, List.drop_zero]

end Sys2Proof.Machine

namespace Sys2Proof.Machine

/-! ## The REG, CFG and GOV verbs and the boundaries at which a set takes effect (R507 to R510, R518 to R531) -/

theorem noteLine_fieldAbsent (v : Verb) (l : Line) (s : State) (f : Field) : fieldAbsent (noteLine v l s) f = fieldAbsent s f := by
  simp [fieldAbsent]

theorem noteLine_staged (v : Verb) (l : Line) (s : State) : ((noteLine v l s).route l.route).staged = (s.route l.route).staged :=
  (congrArg RouteSt.staged (noteLine_route v l s)).trans rfl

/-- What a read names leads to its word, where the field stands and is no mirror. -/
theorem execRegRead_field {l : Line} {s : State} {f : Field} (hp : passes (vRegRead (aimOf l)) l s = true)
    (haim : aimOf l = .named (.one f)) (hmirror : f.p.mirrored = false) (hhere : fieldAbsent s f = false) :
    exec (.regRead l) s = .next (readNamed l.route false (.one f) (noteLine (vRegRead (aimOf l)) l s)) := by
  refine congrArg Host.Outcome.next ?_
  unfold doRegRead
  refine (gateWith_run _ _ _ _ _ hp).trans ?_
  rw [haim]
  dsimp only [Aim.fields]
  simp [hmirror, noteLine_fieldAbsent, hhere]

/-- A write of a set that nothing refuses takes effect at once. -/
theorem applySet_kept {by_ : Nat} {set : List Staged} {s u : State} (h : keepSet set s = (u, none)) :
    applySet by_ set s = ((applyAll by_ set u).incReg .SYS_COMMITS, none) := by
  unfold applySet
  rw [h]

/-- What a line of CFG.COMMIT makes of a set that no joint check refuses. -/
theorem execCfgCommit_set {l : Line} {s : State} (hp : passes vCfgCommit l s = true) (hset : (s.route l.route).staged ≠ [])
    (hjoint : jointRefusal (s.route l.route).staged (noteLine vCfgCommit l s) = none) : exec (.cfgCommit l) s = .next (
      if l.isWord "when" "dusk" then commitDusk l.route (s.route l.route).staged (noteLine vCfgCommit l s)
      else match notAtomic (l.isWord "when" "drain") (s.route l.route).staged with
        | some (f, need) => reply l.route 203 [("name", .w f.name), ("need", .w need)] (noteLine vCfgCommit l s)
        | none =>
          if l.isWord "when" "drain" then reply l.route 1 [("staged", .n (s.route l.route).staged.length)]
            (addCommit l.route (s.route l.route).staged (l.isWord "when" "drain") (emptyStaged l.route (noteLine vCfgCommit l s)))
          else setBusy l.route "CFG.COMMIT"
            (addCommit l.route (s.route l.route).staged (l.isWord "when" "drain") (emptyStaged l.route (noteLine vCfgCommit l s)))) := by
  refine congrArg Host.Outcome.next ((gate_run _ _ _ _ hp).trans ?_)
  dsimp only
  rw [noteLine_staged]
  refine (if_neg (by simpa using hset)).trans ?_
  split
  next _ hrefused => simp [hjoint] at hrefused
  next => rfl

/-- Settles O60: a verb by the field or set that it names, a boundary by the commits that wait for it. -/
theorem registerCommandsComplete : Obligations.RegisterCommandsComplete := by
  intro l s
  refine ⟨fun f u hp haim hwords hhere hmirror hu => ?read, fun f hp haim habsent => ?absent, fun hp => ?dump,
    fun by_ addr w => ⟨?deniedAddr, ?deniedCount⟩, fun f hp haim hhere => ⟨fun hro => ?readOnly, fun hwr hmirror hcc => ?write⟩,
    fun r f t cc set hmirror hset => ⟨fun hclass => ?now, fun hclass hok => ?stage⟩,
    fun r f set u hok hjoint hkeep => ?writeNow, fun r w hempty => ?staged, fun hp => ?cfgShow, fun hp => ?discard,
    fun u set hp hu hset => ?commit, fun hat => ?epoch, fun c u hkeep => ?commitNow,
    fun c u hcommits hdrain hdrained hat hkeep => ?drain, fun hnone => ?noDrain, fun hp => ?govShow,
    fun b p v hp hb hparam hv => ?pinValue, fun b hp hb hparam => ?pinBit⟩
  case read =>
    subst hu
    refine (execRegRead_field hp haim hmirror hhere).trans (congrArg Host.Outcome.next ?_)
    exact if_pos (by simp [hwords])
  case absent =>
    refine congrArg Host.Outcome.next ?_
    unfold doRegRead
    refine (gateWith_run _ _ _ _ _ hp).trans ?_
    rw [haim]
    exact if_pos (by simp [Aim.fields, noteLine_fieldAbsent, habsent])
  case dump =>
    intro u span
    refine ⟨fun b w hbad => ?_, fun hok => ?_⟩ <;> refine congrArg Host.Outcome.next ?_ <;>
      unfold doRegDump <;> refine (gateWith_run _ _ _ _ _ hp).trans ?_ <;> dsimp only
    · rw [hbad]
    · rw [hok]
      rfl
  case deniedAddr => exact (raiseLimited_reg _ _ _ _ _ _ (by decide)).trans (setReg_reg_same ..)
  case deniedCount => exact (raiseLimited_reg _ _ _ _ _ _ (by decide)).trans (setReg_reg_other _ _ _ _ _ _ (by decide))
  case readOnly =>
    refine congrArg Host.Outcome.next ?_
    unfold doRegWrite
    refine (gateWith_run _ _ _ _ _ hp).trans ?_
    rw [haim]
    exact (if_neg (by simp [Aim.fields, noteLine_fieldAbsent, hhere])).trans (if_pos (by simp [Aim.fields, hro]))
  case write =>
    refine congrArg Host.Outcome.next ?_
    unfold doRegWrite
    refine (gateWith_run _ _ _ _ _ hp).trans ?_
    rw [haim]
    exact (if_neg (by simp [Aim.fields, noteLine_fieldAbsent, hhere])).trans ((if_neg (by simp [Aim.fields, hwr])).trans
      ((if_neg (by simp [Aim.fields, hmirror])).trans (if_neg (by simp [hcc]))))
  case now =>
    unfold writeFields
    rw [hset]
    exact (if_neg (by simp [Aim.fields, hmirror])).trans ((if_pos (by simp [hclass])).trans (by simp [latchCleared]))
  case stage =>
    unfold writeFields
    rw [hset]
    refine (if_neg (by simp [Aim.fields, hmirror])).trans ((if_neg (by simpa using hclass)).trans ?_)
    rw [hok]
  case writeNow =>
    unfold writeNow
    rw [hok]
    refine (if_neg (by simp [hjoint])).trans ?_
    rw [hkeep]
    simp [keptField, done]
  case staged =>
    unfold stageWrites
    dsimp only
    rw [hempty]
    exact if_neg (by simp [stagePut])
  case cfgShow =>
    refine congrArg Host.Outcome.next ((gate_run _ _ _ _ hp).trans ?_)
    dsimp only
    rw [noteLine_staged]
    rfl
  case discard => exact congrArg Host.Outcome.next (gate_run _ _ _ _ hp)
  case commit =>
    subst hu hset
    refine ⟨fun hnone => ?_, fun hset hjoint hdrain hdusk => ⟨fun hatomic => ?_, fun f need hatomic => ?_⟩,
      fun hset hjoint hdrain hdusk hatomic => ?_, fun v hset hjoint hdusk hrec => ?_⟩
    · refine congrArg Host.Outcome.next ((gate_run _ _ _ _ hp).trans ?_)
      dsimp only
      rw [noteLine_staged]
      exact if_pos (by simp [hnone])
    · rw [execCfgCommit_set hp hset hjoint, hdusk, hdrain, hatomic]
      rfl
    · rw [execCfgCommit_set hp hset hjoint, hdusk, hdrain, hatomic]
      rfl
    · rw [execCfgCommit_set hp hset hjoint, hdusk, hdrain, hatomic]
      rfl
    · rw [execCfgCommit_set hp hset hjoint, hdusk, if_pos rfl]
      unfold commitDusk
      rw [hrec]
  case epoch =>
    refine congrArg Host.Outcome.next ((if_neg (by simp [hat])).trans ?_)
    rw [List.partition_eq_filter_filter]
    rfl
  case commitNow =>
    unfold commitNow
    rw [applySet_kept hkeep]
  case drain =>
    refine congrArg Host.Outcome.next ?_
    have hfind : (s.day.commits.find? fun c => c.drain && c.drained) = some c := by simp [hcommits, hdrain, hdrained]
    have herase : s.day.commits.erase c = [] := by simp [hcommits]
    rw [hfind]
    refine (if_neg (by simp [hat])).trans ?_
    dsimp only
    rw [herase, applySet_kept hkeep]
  case noDrain =>
    refine congrArg Host.Outcome.next ?_
    rw [hnone]
  case govShow =>
    refine congrArg Host.Outcome.next ((gate_run _ _ _ _ hp).trans ?_)
    simp only [noteLine_mode, noteLine_day, noteLine_reg, noteLine_kv]
    rfl
  case pinValue =>
    subst hb hv
    refine congrArg Host.Outcome.next ((gate_run _ _ _ _ hp).trans ?_)
    dsimp only [pinBit]
    rw [hparam]
    simp only [noteLine_reg]
    rfl
  case pinBit =>
    subst hb
    refine congrArg Host.Outcome.next ((gate_run _ _ _ _ hp).trans ?_)
    dsimp only [pinBit]
    rw [hparam, noteLine_reg]
    rfl

end Sys2Proof.Machine
